-- ==== Sys2Proof/Word.lean ====
section
/-! DEFINITION. The words the manual counts in: a byte, and the 32-bit register word of R12. -/

namespace Sys2Proof

/-- One byte of a memory, a frame or a line. -/
abbrev Byte := BitVec 8

/-- A register, a bus beat or a binary32 value: 32 bits, bit 0 least significant (R12). -/
abbrev Word := BitVec 32

end Sys2Proof
end

