-- ==== Sys2Proof/Operand.lean ====
section
/-! DEFINITION. Who makes an access, and the small enumerations that commands carry as operands. -/

namespace Sys2Proof

/-- A master of the interconnect (Table 04-1) or the debug port. -/
inductive Requester where
  /-- Lodger `n`, in user mode when `user` is set (R34). -/
  | lodger (n : Fin 4) (user : Bool)
  | carder (ch : Fin 24)
  | loop (slot : Fin 48)
  | innkeeper
  /-- JTAG debug through Lodger `n`. -/
  | debug (n : Fin 4)
  deriving DecidableEq, Repr

/-- The kind of an access that a protection region permits or refuses (R34). -/
inductive AccessKind where
  | load | store | fetch
  deriving DecidableEq, Repr

/-- What an access to a memory word met in its check bits (R130, R152). -/
inductive Upset where
  /-- The check bits are as the cells hold them. -/
  | none
  /-- One bit of the word has flipped. -/
  | single
  /-- Two or more bits have flipped. -/
  | double
  deriving DecidableEq, Repr

/-- How an access comes to a target: who makes it, and at how many consecutive arbitrations it was refused (R134). -/
structure Access where
  who : Requester
  refused : Nat := 0
  deriving DecidableEq, Repr

/-- A source of a write at the output gate (R40). -/
inductive GateSource where
  | lodger (n : Fin 4)
  | slot (n : Fin 48)
  /-- A key: from a Lodger of this device that holds it, or from Gridis on behalf of a remote holder. -/
  | key (k : Nat)
  deriving DecidableEq, Repr

/-- SDA of an I²C bus when a transaction is due to start (R257). -/
inductive Sda where
  | high
  /-- Low, and released by the nine pulses and the STOP. -/
  | recovers
  /-- Low, and still low after them. -/
  | stuck
  deriving DecidableEq, Repr

/-- How an I²C transaction ended on the wires (R254 to R256). -/
inductive I2cEnd where
  /-- Every byte arrived. -/
  | data (bytes : List Byte)
  | nack
  /-- SCL was held low for more than 25 ms. -/
  | timeout
  deriving DecidableEq, Repr

/-- What the Innkeeper meets of a NOR slot outside the block. -/
structure NorEnv where
  /-- Whether the slot's patch section passes Altousk's ROM key for this ROM build. -/
  patch : Bool := true
  /-- Bytes, by offset in the slot, that the first and the second reading of the image find in place of what stands (R121). -/
  first : List (Nat × Byte) := []
  second : List (Nat × Byte) := []
  /-- Bytes, by offset in the sector, that programming leaves in place of what was sent (R109). -/
  back : List (Nat × Byte) := []
  deriving DecidableEq, Repr

/-- A record or entry of retention SRAM (Table 04-2), each with a CRC of its own (R138). -/
inductive RetEntry where
  | ring (k : Fin 128)
  /-- A write buffer entry, counted from the oldest. -/
  | buffer (k : Nat)
  /-- The lease epoch of a key. -/
  | epoch (key : Nat)
  /-- A hosted key's holder. -/
  | hosted (key : Nat)
  | booking (k : Fin 32)
  | clock
  | session
  /-- The wear counters' copies. -/
  | wear
  deriving DecidableEq, Repr

/-- A read mode of the Quad SPI: data lines and clock in MHz (Table 03-2 step 6, R661). -/
structure ReadMode where
  lines : Nat
  mhz : Nat
  deriving DecidableEq, Repr

/-- What a boot meets outside the block: Tj in 0.125 °C, the level at BOOTSEL, whether the NOR and its SFDP table answer, with which
4 KB erase opcode and which fastest read mode, what the readings of each slot meet, the retention entries whose CRC fails (R138, and R385 for a record that was being
written), and the times of MEM_SWEEP and SYS_BOOT_TIME. -/
structure BootEnv where
  tj : Int
  bootsel : Bool
  nor : Bool
  sfdp : Bool
  erase : Byte
  read : ReadMode
  slotA : NorEnv
  slotB : NorEnv
  torn : List RetEntry
  sweepUs : Nat
  ms : Nat
  deriving DecidableEq, Repr

end Sys2Proof
end

