-- ==== Sys2Proof/Syntax.lean ====
section
/-! DEFINITION. The commands: one constructor for each row of the opcode table, with the row's operands. -/

namespace Sys2Proof

/-- A command that the block takes. Each constructor is the row of its name. -/
inductive Instr where
  /-- VIO rises through the power-on threshold, raising a POR reset, or a wake from Off when the device is in Off. (R76) -/
  | powerOn (va vao vgd hold : Bool)
  /-- VCORE or VIO falls below its brownout threshold while powered and causes a whole-device reset. (R76) -/
  | brownout (vcore : Bool)
  /-- NRST is held low for at least 1 µs and causes an EXTERNAL reset, with the special cases for power fail, the thermal latch and TEST. (R663) -/
  | externalReset (low : Bool)
  /-- The two Innkeeper cores disagree; hardware applies Blank within 2 µs, then a LOCKSTEP reset follows. (R67) -/
  | lockstepMismatch
  /-- The 20 ms Innkeeper hardware watchdog expires; Blank is applied, then a HW_WATCHDOG reset follows. (R57) -/
  | inkWatchdogExpiry
  /-- An uncorrectable ECC error in Innkeeper SRAM applies Blank, then an INK_REQUEST reset follows. (R67) -/
  | inkSramEccError
  /-- TEST is driven high and the device is held in reset with every ball in its reset state. (R662) -/
  | testMode (high : Bool)
  /-- At the end of any whole-device reset, the Innkeeper runs the boot of Table 03-2, from the thermal latch check through slot choice, verification, loading and block start. (R82) -/
  | bootSequence (e : BootEnv)
  /-- Boot held at step 2 goes on once Tj falls below the shutdown level minus its hysteresis. (R232) -/
  | bootThermalWaitEnd (e : BootEnv)
  /-- Boot held at step 13 for a FLUSHED marker with the Ledger write window closed goes on when the window opens. (R389) -/
  | bootLedgerWaitEnd (ms : Nat)
  /-- 60 s after a boot that found no valid image, the Innkeeper causes an IMAGE_FAIL reset. (R122) -/
  | imageFailRetry
  /-- When every started Lodger has run for the confirmation time, the TRIAL slot becomes ACTIVE and the previous ACTIVE slot INACTIVE. (R88) -/
  | trialConfirm
  /-- A Lodger access that no protection region permits does not take place; the Lodger takes an access fault and the address is recorded. (R35) -/
  | fenceFault (n : Fin 4) (user : Bool) (kind : AccessKind) (addr : Nat)
  /-- A write to a gate output from a Lodger, loop slot or key holder is accepted only from the permitted owner and updates the target. (R40) -/
  | gateWrite (src : GateSource) (idx : Fin 30) (v : Nat)
  /-- Every 1 ms the gate moves each output's applied value towards its target no faster than SLEW. (R43) -/
  | gateRampInterval
  /-- When SLEW × 10 ms has passed since a DO output's previous change, the latest target is applied. (R44) -/
  | doChangeInterval (k : Fin 12)
  /-- A Lodger's write of 1 to a GATE_RELEASE bit clears JOURNAL_LOST and BOOT and releases the output if its mask is empty. (R63) -/
  | gateRelease (n : Fin 4) (user : Bool) (rel : Word)
  /-- The Innkeeper takes the next pending mailbox request in round robin order and serves it. (R54) -/
  | mailboxServe (latched : Option Nat) (nor : NorEnv)
  /-- Mailbox command 0x01 acquires up to four keys one at a time, journaling a KEY_STEP and sending ACQUIRE for each. (R527) -/
  | keyAcquire (n : Fin 4) (user : Bool) (seq : Byte) (count : Nat) (keys : List Nat)
  /-- Mailbox command 0x02 journals a release step and sends RELEASE with cause normal for one key. (R533) -/
  | keyRelease (n : Fin 4) (user : Bool) (seq : Byte) (key : Nat)
  /-- Mailbox command 0x03 journals an OUT_TARGET record and writes the target through the gate. (R379) -/
  | outJournal (n : Fin 4) (user : Bool) (seq : Byte) (index target : Nat)
  /-- Mailbox command 0x04 journals and writes an inspection log entry. (R374) -/
  | logAppend (n : Fin 4) (user : Bool) (seq : Byte) (args : Vector Word 6)
  /-- Mailbox command 0x05 journals and writes one Lodger line of the Ledger. (R142) -/
  | ledgerWrite (n : Fin 4) (user : Bool) (seq : Byte) (line : Nat) (data : Vector Word 5)
  /-- Mailbox command 0x06 records the Lodger's compliance with a standing throttle request. (R209) -/
  | throttleComply (n : Fin 4) (user : Bool) (seq : Byte)
  /-- Mailbox command 0x07 requests Run, Night Hold or Standby, with Standby refused under R171. (R169) -/
  | modeRequest (n : Fin 4) (user : Bool) (seq : Byte) (mode : Nat) (latched : Option Nat)
  /-- Mailbox command 0x08 with a length erases, programs and verifies one 4 KB sector of the slot not booted. (R109) -/
  | imageStage (n : Fin 4) (user : Bool) (seq : Byte) (addr len : Nat) (nor : NorEnv)
  /-- Mailbox command 0x08 with length 0 checks the staged slot and makes it TRIAL or REJECTED. (R110) -/
  | imageCommit (n : Fin 4) (user : Bool) (seq : Byte) (addr : Nat) (nor : NorEnv)
  /-- Mailbox command 0x09 halts and resets another Lodger through the fault sequence. (R68) -/
  | lodgerRestart (n : Fin 4) (user : Bool) (seq : Byte) (target : Nat)
  /-- Mailbox command 0x0A with the confirmation word causes an INK_REQUEST reset. (R55) -/
  | deviceReset (n : Fin 4) (user : Bool) (seq : Byte) (word : Nat)
  /-- A mailbox command code not in Table 02-2 completes with BAD_CMD. (R55) -/
  | mailboxBadCmd (n : Fin 4) (user : Bool) (seq code : Byte)
  /-- A write to INK_LDGn_KICK serves the Lodger watchdog when it carries the TOKEN's complement at a permitted time. (R59) -/
  | inkLdgKick (n : Fin 4) (user : Bool) (block : Fin 4) (v : BitVec 16)
  /-- A Lodger watchdog expires and the Innkeeper halts the Lodger, sets cause LODGER, orphans its channels and releases its keys. (R68) -/
  | lodgerWdogExpiry (n : Fin 4)
  /-- Once the orphaned channels have drained, the Innkeeper resumes or stops them and restarts the Lodger, clearing cause LODGER. (R456) -/
  | orphanResolve (n : Fin 4)
  /-- VGD falls below its monitor threshold; this is Blank when a fan channel switches, and otherwise sets VGD_LOW under R66. (R67) -/
  | vgdTrip
  /-- VGD rises through its rising threshold, setting VGD_OK and letting waiting fan channels start. (R191) -/
  | vgdRise
  /-- After VGD has been in range for 1 s, Blank ends and outputs go to Rest with cause BOOT. (R65) -/
  | vgdRecovered
  /-- A read of main SRAM returns data, corrects a single-bit error, or reports an unwritten or uncorrectable word. (R151) -/
  | mainSramRead (a : Access) (fetch : Bool) (addr : Nat) (n : Nat) (u : Upset)
  /-- A write to main SRAM; a write narrower than 8 bytes is a read-modify-write that sets the written-tag. (R128) -/
  | mainSramWrite (a : Access) (addr : Nat) (bs : List Byte) (u : Upset)
  /-- Every INTERVAL µs the scrubber reads the next written word and corrects single-bit errors. (R131) -/
  | scrubStep (refused : Nat) (u : Upset)
  /-- A write to MEM_CLEAR_ADDR zeroes the word with valid check bits and clears its written-tag. (R154) -/
  | memClear (n : Fin 4) (user : Bool) (addr : Word) (refused : Nat)
  /-- A read of the Ledger read view returns the line, or poison for a line never written. (R146) -/
  | ledgerRead (a : Access) (addr : Nat) (u : Upset)
  /-- A write to the Ledger read view does not take place and faults the requester. (R141) -/
  | ledgerViewWrite (a : Access) (addr : Nat)
  /-- A buffered Ledger line is written to the cells as one unit, completing its record and freeing its buffer entry. (R143) -/
  | ledgerLineWritten
  /-- A mailbox request that waited more than 100 ms for a free write buffer entry completes with TIMEOUT. (R150) -/
  | ledgerBufferTimeout (n : Fin 4)
  /-- The RTC reaches the alarm time; it sets RTC_FLAG in Run or Night Hold and wakes the device from Standby or Off. (R185) -/
  | rtcAlarm
  /-- A write to PWR_RTC_ALARM arms the alarm only when it is later than the present RTC time. (R185) -/
  | rtcAlarmWrite (n : Fin 4) (user : Bool) (w : Word)
  /-- In Standby a CAN frame decoded by the wake receiver wakes the device when its identifier matches an enabled filter. (R177) -/
  | canWakeFrame (c : Fin 2) (id : Option Nat)
  /-- Every 10 ms the device measures HOLD at HOLD_SNS and controls the charger. (R181) -/
  | holdMeasure (mv : Nat) (ok : Bool)
  /-- HOLD and HOLD_SNS differing by more than 100 mV for 1 s while not charging sets HOLD_WIRE. (R183) -/
  | holdWireDetect (differ : Bool)
  /-- PFAIL assertion or a VIO power-fail trip applies Blank, halts the blocks, moves to HOLD and starts the flush. (R196) -/
  | powerFail (vio : Bool)
  /-- HOLD falls below the flush threshold during the flush, which stops with no marker. (R197) -/
  | holdLowInFlush (k : Nat)
  /-- At the end of the flush the Innkeeper stops and the device enters Off. (R196) -/
  | flushComplete
  /-- The main crystal leaves ±2 % of 24 MHz; the PLL references switch to the RC and CAN enters restricted operation. (R192) -/
  | crystalLoss
  /-- After the crystal has stayed within ±0.5 % for 1 s, the references switch back and CAN leaves restricted operation. (R193) -/
  | crystalRecovery
  /-- With no 32.768 kHz edge for 125 µs, the NP domain switches to its RC. (R194) -/
  | npCrystalLoss
  /-- After 1 s of crystal edges within ±0.5 %, the NP domain switches back to its crystal. (R194) -/
  | npCrystalRecovery
  /-- A PLL losing lock for more than 20 µs is logged and causes an INK_REQUEST reset. (R195) -/
  | pllLockLoss (k : Fin 3)
  /-- VA falls below its monitor threshold; VA_OK clears and VA_LOW is set on every universal input at the next swap. (R251) -/
  | vaLowTrip
  /-- VA_OK returns and conversions are discarded for two cycles before VA_LOW clears. (R251) -/
  | vaReturn
  /-- VAO falls below its threshold; the AO pins go high impedance with their pull-downs. (R370) -/
  | vaoLowTrip
  /-- VAO_OK returns and each AO pin is driven to APPLIED at once. (R370) -/
  | vaoReturn
  /-- Every 1 ms the thermal block converts the diode and evaluates the levels and windows. (R200) -/
  | tjConversion (reading : Int)
  /-- The fixed comparator detects 158 °C after its 10 µs filter and causes a shutdown. (R218) -/
  | fixedShutdownTrip
  /-- When the leaving message has been sent or abandoned, the Innkeeper halts and every domain except NP and WD stops. (R222) -/
  | shutdownHalt
  /-- VIO below 1.0 V for more than 100 ms clears the thermal shutdown latch. (R224) -/
  | thermalLatchClear
  /-- Every 10 s, or every 1 s during a SELFTEST fault, the diode is converted at two bias currents and checked. (R201) -/
  | selftestStep (low high low2 high2 : Int)
  /-- Every 100 ms the diode reading is compared with the neighbour estimate. (R226) -/
  | neighbourCheck
  /-- A sensor fault ends after every check has passed continuously for 10 s. (R226) -/
  | sensorFaultClear
  /-- A sensor fault that has stood for 2 s in too-hot mode, or with no neighbour, shuts the device down. (R230) -/
  | tooHotTimeout
  /-- The grace timer reaches GRACE before every Lodger complied, and throttle enforcement is applied. (R210) -/
  | graceExpiry
  /-- A universal input visit ends with a conversion to VAL and an update of its wiring fault flags. (R237) -/
  | uiConversion (n : Fin 16) (res : Nat) (level : Int) (com : Bool) (raw : Nat)
  /-- At the end of a scan cycle the shadow results become readable, CYCLE counts, and the sense Carder request is raised. (R240) -/
  | scanSwap
  /-- A read of SNS_UI0_VAL holds the readable result block until SNS_UI15_HLTH is read. (R241) -/
  | resultBlockRead (n : Fin 4) (user : Bool) (refused : Nat)
  /-- A result block hold ends after 100 µs and any waiting swap takes place. (R241) -/
  | resultHoldTimeout
  /-- A write that changes SNS_UIn_CFG.TYPE clears the fault flags and starts the two-cycle settle window. (R249) -/
  | uiTypeWrite (n : Fin 4) (user : Bool) (idx : Fin 16) (type : BitVec 3)
  /-- An I²C sensor slot falls due and its bus starts the command and read transaction. (R254) -/
  | i2cSlotDue (m : Fin 16) (sda : Sda)
  /-- An I²C transaction succeeds or fails and the slot's data and status are updated as one. (R258) -/
  | i2cTransactionEnd (m : Fin 16) (e : I2cEnd) (next : Sda)
  /-- A read of SNS_I2Cm_STAT holds RAW0 and RAW1 until RAW1 is read or 100 µs pass. (R258) -/
  | i2cStatRead (n : Fin 4) (user : Bool) (m : Fin 16) (refused : Nat)
  /-- A DI raw state has differed for DEBOUNCE ms; the debounced state changes, counts an edge and may wake the device. (R261) -/
  | diDebounceChange (n : Fin 8) (high : Bool)
  /-- A selected edge on CNT0 or CNT1 increments its counter. (R263) -/
  | counterEdge (k : Fin 2) (rising : Bool)
  /-- A write to SNS_CNT_CLR clears the selected DI edge counts and counters. (R264) -/
  | cntClear (n : Fin 4) (user : Bool) (w : Word)
  /-- Every 250 µs the loop engine evaluates the due slots in ascending order. (R268) -/
  | loopTick (refused : Nat) (late : Bool)
  /-- A write of GO to LOOPn_COMMIT sets PEND, or commits at once while EN is 0. (R287) -/
  | commitGo (n : Fin 4) (user : Bool) (slot : Fin 48) (bank : Fin 4)
  /-- In direct mode a write to LOOPn_STGk writes word k of bank 0 and advances WSEQ and the open group. (R290) -/
  | directCoefWrite (n : Fin 4) (user : Bool) (slot : Fin 48) (k : Fin 9) (w : Word)
  /-- A write of COUNT to LOOPn_DGRP opens or closes a group of direct writes. (R292) -/
  | directGroupWrite (n : Fin 4) (user : Bool) (slot : Fin 48) (count : Fin 16)
  /-- A write of EN = 1 that passes the cascade checks starts the slot in TRACK. (R306) -/
  | slotEnable (n : Fin 4) (user : Bool) (slot : Fin 48)
  /-- A write of EN = 0 lets the sample in progress complete, then moves the slot to OFF and clears its FEEDBACK cause. (R297) -/
  | slotDisable (n : Fin 4) (user : Bool) (slot : Fin 48)
  /-- A Lodger write to LOOPn_SP sets the setpoint, or is ignored for an inner slot of a cascade. (R281) -/
  | setpointWrite (n : Fin 4) (user : Bool) (slot : Fin 48) (w : Word)
  /-- A write to LOOPn_OUT is accepted only while EN is 0. (R298) -/
  | loopOutWrite (n : Fin 4) (user : Bool) (slot : Fin 48) (w : Word)
  /-- At a fan PWM period boundary the shadowed registers are transferred unless SHADOW_HOLD is set. (R337) -/
  | pwmPeriodBoundary (c : Fin 6)
  /-- Every 1 ms a fan channel moves n_ref towards the effective target and computes its duty. (R321) -/
  | fanControlTick (c : Fin 6) (shunts : List (Int × Int))
  /-- A back-EMF zero crossing times the next sensorless commutation and updates MEAS. (R316) -/
  | bemfZeroCrossing (c : Fin 6) (ns : Nat)
  /-- No zero crossing within twice the last step interval clears LOCK and makes MEAS 0. (R317) -/
  | lockLoss (c : Fin 6)
  /-- A Hall code change commutates the channel, or an invalid code sets FAULT.HALL. (R318) -/
  | hallChange (c : Fin 2) (code : BitVec 3) (ns : Nat)
  /-- A shunt current above ILIM ends the PWM on-time at once. (R315) -/
  | currentLimit (c : Fin 6)
  /-- A current above twice ILIM, or a phase sense disagreement, turns the gates off and latches the channel with cause SHORT. (R346) -/
  | phaseShort (c : Fin 6)
  /-- An open phase at the end of ALIGN or in RUN latches the channel with cause OPEN. (R347) -/
  | openPhase (c : Fin 6)
  /-- The stall timer reaches STALL_TIME; the gates turn off and the channel enters WAIT, or LATCHED after three attempts. (R341) -/
  | stallTimeout (c : Fin 6)
  /-- After RST_WAIT seconds in WAIT the channel runs the start sequence as a restart attempt. (R342) -/
  | restartWaitEnd (c : Fin 6)
  /-- One second in RUN with LOCK and MEAS at or above STALL_RPM makes the attempt succeed. (R342) -/
  | restartSuccess (c : Fin 6)
  /-- An attempt not successful by the end of RST_WIN fails and the channel enters WAIT or LATCHED. (R343) -/
  | restartWindowEnd (c : Fin 6)
  /-- ATTEMPT clears to 0 after 60 s of continuous good RUN. (R344) -/
  | attemptClear (c : Fin 6)
  /-- A write of CMD.CLEAR in a service session clears LATCHED, the fault bits and ATTEMPT. (R345) -/
  | fanCmdClear (n : Fin 4) (user : Bool) (c : Fin 6)
  /-- A write of CMD.BASE starts the baseline capture when its conditions hold. (R329) -/
  | baselineCapture (n : Fin 4) (user : Bool) (c : Fin 6)
  /-- After 20 s of waiting and 10 s of averaging, a baseline point is stored and the next one starts, or the baseline is journaled. (R329) -/
  | baselinePointDone (c : Fin 6)
  /-- A write of CMD.MAP starts a resonance sweep when its conditions hold. (R332) -/
  | resonanceSweep (n : Fin 4) (user : Bool) (c : Fin 6)
  /-- At the end of the sweep the channel proposes skip bands and sets DONE. (R335) -/
  | sweepEnd (c : Fin 6)
  /-- A write of CMD.ABORT ends a sweep or capture without results. (R339) -/
  | taskAbort (n : Fin 4) (user : Bool) (c : Fin 6)
  /-- After 10 s of steady running at a baseline point, the channel updates DMI and may set AGED. (R330) -/
  | dmiUpdate (c : Fin 6) (k : Fin 8)
  /-- A target above 0 while OFF enters CATCH, increments STARTS and observes the phases. (R349) -/
  | fanStart (c : Fin 6)
  /-- After 100 ms of CATCH the channel enters RUN, BRAKE or precharge. (R349) -/
  | catchEnd (c : Fin 6) (reverse : Bool) (rpm : Nat) (duty : Word)
  /-- Braking ends below HANDOVER or after 5 s, and catch is tried again. (R349) -/
  | brakeEnd (c : Fin 6)
  /-- After 2 ms of precharge the channel enters ALIGN, or RUN on a Hall channel. (R349) -/
  | prechargeEnd (c : Fin 6)
  /-- At the end of ALIGN the open-phase check runs and OPENLOOP begins. (R349) -/
  | alignEnd (c : Fin 6) (cur : Nat)
  /-- The open-loop ramp reaches HANDOVER and the channel enters RUN with its integrator set. (R322) -/
  | handoverReached (c : Fin 6)
  /-- A target of 0 turns the gates off at the next period boundary and the channel enters OFF. (R350) -/
  | fanStop (c : Fin 6)
  /-- Every 1 ms each AO output measures its pin and updates RB_ERR. (R355) -/
  | aoReadback (n : Fin 8) (mv : Nat)
  /-- An AO output in current limit for 10 ms sets OVERLOAD. (R370) -/
  | aoOverload (n : Fin 8)
  /-- An AO pin above 11.5 V disconnects its stage and logs the event. (R370) -/
  | aoOvervolt (n : Fin 8)
  /-- Every 100 ms a disconnected AO stage tries to reconnect. (R370) -/
  | aoReconnectTry (n : Fin 8) (ok : Bool)
  /-- A stroke measurement running STROKE_MAX seconds sets STR_FLT and is logged. (R366) -/
  | strokeTimeout (n : Fin 8)
  /-- A DO current above 300 mA for 10 µs turns the driver off. (R370) -/
  | doOvercurrent (k : Fin 12)
  /-- One second after an overcurrent the DO driver is retried, and latches after three failures. (R370) -/
  | doRetry (k : Fin 12)
  /-- A DO drain below 2 V for 100 ms with the driver off sets OPEN_LOAD. (R370) -/
  | doOpenLoad (k : Fin 12)
  /-- A write to OUT_DO_CLR clears LATCHED, OVERCUR and RETRY of the selected DO outputs. (R370) -/
  | doClear (n : Fin 4) (user : Bool) (w : Word)
  /-- At each heater period start the output takes the latest duty and PERIOD. (R357) -/
  | heaterPeriodStart (k : Fin 4)
  /-- An Innkeeper LOG_ENTRY or LEDGER_LINE waiting for a free slot is journaled once a slot frees. (R384) -/
  | innkeeperRecordResume
  /-- At each RTC hour boundary the changed counter lines and block counters are written as journaled Ledger lines. (R404) -/
  | hourlyCounterWrite
  /-- Every 10 s the Innkeeper refreshes the retained copies of the wear counters. (R404) -/
  | counterRefresh
  /-- At NIGHT_TIME the wear block runs the hold-up test, the die measurement, day values, points and predictions. (R406) -/
  | nightlyUpdate (fRef fRun : Nat)
  /-- At 1 100 ms the hold-up test computes ESR and C, switches the loads off and restarts the charger. (R412) -/
  | holdUpTestEnd (v1 v2 v3 v4 : Nat)
  /-- HOLD below 2.10 V during the test switches both loads off and ends it with RESULT 3. (R413) -/
  | holdTestAbort
  /-- A SEAL_BEGIN request starts collecting a seal value with its slot, EXPECT and LEN. (R420) -/
  | sealBegin (seq session : Nat) (p : List Byte)
  /-- A SEAL_PART request adds value bytes at an offset. (R420) -/
  | sealPart (seq session : Nat) (p : List Byte)
  /-- A SEAL_COMMIT request is checked against Table 12-6 and, when it passes, writes the bank not in force. (R420) -/
  | sealCommit (seq session : Nat) (p : List Byte)
  /-- Once every bank line is written, the header is switched, the history and log entry are written and the value is applied. (R422) -/
  | sealBankDone
  /-- A write of START checks the channel and enters ACTIVE, clearing its counts. (R460) -/
  | dmaStart (n : Fin 4) (user : Bool) (c : Fin 24)
  /-- A write of STOP drains an ACTIVE channel to IDLE, or moves a PAUSED, HALTED or DONE channel to IDLE. (R459) -/
  | dmaStop (n : Fin 4) (user : Bool) (c : Fin 24)
  /-- Setting CTRL.PAUSE sets the PAUSE hold and starts a drain. (R455) -/
  | dmaPause (n : Fin 4) (user : Bool) (c : Fin 24)
  /-- Clearing the last hold returns a PAUSED channel to ACTIVE. (R455) -/
  | dmaResume (n : Fin 4) (user : Bool) (c : Fin 24)
  /-- A block request of the channel's TRIG is raised, held or sampled. (R436) -/
  | dmaRequest (c : Fin 24)
  /-- The read engine issues a read transaction for the next channel that has buffer space and a tag. (R445) -/
  | dmaReadIssue (refused : Nat)
  /-- A read transaction's last beat reaches the buffer and its tag is freed, or an error response arrives. (R442) -/
  | dmaReadComplete (t : Fin 64) (u : Upset)
  /-- The write engine writes a burst of a channel's beats in issue order and advances its registers. (R446) -/
  | dmaWriteBurst (refused : Nat) (u : Upset) (cut : Option Nat)
  /-- After the last read of a transfer is issued, the next descriptor is fetched and loaded. (R437) -/
  | dmaDescriptorLoad (c : Fin 24) (refused : Nat) (u : Upset)
  /-- After the backoff, a failed read or write burst is retried. (R451) -/
  | dmaRetry (c : Fin 24) (refused : Nat)
  /-- Every beat read has been written and the channel enters PAUSED, or IDLE after STOP. (R457) -/
  | dmaDrainComplete (c : Fin 24)
  /-- A controller receives a frame, which is checked, deduplicated, forwarded by a bridge and consumed or queued. (R493) -/
  | canFrameReceived (c : Fin 2) (std : Bool) (id : Nat) (fd brs : Bool) (payload : List Byte) (ticks : Nat)
  /-- A frame is sent without error, which delivers a must-deliver message and frees its buffer. (R491) -/
  | canFrameTransmitted (c : Fin 2) (ticks : Nat)
  /-- At the device's heartbeat instant a heartbeat frame is queued. (R481) -/
  | heartbeatSend
  /-- An accepted heartbeat marks its node present and records its digest, version, Tj, flags and Trip. (R482) -/
  | heartbeat (src origin digest version tj flags : Nat)
  /-- A node becomes absent when no heartbeat has been accepted from it for 300 ms. (R482) -/
  | nodeAbsent (node : Nat)
  /-- An accepted leaving message marks its node absent at once. (R482) -/
  | leaving (src : Nat)
  /-- A throttle notice from a peer is received. (R484) -/
  | throttleNotice (src seq : Nat)
  /-- A write of RAISE to GRD_TRIP raises the own Trip and queues a raise frame on A and B. (R485) -/
  | tripRaise (n : Fin 4) (user : Bool) (reason : BitVec 16)
  /-- A write of CLEAR to GRD_TRIP clears the own Trip, queues a clear frame and releases TRIP_IO. (R485) -/
  | tripClear (n : Fin 4) (user : Bool)
  /-- A write of FORGET drops the Trip of an absent node. (R486) -/
  | tripForget (n : Fin 4) (user : Bool) (node : Byte)
  /-- A received Trip raise or clear frame updates that node's Trip and the Trip state. (R486) -/
  | tripFrame (src : Nat) (raise : Bool)
  /-- TRIP_IO held low or high for 20 µs sets or clears LINE. (R486) -/
  | tripLineChange (low : Bool)
  /-- A write of GO to a Lodger transmit mailbox checks, journals and queues a class 5 to 7 frame. (R490) -/
  | grdTxGo (n : Fin 4) (user : Bool)
  /-- A transmit request that waited with BUSY set is queued once buffers are free. (R490) -/
  | txRequestResume (n : Fin 4)
  /-- A read of GRD_RXc_W17 removes the oldest receive FIFO entry. (R494) -/
  | rxFifoPop (n : Fin 4) (user : Bool) (c : Fin 2) (refused : Nat)
  /-- A controller enters bus-off, moves its pending frames and starts recovery. (R498) -/
  | busOff (c : Fin 2)
  /-- Bus-off recovery completes and the controller enters RECOVER, or OFF after eight recoveries in an hour. (R499) -/
  | busoffRecoveryComplete (c : Fin 2)
  /-- HOLDOFF in RECOVER ends and the controller enters ACTIVE and sends its held frames. (R498) -/
  | holdoffEnd (c : Fin 2)
  /-- A write of REEN to an OFF controller clears its recovery history and starts HOLDOFF. (R499) -/
  | reen (n : Fin 4) (user : Bool) (c : Fin 2)
  /-- Every 100 ms the device counts digest votes, finds the group digest and evaluates apart causes. (R509) -/
  | voteEvaluation
  /-- After 300 ms of JOINING the device moves to IN or APART. (R511) -/
  | joiningEnd
  /-- After 1 s in APART with no cause the device returns to IN. (R511) -/
  | apartReturn
  /-- A write of SET to GRP_EXT_CMD sets the external time source and, on the master, moves its clock. (R518) -/
  | extTimeSet (n : Fin 4) (user : Bool)
  /-- A write of CLEAR to GRP_EXT_CMD ends the external source at once. (R518) -/
  | extTimeClear (n : Fin 4) (user : Bool)
  /-- The external source becomes invalid EXT_VALID seconds after the last SET. (R518) -/
  | extValidExpiry
  /-- A segment time source sends SYNC each time its coaching clock passes a whole second, then FOLLOW. (R520) -/
  | syncSend
  /-- A received SYNC from the segment's time source is timestamped. (R520) -/
  | sync (src seq hops ticks : Nat)
  /-- A FOLLOW matching a SYNC gives the offset; the device steps or slews its clock and sets the RTC. (R521) -/
  | follow (src syncSeq hops flags secs micros : Nat)
  /-- With no suitable FOLLOW for 3 s, the device goes off group time. (R522) -/
  | groupTimeLost
  /-- A host receives ACQUIRE and answers GRANT or DENY. (R529) -/
  | acquire (src key : Nat)
  /-- The holder receives GRANT, records the epoch and goes on to the next key. (R530) -/
  | grant (src key epoch lease : Nat)
  /-- The holder receives DENY, releases the keys already granted and completes the request. (R530) -/
  | deny (src key cause : Nat)
  /-- A host receives RENEW and restarts the lease or answers DENY, STALE. (R531) -/
  | renew (src key epoch : Nat)
  /-- The holder receives RENEWED and restarts its renewal timing. (R531) -/
  | renewed (src key epoch : Nat)
  /-- A host receives RELEASE, frees the key, sets cause KEY for fault or apart, and answers RELEASED. (R533) -/
  | release (src key cause : Nat)
  /-- The holder receives RELEASED and its acquire and release records become DONE. (R533) -/
  | released (src key : Nat)
  /-- A host judges a RECLAIM on the lease alone and accepts, re-grants, releases or denies it. (R547) -/
  | reclaim (src key epoch rop : Nat)
  /-- A host receives WRITE and passes it to its gate when the sender holds the key under that epoch. (R534) -/
  | keyWriteFrame (src key epoch value : Nat)
  /-- The holder receives EXPIRED and drops the key. (R531) -/
  | expired (src key : Nat)
  /-- A key step unanswered for 100 ms is repeated, and fails after three repeats. (R528) -/
  | keyAnswerTimeout (key : Nat)
  /-- LEASE / 3 after the grant or the last RENEWED, the holder sends RENEW. (R531) -/
  | renewDue (key : Nat)
  /-- LEASE passes with no RENEWED and the holder drops the key. (R531) -/
  | holderLeaseExpiry (key : Nat)
  /-- LEASE plus 500 ms without a renewal; the host sets cause KEY, frees the key and sends EXPIRED. (R532) -/
  | hostLeaseExpiry (key : Nat)
  /-- A write to KEY_WRn writes a key-owned target through the local gate or sends WRITE, journaled when JRNL is set. (R534) -/
  | keyWriteCmd (n : Fin 4) (user : Bool) (m : Fin 4) (w : Word)
  /-- A write to KEY_QUERY selects the key whose role, peer, lease and epoch KEY_INFO and KEY_EPOCH show. (R534) -/
  | keyQuery (n : Fin 4) (user : Bool) (w : Word)
  /-- A read of GRP_TIME_S latches GRP_TIME_US. (R516) -/
  | grpTimeRead (n : Fin 4) (user : Bool) (refused : Nat)
  /-- A write of MAKE to BOOK_CMDn checks the booking and makes it PLANNED with a must-deliver ANNOUNCE. (R537) -/
  | bookMake (n : Fin 4) (user : Bool) (m : Fin 4)
  /-- A write of WITHDRAW withdraws a PLANNED own booking, or ends a CONFIRMED one. (R540) -/
  | bookWithdraw (n : Fin 4) (user : Bool) (m : Fin 4) (slot : Fin 32)
  /-- A write of END ends a CONFIRMED own booking, or withdraws a PLANNED one. (R541) -/
  | bookEnd (n : Fin 4) (user : Bool) (m : Fin 4) (slot : Fin 32)
  /-- Every 10 s a PLANNED booking's ANNOUNCE is repeated. (R538) -/
  | announceRepeat (k : Fin 32)
  /-- At START the maker confirms a PLANNED booking, or withdraws it with cause APART or TIME. (R539) -/
  | bookingStartDue (k : Fin 32)
  /-- START plus DURATION passing moves a CONFIRMED own booking to ENDED and sends END. (R541) -/
  | bookingDurationEnd (k : Fin 32)
  /-- A received ANNOUNCE creates or updates a tracked record as PLANNED. (R542) -/
  | announce (src slot : Nat) (data : List Byte)
  /-- A received CONFIRM makes a tracked record CONFIRMED. (R542) -/
  | confirm (src slot : Nat) (data : List Byte)
  /-- A received WITHDRAW makes a tracked record WITHDRAWN. (R542) -/
  | withdraw (src slot : Nat) (data : List Byte)
  /-- A received END makes a tracked record ENDED. (R542) -/
  | bookFrameEnd (src slot : Nat) (data : List Byte)
  /-- START plus 5 s passing with no CONFIRM makes a PLANNED tracked record LAPSED. (R542) -/
  | trackedLapse (idx : Nat)
  /-- START plus DURATION passing makes a CONFIRMED tracked record ENDED. (R542) -/
  | trackedDurationEnd (idx : Nat)
  /-- A read of word 0 of a booking record holds the record until word 7 is read or 100 µs pass. (R553) -/
  | bookingRecordRead (n : Fin 4) (user own : Bool) (idx refused : Nat)
  /-- A received character is sampled, checked for errors, votes on polarity and is stored with GAP and RXTS. (R556) -/
  | uartCharacterReceived (k : Fin 3) (smp : List (Bool × Bool × Bool))
  /-- RX held at the spacing level for 100 ms flips the polarity. (R566) -/
  | polaritySpacingTimeout (k : Fin 3)
  /-- One character time of silence after a stop bit sets IDLE and raises INT.IDLE. (R560) -/
  | uartIdle (k : Fin 3)
  /-- A read of UARTn_RXD removes the oldest receive entry, or returns EMPTY. (R557) -/
  | uartRxdRead (n : Fin 4) (user : Bool) (k : Fin 3) (refused : Nat)
  /-- A write to UARTn_TXD queues a character, or drops it and sets TX_OVR when the FIFO is full. (R559) -/
  | uartTxdWrite (n : Fin 4) (user : Bool) (k : Fin 3) (d : Byte)
  /-- DE_LEAD bit times after DEn is asserted, the next character's start bit is sent. (R563) -/
  | uartTxStart (k : Fin 3)
  /-- A character's stop bit ends and the next character, or a pending format, is taken. (R563) -/
  | uartCharacterSent (k : Fin 3)
  /-- DE_LAG bit times after the last stop bit, DEn is released and TX_DONE is raised. (R563) -/
  | deRelease (k : Fin 3)
  /-- A write to UARTn_CFG or POL_MODE goes to a shadow taken by each side at its next boundary. (R570) -/
  | uartCfgWrite (n : Fin 4) (user : Bool) (k : Fin 3) (w : Word)
  /-- A write of FLUSH_RX empties the receive FIFO. (R572) -/
  | flushRx (n : Fin 4) (user : Bool) (k : Fin 3)
  /-- A write of FLUSH_TX empties the transmit FIFO; the character in the shift register completes. (R572) -/
  | flushTx (n : Fin 4) (user : Bool) (k : Fin 3)
  /-- A write of EN enables the port and clears the polarity lock, or disables it at the next boundary. (R567) -/
  | uartEnableWrite (n : Fin 4) (user : Bool) (k : Fin 3) (en : Bool)
  /-- The Night Porter accepts two complete copies of the wake phrase and wakes the device or opens a new session. (R593) -/
  | wakePhrase (halves : List Bool) (periodNs : Nat)
  /-- An AUTH request's signature is verified against the technician or inspector key and opens the session or counts a failure. (R595) -/
  | svcAuth (seq session : Nat) (p : List Byte)
  /-- A READ request returns bytes of the Ledger read view or of permitted registers. (R588) -/
  | svcRead (seq session : Nat) (p : List Byte)
  /-- A FAN_CLEAR request acts as the service clear of a latched fan channel. (R589) -/
  | fanClear (seq session : Nat) (p : List Byte)
  /-- A LODGER_START request restarts a Lodger held after repeated watchdog expiries. (R589) -/
  | lodgerStart (seq session : Nat) (p : List Byte)
  /-- An OFF request is checked, logged, queues the leaving message and waits for it before Off. (R601) -/
  | svcOff (seq session : Nat) (p : List Byte)
  /-- After the leaving message is sent or 10 ms pass, the power-fail sequence runs from step 2. (R601) -/
  | offWaitEnd
  /-- An APP request is passed to the owning Lodger through SVC_APP_RX. (R600) -/
  | svcApp (seq session : Nat) (p : List Byte)
  /-- A write of SEND to SVC_APP_CMD sends the Lodger's answer to a pending APP request. (R600) -/
  | appSend (n : Fin 4) (user : Bool) (w : Word)
  /-- With no answer within 2 s, the device replies TIMEOUT to the APP request. (R600) -/
  | appTimeout
  /-- A CLOSE request is answered and the session closes with cause 0. (R597) -/
  | svcClose (seq session : Nat) (p : List Byte)
  /-- A request of unknown TYPE is answered BAD_CMD. (R587) -/
  | palnyxBadType (type seq session : Nat)
  /-- A frame with LEN above 96 or a failed CRC is discarded and counted. (R583) -/
  | palnyxFrameError (len : Bool)
  /-- Once the line has been free of carrier for two bit periods, the reply to an accepted request is sent. (R584) -/
  | replySend
  /-- IDLE_S seconds with no accepted frame close the session with cause 1. (R597) -/
  | sessionIdleTimeout
  /-- No verified AUTH within 10 s of HELLO closes the session with cause 4. (R597) -/
  | authTimeout
  /-- 60 s after a third failed AUTH, the phrase lockout ends. (R599) -/
  | lockoutEnd
  /-- Ambient saturation or in-band noise for more than two bit periods starts a flood. (R603) -/
  | floodStart (ambient noise : Nat)
  /-- Two bit periods free of both conditions end the flood. (R603) -/
  | floodEnd (ambient noise : Nat)
  /-- A flood that stands for 10 s closes the session with cause 2. (R597) -/
  | floodSessionTimeout
  /-- A write of ON from 0 to 1 starts the rail power-up sequence. (R626) -/
  | panelOn (n : Fin 4) (user : Bool)
  /-- A write of ON from 1 to 0 starts the power-down sequence. (R627) -/
  | panelOff (n : Fin 4) (user : Bool)
  /-- After DLYk, the next rail's enable is driven high. (R626) -/
  | railStepDelay
  /-- A rail's good input rises and the power-up goes on to the next step. (R626) -/
  | railGood (r : Fin 3)
  /-- A rail not good within GOOD_TO is a rail fault and the panel powers down. (R624) -/
  | railTimeout
  /-- A good input falling for more than 1 ms while enabled is a rail fault. (R624) -/
  | railLost (r : Fin 3)
  /-- After RST_DLY, PNL_RST goes high and the timing starts with a black frame. (R626) -/
  | panelResetRelease
  /-- At each VS the shadowed timing and the band take effect, and line requests start or restart. (R617) -/
  | frameStart
  /-- At the start of HS the driver raises the line request, and at DE it checks the FIFO for an underrun. (R610) -/
  | lineStart
  /-- A write of RESYNC restarts line requests at the next VS with an empty FIFO. (R621) -/
  | resync (n : Fin 4) (user : Bool)
  /-- A write to PNL_PIX adds a word to the line FIFO, or is dropped when the FIFO is full. (R610) -/
  | pixelWrite (n : Fin 4) (user : Bool) (w : Word)
  /-- BL_DLY after the black frame, the backlight starts at APPLIED. (R626) -/
  | backlightStart
  /-- OFF_DLY apart, the used rails go off in reverse order. (R627) -/
  | railOffStep
  /-- Every 100 ms the crack loop is measured, and three measurements over the limit power the panel down. (R622) -/
  | crackMeasure (ohms : Nat)
  /-- A write of CRK_CLR after ten good measurements clears CRACK and is logged. (R623) -/
  | crkClr (n : Fin 4) (user : Bool)
  /-- A write to a register with no step of its own sets its fields, reaching the block through its clock crossing. (R166) -/
  | registerWrite (a : Access) (addr size : Nat) (w : Word)
  /-- An access to a reserved address receives an error response and nothing is read or written. (R634) -/
  | reservedAccess (who : Requester) (kind : AccessKind) (addr size : Nat)
  /-- The Night Porter supply falls below the HOLD retention threshold, losing the RTC, retention SRAM, OFF_WAKE state and the thermal latch. (R198) -/
  | nightPorterRetentionLoss
  /-- Each second of the NP clock the RTC counts on, and per-second counters such as WEAR_BL.SECONDS and FANn_RUNS advance. (R184) -/
  | rtcSecond
  /-- A controller detects a bus error, raising TEC or REC and moving between ACTIVE and PASSIVE under the standard's fault confinement. (R497) -/
  | canBusError (c : Fin 2) (transmitter : Bool) (rx : Nat)
  /-- A falling edge on RX starts a character, clearing IDLE and deciding discard while DEn is asserted. (R560) -/
  | uartStartBit (k : Fin 3) (silence : Nat)
  /-- An AO output out of current limit for 10 ms clears OVERLOAD. (R370) -/
  | aoOverloadClear (n : Fin 8)
  /-- A DO drain above 2 V for 100 ms clears OPEN_LOAD. (R370) -/
  | doOpenLoadClear (k : Fin 12)
  /-- A DO driver that has run for 1 s after a retry clears OVERCUR and RETRY. (R370) -/
  | doOvercurrentClear (k : Fin 12)
  deriving DecidableEq, Repr

end Sys2Proof
end

