-- ==== Sys2Proof/Decode.lean ====
section
/-! DEFINITION. Words of the opcode table. The table gives the bits of none of its rows: a command comes from outside the block as
what it is, and no word spells one (log entry 12). -/

namespace Sys2Proof

/-- The command that a word spells by the bits of the opcode table: none, as no row has bits. (log 12: DESIGN CHOICE) -/
def decodeTableWord (_nbits _w : Nat) : Option Instr := none

end Sys2Proof
end

