-- ==== Sys2Proof/Config.lean ====
section
/-! DEFINITION. The free values: constants WITHOUT a body, one for each value that the manual leaves open.
Nothing can be proved about which value they take; each is named in the assumption log (entries 6 to 9). -/

namespace Sys2Proof

/-- The TOKEN that the Innkeeper sets after an accepted kick (R59): free, drawn by number. (log 6: DESIGN CHOICE) -/
opaque Config.freshToken : Nat → BitVec 16

/-- Byte `i` of the random CHALLENGE of the `n`-th draw (R594). (log 6: DESIGN CHOICE) -/
opaque Config.challengeByte : Nat → Nat → Byte

/-- The draw from which a new SESSION number is taken (R594 fixes its range and that it differs from the last). (log 6: DESIGN CHOICE) -/
opaque Config.sessionDraw : Nat → Nat

/-- Whether a displayed quotient `n / d` that is not whole shows the next whole number above it: the manual states
no rounding for the quantity (entry 7). -/
opaque Config.roundsUp : Nat → Nat → Bool

/-- VAL of an NTC input (R236) for its C0, C1, C2 and its resistance in mΩ: the formula's rounding and the converter's
error are open within Table 07-1 (entry 8). -/
opaque Config.ntcCelsius : Word → Word → Word → Nat → Word

/-- VAL of a Pt1000 input (R236) for its C0 and its resistance in mΩ (entry 8). -/
opaque Config.pt1000Celsius : Word → Nat → Word

/-- Payload and sign of the NaN that R236's formula gives for coefficients that are not finite: IEEE 754 leaves them open. (log 8: DESIGN CHOICE) -/
opaque Config.nanBits : Word → Word → Int → Word

/-- Byte `i` of Ledger line `line` at its `n`-th writing, where the manual gives the line no layout (boot record, crash
area, indicator headers; entry 9). -/
opaque Config.openByte : Nat → Nat → Nat → Byte

/-- The REASON that a record shows whose line was given up by R150's timeout, taken within the values 2 to 6 that Table 11-4
uses for ABANDONED: it names none for it. -/
opaque Config.openReason : Nat → Nat

/-- The result of an IMAGE_STAGE whose sector reads back different, taken within the codes 1 to 7 of R56: R109 only keeps OK
from it. (log entry 130) -/
opaque Config.stageResult : Nat → Nat

/-- ESR and capacitance shown by a hold-up test whose samples make R412's quotient negative or infinite: no result is stated
(entry 7). The operands are the quotient's two parts. -/
opaque Config.openHold : Int → Int → Nat

/-- The difference, in the converter's steps, that the diode gives at two bias currents of 8 to 1 for a reading (R201): the manual
does not state it. (log entry 137) -/
opaque Config.selftestDelta : Int → Nat

/-- DRIVE.DUTY of a duty that is not a finite number (entry 8). -/
opaque Config.shownDuty : Word → Nat

/-- Byte 0 of the reply to a SEAL_COMMIT whose result in Table 12-6 has no code of R56 with its name, by that result's code
(entry 7). -/
opaque Config.commitResult : Nat → Nat

/-- Byte 1 of the BAD_ARG reply to a SEAL_COMMIT, for which Table 12-6 has no code (entry 105). -/
opaque Config.badCommitCode : Nat

/-- How many lines a flush has written when HOLD is measured low in it (entry 149). -/
opaque Config.flushedLines : Nat → Nat

/-- SEQ of the `n`-th HELLO, which answers no request (Table 17-1; entry 7). -/
opaque Config.helloSeq : Nat → Nat

/-- Byte `i` of a seal value of the `n`-th SEAL_BEGIN that no PART has carried (entry 7). -/
opaque Config.collectByte : Nat → Nat → Byte

/-- NSJW, or DSJW where the argument is set, of a GROUPTIME that the image lacks, as its byte: R466 gives no default (entry 7). -/
opaque Config.openSjw : Bool → Nat

/-- Where REC comes back to, within 119 to 127, when a controller with REC above 127 receives a frame without error: ISO 11898-1
leaves it to the controller (entry 7). The operand is REC. -/
opaque Config.openRec : Nat → Nat

end Sys2Proof
end

