-- ==== Sys2Proof/Machine/Bits.lean ====
section
/-! DEFINITION. Bit fields of register words, saturating counters (R20), byte order (R26) and the CRCs of the manual. -/

namespace Sys2Proof.Machine

/-- Field [hi:lo] of a register word, as a number (R12). -/
def bits (w : Word) (hi lo : Nat) : Nat := w.toNat / 2 ^ lo % 2 ^ (hi + 1 - lo)

/-- Bit `i` of a register word. -/
def bit (w : Word) (i : Nat) : Bool := w.getLsbD i

/-- A word whose field at bit `lo` is `v`. -/
def at_ (lo v : Nat) : Word := BitVec.ofNat 32 (v * 2 ^ lo)

/-- A word with bit `i` equal to `b`. -/
def flag (i : Nat) (b : Bool) : Word := if b then BitVec.ofNat 32 (2 ^ i) else 0#32

/-- The word that holds all of the given fields. -/
def pack (fs : List Word) : Word := fs.foldl (· ||| ·) 0#32

/-- One more, saturating at `top` (R20). -/
def satInc (top n : Nat) : Nat := if n < top then n + 1 else n

/-- `k` more, saturating at `top` (R20). -/
def satAdd (top n k : Nat) : Nat := min top (n + k)

/-- `x` limited to `lo` … `hi`. -/
def clampNat (x lo hi : Nat) : Nat := if x < lo then lo else if hi < x then hi else x

/-- A value clipped to what an unsigned field of `w` bits can hold. -/
def satTo (w n : Nat) : Nat := min n (2 ^ w - 1)

/-- A displayed quotient whose rounding the manual does not state: exact when `d` divides `n`, else one of the two
neighbouring whole numbers (entry 7). -/
def openQuot (n d : Nat) : Nat :=
  if n % d = 0 then n / d else if Config.roundsUp n d then n / d + 1 else n / d

/-- The same for a quotient that may be negative. -/
def openQuotInt (z : Int) (d : Nat) : Int :=
  if z % d = 0 then z / d else if Config.roundsUp z.natAbs d then z / d + 1 else z / d

/-- `n / d` to the nearest whole number, where the manual does not say what a tie gives (entry 7). -/
def nearest (n d : Nat) : Nat :=
  if 2 * (n % d) < d then n / d else if d < 2 * (n % d) then n / d + 1 else if Config.roundsUp n d then n / d + 1 else n / d

/-- `n / d` to the nearest whole number, ties to even. -/
def roundEven (n d : Nat) : Nat :=
  let q := n / d
  let r := 2 * (n % d)
  if r < d then q else if d < r then q + 1 else if q % 2 = 0 then q else q + 1

/-- The low `n` bytes of `v`, least significant first (R26). -/
def leBytes : Nat → Nat → List Byte
  | 0, _ => []
  | n + 1, v => BitVec.ofNat 8 v :: leBytes n (v / 256)

/-- The number that bytes stored least significant first spell (R26). -/
def leNat : List Byte → Nat
  | [] => 0
  | b :: bs => b.toNat + 256 * leNat bs

/-- A signed reading of an `w`-bit field (R25). -/
def signed (w v : Nat) : Int := if v < 2 ^ (w - 1) then (v : Int) else (v : Int) - 2 ^ w

/-- A signed number as a `w`-bit field, two's complement (R25). -/
def unsignedOf (w : Nat) (x : Int) : Nat := (x % (2 ^ w : Nat)).toNat

/-- `n` bytes of a list from offset `o`, with zeros past its end. -/
def slice (bs : List Byte) (o n : Nat) : List Byte :=
  let t := (bs.drop o).take n
  t ++ List.replicate (n - t.length) 0#8

/-- The number in `n` bytes from offset `o`, least significant first (R26). -/
def fieldAt (bs : List Byte) (o n : Nat) : Nat := leNat (slice bs o n)

/-- A list made exactly `n` bytes long with zeros. (log 42: DEDUCED) -/
def padTo (n : Nat) (bs : List Byte) : List Byte := slice bs 0 n

/-- One bit of a reflected CRC-32 (IEEE 802.3 polynomial, as in Table 04-4 and Table 11-2). (log 10: PRESUMED) -/
def crc32Bit (c : Word) : Word := if c.getLsbD 0 then (c >>> 1) ^^^ 0xEDB88320#32 else c >>> 1

/-- One byte of the CRC-32. (log 10: PRESUMED) -/
def crc32Byte (c : Word) (b : Byte) : Word :=
  (List.range 8).foldl (fun c _ => crc32Bit c) (c ^^^ b.setWidth 32)

/-- CRC-32 (IEEE 802.3 polynomial; the reflected form with all-ones start and final complement is entry 10). -/
def crc32 (bs : List Byte) : Nat := ((bs.foldl crc32Byte 0xFFFFFFFF#32) ^^^ 0xFFFFFFFF#32).toNat

/-- One byte of CRC-16/CCITT: polynomial 0x1021, not reflected (R582). -/
def crc16Byte (c : BitVec 16) (b : Byte) : BitVec 16 :=
  (List.range 8).foldl (fun c _ => if c.getLsbD 15 then (c <<< 1) ^^^ 0x1021#16 else c <<< 1)
    (c ^^^ (b.setWidth 16 <<< 8))

/-- CRC-16/CCITT with initial value 0xFFFF and no final XOR (R582). -/
def crc16 (bs : List Byte) : Nat := (bs.foldl crc16Byte 0xFFFF#16).toNat

/-- One byte of the sensor CRC-8: polynomial 0x31 (R256). -/
def crc8Byte (c : Byte) (b : Byte) : Byte :=
  (List.range 8).foldl (fun c _ => if c.getLsbD 7 then (c <<< 1) ^^^ 0x31#8 else c <<< 1) (c ^^^ b)

/-- CRC-8 with initial value 0xFF (R256). -/
def crc8 (bs : List Byte) : Byte := bs.foldl crc8Byte 0xFF#8

/-- Element `i` of a fixed-size bank. -/
def vget {α : Type} {n : Nat} (v : Vector α n) (i : Fin n) : α := v[i]

/-- A fixed-size bank with element `i` replaced. -/
def vset {α : Type} {n : Nat} (v : Vector α n) (i : Fin n) (a : α) : Vector α n := v.set i a

/-- A fixed-size bank with element `i` changed. -/
def vmod {α : Type} {n : Nat} (v : Vector α n) (i : Fin n) (f : α → α) : Vector α n := vset v i (f (vget v i))

/-- A list with element `i` changed (unchanged when there is none). -/
def lmod {α : Type} : List α → Nat → (α → α) → List α
  | [], _, _ => []
  | a :: l, 0, f => f a :: l
  | a :: l, i + 1, f => a :: lmod l i f

/-- Whether numbers rise strictly. -/
def ascending : List Nat → Bool
  | a :: b :: l => decide (a < b) && ascending (b :: l)
  | _ => true

/-- The index `k` of a bank of `n`, where `k` is in range. -/
def idx? (n k : Nat) : Option (Fin n) := if h : k < n then some ⟨k, h⟩ else none

end Sys2Proof.Machine
end

