-- ==== Sys2Proof/Machine/Cells.lean ====
section
/-! DEFINITION. Memories as sorted lists in one canonical form: bytes by address, marks by word number, lines by number. -/

namespace Sys2Proof.Machine

/-- The byte at an address; an address that is not listed reads as `d`. (log 5: DESIGN CHOICE) -/
def Memory.get (d : Byte) : List Host.Cell → Nat → Byte
  | [], _ => d
  | (k, v) :: m, a => if k = a then v else Memory.get d m a

/-- The memory after a write of one byte; the canonical form is kept (a byte equal to `d` is not listed). -/
def Memory.set (d : Byte) : List Host.Cell → Nat → Byte → List Host.Cell
  | [], a, b => if b = d then [] else [(a, b)]
  | (k, v) :: m, a, b =>
    if a < k then (if b = d then (k, v) :: m else (a, b) :: (k, v) :: m)
    else if a = k then (if b = d then m else (a, b) :: m)
    else (k, v) :: Memory.set d m a b

/-- Whether every listed address is at least `lo`, addresses rise strictly and no listed byte equals `d`. -/
def Memory.wfFrom (d : Byte) : Nat → List Host.Cell → Bool
  | _, [] => true
  | lo, (k, v) :: m => decide (lo ≤ k) && decide (v ≠ d) && Memory.wfFrom d (k + 1) m

/-- The canonical form: addresses strictly rising, and no entry equal to what an unlisted address reads as. (log 5: DESIGN CHOICE) -/
def Memory.wf (d : Byte) (m : List Host.Cell) : Bool := Memory.wfFrom d 0 m

/-- Consecutive bytes written from address `a` upwards. -/
def Memory.setMany (d : Byte) (m : List Host.Cell) (a : Nat) : List Byte → List Host.Cell
  | [] => m
  | b :: bs => Memory.setMany d (Memory.set d m a b) (a + 1) bs

/-- `n` consecutive bytes from address `a` upwards. -/
def Memory.getMany (d : Byte) (m : List Host.Cell) (a n : Nat) : List Byte :=
  (List.range n).map fun i => Memory.get d m (a + i)

/-- A mark added to a strictly rising list of marks. -/
def Marks.add (x : Nat) : List Nat → List Nat
  | [] => [x]
  | y :: l => if x < y then x :: y :: l else if x = y then y :: l else y :: Marks.add x l

/-- A mark removed. -/
def Marks.del (x : Nat) : List Nat → List Nat
  | [] => []
  | y :: l => if x = y then l else y :: Marks.del x l

/-- Whether the marks are at least `lo` and rise strictly. -/
def Marks.wfFrom : Nat → List Nat → Bool
  | _, [] => true
  | lo, x :: l => decide (lo ≤ x) && Marks.wfFrom (x + 1) l

/-- The line of a number, if it was ever written. (log 5: DESIGN CHOICE) -/
def Lines.get : List (Nat × List Byte) → Nat → Option (List Byte)
  | [], _ => none
  | (k, v) :: m, a => if k = a then some v else Lines.get m a

/-- A line written as one unit. -/
def Lines.set : List (Nat × List Byte) → Nat → List Byte → List (Nat × List Byte)
  | [], a, d => [(a, d)]
  | (k, v) :: m, a, d =>
    if a < k then (a, d) :: (k, v) :: m else if a = k then (a, d) :: m else (k, v) :: Lines.set m a d

/-- Line numbers at least `lo`, strictly rising, and every line 32 bytes long. -/
def Lines.wfFrom : Nat → List (Nat × List Byte) → Bool
  | _, [] => true
  | lo, (k, v) :: m => decide (lo ≤ k) && decide (v.length = 32) && Lines.wfFrom (k + 1) m

end Sys2Proof.Machine
end

