-- ==== Sys2Proof/Machine/TypesCore.lean ====
section
/-! DEFINITION. The state of memory, the Ledger, the Waybill, the output gate, the Lodgers, power and the image. -/

namespace Sys2Proof.Machine

/-- A binary32 value or another full-width register field kept as its word. -/
abbrev Line := List Byte

/-- Main SRAM (R126, R127): data bytes, written-tags and the condition of the check bits, by 64-bit word number. -/
structure Sram where
  /-- Bytes that differ from 0, by offset from 0x2000_0000, in canonical form. -/
  cells : List Host.Cell := []
  /-- Word numbers (offset / 8) whose written-tag is set, strictly rising. -/
  tags : List Nat := []
  /-- Words whose check bits show a single-bit error. -/
  singles : List Nat := []
  /-- Words with an uncorrectable error. -/
  doubles : List Nat := []
  deriving DecidableEq, Repr

/-- The MEM status registers (Tables 04-6 to 04-16) and the scrubber's position. -/
structure MemRegs where
  ceCnt : Nat := 0
  ueCnt : Nat := 0
  ueKind : Nat := 0
  ue : Bool := false
  ce : Bool := false
  eccAddr : Nat := 0
  unwCnt : Nat := 0
  unwId : Nat := 0
  unwKind : Nat := 0
  unwAddr : Nat := 0
  scrubEn : Bool := true
  scrubInterval : Nat := 0x10
  /-- Word number that the scrubber looks at next (R131). -/
  scrubPos : Nat := 0
  ledgerCe : Nat := 0
  uncorr : Bool := false
  poison : Bool := false
  poisonLine : Nat := 0
  retCrcFail : Nat := 0
  retValid : Bool := false
  promote : Nat := 0
  sweepUs : Nat := 0
  deriving DecidableEq, Repr

/-- One entry of the Ledger write buffer (R143): a line, its data, and the SEQ of the record that it completes (0: none). -/
structure BufEntry where
  line : Nat
  data : Line
  /-- SEQ of the record that ends when this line stands in the cells. -/
  done : Option Nat := none
  deriving DecidableEq, Repr

/-- The Ledger (R139) and the way into it (R143, R150). -/
structure Ledger where
  /-- Lines ever written, 32 bytes each, by line number, strictly rising; every other line is poison (R146). -/
  lines : List (Nat × Line) := []
  /-- Lines with an uncorrectable error. -/
  bad : List Nat := []
  /-- The write buffer, oldest first, at most 16 entries. -/
  buf : List BufEntry := []
  /-- Ledger writes that wait in the Innkeeper for a free entry (R150), oldest first. -/
  waiting : List BufEntry := []
  /-- Writes to each 1 KB block (R145). -/
  blocks : Vector Nat 128 := Vector.replicate 128 0
  deriving DecidableEq, Repr

/-- STATE of a record (Table 11-4). -/
inductive RecState where
  | free | opened | issued | done | abandoned
  deriving DecidableEq, Repr

/-- The body of a record (Table 11-3). -/
inductive RecBody where
  | none
  | outTarget (index target start ownerKind ownerId : Nat)
  | keyStep (key op count step epoch host : Nat) (keys : List Nat)
  | ledgerLine (line : Nat) (data : Line)
  | logEntry (slot event : Nat) (entry : List Byte)
  | grdMsg (id len ctrl : Nat) (payload : List Byte)
  deriving DecidableEq, Repr

/-- A Waybill record (Table 11-2). -/
structure Rec where
  state : RecState := .free
  reason : Nat := 0
  /-- 0 to 3 Lodger n, 4 Innkeeper. -/
  origin : Nat := 0
  seq : Nat := 0
  timeS : Nat := 0
  timeF : Nat := 0
  img : Nat := 0
  body : RecBody := .none
  /-- Whether the record's CRC is the one of its bytes (R138). -/
  crcOk : Bool := true
  deriving DecidableEq, Repr

/-- An Innkeeper action that waits for a free ring slot (R384). -/
structure WaitRec where
  origin : Nat
  body : RecBody
  deriving DecidableEq, Repr

/-- The Waybill: ring and registers (Tables 11-10 to 11-15). -/
structure Waybill where
  ring : Vector Rec 128 := Vector.replicate 128 {}
  /-- The slot most recently written (R382). -/
  last : Nat := 127
  nextSeq : Nat := 1
  /-- The first sequence number that this boot gave. -/
  bootSeq : Nat := 1
  waiting : List WaitRec := []
  /-- Position of the next inspection log entry (R423). -/
  logPos : Nat := 0
  refused : Nat := 0
  unjrnl : Nat := 0
  horizon : Nat := 10
  replaySource : Nat := 0
  replayed : Nat := 0
  abandoned : Nat := 0
  lost : Nat := 0
  flushResult : Nat := 0
  flushCount : Nat := 0
  flushTime : Nat := 0
  deriving DecidableEq, Repr

/-- OWNER_KIND of an envelope (R39). -/
inductive OwnerKind where
  | none | lodger | slot | key
  deriving DecidableEq, Repr

/-- One gate output: its envelope (R38, Table 02-15) and its course. -/
structure Output where
  min : Nat := 0
  max : Nat := 0
  slew : Nat := 0
  owner : OwnerKind := .none
  ownerId : Nat := 0
  rest : Nat := 0
  target : Nat := 0
  applied : Nat := 0
  /-- Thousandths of a unit that the ramp has gained and not yet applied (R43). -/
  carry : Nat := 0
  /-- In Rest: set when a cause is set, and kept until a release finds the mask empty (R45). -/
  inRest : Bool := false
  /-- Rest causes of Table 02-14: LODGER, KEY, FEEDBACK, APART, MODE, BOOT, JOURNAL_LOST. -/
  causes : BitVec 7 := 0
  /-- Cause KEY or APART was set after the key's present grant was issued (R46). -/
  stale : Bool := false
  /-- When a DO output last changed (R44). -/
  changedAt : Option Nat := Option.none
  deriving DecidableEq, Repr

/-- The gate (Tables 02-10 to 02-14). -/
structure Gate where
  outs : Vector Output 30 := Vector.replicate 30 {}
  blank : Bool := true
  /-- 0 none, 1 no image, 2 VGD, 3 thermal, 4 power fail. -/
  blankCause : Nat := 0
  vgdLow : Bool := false
  rejIndex : Nat := 0
  rejKind : Nat := 0
  rejId : Nat := 0
  /-- A changed value of seal slot 7 that waits for the next ramp interval (Table 12-4). -/
  envNext : Option (List Byte) := none
  clampCnt : Nat := 0
  rejectCnt : Nat := 0
  deriving DecidableEq, Repr

/-- One protection region (R33): `base` inclusive, `limit` exclusive. -/
structure Region where
  base : Nat := 0
  limit : Nat := 0
  r : Bool := false
  w : Bool := false
  x : Bool := false
  ua : Bool := false
  deriving DecidableEq, Repr

/-- What a mailbox request still waits for. -/
inductive Job where
  | idle
  /-- Written to CMD and not yet taken by the Innkeeper (R54). -/
  | posted
  /-- Waits for the record with this SEQ to become DONE (R143), since the given time. -/
  | onRecord (seq : Nat) (since : Nat)
  /-- Waits for a line of its own to reach the cells (R143), and then completes with a result and RES0. -/
  | onLine (line : Nat) (data : Line) (result : Nat) (res0 : Option Word)
  /-- KEY_ACQUIRE: the sequence's keys, the step under way and its record's SEQ (0: without a record). -/
  | acquire (keys : List Nat) (step : Nat) (seq : Nat)
  /-- KEY_RELEASE of one key. -/
  | release (key : Nat) (seq : Nat)
  /-- LODGER_RESTART: waits for the end of that Lodger's fault sequence (R68). -/
  | restart (target : Fin 4)
  deriving DecidableEq, Repr

/-- A mailbox (Tables 02-5, 02-6). -/
structure Mailbox where
  args : Vector Word 6 := Vector.replicate 6 0
  res : Vector Word 4 := Vector.replicate 4 0
  cmdSeq : Nat := 0
  cmdCode : Nat := 0
  seq : Nat := 0
  result : Nat := 0
  overrun : Bool := false
  done : Bool := false
  busy : Bool := false
  job : Job := .idle
  deriving DecidableEq, Repr

/-- The exception a Lodger takes from an access (R35, R155, R634). -/
inductive Trap where
  | load (addr : Nat)
  | store (addr : Nat)
  | fetch (addr : Nat)
  deriving DecidableEq, Repr

/-- Where a Lodger stands. -/
inductive LodgerRun where
  /-- Not in the start mask, or boot has not reached step 15. -/
  | stopped
  | running
  /-- Halted in the fault sequence of R68, waiting for its orphan channels. -/
  | halted
  /-- Held halted under R69. -/
  | held
  deriving DecidableEq, Repr

/-- One Lodger as the Innkeeper keeps it. -/
structure Lodger where
  run : LodgerRun := .stopped
  entry : Word := 0
  regions : Vector Region 16 := Vector.replicate 16 {}
  token : BitVec 16 := 0x5A3C
  /-- TIMEOUT in force in ms, and the sealed one that the next accepted kick takes (Table 12-4). -/
  timeout : Nat := 100
  timeoutNext : Nat := 100
  lastKick : Nat := 0
  /-- Times of watchdog expiries, latest first (R69). -/
  expiries : List Nat := []
  fenceCnt : Nat := 0
  expiryCnt : Nat := 0
  faultAddr : Nat := 0
  trap : Option Trap := none
  /-- Wake interrupt pending (R173). -/
  wakeIrq : Bool := false
  startedAt : Nat := 0
  /-- Channels that were ACTIVE or PAUSING when the fault sequence orphaned them (R456). -/
  orphanWait : List Nat := []
  /-- The fault sequence under way ends with the Lodger held (R69). -/
  holding : Bool := false
  mbx : Mailbox := {}
  deriving DecidableEq, Repr

/-- The answer to the last access of a requester. -/
inductive BusOutcome where
  | ok
  /-- The access did not take place or read an error (Table 04-5, R35, R141, R634). -/
  | error
  deriving DecidableEq, Repr

structure Bus where
  data : Word := 0
  outcome : BusOutcome := .ok
  deriving DecidableEq, Repr

/-- Where the device stands as a whole. -/
inductive Phase where
  /-- A whole-device reset is latched and boot has not run yet (R82). -/
  | reset
  /-- Boot stopped at step 2 with the shutdown latch set (Table 03-2). -/
  | latched
  /-- Boot waits at step 2 for Tj (R232). -/
  | tooHot
  /-- Boot held at step 11 for a node number (R106). -/
  | nodeHold
  /-- Boot stopped at step 11 by a broken seal (R426). -/
  | brokenSeal
  /-- No valid image; IMAGE_FAIL follows (R122). -/
  | noImage
  /-- Boot waits at step 13 for the Ledger write window (R389). -/
  | ledgerWait
  | running
  /-- OFF accepted, the leaving message on its way (R601). -/
  | offWait
  /-- The power-fail sequence is between steps 5 and 7 (Table 05-6). -/
  | flushing
  /-- Thermal shutdown between steps 3 and 5 (Table 06-3). -/
  | shutdown
  /-- Thermal shutdown complete. -/
  | halted
  | off
  /-- Held in reset by TEST (R662). -/
  | test
  deriving DecidableEq, Repr

/-- PWR_MODE.MODE. -/
inductive Mode where
  | run | nightHold | standby
  deriving DecidableEq, Repr

/-- Clocks, supplies, reset causes and the Night Porter's own state. (log 4: DESIGN CHOICE) -/
structure Power where
  phase : Phase := .reset
  /-- Causes latched and not yet read by the Innkeeper (R77), as CAUSE of Table 03-10. -/
  latchedCauses : BitVec 7 := 1
  /-- The Night Porter kept its state through Off (R198). -/
  offWake : Bool := false
  /-- The Night Porter's record of the wake source (Table 05-11). -/
  npWakeSrc : BitVec 16 := 0
  cause : BitVec 7 := 0
  primary : Nat := 0
  offWakeShown : Bool := false
  ldgWdog : BitVec 4 := 0
  mode : Mode := .run
  prev : Nat := 0
  deny : BitVec 4 := 0
  xtalLossCnt : Nat := 0
  npRc : Bool := false
  xtalRc : Bool := false
  pllLock : BitVec 3 := 0
  ldgDiv : Nat := 1
  wakeEn : Word := 3
  wakeSrc : BitVec 16 := 0
  vioOk : Bool := false
  vaOk : Bool := false
  vaoOk : Bool := false
  vgdOk : Bool := false
  holdOk : Bool := false
  holdWire : Bool := false
  low : BitVec 6 := 0
  vtarget : Nat := 6
  chg : Nat := 0
  /-- EN of PWR_HOLD. -/
  chargerEn : Bool := true
  holdMv : Nat := 0
  rtc : Nat := 0
  /-- When the present RTC second began (TIME_F). -/
  rtcAt : Nat := 0
  alarm : Nat := 0
  alarmArmed : Bool := false
  /-- The RTC has been set from the coaching clock since the last POR without OFF_WAKE (R406). -/
  rtcSet : Bool := false
  filters : Vector (Word × Word) 4 := Vector.replicate 4 (0, 0)
  /-- The thermal shutdown latch (R224) and THM_LAST.CAUSE. -/
  thmLatch : Bool := false
  thmLast : Nat := 0
  testHigh : Bool := false
  /-- Off was entered by the Off command, so that it is not left while VIO stays (R602). -/
  offCmd : Bool := false
  /-- The flush of step 6 of Table 05-6 runs: no check of step 5 failed. -/
  flushRuns : Bool := false
  /-- How many lines the flush can have written at most, where the Ledger write window has closed in it (R148). -/
  flushCap : Option Nat := none
  /-- When the power-fail sequence began. -/
  failedAt : Nat := 0
  nrstLow : Bool := false
  /-- When the latest POR or BROWNOUT reset began, from which the device drives NRST low for 1 ms (R663). -/
  nrstFrom : Option Nat := some 0
  /-- BOOTSEL as step 1 of boot has sampled it (R661). -/
  bootsel : Bool := false
  /-- Writes held at the crossings to blocks whose clock step 14 of Table 03-2 starts (R636), oldest first: window, offset, word. -/
  crossing : List (Nat × Nat × Word) := []
  deriving DecidableEq, Repr

/-- A slot's state in the boot record (R81). -/
inductive SlotState where
  | empty | active | trial | inactive | rejected
  deriving DecidableEq, Repr

structure SlotRec where
  /-- A boot record never written gives a slot no state; it then counts as INACTIVE (log entry 11). -/
  state : SlotState := .inactive
  attempts : Nat := 0
  /-- Failure code kept with the slot (Table 03-7). -/
  code : Nat := 0
  deriving DecidableEq, Repr

/-- A reset record of the crash area (R78). -/
structure ResetRec where
  cause : BitVec 7
  primary : Nat
  time : Nat
  slot : Nat
  failA : Nat
  failB : Nat
  deriving DecidableEq, Repr

/-- Start-up: boot record, crash area, NOR and the SYS registers. (log 4: DESIGN CHOICE) -/
structure Boot where
  slotA : SlotRec := {}
  slotB : SlotRec := {}
  /-- The latest reset records, newest first, at most 16. -/
  crash : List ResetRec := []
  /-- The place in the crash area of the next reset record. -/
  crashPos : Nat := 0
  /-- NOR bytes that differ from 0xFF, by address, in canonical form. -/
  nor : List Host.Cell := []
  /-- The 4 KB erase opcode that SFDP reports, and the commands sent to the NOR by the latest boot or IMAGE_STAGE, in order, each
  with its bytes on one line (R82, R113). -/
  norErase : Byte := 0
  /-- The read mode that step 6 of boot chose (R82, R661). -/
  norRead : ReadMode := { lines := 0, mhz := 0 }
  norCmds : List (List Byte) := []
  /-- 0 slot A, 1 slot B, 3 none. -/
  slot : Nat := 3
  trial : Bool := false
  trialLeft : Nat := 0
  failA : Nat := 0
  failB : Nat := 0
  nodeHold : Bool := false
  enrolled : Bool := false
  sealDiff : Bool := false
  imgSeq : Nat := 0
  imgLevel : Nat := 0
  bootMs : Nat := 0
  /-- The Lodger that holds the staging session (R112). -/
  stager : Option (Fin 4) := none
  /-- What step 14 enables under the image: ports whose entry has EN, and the panel where its entry has ON. -/
  uartsOn : List Nat := []
  panelOn : Bool := false
  deriving DecidableEq, Repr

/-- INK_IRQ_ROUTE (Table 02-16) and the Innkeeper's place in the round robin of R54. -/
structure Ink where
  /-- The Lodger of each interrupt source, two bits each: bits [19:0]. -/
  route : Nat := 0
  rtcEn : Bool := false
  rtcFlag : Bool := false
  /-- The mailbox that the Innkeeper looks at first. -/
  mbxNext : Nat := 0
  deriving DecidableEq, Repr

end Sys2Proof.Machine
end

