-- ==== Sys2Proof/Machine/TypesPlant.lean ====
section
/-! DEFINITION. The state of the output block, the sense block, the thermal block, the loop engine and the fan drives. -/

namespace Sys2Proof.Machine

/-- An analog output (Table 10-7 at n × 0x10, R355, R363, R370). -/
structure AoOut where
  strokeMax : Nat := 120
  strokeUi : Nat := 0
  strokeEn : Bool := false
  rbTol : Nat := 5
  rb : Nat := 0
  /-- Consecutive measurements outside and inside the tolerance (R355). -/
  rbMiss : Nat := 0
  rbHit : Nat := 0
  rbErr : Bool := false
  overload : Bool := false
  overvolt : Bool := false
  strFlt : Bool := false
  /-- A stroke under measurement: opening, and its start. -/
  stroke : Option (Bool × Nat) := none
  strDir : Bool := false
  strokeCount : Nat := 0
  strokeLast : Nat := 0
  deriving DecidableEq, Repr

/-- A relay driver (Table 10-7 at 0x100 + n × 8). -/
structure DoOut where
  climok : Bool := false
  overcur : Bool := false
  openLoad : Bool := false
  latched : Bool := false
  retry : Nat := 0
  /-- Turned off after an overcurrent, until the retry (Table 10-5). -/
  driverOff : Bool := false
  cyc : Nat := 0
  deriving DecidableEq, Repr

/-- A heater output (R357): PERIOD, and the period length and on-time in force. -/
structure HtOut where
  period : Nat := 10
  inForce : Nat := 0
  onCycles : Nat := 0
  /-- When the period in progress began. -/
  startedAt : Nat := 0
  deriving DecidableEq, Repr

structure OutBlock where
  ao : Vector AoOut 8 := Vector.replicate 8 {}
  dos : Vector DoOut 12 := Vector.replicate 12 {}
  hts : Vector HtOut 4 := Vector.replicate 4 {}
  /-- FAULT, STROKE, STR_FLT, CFG_ERR (Table 10-8). -/
  int : BitVec 4 := 0
  intEn : BitVec 4 := 0
  /-- Fault detection and readback run (R372). -/
  running : Bool := false
  deriving DecidableEq, Repr

/-- A kind of sensor fault (Table 06-4). -/
inductive SensorFault where
  | range | selftest | neighbour
  deriving DecidableEq, Repr

/-- The thermal block (Tables 06-8 to 06-15). Temperatures named Tj are in 0.125 °C; levels are in °C. -/
structure Thm where
  tj : Int := 0
  /-- 0 diode, 1 estimate, 2 held reading. -/
  source : Nat := 0
  warnLevel : Nat := 125
  throttleLevel : Nat := 135
  shutdownLevel : Nat := 145
  warnHys : Nat := 5
  throttleHys : Nat := 5
  shutdownHys : Nat := 5
  crossCheck : Bool := false
  grace : Nat := 500
  boardEn : Bool := false
  boardUi : Nat := 0
  /-- A changed value of seal slot 14, which the next conversion takes (Table 12-4). -/
  boardNext : Option (List Byte) := none
  /-- A changed value of seal slot 8 that waits for the next conversion (R204). -/
  levelNext : Option (List Byte) := none
  boardLow : Int := -25
  boardHigh : Int := 65
  /-- The diode's latest reading, and the one held since a fault began (R219). -/
  reading : Int := 0
  held : Int := 0
  /-- The neighbour estimate, while a neighbour is available (R229). -/
  estimate : Option Int := none
  /-- Sensor faults that stand (R226). -/
  range : Bool := false
  selftest : Bool := false
  neighbour : Bool := false
  faultKind : Nat := 0
  comply : BitVec 4 := 0
  cfgBad : Bool := false
  ledgerWin : Bool := true
  dieWin : Bool := true
  boardWin : Bool := true
  warn : Bool := false
  /-- Throttle level entered; the request may wait for the Lodgers to start (R234). -/
  throttled : Bool := false
  thrReq : Bool := false
  thrEnf : Bool := false
  /-- The grace timer runs (R208). -/
  graceRuns : Bool := false
  /-- WIN, SENS, THR_END, THR_REQ, WARN from bit 4 down (Table 06-14). -/
  int : BitVec 5 := 0
  intEn : BitVec 5 := 0
  enfCnt : Nat := 0
  faultCnt : Nat := 0
  deriving DecidableEq, Repr

end Sys2Proof.Machine
end

