-- ==== Sys2Proof/Machine/TypesGroup.lean ====
section
/-! DEFINITION. The state of the Carder, Gridis, the group, keys and bookings. -/

namespace Sys2Proof.Machine

/-- STATE of a Carder channel (Table 13-8). -/
inductive DmaState where
  | idle | active | pausing | paused | halted | done
  deriving DecidableEq, Repr

/-- A read transaction of a channel, in flight or in the buffer (R442). -/
structure DmaRead where
  /-- Tag held until the last beat is in the buffer. -/
  tag : Option Nat
  /-- Address of the next beat to read. -/
  addr : Nat
  /-- Beats still to be read. -/
  left : Nat
  inc : Bool
  /-- Read from a side-effect source (R440). -/
  se : Bool
  /-- Beats read and not yet written, in order. -/
  got : List Word := []
  /-- The error that ends the channel after `got` is written: kind and address (R453). -/
  err : Option (Nat × Nat) := none
  /-- Its next beat met an error response and waits for a retry (R451). -/
  failed : Bool := false
  deriving DecidableEq, Repr

/-- A descriptor fetched and not yet loaded (R438). -/
structure DmaDesc where
  src : Nat
  dst : Nat
  next : Nat
  flags : Nat
  deriving DecidableEq, Repr

/-- A retry under way (R451). -/
inductive DmaBackoff where
  | none | read | write
  deriving DecidableEq, Repr

/-- One Carder channel (Table 13-8). -/
structure Chan where
  owner : Option (Fin 4) := none
  autostart : Bool := false
  resume : Bool := false
  /-- IE_DONE, IE_HALT, IE_PAUSE, IE_DESC from bit 0. -/
  ie : BitVec 4 := 0
  reqBlk : Nat := 0
  trig : Nat := 0
  se : Bool := false
  dstInc : Bool := false
  srcInc : Bool := false
  burst : Nat := 15
  retry : Nat := 3
  prio : Nat := 0
  src : Nat := 0
  dst : Nat := 0
  beats : Nat := 0
  desc : Nat := 0
  descs : Nat := 0
  st : DmaState := .idle
  holdPause : Bool := false
  holdMode : Bool := false
  holdOrphan : Bool := false
  errKind : Nat := 0
  orphan : Bool := false
  chainEnd : Bool := false
  reqOvr : Bool := false
  cfgErr : Bool := false
  wrIgn : Bool := false
  descEv : Bool := false
  pauseEv : Bool := false
  haltEv : Bool := false
  doneEv : Bool := false
  retries : Nat := 0
  lost : Nat := 0
  errAddr : Nat := 0
  /-- A held edge request (R436). -/
  req : Bool := false
  /-- Beats of the block in progress not yet issued (R435). -/
  blockLeft : Nat := 0
  /-- Beats of the transfer not yet issued to the read engine. -/
  readLeft : Nat := 0
  /-- Transactions in issue order. -/
  reads : List DmaRead := []
  next : Option DmaDesc := .none
  /-- The current descriptor carries IRQ (Table 13-2). -/
  irq : Bool := false
  backoff : DmaBackoff := .none
  /-- A drain that ends in IDLE (R459). -/
  stopping : Bool := false
  deriving DecidableEq, Repr

structure Carder where
  chans : Vector Chan 24 := Vector.replicate 24 {}
  nonOwner : Nat := 0
  lost : Nat := 0
  /-- Channels in the order in which the read and the write engine look at them (R445). -/
  readOrder : List Nat := List.range 24
  writeOrder : List Nat := List.range 24
  deriving DecidableEq, Repr

/-! ### The image as the running device keeps it (R91 to R99) -/

/-- A NODE entry (Table 14-3). -/
structure NodeEntry where
  node : Nat
  seg : Nat
  bridge : Bool
  bseg : Nat
  cabinet : Nat
  deriving DecidableEq, Repr

/-- A KEYMAP entry (R505), its LEASE resolved against the GROUPTIME default. -/
structure KeyEntry where
  key : Nat
  host : Nat
  resource : Nat
  lease : Nat
  deriving DecidableEq, Repr

/-- A BOOKCLASS entry (R506). -/
structure BookClass where
  bkind : Nat
  needsKey : Bool
  maxDur : Nat
  unit : Nat
  deriving DecidableEq, Repr

/-- A WEAR entry (R398), LIMIT and WINDOW resolved. -/
structure WearEntry where
  kind : Nat
  source : Nat
  flags : Nat
  window : Nat
  limit : Nat
  deriving DecidableEq, Repr

/-- A NEIGHBOUR entry (Table 06-5): KIND 1 board thermistor, 2 peer; OFFSET in 0.125 °C. -/
structure Neighbour where
  kind : Nat
  id : Nat
  offset : Int
  deriving DecidableEq, Repr

/-- The booted image: header, group part, and what of the node section is needed after boot. -/
structure Image where
  seq : Nat := 0
  level : Nat := 0
  keySlot : Nat := 0
  version : Nat := 0
  confirm : Nat := 60
  startMask : Nat := 0
  stageBuf : Nat := 0
  /-- The configuration digest, first byte most significant (R507). -/
  digest : Nat := 0
  /-- Node numbers that have a node section. -/
  sections : List Nat := []
  nodes : List NodeEntry := []
  keymap : List KeyEntry := []
  bookclass : List BookClass := []
  wear : List WearEntry := []
  neighbours : List Neighbour := []
  /-- Image copies of the seal slots (Table 12-4a). -/
  copies : List (Option (List Byte)) := []
  /-- Channels with a FAN entry, and the gate index of the CLIMOK output. -/
  fanChans : List Nat := []
  climok : Option Nat := none
  /-- GROUPTIME of the image (R503): SYSTEM, SLEW_PPM, EXT_VALID. -/
  system : Nat := 0
  slewPpm : Nat := 1000
  extValid : Nat := 3600
  deriving DecidableEq, Repr

/-! ### Gridis -/

/-- STATE of a CAN controller (Table 14-9). -/
inductive CanState where
  | active | passive | busoff | recover | off | stopped
  deriving DecidableEq, Repr

/-- A CAN frame with a 29-bit identifier. -/
structure Frame where
  id : Nat
  fd : Bool
  brs : Bool
  payload : List Byte
  deriving DecidableEq, Repr

/-- A frame waiting in a transmit buffer: the record that its sending ends (0: none), and the Lodger it came from. -/
structure TxFrame where
  frame : Frame
  journal : Nat := 0
  lodger : Option (Fin 4) := none
  /-- Sent only from the queue in which it was placed (R484). -/
  pinned : Bool := false
  /-- A record kept under R393, not sent yet on any controller: no heartbeat and no new must-deliver message goes before it (R500). -/
  kept : Bool := false
  deriving DecidableEq, Repr

/-- An entry of a receive FIFO (Table 14-14). -/
structure RxFrame where
  frame : Frame
  ts : Nat
  deriving DecidableEq, Repr

/-- A CAN controller (Table 14-13). -/
structure Can where
  st : CanState := .stopped
  txErr : Nat := 0
  rxErr : Nat := 0
  busoffCnt : Nat := 0
  /-- Times of completed recoveries within 3 600 s, latest first (R499). -/
  recoveries : List Nat := []
  rxOvr : Nat := 0
  holdoff : Nat := 10
  filters : Vector (Word × Word) 16 := Vector.replicate 16 (0, 0)
  /-- The 32 transmit buffers, in the order in which they were filled (R489). -/
  tx : List TxFrame := []
  /-- Innkeeper frames that wait for a buffer. -/
  backlog : List TxFrame := []
  /-- The forwarding queue towards this controller's segment (R474). -/
  fwd : List Frame := []
  rx : List RxFrame := []
  /-- GRD_TS at the start of the latest frame sent (R495). -/
  sentTs : Nat := 0
  deriving DecidableEq, Repr

/-- A present node and its latest heartbeat (Table 14-6). -/
structure Member where
  node : Nat
  origin : Nat
  digest : Nat
  version : Nat
  tj : Int
  flags : Nat
  /-- When it arrived, unless 300 ms have passed since (R228). -/
  heardAt : Option Nat := none
  deriving DecidableEq, Repr

/-- A SEQ accepted from a source and class, and when (R478). -/
structure DupEntry where
  src : Nat
  cls : Nat
  seq : Nat
  at_ : Nat
  deriving DecidableEq, Repr

/-- A Lodger's transmit mailbox (Table 14-15). -/
structure TxMbx where
  hdr : Word := 0
  opt : Word := 0
  data : Vector Word 15 := Vector.replicate 15 0
  seq : Nat := 0
  result : Nat := 0
  delivered : Bool := false
  overrun : Bool := false
  done : Bool := false
  busy : Bool := false
  /-- The frame that waits for buffers (R490), and the controllers it is for. -/
  waiting : Option (TxFrame × Nat) := none
  deriving DecidableEq, Repr

structure Grd where
  node : Nat := 0
  seg : Nat := 0
  bridge : Bool := false
  bseg : Nat := 0
  /-- FLAGS.BRS of the sealed timing (Table 14-2). -/
  brs : Bool := true
  timingBad : Bool := false
  clash : Bool := false
  lenErr : Nat := 0
  kindErr : Nat := 0
  std : Nat := 0
  fwdDrop : Nat := 0
  dup : Nat := 0
  /-- TRIP, MEMBER, BUSOFF, CTRL_OFF, RX_OVR from bit 0. -/
  int : BitVec 5 := 0
  intEn : BitVec 5 := 0
  reason : Nat := 0
  ownTrip : Bool := false
  /-- A controller has been BUSOFF or OFF since the own raise (R487). -/
  backup : Bool := false
  line : Bool := false
  /-- Nodes whose Trip stands, rising. -/
  trips : List Nat := []
  /-- Present nodes other than the own one, by node number. -/
  members : List Member := []
  /-- The latest heartbeat of every other node, present or absent, by node number (R514). -/
  latest : List Member := []
  /-- Next SEQ of each class (R477). -/
  seqs : Vector Nat 8 := Vector.replicate 8 0
  dups : List DupEntry := []
  cans : Vector Can 2 := Vector.replicate 2 {}
  txm : Vector TxMbx 4 := Vector.replicate 4 {}
  /-- Gridis has started (R500). -/
  started : Bool := false
  /-- GRD_TS (R495), 10 MHz. -/
  clock : Nat := 0
  /-- New must-deliver messages, held until the kept records have been sent (R393, R500): controllers and frame. -/
  deferred : List (List (Fin 2) × TxFrame) := []
  deriving DecidableEq, Repr

/-! ### Group, keys, bookings -/

/-- Membership state (Table 15-2). -/
inductive GrpState where
  | before | joining | inGroup | apart
  deriving DecidableEq, Repr

/-- A SYNC received and waiting for its FOLLOW: source, SEQ and the own coaching time at its timestamp, in µs. -/
structure SyncSeen where
  src : Nat
  seq : Nat
  clock : Nat
  deriving DecidableEq, Repr

structure Grp where
  st : GrpState := .before
  /-- DIGEST, VERSION, QUORUM, SCOPE from bit 0 (R511). -/
  cause : BitVec 4 := 0
  votes : Nat := 0
  voters : Nat := 0
  group : Option Nat := none
  refVersion : Nat := 0
  /-- Sealed scope (R504). -/
  system : Nat := 0
  segmask : Nat := 0
  quorum : Nat := 1
  /-- STATE, STEP, ON_TIME, MASTER from bit 0. -/
  int : BitVec 4 := 0
  intEn : BitVec 4 := 0
  /-- The coaching clock in µs since 2000-01-01 (R516), and GRP_TIME_US as last latched. -/
  clock : Nat := 0
  latchedUs : Nat := 0
  /-- Offset still to be slewed away, in µs, and the parts of a µs gained towards it (R521). -/
  slewLeft : Int := 0
  slewAcc : Nat := 0
  /-- The master under R517 at the latest evaluation, and the last one that there was. -/
  master : Option Nat := none
  lastMaster : Option Nat := none
  /-- The source of the own segment (R519), and the bridges between it and the master's segment. -/
  source : Option Nat := none
  tier : Nat := 0
  noSource : Bool := false
  mext : Bool := false
  ext : Bool := false
  onTime : Bool := false
  offset : Int := 0
  extS : Nat := 0
  extUs : Nat := 0
  steps : Nat := 0
  masterChg : Nat := 0
  apartCnt : Nat := 0
  sync : Option SyncSeen := none
  /-- When a FOLLOW within 250 ms was last accepted (R522). -/
  goodAt : Option Nat := none
  /-- FLAGS bit 1 of the latest FOLLOW: the master stepped. -/
  mstepped : Bool := false
  /-- When the own clock last stepped (FLAGS bit 1 of Table 15-3). -/
  steppedAt : Option Nat := none
  deriving DecidableEq, Repr

/-- A key that this device hosts and has granted (R529). -/
structure HostedKey where
  key : Nat
  holder : Nat
  epoch : Nat
  /-- When the lease was last granted or renewed (R532). -/
  since : Nat
  deriving DecidableEq, Repr

/-- A key that this device holds (R530). -/
structure HeldKey where
  key : Nat
  host : Nat
  epoch : Nat
  /-- When the grant or the last RENEWED arrived (R531). -/
  since : Nat
  /-- Lease in ms, from GRANT. -/
  lease : Nat
  /-- SEQ of the acquire record (0: none), and the Lodger that asked for the key. -/
  journal : Nat
  lodger : Nat
  deriving DecidableEq, Repr

/-- What a key step asks of the host. -/
inductive StepOp where
  | acquire | release | reclaim
  deriving DecidableEq, Repr

/-- A key step that waits for its answer (R528). -/
structure KeyStep where
  key : Nat
  host : Nat
  op : StepOp
  /-- EPOCH, CAUSE and ROP of its frame (Table 15-5). -/
  epoch : Nat := 0
  cause : Nat := 0
  rop : Nat := 0
  /-- SEQ of its own record and, for a release, of the acquire record (0: none). -/
  journal : Nat := 0
  acq : Nat := 0
  /-- The Lodger whose mailbox request it serves. -/
  mbx : Option (Fin 4) := none
  lodger : Nat := 4
  repeats : Nat := 0
  deriving DecidableEq, Repr

structure Keys where
  hosted : List HostedKey := []
  held : List HeldKey := []
  steps : List KeyStep := []
  /-- Kept KEY_STEP records still to be reclaimed, by SEQ in order (R393). -/
  reclaims : List Nat := []
  /-- Latest epoch of each key ever granted here (R529). -/
  epochs : List (Nat × Nat) := []
  query : Nat := 0
  expired : Nat := 0
  lost : Nat := 0
  reclaimOk : Nat := 0
  reclaimNo : Nat := 0
  /-- LOST, EXPIRED, RECLAIM from bit 0. -/
  int : BitVec 3 := 0
  intEn : BitVec 3 := 0
  /-- RESULT of each KEY_WRn_STAT. -/
  wrResult : Vector Nat 4 := Vector.replicate 4 0
  deriving DecidableEq, Repr

/-- STATE of a booking record: 0 empty, then the states of Table 15-8. -/
inductive BookState where
  | empty | planned | confirmed | withdrawn | ended | lapsed
  deriving DecidableEq, Repr

/-- A booking record, own or tracked (Table 15-6). -/
structure Booking where
  node : Nat := 0
  slot : Nat := 0
  state : BookState := .empty
  cause : Nat := 0
  serial : Nat := 0
  bkind : Nat := 0
  start : Nat := 0
  duration : Nat := 0
  key : Nat := 0
  value : Word := 0
  made : Nat := 0
  /-- Coaching seconds of the last change. -/
  changed : Nat := 0
  /-- Coaching seconds at which a tracked record entered its state (R544). -/
  entered : Nat := 0
  deriving DecidableEq, Repr

/-- A Lodger's booking registers (Table 15-17). -/
structure BookMbx where
  start : Word := 0
  dur : Word := 0
  key : Nat := 0xFFFF
  value : Word := 0
  slot : Nat := 0
  result : Nat := 0
  deriving DecidableEq, Repr

/-- A booking record whose readable words are held (R553): word offset of its base, the eight words, when the hold began. -/
structure BookHold where
  base : Nat
  words : List Word
  since : Nat
  deriving DecidableEq, Repr

structure Book where
  own : Vector Booking 32 := Vector.replicate 32 {}
  /-- Tracked records, oldest place first, at most 256. -/
  tracked : List Booking := []
  mbx : Vector BookMbx 4 := Vector.replicate 4 {}
  drop : Nat := 0
  retired : Nat := 0
  int : BitVec 5 := 0
  intEn : BitVec 5 := 0
  holds : List BookHold := []
  /-- Own bookings whose START passed while the device was down are judged when it reaches IN (R551). -/
  restore : Bool := false
  deriving DecidableEq, Repr

end Sys2Proof.Machine
end

