-- ==== Sys2Proof/Machine/TypesSense.lean ====
section
/-! DEFINITION. The state of the sense block (chapter "Sense inputs and field wiring"). -/

namespace Sys2Proof.Machine

/-- The flags of Table 07-3: OPEN, SHORT, OVER, REVERSED. -/
inductive UiFault where
  | open_ | short | over | reversed
  deriving DecidableEq, Repr

/-- What the result block shows of an input (R240): VAL and HLTH. -/
structure UiShown where
  val : Word := 0x7FC00000
  /-- Table 07-2, bits [7:1]. -/
  flags : BitVec 7 := 0
  valid : Bool := false
  seq : Nat := 0
  deriving DecidableEq, Repr

/-- A universal input. -/
structure UiIn where
  type : Nat := 0
  c0 : Word := 0
  c1 : Word := 0
  c2 : Word := 0
  /-- Flags of Table 07-3 that stand, and for each the consecutive conversions at which its condition did not hold (R246). -/
  faults : Vector Bool 4 := Vector.replicate 4 false
  clean : Vector Nat 4 := Vector.replicate 4 0
  com : Bool := false
  /-- Turned on in the present cycle: its visit may have passed idle (R237). -/
  woken : Bool := false
  /-- Swaps until SETTLE is cleared (R249). -/
  settle : Nat := 0
  seq : Nat := 0
  fltCnt : Nat := 0
  raw : Nat := 0
  /-- The latest converted value; a dry contact starts open. -/
  val : Word := 0
  /-- A conversion has been kept since the type was set or scanning started. -/
  has : Bool := false
  shown : UiShown := {}
  deriving DecidableEq, Repr

/-- An I²C sensor slot: its I2CSENS entry (Table 07-5) and its registers (Table 07-16). -/
structure I2cSlot where
  used : Bool := false
  addr : Nat := 0
  cmd : Nat := 0
  form : Nat := 0
  wait : Nat := 0
  period : Nat := 0
  seq : Nat := 0
  failCnt : Nat := 0
  crcErr : Bool := false
  timeout : Bool := false
  nack : Bool := false
  stale : Bool := false
  valid : Bool := false
  fails : Nat := 0
  data : List Byte := []
  /-- RAW held for a reader, and since when (R258). -/
  hold : Option (List Byte × Nat) := none
  deriving DecidableEq, Repr

/-- What an I²C bus does on its wires, in order (R254, R257). -/
inductive I2cSym where
  /-- SCL pulses that free SDA. -/
  | pulses (n : Nat)
  | start
  /-- A byte sent: the address with its direction bit, or a command byte. -/
  | byte (b : Byte)
  | stop
  | waitMs (n : Nat)
  /-- Bytes read, with NACK on the last. -/
  | read (len : Nat)
  deriving DecidableEq, Repr

/-- An I²C bus: the slot under way and its transaction, and the due slots that wait (R254, R255). -/
structure I2cBus where
  busy : Option Nat := none
  wire : List I2cSym := []
  due : List Nat := []
  stuck : Bool := false
  deriving DecidableEq, Repr

structure Sns where
  uis : Vector UiIn 16 := Vector.replicate 16 {}
  i2c : Vector I2cSlot 16 := Vector.replicate 16 {}
  buses : Vector I2cBus 2 := Vector.replicate 2 {}
  period : Nat := 10
  nightPeriod : Nat := 10
  fast0 : Bool := false
  fast1 : Bool := false
  i2cEn : Bool := true
  uiEn : Bool := true
  cycle : Nat := 0
  /-- UICOMk out of range. -/
  com : BitVec 4 := 0
  vaLow : Bool := false
  /-- Swaps until VA_LOW is cleared after VA_OK returned (R251). -/
  vaWin : Nat := 0
  /-- CYCLE, FAULT, DI_EDGE, I2C from bit 0. -/
  int : BitVec 4 := 0
  intEn : BitVec 4 := 0
  diState : BitVec 8 := 0
  diDeb : Vector Nat 8 := Vector.replicate 8 0
  diEdges : Vector Nat 8 := Vector.replicate 8 0
  cnt : Vector Nat 2 := Vector.replicate 2 0
  cntEdge : Vector Nat 2 := Vector.replicate 2 0
  /-- The next visit of each converter in its cycle, 8 after the last (R237). -/
  visit : Vector Nat 2 := Vector.replicate 2 0
  /-- The visit that was in progress when Standby began is still to be finished (R266). -/
  finishing : Vector Bool 2 := Vector.replicate 2 false
  /-- The result block is held since then, and a swap waits (R241). -/
  hold : Option Nat := none
  swapDue : Bool := false
  /-- Scanning has started (R265). -/
  running : Bool := false
  deriving DecidableEq, Repr

end Sys2Proof.Machine
end

