-- ==== Sys2Proof/Machine/TypesLoop.lean ====
section
/-! DEFINITION. The state of the loop engine (chapter "Loop engine"). -/

namespace Sys2Proof.Machine

/-- Slot states (Table 08-2). -/
inductive LoopSt where
  | off | track | closed | fallback
  deriving DecidableEq, Repr

/-- The nine words of a coefficient bank (Table 08-1). -/
abbrev Bank := Vector Word 9

/-- A loop slot: set-up fields under the names of Table 08-7, banks, and the state that R277 to R308 keep. -/
structure LoopSlot where
  en : Bool := false
  direct : Bool := false
  /-- FALLBACK of Table 08-5. -/
  fallback : Nat := 0
  /-- REGIONS − 1. -/
  regions : Nat := 0
  destKind : Nat := 0
  destId : Nat := 0
  div : Nat := 400
  ndiv : Nat := 400
  fbAddr : Nat := 0
  sp : Word := 0
  regAddr : Nat := 0
  reg : Word := 0
  t : Vector Word 3 := Vector.replicate 3 0
  hys : Word := 0
  destAddr : Nat := 0
  schedAddr : Nat := 0
  staleN : Nat := 0
  goodK : Nat := 0
  frzTime : Nat := 0
  frzBand : Word := 0
  frzDu : Word := 0
  fbFirst : Nat := 0
  fbCount : Nat := 0
  banks : Vector Bank 4 := Vector.replicate 4 (Vector.replicate 9 0)
  stg : Bank := Vector.replicate 9 0
  view : Nat := 0
  bank : Nat := 0
  pend : Bool := false
  st : LoopSt := .off
  region : Nat := 0
  /-- RANGE, STALE, FREEZE, MEMORY, NUM_BAD, SCHED_BAD from bit 0. -/
  cause : BitVec 6 := 0
  goodrun : Nat := 0
  stale : Nat := 0
  /-- SEQ at the last new sample. -/
  lastSeq : Option Nat := none
  /-- Freeze timer in ticks of 250 µs, y_ref and u_ref (R300). -/
  frz : Nat := 0
  yRef : Word := 0
  uRef : Word := 0
  /-- After a FREEZE fault, until y moves (R301). -/
  frzWait : Bool := false
  out : Word := 0
  integ : Word := 0
  dPrev : Word := 0
  vPrev : Word := 0
  uPrev : Word := 0
  /-- Flags for the next sample (R278). -/
  restart : Bool := false
  realign : Bool := false
  limited : Bool := false
  /-- At its last sample the slot was not CLOSED, or was limited (R282); a slot not sampled yet counts as not CLOSED. (log 169:
  DESIGN CHOICE) -/
  heldOuter : Bool := true
  /-- A write to DEST_ADDR failed at the last sample. -/
  destBad : Bool := false
  wseq : Nat := 0
  usedSeq : Nat := 0
  left : Nat := 0
  grpOvr : Bool := false
  commitErr : Bool := false
  cfgErr : Bool := false
  mixed : Bool := false
  badCnt : Nat := 0
  mixCnt : Nat := 0
  faults : Nat := 0
  /-- The slot has set cause FEEDBACK on its output. -/
  fbSet : Bool := false
  /-- Ticks to the next sample (R269). -/
  due : Nat := 0
  deriving DecidableEq, Repr

structure Loops where
  slots : Vector LoopSlot 48 := Vector.replicate 48 {}
  /-- The FALLBACK points (X, U) of the image. -/
  points : List (Word × Word) := []
  evt : BitVec 48 := 0
  evtEn : BitVec 48 := 0
  late : Nat := 0
  running : Bool := false
  deriving DecidableEq, Repr

end Sys2Proof.Machine
end

