-- ==== Sys2Proof/Machine/TypesFan.lean ====
section
/-! DEFINITION. The state of the fan channels and of the wear block with its seals. -/

namespace Sys2Proof.Machine

/-- STATE of a fan channel (Table 09-7). The precharge of Table 09-5a shows as CATCH. -/
inductive FanSt where
  | off | catch_ | precharge | brake | align | openloop | run | wait | latched
  deriving DecidableEq, Repr

/-- The registers from FANn_PWM to FANn_STALLRPM, which are shadowed (R337). -/
structure FanCfg where
  pwmKhz : Nat := 25
  dead : Nat := 50
  handover : Nat := 0
  alignDuty : Nat := 0
  align : Nat := 0
  skipRate : Nat := 0
  minRpm : Nat := 0
  rampDn : Nat := 0
  rampUp : Nat := 0
  rstWin : Nat := 0
  rstWait : Nat := 0
  stallTime : Nat := 0
  kp : Word := 0
  ki : Word := 0
  /-- LO and HI of the four skip bands. -/
  skips : Vector (Nat × Nat) 4 := Vector.replicate 4 (0, 0)
  stallRpm : Nat := 0
  deriving DecidableEq, Repr

/-- The sealed motor data (seal slot 9). -/
structure FanMotor where
  poles : Nat := 0
  reverse : Bool := false
  ilim : Nat := 0
  shunt : Nat := 0
  deriving DecidableEq, Repr

/-- A baseline point: RPM, CUR in mA, DUTY in 0.1 % (Table 12-2). -/
structure BasePoint where
  rpm : Nat := 0
  cur : Nat := 0
  duty : Nat := 0
  deriving DecidableEq, Repr

/-- What a change of the Hall code is (R318, R348). -/
inductive HallStep where
  /-- A step in sequence, along DIR. -/
  | along
  /-- A step in sequence, against DIR. -/
  | against
  | outOfSequence
  /-- Code 0b000 or 0b111. -/
  | invalid
  /-- The first valid code after none: a position, and no step. -/
  | position
  deriving DecidableEq, Repr

/-- The sums of a sweep's bin: samples, and the in-phase and quadrature parts at the orders 1, 2 and BLADES (R334). -/
structure Spectral where
  n : Nat := 0
  one : Int × Int := (0, 0)
  two : Int × Int := (0, 0)
  blade : Int × Int := (0, 0)
  deriving DecidableEq, Repr

/-- A baseline capture or a resonance sweep under way (R329, R333). -/
inductive FanTask where
  | none
  /-- The point under capture, and the points already averaged: index, CUR, DUTY. -/
  | base (k : Nat) (got : List (Nat × Nat × Nat))
  /-- The stage of the sweep, 1 to 3. -/
  | sweep (stage : Nat)
  deriving DecidableEq, Repr

/-- A fan channel. -/
structure Fan where
  en : Bool := false
  direct : Bool := false
  hall : Bool := false
  hallFb : Bool := false
  revFix : Bool := false
  shadowHold : Bool := false
  /-- Set-up as written, and as in force since a PWM period boundary. -/
  shadow : FanCfg := {}
  cfg : FanCfg := {}
  /-- The sealed motor data, and as in force (R338). -/
  sealed : FanMotor := {}
  motor : FanMotor := {}
  st : FanSt := .off
  attempt : Nat := 0
  /-- A restart attempt runs (R342), or the next start is one (Table 09-3). -/
  attempting : Bool := false
  nextAttempt : Bool := false
  revSwap : Bool := false
  vgdWait : Bool := false
  noBase : Bool := false
  baseErr : Bool := false
  cfgErr : Bool := false
  clamped : Bool := false
  /-- The current limit acted in this PWM period, and in the last one (R315). -/
  ilimNow : Bool := false
  ilimLast : Bool := false
  lock : Bool := false
  /-- A fault was raised in this PWM period (Table 09-3). -/
  faultNow : Bool := false
  /-- Consecutive zero crossings or Hall steps, their latest six intervals in ns, and Hall steps against DIR in a row. -/
  crossings : Nat := 0
  intervals : List Nat := []
  against : Nat := 0
  /-- The Hall inputs. -/
  hallCode : BitVec 3 := 0
  /-- The channel continues sensorless after a Hall fault (R318). -/
  hallLost : Bool := false
  /-- STALL, SHORT, OPEN, REVERSED, HALL from bit 0. -/
  kinds : BitVec 5 := 0
  cause : Nat := 0
  /-- n_ref in thousandths of an rpm. -/
  nref : Nat := 0
  meas : Nat := 0
  cur : Nat := 0
  /-- The last 100 ms, newest first: sum of the squared phase currents in µA², and number of samples (R328). -/
  squares : List (Nat × Nat) := []
  /-- The duty applied, and the integrator of R321, binary32. -/
  duty : Word := 0
  integ : Word := 0
  dmiValid : Bool := false
  dmiAged : Bool := false
  dmiPoint : Nat := 0
  dmiValue : Nat := 0
  runs : Nat := 0
  starts : Nat := 0
  base : Vector BasePoint 8 := Vector.replicate 8 {}
  /-- For each point, ms for which the conditions of R330 have held, and the sum of CUR over them. -/
  steady : Vector (Nat × Nat) 8 := Vector.replicate 8 (0, 0)
  task : FanTask := .none
  /-- ms at a capture's present point, and the sums of CUR and of the duty, in 2 ^ -149, over its averaging time (R329). -/
  taskMs : Nat := 0
  accCur : Nat := 0
  accDuty : Nat := 0
  mapHi : Nat := 0
  mapLo : Nat := 0
  blades : Nat := 0
  thr : Nat := 30
  mapRate : Nat := 20
  mapErr : Bool := false
  mapDone : Bool := false
  bin : Nat := 0
  /-- The rotor's angle in a sweep, in 2 ^ -32 turns, and the sums of the 64 bins (R334). -/
  angle : Nat := 0
  spec : List Spectral := []
  props : List (Nat × Nat) := []
  map_ : List Nat := []
  deriving DecidableEq, Repr

/-! ### Wear and seals -/

/-- STATUS of a prediction (Table 12-11). -/
inductive PredStatus where
  | none | predicting | notApproaching | reached
  deriving DecidableEq, Repr

/-- A point of an indicator's ring (Table 12-2). -/
structure WearPoint where
  day : Nat
  count : Nat
  value : Word
  deriving DecidableEq, Repr

/-- An indicator of the wear block. -/
structure Indicator where
  /-- Sum and number of the samples since the last nightly update (R407). -/
  sum : Nat := 0
  samples : Nat := 0
  /-- Day values since the last point or the start of the history, binary32 (R408). -/
  days : List Word := []
  /-- Day number at which the history started. -/
  start : Option Nat := Option.none
  /-- Oldest first, at most 52, and the ring's next position. -/
  points : List WearPoint := []
  pos : Nat := 0
  /-- KIND, SOURCE and FLAGS that the indicator's header holds (R411). -/
  header : Option (Nat × Nat × Nat) := Option.none
  status : PredStatus := .none
  warn : Bool := false
  reached : Bool := false
  daysLeft : Nat := 0xFFFF
  lo : Nat := 0xFFFF
  hi : Nat := 0xFFFF
  deriving DecidableEq, Repr

/-- The hold-up test (Table 12-3): not running, or running with the day number of its update. -/
structure Wear where
  warnDays : Nat := 90
  holdEn : Bool := true
  nightTime : Nat := 7200
  holdDay : Nat := 0
  holdResult : Nat := 0
  esr : Nat := 0
  cap : Nat := 0
  shift : Nat := 0
  /-- SHIFT of the die measurement of the update under way, which follows the hold-up test (R406). -/
  shiftNext : Nat := 0
  /-- Update done, WARN, REACHED, HOLD from bit 0. -/
  int : BitVec 4 := 0
  intEn : BitVec 4 := 0
  inds : Vector Indicator 32 := Vector.replicate 32 {}
  /-- For each indicator, the header lines issued, newest first, down to the one in the cells, with the indicator as each holds it. -/
  headers : Vector (List (Line × Indicator)) 32 := Vector.replicate 32 []
  /-- The hold-up test runs. -/
  testing : Bool := false
  /-- WEAR_BL.SECONDS. -/
  blSeconds : Nat := 0
  /-- The Innkeeper's retained copies of the counter lines and block counters (R404): 40 counters, 128 blocks. -/
  copies : List Nat := []
  blockCopies : List Nat := []
  deriving DecidableEq, Repr

/-- A seal slot as the SEAL registers and the rules see it. -/
structure SealSlot where
  written : Bool := false
  /-- The header reads with a valid CRC (R427). -/
  headerOk : Bool := false
  broken : Bool := false
  diff : Bool := false
  repaired : Bool := false
  bank : Nat := 0
  changes : Nat := 0
  vcrc : Nat := 0
  timeS : Nat := 0
  firstS : Nat := 0
  /-- The value in force. -/
  value : List Byte := []
  deriving DecidableEq, Repr

/-- A seal change being collected, or committed and on its way to the bank (R420, R422). -/
structure SealChange where
  slot : Fin 16
  expect : Nat
  len : Nat
  bytes : List Byte
  /-- SEQ of the service request that asked for it. -/
  reqSeq : Nat := 0
  /-- The slot as it will stand and its header line, once the header has been issued (Table 12-7, step 3). -/
  sent : Option (SealSlot × Line) := none
  deriving DecidableEq, Repr

structure Seals where
  slots : Vector SealSlot 16 := Vector.replicate 16 {}
  /-- The slots as this boot found or filled them, which decide where a change acts only at the next boot (Table 12-4). -/
  boot : Vector SealSlot 16 := Vector.replicate 16 {}
  collect : Option SealChange := none
  commit : Option SealChange := none
  /-- The INK_REQUEST reset that ends a repair or the node hold waits for the reply (R427, R106, Table 12-7 step 5). -/
  resetDue : Bool := false
  deriving DecidableEq, Repr

end Sys2Proof.Machine
end

