-- ==== Sys2Proof/Machine/TypesPort.lean ====
section
/-! DEFINITION. The state of the serial ports, the optical service port and the panel driver. -/

namespace Sys2Proof.Machine

/-! ### Serial ports -/

/-- A port's format and polarity mode, which are shadowed (R570). -/
structure UartCfg where
  deLag : Nat := 0
  deLead : Nat := 0
  stop2 : Bool := false
  parity : Nat := 0
  data8 : Bool := true
  div : Nat := 1667
  polMode : Nat := 0
  deriving DecidableEq, Repr

/-- A receive entry (Table 16-4 at +0x00). -/
structure UartChar where
  gap : Nat
  brk : Bool
  noise : Bool
  fe : Bool
  pe : Bool
  data : Nat
  deriving DecidableEq, Repr

/-- A character being received: its GAP, and whether it is to be discarded (R564, Table 16-2). -/
structure UartRx where
  gap : Nat
  discard : Bool
  /-- It began before the port was enabled last. -/
  before : Bool := false
  deriving DecidableEq, Repr

/-- A serial port. -/
structure Uart where
  en : Bool := false
  rxEn : Bool := false
  txEn : Bool := false
  rxWhileTx : Bool := false
  /-- As written, and as in force on each side. -/
  cfg : UartCfg := {}
  txCfg : UartCfg := {}
  rxCfg : UartCfg := {}
  pendTx : Bool := false
  pendRx : Bool := false
  /-- Oldest first. -/
  rx : List UartChar := []
  tx : List Nat := []
  /-- The character in the shift register. -/
  shift : Option Nat := none
  /-- The character being received. -/
  busy : Option UartRx := none
  /-- The receiver runs: EN, until the boundary after EN is cleared. -/
  rxOn : Bool := false
  /-- No character that began since the port was enabled has been received. -/
  first : Bool := true
  /-- The port has been enabled since the last whole-device reset (R575). -/
  opened : Bool := false
  /-- A silence is under way whose IDLE has not been raised yet. -/
  quiet : Bool := false
  idle : Bool := false
  de : Bool := false
  invTx : Bool := false
  invRx : Bool := false
  /-- A flip that a side has not taken yet (R567). -/
  flipTx : Bool := false
  flipRx : Bool := false
  lock : Bool := false
  invVotes : Nat := 0
  normVotes : Nat := 0
  /-- IDLE, RX_OVR, TX_OVR, ERR, POL_FLIP, TX_DONE, CFG_ERR, OWNER_RST from bit 0. -/
  int : BitVec 8 := 0
  intEn : BitVec 8 := 0
  errCnt : Nat := 0
  ovrCnt : Nat := 0
  rxts : Nat := 0
  rxlvl : Nat := 1
  txlvl : Nat := 1
  flips : Nat := 0
  /-- The Lodger that the set-up names; none on a port without one. -/
  owner : Option Nat := none
  deriving DecidableEq, Repr

structure Uarts where
  ports : Vector Uart 3 := Vector.replicate 3 {}
  /-- UART_NOW (R562). -/
  clock : Nat := 0
  deriving DecidableEq, Repr

/-! ### Service port -/

/-- A Palnyx frame (Table 17-1) without its preamble, sync and CRC. -/
structure Palnyx where
  type : Nat
  seq : Nat
  session : Nat
  payload : List Byte
  deriving DecidableEq, Repr

/-- STATE of SVC_STAT. -/
inductive SvcSt where
  | closed | opening | open_
  deriving DecidableEq, Repr

structure Svc where
  st : SvcSt := .closed
  session : Nat := 0
  role : Nat := 0
  /-- The number of the latest session (R594). -/
  prev : Nat := 0
  challenge : List Byte := []
  /-- The sealed node number and the keys of seal slots 11 and 10 as they stood when the session opened (Table 12-4); an empty
  key is absent. -/
  node : Nat := 0
  techKey : List Byte := []
  inspKey : List Byte := []
  /-- The previous accepted request's SEQ and its reply (R585). -/
  lastSeq : Option Nat := none
  lastReply : Option Palnyx := none
  /-- Frames that wait for the line to be free (R584), oldest first, and the frame sent last. -/
  out : List Palnyx := []
  sent : Option Palnyx := none
  /-- When the frame sent last was begun. -/
  sentAt : Nat := 0
  /-- The reply to the accepted CLOSE: the session closes when it has been sent (R597). -/
  closing : Option Palnyx := none
  /-- What waits for a seal commit to end (Table 17-4): the replies to accepted CLOSEs, oldest first; a phrase. -/
  closeWait : List Palnyx := []
  phraseWait : Bool := false
  /-- The wake detector's partial phrase: the half bits received since the last acceptance, at most two copies, oldest first
  (R591, R592). -/
  halves : List Bool := []
  /-- When the latest of them ended. -/
  halvesAt : Nat := 0
  /-- When HELLO was sent, when the last frame was accepted, when a flood began, when the lockout began. -/
  helloAt : Nat := 0
  frameAt : Nat := 0
  floodAt : Nat := 0
  /-- When the latest flood ended (R603). -/
  floodEnd : Option Nat := none
  lockAt : Nat := 0
  offAt : Nat := 0
  /-- Failed AUTHs in this session. -/
  fails : Nat := 0
  lockout : Bool := false
  flood : Bool := false
  ambient : Nat := 0
  idleS : Nat := 60
  noise : Nat := 50
  ledMa : Nat := 4
  owner : Nat := 0
  /-- OPEN, CLOSE, APP_RX, FLOOD from bit 0. -/
  int : BitVec 4 := 0
  intEn : BitVec 4 := 0
  floodCnt : Nat := 0
  phrases : Nat := 0
  crcErr : Nat := 0
  lenErr : Nat := 0
  authFail : Nat := 0
  /-- A pending APP exchange: its SEQ, its owner and when it began. -/
  app : Option (Nat × Nat × Nat) := none
  appRxLen : Nat := 0
  appRx : List Byte := List.replicate 96 0
  appTx : Vector Word 24 := Vector.replicate 24 0
  deriving DecidableEq, Repr

/-! ### Panel -/

/-- What takes effect at a VS (R617). -/
structure PnlTiming where
  pclk : Nat := 64
  hact : Nat := 320
  vact : Nat := 240
  hfp : Nat := 20
  hsw : Nat := 8
  hbp : Nat := 60
  vfp : Nat := 4
  vsw : Nat := 2
  vbp : Nat := 16
  odEn : Bool := false
  black15 : Bool := false
  hsPol : Bool := false
  vsPol : Bool := false
  deriving DecidableEq, Repr

/-- STATE of PNL_STAT. -/
inductive PnlSt where
  | off | rails | black | live | down | held
  deriving DecidableEq, Repr

structure Pnl where
  on : Bool := false
  tempEn : Bool := false
  shadow : PnlTiming := {}
  cfg : PnlTiming := {}
  tempUi : Nat := 0
  temps : Vector Int 3 := Vector.replicate 3 0
  duty : Nat := 0
  /-- The backlight is lit. -/
  lit : Bool := false
  lim : Nat := 0
  ohms : Nat := 0
  crack : Bool := false
  /-- Consecutive measurements above, and at or below, the limit. -/
  crkHigh : Nat := 0
  crkLow : Nat := 0
  railFlt : Bool := false
  fltRail : Nat := 0
  good : BitVec 3 := 0
  /-- The band in force, and the one that the next VS takes. -/
  band : Nat := 1
  bandNext : Nat := 1
  st : PnlSt := .off
  /-- Place in the rail sequence (0 to 2), and whether its enable has been driven. -/
  step : Nat := 0
  driven : Bool := false
  /-- Rails enabled, in the order of their enables. -/
  rails : List Nat := []
  rst : Bool := false
  /-- Line of the frame, from the active edge of VS, and whether the timing runs. -/
  timing : Bool := false
  line : Nat := 0
  /-- Line requests are raised (R610); RESYNC has been written (R621). -/
  requests : Bool := false
  resync : Bool := false
  /-- ON was written from 0 to 1 while a power-down ran. -/
  again : Bool := false
  /-- VS, UNDERRUN, CRACK, RAIL, STATE, GEOM, CFG_ERR from bit 0. -/
  int : BitVec 7 := 0
  intEn : BitVec 7 := 0
  underruns : Nat := 0
  railFaults : Nat := 0
  /-- The line FIFO, oldest first, at most 160 words. -/
  fifo : List Word := []
  /-- The levels on PNL_D0 to PNL_D3 in the line in progress, pixel 0 first; none outside the active lines. -/
  drive : List (BitVec 4) := []
  od : List Byte := List.replicate 1024 0
  /-- Seal slot 13, and the rail sequence that the latest power-up took. -/
  railseq : List Byte := List.replicate 16 0
  inForce : List Byte := List.replicate 16 0
  owner : Nat := 0
  /-- THM_STAT.THR_ENF as it stood when the PNL domain's clock stopped last (R636). -/
  thrSeen : Bool := false
  /-- Writes held at the crossing while the PNL domain is stopped, in order: offset and value (R636). -/
  crossing : List (Nat × Word) := []
  deriving DecidableEq, Repr

end Sys2Proof.Machine
end

