-- ==== Sys2Proof/Machine/State.lean ====
section
/-! DEFINITION. The state of the block as plain data, its stops, and State.reset. -/

namespace Sys2Proof.Machine

/-- The WIS4800: everything the spec gives it to hold, and the queue of waiting commands. -/
structure State where
  /-- Time in µs since the model began (log entry 1). -/
  now : Nat
  /-- How many free values have been drawn: the model's own field (log entry 6). -/
  draws : Nat
  /-- Commands that wait, first in, first out. -/
  pending : List Sys2Proof.Instr
  /-- The answer to the last access. -/
  bus : Bus
  /-- Clocks, supplies, modes, reset causes and the Night Porter. -/
  power : Power
  /-- Start-up, boot record, NOR and the SYS registers. -/
  boot : Boot
  /-- The booted image. -/
  image : Option Image
  /-- Main SRAM. -/
  sram : Sram
  /-- The MEM status registers and the scrubber. -/
  mem : MemRegs
  /-- The Ledger and its write buffer. -/
  ledger : Ledger
  /-- The Waybill. -/
  wbl : Waybill
  /-- The output gate. -/
  gate : Gate
  /-- The four Lodgers with their mailboxes and watchdogs. -/
  lodgers : Vector Lodger 4
  /-- Interrupt routes and the round robin of the mailboxes. -/
  ink : Ink
  /-- The thermal block. -/
  thm : Thm
  /-- The output block. -/
  out : OutBlock
  /-- The Carder. -/
  carder : Carder
  /-- Gridis. -/
  grd : Grd
  /-- Membership, the digest vote and the coaching clock. -/
  grp : Grp
  /-- Keys hosted and held. -/
  keys : Keys
  /-- Bookings. -/
  book : Book
  /-- The sense block. -/
  sns : Sns
  /-- The loop engine. -/
  loops : Loops
  /-- The fan channels. -/
  fans : Vector Fan 6
  /-- The wear block. -/
  wear : Wear
  /-- The seal slots and a change in progress. -/
  seals : Seals
  /-- The serial ports. -/
  uarts : Uarts
  /-- The service port. -/
  svc : Svc
  /-- The panel driver. -/
  pnl : Pnl
  deriving DecidableEq, Repr

/-- Reasons to stop with a fault: the spec gives the block none, so none is ever raised (safe: there is nothing to raise). -/
inductive Fault where
  deriving DecidableEq, Repr

/-- Reasons to refuse a command. -/
inductive Refusal where
  /-- Raised by an arm of exec whose command has no meaning yet (safe: nothing is claimed of it). -/
  | notModelled (mnemonic : String)
  deriving DecidableEq, Repr

/-- The device just after power was applied: a POR is latched and boot has not run (R18, R70). Every register has the
reset value of its table; what the spec gives no reset value has the value of log entry 4. -/
def State.reset : State where
  now := 0
  draws := 0
  pending := []
  bus := {}
  power := {}
  boot := {}
  image := none
  sram := {}
  mem := {}
  ledger := {}
  wbl := {}
  gate := {}
  lodgers := Vector.replicate 4 {}
  ink := {}
  thm := {}
  out := {}
  carder := {}
  grd := {}
  grp := {}
  keys := {}
  book := {}
  sns := {}
  loops := {}
  fans := Vector.replicate 6 {}
  wear := {}
  seals := {}
  uarts := {}
  svc := {}
  pnl := {}

/-- The state with `now` changed by `f`. -/
def State.mapNow (s : State) (f : Nat → Nat) : State := ⟨f s.now, s.draws, s.pending, s.bus, s.power, s.boot, s.image, s.sram, s.mem, s.ledger, s.wbl, s.gate, s.lodgers, s.ink, s.thm, s.out, s.carder, s.grd, s.grp, s.keys, s.book, s.sns, s.loops, s.fans, s.wear, s.seals, s.uarts, s.svc, s.pnl⟩
/-- The state with `draws` changed by `f`. -/
def State.mapDraws (s : State) (f : Nat → Nat) : State := ⟨s.now, f s.draws, s.pending, s.bus, s.power, s.boot, s.image, s.sram, s.mem, s.ledger, s.wbl, s.gate, s.lodgers, s.ink, s.thm, s.out, s.carder, s.grd, s.grp, s.keys, s.book, s.sns, s.loops, s.fans, s.wear, s.seals, s.uarts, s.svc, s.pnl⟩
/-- The state with `bus` changed by `f`. -/
def State.mapBus (s : State) (f : Bus → Bus) : State := ⟨s.now, s.draws, s.pending, f s.bus, s.power, s.boot, s.image, s.sram, s.mem, s.ledger, s.wbl, s.gate, s.lodgers, s.ink, s.thm, s.out, s.carder, s.grd, s.grp, s.keys, s.book, s.sns, s.loops, s.fans, s.wear, s.seals, s.uarts, s.svc, s.pnl⟩
/-- The state with `power` changed by `f`. -/
def State.mapPower (s : State) (f : Power → Power) : State := ⟨s.now, s.draws, s.pending, s.bus, f s.power, s.boot, s.image, s.sram, s.mem, s.ledger, s.wbl, s.gate, s.lodgers, s.ink, s.thm, s.out, s.carder, s.grd, s.grp, s.keys, s.book, s.sns, s.loops, s.fans, s.wear, s.seals, s.uarts, s.svc, s.pnl⟩
/-- The state with `boot` changed by `f`. -/
def State.mapBoot (s : State) (f : Boot → Boot) : State := ⟨s.now, s.draws, s.pending, s.bus, s.power, f s.boot, s.image, s.sram, s.mem, s.ledger, s.wbl, s.gate, s.lodgers, s.ink, s.thm, s.out, s.carder, s.grd, s.grp, s.keys, s.book, s.sns, s.loops, s.fans, s.wear, s.seals, s.uarts, s.svc, s.pnl⟩
/-- The state with `image` changed by `f`. -/
def State.mapImage (s : State) (f : Option Image → Option Image) : State := ⟨s.now, s.draws, s.pending, s.bus, s.power, s.boot, f s.image, s.sram, s.mem, s.ledger, s.wbl, s.gate, s.lodgers, s.ink, s.thm, s.out, s.carder, s.grd, s.grp, s.keys, s.book, s.sns, s.loops, s.fans, s.wear, s.seals, s.uarts, s.svc, s.pnl⟩
/-- The state with `sram` changed by `f`. -/
def State.mapSram (s : State) (f : Sram → Sram) : State := ⟨s.now, s.draws, s.pending, s.bus, s.power, s.boot, s.image, f s.sram, s.mem, s.ledger, s.wbl, s.gate, s.lodgers, s.ink, s.thm, s.out, s.carder, s.grd, s.grp, s.keys, s.book, s.sns, s.loops, s.fans, s.wear, s.seals, s.uarts, s.svc, s.pnl⟩
/-- The state with `mem` changed by `f`. -/
def State.mapMem (s : State) (f : MemRegs → MemRegs) : State := ⟨s.now, s.draws, s.pending, s.bus, s.power, s.boot, s.image, s.sram, f s.mem, s.ledger, s.wbl, s.gate, s.lodgers, s.ink, s.thm, s.out, s.carder, s.grd, s.grp, s.keys, s.book, s.sns, s.loops, s.fans, s.wear, s.seals, s.uarts, s.svc, s.pnl⟩
/-- The state with `ledger` changed by `f`. -/
def State.mapLedger (s : State) (f : Ledger → Ledger) : State := ⟨s.now, s.draws, s.pending, s.bus, s.power, s.boot, s.image, s.sram, s.mem, f s.ledger, s.wbl, s.gate, s.lodgers, s.ink, s.thm, s.out, s.carder, s.grd, s.grp, s.keys, s.book, s.sns, s.loops, s.fans, s.wear, s.seals, s.uarts, s.svc, s.pnl⟩
/-- The state with `wbl` changed by `f`. -/
def State.mapWbl (s : State) (f : Waybill → Waybill) : State := ⟨s.now, s.draws, s.pending, s.bus, s.power, s.boot, s.image, s.sram, s.mem, s.ledger, f s.wbl, s.gate, s.lodgers, s.ink, s.thm, s.out, s.carder, s.grd, s.grp, s.keys, s.book, s.sns, s.loops, s.fans, s.wear, s.seals, s.uarts, s.svc, s.pnl⟩
/-- The state with `gate` changed by `f`. -/
def State.mapGate (s : State) (f : Gate → Gate) : State := ⟨s.now, s.draws, s.pending, s.bus, s.power, s.boot, s.image, s.sram, s.mem, s.ledger, s.wbl, f s.gate, s.lodgers, s.ink, s.thm, s.out, s.carder, s.grd, s.grp, s.keys, s.book, s.sns, s.loops, s.fans, s.wear, s.seals, s.uarts, s.svc, s.pnl⟩
/-- The state with `lodgers` changed by `f`. -/
def State.mapLodgers (s : State) (f : Vector Lodger 4 → Vector Lodger 4) : State := ⟨s.now, s.draws, s.pending, s.bus, s.power, s.boot, s.image, s.sram, s.mem, s.ledger, s.wbl, s.gate, f s.lodgers, s.ink, s.thm, s.out, s.carder, s.grd, s.grp, s.keys, s.book, s.sns, s.loops, s.fans, s.wear, s.seals, s.uarts, s.svc, s.pnl⟩
/-- The state with `ink` changed by `f`. -/
def State.mapInk (s : State) (f : Ink → Ink) : State := ⟨s.now, s.draws, s.pending, s.bus, s.power, s.boot, s.image, s.sram, s.mem, s.ledger, s.wbl, s.gate, s.lodgers, f s.ink, s.thm, s.out, s.carder, s.grd, s.grp, s.keys, s.book, s.sns, s.loops, s.fans, s.wear, s.seals, s.uarts, s.svc, s.pnl⟩
/-- The state with `thm` changed by `f`. -/
def State.mapThm (s : State) (f : Thm → Thm) : State := ⟨s.now, s.draws, s.pending, s.bus, s.power, s.boot, s.image, s.sram, s.mem, s.ledger, s.wbl, s.gate, s.lodgers, s.ink, f s.thm, s.out, s.carder, s.grd, s.grp, s.keys, s.book, s.sns, s.loops, s.fans, s.wear, s.seals, s.uarts, s.svc, s.pnl⟩
/-- The state with `out` changed by `f`. -/
def State.mapOut (s : State) (f : OutBlock → OutBlock) : State := ⟨s.now, s.draws, s.pending, s.bus, s.power, s.boot, s.image, s.sram, s.mem, s.ledger, s.wbl, s.gate, s.lodgers, s.ink, s.thm, f s.out, s.carder, s.grd, s.grp, s.keys, s.book, s.sns, s.loops, s.fans, s.wear, s.seals, s.uarts, s.svc, s.pnl⟩
/-- The state with `carder` changed by `f`. -/
def State.mapCarder (s : State) (f : Carder → Carder) : State := ⟨s.now, s.draws, s.pending, s.bus, s.power, s.boot, s.image, s.sram, s.mem, s.ledger, s.wbl, s.gate, s.lodgers, s.ink, s.thm, s.out, f s.carder, s.grd, s.grp, s.keys, s.book, s.sns, s.loops, s.fans, s.wear, s.seals, s.uarts, s.svc, s.pnl⟩
/-- The state with `grd` changed by `f`. -/
def State.mapGrd (s : State) (f : Grd → Grd) : State := ⟨s.now, s.draws, s.pending, s.bus, s.power, s.boot, s.image, s.sram, s.mem, s.ledger, s.wbl, s.gate, s.lodgers, s.ink, s.thm, s.out, s.carder, f s.grd, s.grp, s.keys, s.book, s.sns, s.loops, s.fans, s.wear, s.seals, s.uarts, s.svc, s.pnl⟩
/-- The state with `grp` changed by `f`. -/
def State.mapGrp (s : State) (f : Grp → Grp) : State := ⟨s.now, s.draws, s.pending, s.bus, s.power, s.boot, s.image, s.sram, s.mem, s.ledger, s.wbl, s.gate, s.lodgers, s.ink, s.thm, s.out, s.carder, s.grd, f s.grp, s.keys, s.book, s.sns, s.loops, s.fans, s.wear, s.seals, s.uarts, s.svc, s.pnl⟩
/-- The state with `keys` changed by `f`. -/
def State.mapKeys (s : State) (f : Keys → Keys) : State := ⟨s.now, s.draws, s.pending, s.bus, s.power, s.boot, s.image, s.sram, s.mem, s.ledger, s.wbl, s.gate, s.lodgers, s.ink, s.thm, s.out, s.carder, s.grd, s.grp, f s.keys, s.book, s.sns, s.loops, s.fans, s.wear, s.seals, s.uarts, s.svc, s.pnl⟩
/-- The state with `book` changed by `f`. -/
def State.mapBook (s : State) (f : Book → Book) : State := ⟨s.now, s.draws, s.pending, s.bus, s.power, s.boot, s.image, s.sram, s.mem, s.ledger, s.wbl, s.gate, s.lodgers, s.ink, s.thm, s.out, s.carder, s.grd, s.grp, s.keys, f s.book, s.sns, s.loops, s.fans, s.wear, s.seals, s.uarts, s.svc, s.pnl⟩
/-- The state with `sns` changed by `f`. -/
def State.mapSns (s : State) (f : Sns → Sns) : State := ⟨s.now, s.draws, s.pending, s.bus, s.power, s.boot, s.image, s.sram, s.mem, s.ledger, s.wbl, s.gate, s.lodgers, s.ink, s.thm, s.out, s.carder, s.grd, s.grp, s.keys, s.book, f s.sns, s.loops, s.fans, s.wear, s.seals, s.uarts, s.svc, s.pnl⟩
/-- The state with `loops` changed by `f`. -/
def State.mapLoops (s : State) (f : Loops → Loops) : State := ⟨s.now, s.draws, s.pending, s.bus, s.power, s.boot, s.image, s.sram, s.mem, s.ledger, s.wbl, s.gate, s.lodgers, s.ink, s.thm, s.out, s.carder, s.grd, s.grp, s.keys, s.book, s.sns, f s.loops, s.fans, s.wear, s.seals, s.uarts, s.svc, s.pnl⟩
/-- The state with `fans` changed by `f`. -/
def State.mapFans (s : State) (f : Vector Fan 6 → Vector Fan 6) : State := ⟨s.now, s.draws, s.pending, s.bus, s.power, s.boot, s.image, s.sram, s.mem, s.ledger, s.wbl, s.gate, s.lodgers, s.ink, s.thm, s.out, s.carder, s.grd, s.grp, s.keys, s.book, s.sns, s.loops, f s.fans, s.wear, s.seals, s.uarts, s.svc, s.pnl⟩
/-- The state with `wear` changed by `f`. -/
def State.mapWear (s : State) (f : Wear → Wear) : State := ⟨s.now, s.draws, s.pending, s.bus, s.power, s.boot, s.image, s.sram, s.mem, s.ledger, s.wbl, s.gate, s.lodgers, s.ink, s.thm, s.out, s.carder, s.grd, s.grp, s.keys, s.book, s.sns, s.loops, s.fans, f s.wear, s.seals, s.uarts, s.svc, s.pnl⟩
/-- The state with `seals` changed by `f`. -/
def State.mapSeals (s : State) (f : Seals → Seals) : State := ⟨s.now, s.draws, s.pending, s.bus, s.power, s.boot, s.image, s.sram, s.mem, s.ledger, s.wbl, s.gate, s.lodgers, s.ink, s.thm, s.out, s.carder, s.grd, s.grp, s.keys, s.book, s.sns, s.loops, s.fans, s.wear, f s.seals, s.uarts, s.svc, s.pnl⟩
/-- The state with `uarts` changed by `f`. -/
def State.mapUarts (s : State) (f : Uarts → Uarts) : State := ⟨s.now, s.draws, s.pending, s.bus, s.power, s.boot, s.image, s.sram, s.mem, s.ledger, s.wbl, s.gate, s.lodgers, s.ink, s.thm, s.out, s.carder, s.grd, s.grp, s.keys, s.book, s.sns, s.loops, s.fans, s.wear, s.seals, f s.uarts, s.svc, s.pnl⟩
/-- The state with `svc` changed by `f`. -/
def State.mapSvc (s : State) (f : Svc → Svc) : State := ⟨s.now, s.draws, s.pending, s.bus, s.power, s.boot, s.image, s.sram, s.mem, s.ledger, s.wbl, s.gate, s.lodgers, s.ink, s.thm, s.out, s.carder, s.grd, s.grp, s.keys, s.book, s.sns, s.loops, s.fans, s.wear, s.seals, s.uarts, f s.svc, s.pnl⟩
/-- The state with `pnl` changed by `f`. -/
def State.mapPnl (s : State) (f : Pnl → Pnl) : State := ⟨s.now, s.draws, s.pending, s.bus, s.power, s.boot, s.image, s.sram, s.mem, s.ledger, s.wbl, s.gate, s.lodgers, s.ink, s.thm, s.out, s.carder, s.grd, s.grp, s.keys, s.book, s.sns, s.loops, s.fans, s.wear, s.seals, s.uarts, s.svc, f s.pnl⟩

end Sys2Proof.Machine
end

