-- ==== Sys2Proof/Machine/Access.lean ====
section
/-! DEFINITION. How an access reaches its target: protection regions (R33 to R36), the faults that answer an access, and
the time that commands read. -/

namespace Sys2Proof.Machine

/-- What a command's meaning answers. -/
abbrev Result : Type := Host.Outcome State Fault Refusal

/-- Lodger `n`'s part of the state. (log 110: DESIGN CHOICE) -/
def State.lodger (s : State) (n : Fin 4) : Lodger := vget s.lodgers n

/-- Lodger `n` changed. -/
def State.mapLodger (s : State) (n : Fin 4) (f : Lodger → Lodger) : State := s.mapLodgers fun l => vmod l n f

/-- The region that decides for an address: the lowest-numbered one it falls inside (R34). -/
def Lodger.regionOf (l : Lodger) (addr : Nat) : Option Region :=
  l.regions.toList.find? fun r => decide (r.base ≤ addr ∧ addr < r.limit)

/-- R34: whether an access of a kind, in user mode or not, is permitted at an address. -/
def Lodger.permits (l : Lodger) (user : Bool) (kind : AccessKind) (addr : Nat) : Bool :=
  match l.regionOf addr with
  | none => false
  | some r =>
    (match kind with
      | .load => r.r
      | .store => r.w
      | .fetch => r.x) && (!user || r.ua)

/-- The trap of an access kind. -/
def trapOf (k : AccessKind) (addr : Nat) : Trap :=
  match k with
  | .load => .load addr
  | .store => .store addr
  | .fetch => .fetch addr

/-- The last access answers with data. (log 118: DEDUCED) -/
def State.answer (s : State) (w : Word) : State := s.mapBus fun _ => { data := w, outcome := .ok }

/-- The last access answers with an error: a Lodger takes the access fault of its kind, a Carder channel records a bus
error, a debug command reports one (Table 04-5, R141, R634). -/
def State.answerError (s : State) (who : Requester) (kind : AccessKind) (addr : Nat) : State :=
  let s := s.mapBus fun _ => { data := 0, outcome := .error }
  match who with
  | .lodger n _ => s.mapLodger n fun l => { l with trap := some (trapOf kind addr) }
  | _ => s

/-- R35: the access does not take place; the Lodger takes the fault, and the address is recorded and counted. (log 118: DEDUCED) -/
def State.fenceFault (s : State) (n : Fin 4) (kind : AccessKind) (addr : Nat) : State :=
  (s.answerError (.lodger n false) kind addr).mapLodger n fun l =>
    { l with faultAddr := addr, fenceCnt := satInc 0xFFFF l.fenceCnt }

/-- Lodger `n` executes: it has been started, and its clock domain runs, which Standby stops (R163, R168, R172). -/
def State.lodgerActs (s : State) (n : Fin 4) : Bool := decide ((s.lodger n).run = .running ∧ s.power.mode ≠ .standby)

/-- The interconnect and its memories are powered and clocked: not in reset, Off, Standby, from step 4 of the power-fail sequence on,
or after a thermal shutdown (R160, R163, R196, R222, R662). -/
def State.busUp (s : State) : Bool :=
  match s.power.phase with
  | .reset | .flushing | .halted | .off | .test => false
  | .running => decide (s.power.mode ≠ .standby)
  | _ => true

/-- A Lodger's access that goes on only where a region permits it (R34, R35, R632). A Lodger that does not execute makes
none; nor does any master while the interconnect is down. Other requesters have no protection regions of their own.
(log 109: DESIGN CHOICE; log 118: DEDUCED) -/
def State.access (s : State) (who : Requester) (kind : AccessKind) (addr : Nat) (go : State → State) : State :=
  match who with
  | .lodger n user =>
    if s.lodgerActs n then
      if (s.lodger n).permits user kind addr then go s else s.fenceFault n kind addr
    else s
  | _ => if s.busUp then go s else s

/-- R634: a reserved address answers with an error, which FENCE_CNT does not count. -/
def State.reserved (s : State) (who : Requester) (kind : AccessKind) (addr : Nat) : State :=
  s.answerError who kind addr

/-- REQ_KIND of a requester (Table 04-6). -/
def reqKind : Requester → Nat
  | .lodger n _ => n.val
  | .carder _ => 4
  | .loop _ => 5
  | .innkeeper => 6
  | .debug _ => 7

/-- REQ_ID of a requester (Table 04-8). -/
def reqId : Requester → Nat
  | .carder ch => ch.val
  | .loop slot => slot.val
  | _ => 0

/-- R134: a master refused at 64 consecutive arbitrations was granted ahead of the others, and the grant is counted. (log 108: DESIGN CHOICE; log 109: DESIGN CHOICE) -/
def State.granted (s : State) (refused : Nat) : State :=
  if 64 ≤ refused then s.mapMem fun m => { m with promote := satInc 0xFFFFFFFF m.promote } else s

/-- An access that reaches arbitration: one that a region refuses, or that nobody makes, is never granted (R35, R134). -/
def State.arbitrated (s : State) (a : Access) (kind : AccessKind) (addr : Nat) (go : State → State) : State :=
  s.access a.who kind addr fun s => go (s.granted a.refused)

/-- The same for a Lodger's own access, refused so many times. -/
def State.lodgerAccess (s : State) (n : Fin 4) (user : Bool) (refused : Nat) (kind : AccessKind) (addr : Nat)
    (go : State → State) : State :=
  s.arbitrated { who := .lodger n user, refused := refused } kind addr go

/-- NP cycles of 32.768 kHz within the present RTC second (TIME_F of Table 11-2). -/
def State.timeF (s : State) : Nat := min 32767 ((s.now - s.power.rtcAt) * 32768 / 1000000)

/-- The Innkeeper, its clock and the blocks run: not in reset, Off, Standby's stopped domains aside (R163). (log 2: DESIGN CHOICE) -/
def State.live (s : State) : Bool := decide (s.power.phase = .running ∨ s.power.phase = .offWait)

/-- In Run or Night Hold: every domain of Table 05-1 that these modes run is clocked. -/
def State.awake (s : State) : Bool := s.live && decide (s.power.mode ≠ .standby)

/-- Retention, Ledger and Innkeeper are alive: boot has begun and the device is neither Off nor stopped. -/
def State.inkAlive (s : State) : Bool :=
  match s.power.phase with
  | .running | .offWait | .latched | .nodeHold | .brokenSeal | .ledgerWait | .noImage | .tooHot => true
  | _ => false

/-- This boot has passed the beginning of step 2 of Table 03-2, where it takes over what retention SRAM has kept: until then the registers
over it show their Reset values (R18). (log 31: DEDUCED) -/
def State.retentionTaken (s : State) : Bool := decide (s.power.phase ≠ .reset ∧ s.power.phase ≠ .test)

/-- The windows and regions of Table 19-1: first address and size. -/
def windows : List (Nat × Nat) :=
  [(0x20000000, 0x80000), (0x30000000, 0x20000), (0x40000000, 0x1000), (0x40001000, 0x1000), (0x40002000, 0x1000),
   (0x40003000, 0x1000), (0x40010000, 0x1000), (0x40020000, 0x4000), (0x40030000, 0x1000), (0x40040000, 0x1000)] ++
  [(0x40050000, 0x2000), (0x40060000, 0x8000), (0x40068000, 0x4000), (0x40070000, 0x1000), (0x40080000, 0x1000),
   (0x40090000, 0x1000), (0x400A0000, 0x1000), (0x400B0000, 0x1000), (0x400C0000, 0x3000), (0x400F0000, 0x1000)]

/-- Whether an address is assigned to a region or window (R630). -/
def mapped (addr : Nat) : Bool := windows.any fun w => decide (w.1 ≤ addr ∧ addr < w.1 + w.2)

/-- FENCE_FAULT (R35): an access that no region permits. A permitted fetch from outside main SRAM takes an instruction
access fault, which no counter counts (R635). -/
def execFenceFault (n : Fin 4) (user : Bool) (kind : AccessKind) (addr : Nat) (s : State) : Result :=
  .next (s.access (.lodger n user) kind addr fun s =>
    if kind = .fetch ∧ ¬ (0x20000000 ≤ addr ∧ addr < 0x20080000) then s.answerError (.lodger n user) kind addr else s)

/-- An access of `size` bytes that no target takes: to a reserved address (R634), a fetch outside main SRAM (R635), or a narrow
or misaligned load or store of a peripheral register, which does not reach it (R14). -/
def unreachable (kind : AccessKind) (addr size : Nat) : Bool :=
  !mapped addr || decide (kind = .fetch ∧ ¬ (0x20000000 ≤ addr ∧ addr < 0x20080000)) ||
    decide (0x40000000 ≤ addr ∧ (size ≠ 4 ∨ addr % 4 ≠ 0))

end Sys2Proof.Machine
end

