-- ==== Sys2Proof/Machine/Crypto.lean ====
section
/-! DEFINITION. SHA-256 (R93, R423, R507, R595) and ECDSA over P-256 (R93, R595), computed as their standards say. -/

namespace Sys2Proof.Machine

def sha256K : List Word :=
  [0x428a2f98#32, 0x71374491#32, 0xb5c0fbcf#32, 0xe9b5dba5#32, 0x3956c25b#32, 0x59f111f1#32, 0x923f82a4#32, 0xab1c5ed5#32,
   0xd807aa98#32, 0x12835b01#32, 0x243185be#32, 0x550c7dc3#32, 0x72be5d74#32, 0x80deb1fe#32, 0x9bdc06a7#32, 0xc19bf174#32] ++
  [0xe49b69c1#32, 0xefbe4786#32, 0x0fc19dc6#32, 0x240ca1cc#32, 0x2de92c6f#32, 0x4a7484aa#32, 0x5cb0a9dc#32, 0x76f988da#32,
   0x983e5152#32, 0xa831c66d#32, 0xb00327c8#32, 0xbf597fc7#32, 0xc6e00bf3#32, 0xd5a79147#32, 0x06ca6351#32, 0x14292967#32] ++
  [0x27b70a85#32, 0x2e1b2138#32, 0x4d2c6dfc#32, 0x53380d13#32, 0x650a7354#32, 0x766a0abb#32, 0x81c2c92e#32, 0x92722c85#32,
   0xa2bfe8a1#32, 0xa81a664b#32, 0xc24b8b70#32, 0xc76c51a3#32, 0xd192e819#32, 0xd6990624#32, 0xf40e3585#32, 0x106aa070#32] ++
  [0x19a4c116#32, 0x1e376c08#32, 0x2748774c#32, 0x34b0bcb5#32, 0x391c0cb3#32, 0x4ed8aa4a#32, 0x5b9cca4f#32, 0x682e6ff3#32,
   0x748f82ee#32, 0x78a5636f#32, 0x84c87814#32, 0x8cc70208#32, 0x90befffa#32, 0xa4506ceb#32, 0xbef9a3f7#32, 0xc67178f2#32]

/-- The eight chaining words of SHA-256. -/
structure Sha256State where
  a : Word
  b : Word
  c : Word
  d : Word
  e : Word
  f : Word
  g : Word
  h : Word
  deriving DecidableEq, Repr

def sha256Init : Sha256State :=
  ⟨0x6a09e667#32, 0xbb67ae85#32, 0x3c6ef372#32, 0xa54ff53a#32, 0x510e527f#32, 0x9b05688c#32, 0x1f83d9ab#32, 0x5be0cd19#32⟩

/-- One round with message word `w` and constant `k`. -/
def sha256Round (s : Sha256State) (wk : Word × Word) : Sha256State :=
  let S1 := s.e.rotateRight 6 ^^^ s.e.rotateRight 11 ^^^ s.e.rotateRight 25
  let ch := (s.e &&& s.f) ^^^ (~~~s.e &&& s.g)
  let t1 := s.h + S1 + ch + wk.2 + wk.1
  let S0 := s.a.rotateRight 2 ^^^ s.a.rotateRight 13 ^^^ s.a.rotateRight 22
  let maj := (s.a &&& s.b) ^^^ (s.a &&& s.c) ^^^ (s.b &&& s.c)
  ⟨t1 + S0 + maj, s.a, s.b, s.c, s.d + t1, s.e, s.f, s.g⟩

/-- The next word of the message schedule; `ws` holds the latest words, newest first. -/
def sha256Next (ws : List Word) : Word :=
  let w (i : Nat) := ws.getD (i - 1) 0#32
  let s0 := (w 15).rotateRight 7 ^^^ (w 15).rotateRight 18 ^^^ (w 15 >>> 3)
  let s1 := (w 2).rotateRight 17 ^^^ (w 2).rotateRight 19 ^^^ (w 2 >>> 10)
  w 16 + s0 + w 7 + s1

def sha256Schedule (block : List Word) : List Word :=
  ((List.range 48).foldl (fun ws _ => sha256Next ws :: ws) block.reverse).reverse

/-- A big-endian word of a block. -/
def beWord (bs : List Byte) (i : Nat) : Word :=
  let b (k : Nat) : Word := ((bs.getD (4 * i + k) 0#8).setWidth 32)
  (b 0 <<< 24) ||| (b 1 <<< 16) ||| (b 2 <<< 8) ||| b 3

def sha256Block (s : Sha256State) (block : List Byte) : Sha256State :=
  let ws := sha256Schedule ((List.range 16).map (beWord block))
  let t := (ws.zip sha256K).foldl sha256Round s
  ⟨s.a + t.a, s.b + t.b, s.c + t.c, s.d + t.d, s.e + t.e, s.f + t.f, s.g + t.g, s.h + t.h⟩

def sha256Blocks : Nat → List Byte → Sha256State → Sha256State
  | 0, _, s => s
  | n + 1, bs, s => sha256Blocks n (bs.drop 64) (sha256Block s (bs.take 64))

/-- A number as `n` bytes, most significant first. -/
def beBytes (n v : Nat) : List Byte := (leBytes n v).reverse

def beNat (bs : List Byte) : Nat := leNat bs.reverse

/-- The 32-byte SHA-256 digest. -/
def sha256 (msg : List Byte) : List Byte :=
  let l := msg.length
  let z := (119 - l % 64) % 64
  let bs := msg ++ 0x80#8 :: List.replicate z 0#8 ++ beBytes 8 (8 * l)
  let s := sha256Blocks (bs.length / 64) bs sha256Init
  [s.a, s.b, s.c, s.d, s.e, s.f, s.g, s.h].flatMap fun w => beBytes 4 w.toNat

def p256P : Nat := 0xffffffff00000001000000000000000000000000ffffffffffffffffffffffff
def p256N : Nat := 0xffffffff00000000ffffffffffffffffbce6faada7179e84f3b9cac2fc632551
def p256B : Nat := 0x5ac635d8aa3a93e7b3ebbd55769886bc651d06b0cc53b0f63bce3c3e27d2604b
def p256Gx : Nat := 0x6b17d1f2e12c4247f8bce6e563a440f277037d812deb33a0f4a13945d898c296
def p256Gy : Nat := 0x4fe342e2fe1a7f9b8ee7eb4a7c0f9e162bce33576b315ececbb6406837bf51f5

/-- `b ^ e mod m` for an exponent of at most 256 bits. -/
def powMod (m b e : Nat) : Nat :=
  (List.range 256).foldr (fun i r => let q := r * r % m; if e.testBit i then q * b % m else q) 1 |>.mod m

/-- The inverse modulo a prime. -/
def invMod (m a : Nat) : Nat := powMod m a (m - 2)

/-- A point of the curve in Jacobian coordinates; z = 0 is the point at infinity. -/
structure P256Point where
  x : Nat
  y : Nat
  z : Nat
  deriving DecidableEq, Repr

def p256Double (p : P256Point) : P256Point :=
  let m := p256P
  if p.z = 0 ∨ p.y = 0 then ⟨1, 1, 0⟩ else
    let s := 4 * p.x * (p.y * p.y) % m
    let z2 := p.z * p.z % m
    let a := 3 * (p.x + m - z2) * (p.x + z2) % m
    let x' := (a * a + 2 * m - 2 * s % m) % m
    let y' := (a * (s + m - x') + m * 8 - 8 * (p.y * p.y % m * (p.y * p.y % m) % m)) % m
    ⟨x', y', 2 * p.y * p.z % m⟩

def p256Add (p q : P256Point) : P256Point :=
  let m := p256P
  if p.z = 0 then q else if q.z = 0 then p else
    let z1 := p.z * p.z % m
    let z2 := q.z * q.z % m
    let u1 := p.x * z2 % m
    let u2 := q.x * z1 % m
    let s1 := p.y * z2 % m * q.z % m
    let s2 := q.y * z1 % m * p.z % m
    if u1 = u2 then (if s1 = s2 then p256Double p else ⟨1, 1, 0⟩) else
      let h := (u2 + m - u1) % m
      let r := (s2 + m - s1) % m
      let h2 := h * h % m
      let h3 := h2 * h % m
      let v := u1 * h2 % m
      let x' := (r * r + 3 * m - h3 - 2 * v) % m
      let y' := (r * (v + m - x') + m * m - s1 * h3) % m
      ⟨x', y', h * p.z % m * q.z % m⟩

/-- `k · p`, for a scalar of at most 256 bits. -/
def p256Mul (k : Nat) (p : P256Point) : P256Point :=
  (List.range 256).foldr (fun i r => let d := p256Double r; if k.testBit i then p256Add d p else d) ⟨1, 1, 0⟩

/-- The affine x coordinate of a finite point. -/
def p256X (p : P256Point) : Nat :=
  let zi := invMod p256P p.z
  p.x * (zi * zi % p256P) % p256P

/-- Whether (x, y) lies on the curve. -/
def p256OnCurve (x y : Nat) : Bool :=
  decide (x < p256P) && decide (y < p256P) &&
    decide (y * y % p256P = (x * x % p256P * x + p256P * 3 - 3 * x % p256P + p256B) % p256P)

/-- r and s lie from 1 to the curve order minus 1 (code SIGNATURE of Table 03-7 otherwise). -/
def p256InOrder (r s : Nat) : Bool := decide (0 < r ∧ r < p256N ∧ 0 < s ∧ s < p256N)

/-- ECDSA verification of the digest number `z` under the public key (x, y). -/
def p256Verify (x y z r s : Nat) : Bool :=
  if p256InOrder r s && p256OnCurve x y then
    let w := invMod p256N s
    let pt := p256Add (p256Mul (z * w % p256N) ⟨p256Gx, p256Gy, 1⟩) (p256Mul (r * w % p256N) ⟨x, y, 1⟩)
    decide (pt.z ≠ 0 ∧ p256X pt % p256N = r)
  else false

/-- A key of 64 bytes, x then y, each least significant byte first (R26): the number pair. (log 34: DEDUCED) -/
def keyXY (k : List Byte) : Nat × Nat := (fieldAt k 0 32, fieldAt k 32 32)

/-- Verifies a digest (32 bytes, most significant first) against a 64-byte key and the r and s bytes. (log 34: DEDUCED) -/
def ecdsaOk (key digest : List Byte) (r s : Nat) : Bool :=
  let k := keyXY key
  p256Verify k.1 k.2 (beNat digest) r s

end Sys2Proof.Machine
end

