-- ==== Sys2Proof/Machine/Waybill.lean ====
section
/-! DEFINITION. The Waybill: record format, ring, sequence numbers and the ends of records (R374 to R384); with it the inspection
log entry (R423) and the Ledger write buffer (R143, R150), which records of kinds 3 and 4 are issued to. -/

namespace Sys2Proof.Machine

/-! ### Record format (Tables 11-2 to 11-4) -/

def RecState.code : RecState → Nat
  | .free => 0
  | .opened => 1
  | .issued => 2
  | .done => 3
  | .abandoned => 4

def RecState.ofCode : Nat → RecState
  | 1 => .opened
  | 2 => .issued
  | 3 => .done
  | 4 => .abandoned
  | _ => .free

/-- KIND of a body (Table 11-1). -/
def RecBody.kind : RecBody → Nat
  | .none => 0
  | .outTarget .. => 1
  | .keyStep .. => 2
  | .ledgerLine .. => 3
  | .logEntry .. => 4
  | .grdMsg .. => 5

/-- The 40 body bytes (Table 11-3); unused bytes are zero (R377). -/
def RecBody.bytes : RecBody → List Byte
  | .none => padTo 40 []
  | .outTarget i t st k o =>
    padTo 40 (leBytes 2 i ++ leBytes 2 t ++ leBytes 2 st ++ leBytes 2 (k * 2 ^ 14 + o))
  | .keyStep k op n st e h ks =>
    padTo 40 (leBytes 2 k ++ leBytes 1 op ++ leBytes 1 ((n - 1) * 4 + st) ++ leBytes 4 e ++ leBytes 4 h ++
      ((ks ++ List.replicate (4 - ks.length) 0xFFFF).take 4).flatMap (leBytes 2))
  | .ledgerLine l d => padTo 40 (leBytes 4 l ++ padTo 32 d)
  | .logEntry sl ev e => padTo 40 (leBytes 2 sl ++ leBytes 2 ev ++ padTo 24 e)
  | .grdMsg id len c p => padTo 40 (leBytes 4 id ++ leBytes 1 len ++ leBytes 3 c ++ padTo 32 p)

/-- The body that a KIND and 40 bytes spell. -/
def RecBody.ofBytes (kind : Nat) (b : List Byte) : RecBody :=
  match kind with
  | 1 => .outTarget (fieldAt b 0 1) (fieldAt b 2 2) (fieldAt b 4 2) (fieldAt b 6 2 / 2 ^ 14) (fieldAt b 6 2 % 2 ^ 10)
  | 2 =>
    .keyStep (fieldAt b 0 2) (fieldAt b 2 1) (fieldAt b 3 1 / 4 % 4 + 1) (fieldAt b 3 1 % 4) (fieldAt b 4 4) (fieldAt b 8 1)
      ([fieldAt b 12 2, fieldAt b 14 2, fieldAt b 16 2, fieldAt b 18 2].filter fun k => decide (k ≠ 0xFFFF))
  | 3 => .ledgerLine (fieldAt b 0 2) (slice b 4 32)
  | 4 => .logEntry (fieldAt b 0 2) (fieldAt b 2 2) (slice b 4 24)
  | 5 => .grdMsg (fieldAt b 0 4) (fieldAt b 4 1) (fieldAt b 5 1) (slice b 8 (min 32 (fieldAt b 4 1)))
  | _ => .none

/-- Offsets 0x00 to 0x3B of a record (Table 11-2). -/
def Rec.front (r : Rec) : List Byte :=
  leBytes 1 r.body.kind ++ leBytes 1 r.state.code ++ leBytes 1 r.reason ++ leBytes 1 r.origin ++ leBytes 4 r.seq ++
    leBytes 4 r.timeS ++ leBytes 2 r.timeF ++ leBytes 2 r.img ++ r.body.bytes ++ leBytes 4 0

/-- A record's 64 bytes. A record whose CRC fails shows the complement of the right CRC (R138). -/
def Rec.bytes (r : Rec) : List Byte :=
  r.front ++ leBytes 4 (if r.crcOk then crc32 r.front else 0xFFFFFFFF - crc32 r.front)

/-- The record that 64 bytes spell; `crcOk` says whether their CRC is good. -/
def Rec.ofBytes (b : List Byte) : Rec :=
  { state := RecState.ofCode (fieldAt b 1 1), reason := fieldAt b 2 1, origin := fieldAt b 3 1 % 8, seq := fieldAt b 4 4,
    timeS := fieldAt b 8 4, timeF := fieldAt b 12 2, img := fieldAt b 14 2, body := RecBody.ofBytes (fieldAt b 0 1) (slice b 16 40),
    crcOk := decide (fieldAt b 60 4 = crc32 (slice b 0 60)) }

/-- A slot is free (R378). -/
def Rec.isFree (r : Rec) : Bool :=
  !r.crcOk || match r.state with
    | .free | .done | .abandoned => true
    | .opened | .issued => false

/-- A record that is not yet done: OPEN or ISSUED, with a valid CRC (R378). -/
def Rec.notDone (r : Rec) : Bool := !r.isFree

/-! ### The ring (R381 to R384) -/

def Waybill.freeCount (w : Waybill) : Nat := (w.ring.toList.filter Rec.isFree).length
def Waybill.openCount (w : Waybill) : Nat := (w.ring.toList.filter Rec.notDone).length

/-- R382: the first free slot after the slot most recently written. (log 58: DEDUCED) -/
def Waybill.nextFree (w : Waybill) : Option (Fin 128) :=
  (List.range 128).findSome? fun i =>
    match idx? 128 ((w.last + 1 + i) % 128) with
    | some k => if (vget w.ring k).isFree then some k else none
    | none => none

/-- R381: the sequence number after `q`. -/
def seqAfter (q : Nat) : Nat := if q < 0xFFFFFFFF then q + 1 else 1

/-- R381: record `a` precedes record `b`. -/
def seqBefore (a b : Nat) : Bool :=
  let d := (b + 2 ^ 32 - a) % 2 ^ 32
  decide (1 ≤ d ∧ d ≤ 2 ^ 31 - 1)

/-- A record put in its place in a list that ascends by SEQ. -/
def insertRec (r : Rec) : List Rec → List Rec
  | [] => [r]
  | x :: l => if seqBefore r.seq x.seq then r :: x :: l else x :: insertRec r l

def sortRecs (l : List Rec) : List Rec := l.foldr insertRec []

/-- R375: a record written whole, with its CRC, before its action is issued. Answers its SEQ. -/
def State.writeRec (s : State) (k : Fin 128) (origin : Nat) (body : RecBody) : Nat × State :=
  let q := s.wbl.nextSeq
  let r : Rec :=
    { state := .opened, origin := origin, seq := q, timeS := s.power.rtc, timeF := s.timeF, img := s.boot.imgSeq % 65536,
      body := body }
  (q, s.mapWbl fun w => { w with ring := vset w.ring k r, last := k.val, nextSeq := seqAfter q })

/-- A record for a Lodger's action: refused, and counted, when 8 or fewer slots are free (R383). -/
def State.lodgerRec (s : State) (origin : Nat) (body : RecBody) : Option Nat × State :=
  if s.wbl.freeCount ≤ 8 then (none, s.mapWbl fun w => { w with refused := satInc 0xFFFF w.refused })
  else match s.wbl.nextFree with
    | none => (none, s)
    | some k => let r := s.writeRec k origin body; (some r.1, r.2)

/-- The record with a sequence number that is not yet done. -/
def Waybill.find? (w : Waybill) (q : Nat) : Option Rec := w.ring.toList.find? fun r => r.notDone && decide (r.seq = q)

/-- The record of a sequence number that is not yet done, changed. -/
def State.mapRec (s : State) (q : Nat) (f : Rec → Rec) : State :=
  s.mapWbl fun w => { w with ring := w.ring.map fun r => if r.notDone && decide (r.seq = q) then f r else r }

/-- ISSUED: the action has been issued. -/
def State.issued (s : State) (q : Nat) : State := s.mapRec q fun r => { r with state := .issued }

/-! ### Mailbox completion (R52) -/

/-- R52: BUSY is cleared, DONE and the result are set, and with DONE the Lodger's mailbox interrupt is raised. -/
def State.mbxDone (s : State) (n : Fin 4) (result : Nat) : State :=
  s.mapLodger n fun l =>
    { l with mbx := { l.mbx with busy := false, done := true, result := result, seq := l.mbx.cmdSeq, job := .idle } }

/-- RES0 of a mailbox. -/
def State.mbxRes0 (s : State) (n : Fin 4) (w : Word) : State :=
  s.mapLodger n fun l => { l with mbx := { l.mbx with res := vset l.mbx.res 0 w } }

/-- First line of the Lodger area (Table 04-3). -/
def lodgerLine0 : Nat := 2048

/-- Requests that wait for a record complete with it (R143, R380): LEDGER_WRITE returns its continuation in RES0 (R142). -/
def State.mbxOnRecord (s : State) (q : Nat) (body : RecBody) (result : Nat) : State :=
  (List.finRange 4).foldl (fun s n =>
    match (s.lodger n).mbx.job with
    | .onRecord q' _ =>
      if q' = q then
        let s := match body with
          | .ledgerLine l _ =>
            if result = 0 then
              s.mbxRes0 n (if l = lodgerLine0 + 2047 then 0xFFFFFFFF#32 else BitVec.ofNat 32 (l - lodgerLine0 + 1))
            else s
          | _ => s
        s.mbxDone n result
      else s
    | _ => s) s

/-- Requests that wait for a line complete once it stands in the cells (R143). -/
def State.mbxOnLine (s : State) (line : Nat) (data : Line) : State :=
  (List.finRange 4).foldl (fun s n =>
    match (s.lodger n).mbx.job with
    | .onLine l d result res0 =>
      if l = line ∧ d = data then
        (match res0 with
          | some w => s.mbxRes0 n w
          | none => s).mbxDone n result
      else s
    | _ => s) s

/-- A record ends as DONE (reason 0 or 1). -/
def State.recDone (s : State) (q reason : Nat) : State :=
  match s.wbl.find? q with
  | none => s
  | some r => (s.mapRec q fun r => { r with state := .done, reason := reason }).mbxOnRecord q r.body 0

/-- A record ends as ABANDONED with a reason of Table 11-4. -/
def State.recAbandon (s : State) (q reason : Nat) : State :=
  s.mapRec q fun r => { r with state := .abandoned, reason := reason }

/-! ### The Ledger write buffer (R143, R149, R150) -/

/-- A Ledger write takes a buffer entry, or waits in the Innkeeper while all 16 are occupied (R150). Its record is ISSUED
once it stands in the buffer. -/
def State.bufferLine (s : State) (e : BufEntry) : State :=
  if s.ledger.buf.length < 16 then
    let s := s.mapLedger fun l => { l with buf := l.buf ++ [e] }
    match e.done with
    | some q => s.issued q
    | none => s
  else s.mapLedger fun l => { l with waiting := l.waiting ++ [e] }

/-- A line as its latest version stands, written or on its way. (log 49: DEDUCED) -/
def Ledger.latest (l : Ledger) (n : Nat) : Option Line :=
  match (l.buf ++ l.waiting).reverse.find? fun e => decide (e.line = n) with
  | some e => some e.data
  | none => if n ∈ l.bad then none else Lines.get l.lines n

/-- A line as the Innkeeper reads it from the cells: none for poison (R146, R147). Its own reads set nothing in MEM_LEDGER_STAT.
(log 125: DEDUCED) -/
def Ledger.cell (l : Ledger) (n : Nat) : Option Line := if n ∈ l.bad then none else Lines.get l.lines n

/-- The line in the cells: written as one unit, and counted for its block (R143, R145). (log 49: DEDUCED) -/
def State.writeCells (s : State) (line : Nat) (data : Line) : State :=
  s.mapLedger fun l =>
    { l with
      lines := Lines.set l.lines line (padTo 32 data)
      bad := Marks.del line l.bad
      blocks := match idx? 128 (line / 32) with
        | some b => vmod l.blocks b (satInc (2 ^ 64 - 1))
        | none => l.blocks }

/-- An entry that waited takes the freed buffer entry (R150). -/
def State.refill (s : State) : State :=
  match s.ledger.waiting with
  | [] => s
  | e :: es => if s.ledger.buf.length < 16 then (s.mapLedger fun l => { l with waiting := es }).bufferLine e else s

/-- The Ledger accepts writes: Tj lies inside the write window (R148). -/
def State.windowOpen (s : State) : Bool := s.thm.ledgerWin

/-- The oldest buffered line is written to the cells, its record ends, its entry is freed (R143). -/
def State.writeOldest (s : State) : State :=
  match s.ledger.buf with
  | [] => s
  | e :: es =>
    let s := (s.mapLedger fun l => { l with buf := es }).writeCells e.line e.data
    let s := match e.done with
      | some q => s.recDone q 0
      | none => s
    (s.mbxOnLine e.line e.data).refill

/-- LEDGER_LINE_WRITTEN (R143, R148). -/
def State.ledgerLineWritten (s : State) : State := if s.inkAlive && s.windowOpen then s.writeOldest else s

/-! ### Seal slots in the Ledger (Table 12-4, R417, R418) -/

/-- Length of a slot's value in bytes. -/
def sealLen (k : Nat) : Nat := [16, 64, 64, 64, 64, 1, 60, 240, 7, 30, 64, 64, 8, 16, 4, 8].getD k 0

/-- Offset of a slot's bank A in the Ledger. -/
def sealBankA (k : Nat) : Nat :=
  [0xF400, 0xF420, 0xF460, 0xF4A0, 0xF4E0, 0xF520, 0xF540, 0xF580, 0xF680, 0xF6A0, 0xF6C0, 0xF700, 0xF740, 0xF760, 0xF780,
    0xF7A0].getD k 0

/-- First line of a bank. -/
def sealBankLine (k bank : Nat) : Nat := (sealBankA k + 0x3C0 * bank) / 32

/-- Lines of a bank. -/
def sealLines (k : Nat) : Nat := (sealLen k + 31) / 32

/-- Header line of a slot. -/
def sealHeaderLine (k : Nat) : Nat := (0x800 + 0x80 * k) / 32

/-- A bank's value in the cells, none where a line is poison (R146): a line that only the write buffer holds does not stand yet
(R422). -/
def State.bankValue (s : State) (k bank : Nat) : Option (List Byte) :=
  let l := (List.range (sealLines k)).map fun i => s.ledger.cell (sealBankLine k bank + i)
  if l.all Option.isSome then some ((l.flatMap fun x => x.getD []).take (sealLen k)) else none

/-- A slot as its lines in the cells have it (R418). -/
def State.readSeal (s : State) (k : Nat) : SealSlot :=
  let h := s.ledger.cell (sealHeaderLine k)
  let hist := [1, 2, 3].any fun i => (s.ledger.cell (sealHeaderLine k + i)).isSome
  let bank0 := [0, 1].any fun b => (s.ledger.cell (sealBankLine k b)).isSome
  let written := h.isSome || hist || bank0
  let d := h.getD []
  let ok := h.isSome && decide (fieldAt d 28 4 = crc32 (d.take 28))
  let bank := fieldAt d 2 1
  let v := s.bankValue k bank
  let good := ok && match v with
    | some b => decide (crc32 b = fieldAt d 8 4)
    | none => false
  if !ok then { written := written, broken := written }
  else
    { written := written, headerOk := true, broken := !good, repaired := decide (fieldAt d 3 1 % 2 = 1), bank := bank
      changes := fieldAt d 1 1, vcrc := fieldAt d 8 4, timeS := fieldAt d 12 4, firstS := fieldAt d 16 4
      value := if good then v.getD [] else [] }

/-- The sealed node number, as the slot's lines have it; 0 where it holds none. -/
def State.sealedNode (s : State) : Nat := fieldAt (s.readSeal 0).value 0 1

/-! ### The inspection log (R423) -/

/-- First line of log position `k`. -/
def logLine (k : Nat) : Nat := 384 + 2 * k

/-- The 64 bytes of log position `k` in their latest version. -/
def State.logBytes (s : State) (k : Nat) : Option (List Byte) :=
  match s.ledger.latest (logLine k), s.ledger.latest (logLine k + 1) with
  | some a, some b => some (a ++ b)
  | _, _ => none

/-- CHAIN (Table 12-8): from the entry of SEQ − 1, which can stand only at the position before. -/
def State.chainOf (s : State) (slot seq : Nat) : List Byte :=
  match s.logBytes ((slot + 511) % 512) with
  | some e => if fieldAt e 0 4 + 1 = seq then (sha256 e).take 8 else List.replicate 8 0
  | none => List.replicate 8 0

/-- The inspection log entry of a LOG_ENTRY record (Table 12-8). -/
def logEntryBytes (r : Rec) (node event : Nat) (entry chain : List Byte) : List Byte :=
  let front := leBytes 4 r.seq ++ leBytes 4 r.timeS ++ leBytes 2 r.timeF ++ leBytes 2 event ++ leBytes 1 r.origin ++
    leBytes 1 node ++ leBytes 2 r.img ++ padTo 24 entry ++ padTo 8 chain ++ List.replicate 12 0
  front ++ leBytes 4 (crc32 front)

/-- The lines of a record of kind 3 or 4 are sent to the write buffer (Table 11-1, "issued as"), while the window is closed too.
(log 124: DEDUCED) -/
def State.issueLines (s : State) (q : Nat) : State :=
  match s.wbl.find? q with
  | none => s
  | some r =>
    match r.body with
    | .ledgerLine l d => s.bufferLine { line := l, data := d, done := some q }
    | .logEntry slot ev e =>
      let b := logEntryBytes r s.sealedNode ev e (s.chainOf slot q)
      (s.bufferLine { line := logLine slot, data := b.take 32 }).bufferLine
        { line := logLine slot + 1, data := b.drop 32, done := some q }
    | _ => s

/-- A body with its log position filled in, and the position taken (R423). -/
def State.placeBody (s : State) : RecBody → RecBody × State
  | .logEntry _ ev e => (.logEntry s.wbl.logPos ev e, s.mapWbl fun w => { w with logPos := (w.logPos + 1) % 512 })
  | b => (b, s)

/-- An Innkeeper Ledger write or log entry: journaled and issued, or waiting for a free slot (R374, R384). (log 58: DEDUCED) -/
def State.inkRec (s : State) (origin : Nat) (body : RecBody) : State :=
  match s.wbl.nextFree with
  | some k =>
    let b := s.placeBody body
    let r := b.2.writeRec k origin b.1
    r.2.issueLines r.1
  | none => s.mapWbl fun w => { w with waiting := w.waiting ++ [⟨origin, body⟩] }

/-- R374: an inspection log entry raised by the Innkeeper. -/
def State.logEvent (s : State) (event : Nat) (body : List Byte) : State :=
  s.inkRec 4 (.logEntry 0 event (padTo 24 body))

/-- A Ledger line written by the Innkeeper as a journaled LEDGER_LINE (R374). -/
def State.inkLine (s : State) (line : Nat) (data : Line) : State := s.inkRec 4 (.ledgerLine line (padTo 32 data))

/-- INNKEEPER_RECORD_RESUME (R384): the oldest waiting entry is journaled once a slot is free. (log 58: DEDUCED) -/
def State.recordResume (s : State) : State :=
  match s.wbl.waiting, s.wbl.nextFree with
  | w :: ws, some _ => (s.mapWbl fun b => { b with waiting := ws }).inkRec w.origin w.body
  | _, _ => s

/-- The Innkeeper waits for its Ledger writes while the window is open: buffered lines reach the cells in their order, and entries
that waited for a free slot follow. -/
def State.drain : Nat → State → State
  | 0, s => s
  | n + 1, s =>
    match s.ledger.buf, s.wbl.waiting, s.wbl.nextFree with
    | _ :: _, _, _ => State.drain n s.writeOldest
    | [], _ :: _, some _ => State.drain n s.recordResume
    | _, _, _ => s

/-- Steps that a drain takes at most: a log entry has two lines. -/
def State.drainSteps (s : State) : Nat := s.ledger.buf.length + s.ledger.waiting.length + 3 * s.wbl.waiting.length

def State.drained (s : State) : State := if s.windowOpen then State.drain s.drainSteps s else s

/-- A journaled Ledger line that the Innkeeper waits for, where the write window lets it (R143, R149, R374). -/
def State.lineSoon (s : State) (line : Nat) (data : Line) : State := (s.inkLine line data).drained

/-- The same for an inspection log entry. -/
def State.logSoon (s : State) (event : Nat) (body : List Byte) : State := (s.logEvent event body).drained

/-- Whether a buffered or waiting line belongs to a record: the two lines of a log entry end together. (log 48: DEDUCED) -/
def Rec.ownsLine (r : Rec) (e : BufEntry) : Bool :=
  match r.body with
  | .logEntry slot .. => decide (e.line = logLine slot ∨ e.line = logLine slot + 1)
  | _ => decide (e.done = some r.seq)

/-- LEDGER_BUFFER_TIMEOUT (R150): a mailbox request whose line has waited more than 100 ms for a buffer entry completes with
TIMEOUT and the line is not written. Its record ends with a REASON within 2 to 6 (Table 11-4); the manual names none for it
(Config.openReason). (log 48: DEDUCED) -/
def State.bufferTimeout (s : State) (n : Fin 4) : State :=
  let seq := match (s.lodger n).mbx.job with
    | .onRecord q _ => some q
    | .onLine l d _ _ => (s.ledger.waiting.find? fun e => decide (e.line = l ∧ e.data = d)).bind (·.done)
    | _ => none
  match seq with
  | some q =>
    match s.wbl.find? q with
    | some r =>
      if s.ledger.waiting.any r.ownsLine then
        let s := s.mapLedger fun l =>
          { l with waiting := l.waiting.filter fun e => !r.ownsLine e, buf := l.buf.filter fun e => !r.ownsLine e }
        let s := ((s.recAbandon q (2 + Config.openReason s.draws % 5)).mapDraws (· + 1)).refill
        s.mbxDone n 5
      else s
    | none => s
  | none => s

/-! ### The read view of the Ledger (R141, R144, R146) -/

/-- Line number of a read view address. -/
def ledgerLineOf (addr : Nat) : Nat := (addr - 0x30000000) / 32

/-- An upset met in a line's check bits (log entry 3). -/
def State.ledgerUpset (s : State) (line : Nat) (u : Upset) : State :=
  match u with
  | .none => s
  | .single =>
    if (s.ledger.cell line).isSome then s.mapMem fun m => { m with ledgerCe := satInc 0xFFFF m.ledgerCe } else s
  | .double =>
    if (s.ledger.cell line).isSome then s.mapLedger fun l => { l with bad := Marks.add line l.bad } else s

/-- The 32-bit word at a read view address, with what a poison line sets (R146). A line with an uncorrectable error reads
as poison and sets UNCORR (Table 04-12). -/
def State.ledgerWord (s : State) (addr : Nat) : Word × State :=
  let line := ledgerLineOf addr
  match s.ledger.cell line with
  | some d => (BitVec.ofNat 32 (fieldAt d (addr % 32) 4), s)
  | none =>
    (0xFFFFFFFF#32, s.mapMem fun m =>
      { m with poison := true, poisonLine := line, uncorr := m.uncorr || decide (line ∈ s.ledger.bad) })

def inLedger (addr : Nat) : Bool := decide (0x30000000 ≤ addr ∧ addr < 0x30020000)

/-- LEDGER_READ. -/
def execLedgerRead (a : Access) (addr : Nat) (u : Upset) (s : State) : Result :=
  .next (if inLedger addr then s.arbitrated a .load addr fun s =>
      let r := (s.ledgerUpset (ledgerLineOf addr) u).ledgerWord (addr / 4 * 4)
      r.2.answer r.1
    else s)

/-- LEDGER_VIEW_WRITE (R141): nothing is written; a Lodger takes a store access fault. -/
def execLedgerViewWrite (a : Access) (addr : Nat) (s : State) : Result :=
  .next (if inLedger addr then s.arbitrated a .store addr fun s => s.answerError a.who .store addr else s)

/-- LEDGER_BUFFER_TIMEOUT of Lodger `n`'s request. -/
def execLedgerBufferTimeout (n : Fin 4) (s : State) : Result := .next (s.bufferTimeout n)

/-- INNKEEPER_RECORD_RESUME. -/
def execInnkeeperRecordResume (s : State) : Result := .next s.recordResume

end Sys2Proof.Machine
end

