-- ==== Sys2Proof/Machine/Gate.lean ====
section
/-! DEFINITION. The output gate: targets, ramps, Rest, Blank and releases (R37 to R50, R61 to R65), with what the output block
does at each change of an applied value (R356, R357, R363, R365). -/

namespace Sys2Proof.Machine

/-- Gate output `i`. -/
def State.outp (s : State) (i : Fin 30) : Output := vget s.gate.outs i

def State.mapOutp (s : State) (i : Fin 30) (f : Output → Output) : State :=
  s.mapGate fun g => { g with outs := vmod g.outs i f }

/-- Largest value of an output (Table 02-1). -/
def outTop (i : Nat) : Nat := if i < 8 then 10000 else if i < 20 then 1 else if i < 24 then 1000 else 24000

def isDo (i : Nat) : Bool := decide (8 ≤ i ∧ i < 20)

/-- Bits of the Rest cause mask (Table 02-14). -/
inductive RestCause where
  | lodger | key | feedback | apart | mode | boot | journalLost
  deriving DecidableEq, Repr

def RestCause.mask : RestCause → BitVec 7
  | .lodger => 1
  | .key => 2
  | .feedback => 4
  | .apart => 8
  | .mode => 16
  | .boot => 32
  | .journalLost => 64

/-- OWNER_KIND as a number (Table 02-15). -/
def OwnerKind.code : OwnerKind → Nat
  | .none => 0
  | .lodger => 1
  | .slot => 2
  | .key => 3

def OwnerKind.ofCode : Nat → OwnerKind
  | 1 => .lodger
  | 2 => .slot
  | 3 => .key
  | _ => .none

/-- The value an output moves towards: its target, or the Rest value while in Rest or parked (R47, R49). (log 56: DEDUCED) -/
def Output.goal (o : Output) : Nat := if o.inRest || o.owner = .none then o.rest else o.target

/-- R47: the target of a parked output is its Rest value. -/
def Output.park (o : Output) : Output := if o.owner = .none then { o with target := o.rest } else o

/-- STATE of Table 02-14 under R30: Blank over Rest over Live. -/
def State.outState (s : State) (i : Fin 30) : Nat :=
  if s.gate.blank then 2 else if (s.outp i).inRest then 1 else 0

def State.isLive (s : State) (i : Fin 30) : Bool := decide (s.outState i = 0)

/-! ### What a changed applied value does -/

/-- Every OUT_TARGET record of output `i` that is not yet done and passes `p` ends. -/
def State.endTargets (s : State) (i : Nat) (p : Rec → Bool) (st : RecState) (reason : Nat) : State :=
  s.mapWbl fun w => { w with
    ring := w.ring.map fun r =>
      match r.body with
      | .outTarget j .. => if r.notDone && decide (j = i) && p r then { r with state := st, reason := reason } else r
      | _ => r }

/-- Table 11-1: an OUT_TARGET record is DONE when APPLIED equals its TARGET. Blank leaves it unchanged (R380). (log 55: DEDUCED) -/
def State.targetReached (s : State) (i : Fin 30) : State :=
  if s.gate.blank then s else
    s.endTargets i.val (fun r => match r.body with
      | .outTarget _ t .. => decide (t = (s.outp i).applied)
      | _ => false) .done 0

/-- An end of an analog output's travel (R363): the low one, the high one, or neither. -/
def aoEnd (v : Nat) : Option Bool := if v ≤ 500 then some false else if 9500 ≤ v ∧ v ≤ 10000 then some true else none

/-- R363: a stroke starts when APPLIED leaves an end towards a goal in the other end; stroke timing runs from step 14 of boot and
not in Standby (R372, R373). -/
def State.strokeStart (s : State) (i : Fin 8) (before after goal : Nat) : State :=
  let a := vget s.out.ao i
  match aoEnd before, aoEnd goal with
  | some e, some g =>
    if a.strokeEn && s.out.running && s.awake && decide (e ≠ g ∧ aoEnd after ≠ some e) then
      s.mapOut fun b => { b with ao := vmod b.ao i fun a => { a with stroke := some (!e, s.now) } }
    else s
  | _, _ => s

/-- R365: a stroke is abandoned when the gate target leaves the far end. -/
def State.strokeCheck (s : State) (i : Fin 30) : State :=
  match idx? 8 i.val with
  | none => s
  | some k => s.mapOut fun b => { b with ao := vmod b.ao k fun a =>
      match a.stroke with
      | some (up, _) => if aoEnd (s.outp i).goal = some up then a else { a with stroke := none }
      | none => a }

/-- R356: DO `k`, whose relay was open, is to close; a driver held off by a fault (Table 10-5) leaves it open, and then
nothing is counted. (log 78: DEDUCED) -/
def State.countClose (s : State) (k : Fin 12) : State :=
  s.mapOut fun b => { b with dos := vmod b.dos k fun d =>
    if d.driverOff || d.latched then d else { d with cyc := satInc 0xFFFFFFFF d.cyc } }

/-- The applied value of an output changes at once to `v`. -/
def State.applyTo (s : State) (i : Fin 30) (v : Nat) : State :=
  let o := s.outp i
  if o.applied = v then s else
    let s := s.mapOutp i fun o =>
      { o with applied := v, changedAt := if isDo i.val then some s.now else o.changedAt }
    let s := match idx? 12 (i.val - 8) with
      | some k => if isDo i.val && decide (o.applied = 0 ∧ v = 1) then s.countClose k else s
      | none => s
    match idx? 8 i.val with
    | some k => s.strokeStart k o.applied v o.goal
    | none => s

/-- On-time of a heater period in NP cycles (R357). -/
def htOn (duty period : Nat) : Nat := roundEven (duty * (period * 3277)) 1000

/-- Table 10-4: a heater's period in progress ends at once and a new one starts with the given duty. -/
def State.heaterRestart (s : State) (i : Fin 30) (duty : Nat) : State :=
  match idx? 4 (i.val - 20) with
  | some k =>
    if 20 ≤ i.val ∧ i.val < 24 then
      s.mapOut fun b => { b with hts := vmod b.hts k fun h =>
        { h with inForce := h.period, onCycles := htOn duty h.period, startedAt := s.now } }
    else s
  | none => s

/-- What a Live output does at once: without a slew limit it steps to its target (R38); a DO output changes when its
interval has passed (R44). -/
def State.settle (s : State) (i : Fin 30) : State :=
  let o := s.outp i
  if s.isLive i then
    let now := if isDo i.val then
        match o.changedAt with
        | some t => decide (t + o.slew * 10000 ≤ s.now)
        | none => true
      else decide (o.slew = 0)
    if now then (s.applyTo i o.goal).targetReached i else s
  else s

/-! ### Fan channels when their output leaves Live (R339, R350, R352) -/

/-- Table 09-3: a sweep or capture ends without results, and its error bit is set. -/
def Fan.abort (f : Fan) : Fan :=
  match f.task with
  | .none => f
  | .base .. => { f with task := .none, baseErr := true }
  | .sweep _ => { f with task := .none, mapErr := true }

/-- Gates off: nothing is driven, and the measured values end. -/
def Fan.gatesOff (f : Fan) : Fan :=
  { f with duty := 0, integ := 0, lock := false, crossings := 0, intervals := [], against := 0, meas := 0, ilimNow := false
           steady := Vector.replicate 8 (0, 0) }

/-- OFF with n_ref at 0 (R350). POLES and DIR of a seal change take effect (R338). In WAIT or a restart attempt, the next start
is the next attempt (Table 09-3). -/
def Fan.toOff (f : Fan) : Fan :=
  { f.gatesOff with
    st := .off, nref := 0, faultNow := false, nextAttempt := f.nextAttempt || f.attempting || decide (f.st = .wait), attempting := false
    motor := { f.motor with poles := f.sealed.poles, reverse := f.sealed.reverse } }

/-- Blank, Off and Standby: any task is aborted and the channel is OFF, a LATCHED one too; its CAUSE and KINDS stay (Table 09-3,
R352). (log 73: DEDUCED) -/
def Fan.blank (f : Fan) : Fan :=
  if f.st = .off then { f.abort with faultNow := false } else f.abort.toOff

/-- A channel's task ends when its gate output leaves Live (Table 09-3). (log 45: DEDUCED) -/
def State.fanLeavesLive (s : State) (i : Fin 30) : State :=
  match idx? 6 (i.val - 24) with
  | some c => if 24 ≤ i.val then s.mapFans fun fs => vmod fs c Fan.abort else s
  | none => s

/-! ### Rest and Blank -/

/-- An output in Rest holds its Rest value at once (R48), unless Blank prevails (R30). -/
def State.toRestValue (s : State) (i : Fin 30) : State :=
  let o := s.outp i
  let s := s.mapOutp i fun o => { o with inRest := true, carry := 0 }
  let s := s.fanLeavesLive i
  if s.gate.blank then s else ((s.applyTo i o.rest).heaterRestart i o.rest).strokeCheck i

/-- R45: a Rest cause is set on an output. KEY and APART make the key's present grant stale (R46); LODGER, KEY, FEEDBACK
and APART abandon the output's journaled targets (R380). -/
def State.setCause (s : State) (i : Fin 30) (c : RestCause) : State :=
  let o := s.outp i
  let new := decide (o.causes &&& c.mask = 0)
  let s := s.mapOutp i fun o =>
    { o with causes := o.causes ||| c.mask, stale := o.stale || decide (c = .key ∨ c = .apart) }
  let s := if o.inRest then s else s.toRestValue i
  if new && decide (c = .lodger ∨ c = .key ∨ c = .feedback ∨ c = .apart) then
    s.endTargets i.val (fun _ => true) .abandoned 2
  else s

/-- A cause ends: its bit is cleared. A parked output leaves Rest when its mask becomes empty (R47). -/
def State.clearCause (s : State) (i : Fin 30) (c : RestCause) : State :=
  s.mapOutp i fun o =>
    let m := o.causes &&& ~~~c.mask
    { o with causes := m, inRest := if o.owner = .none ∧ m = 0 then false else o.inRest }

/-- A cause is set or cleared on every output that passes a test. -/
def State.setCauses (s : State) (c : RestCause) (p : Output → Bool) : State :=
  (List.finRange 30).foldl (fun s i => if p (s.outp i) then s.setCause i c else s) s

def State.clearCauses (s : State) (c : RestCause) (p : Output → Bool) : State :=
  (List.finRange 30).foldl (fun s i => if p (s.outp i) then s.clearCause i c else s) s

/-- Blank (R30, R48, Table 10-2): every output is de-energised at once, and strokes are abandoned (R365). -/
def State.gateBlank (s : State) (cause : Nat) : State :=
  let s := s.mapGate fun g => { g with
    blank := true, blankCause := cause
    outs := Vector.ofFn fun i : Fin 30 =>
      let o := vget g.outs i
      { o with applied := 0, carry := 0, changedAt := if isDo i.val && decide (o.applied ≠ 0) then some s.now else o.changedAt } }
  let s := s.mapFans fun fs => fs.map Fan.blank
  s.mapOut fun b => { b with
    ao := b.ao.map fun a => { a with stroke := none }
    hts := b.hts.map fun h => { h with inForce := h.period, onCycles := 0, startedAt := s.now } }

/-- Blank ends: every output goes to Rest with cause BOOT (R65, R71). -/
def State.gateUnblank (s : State) : State :=
  let s := s.mapGate fun g => { g with blank := false, blankCause := 0, outs := g.outs.map fun o => { o with inRest := true } }
  (List.finRange 30).foldl (fun s i => (s.setCause i .boot).toRestValue i) s

/-! ### Releases and writes -/

/-- R63: a release clears JOURNAL_LOST where the same write does so, then BOOT, and takes effect only if the mask is then
empty. -/
def State.releaseOut (s : State) (i : Fin 30) (lost : Bool) : State :=
  let was := (s.outp i).inRest
  let s := s.mapOutp i fun o =>
    let m := if lost then o.causes &&& ~~~RestCause.journalLost.mask else o.causes
    let m := m &&& ~~~RestCause.boot.mask
    if m = 0 then { o with causes := 0, inRest := false, carry := if o.inRest then 0 else o.carry }
    else { o with causes := m }
  if was && !(s.outp i).inRest then (s.settle i).strokeCheck i else s

/-- R41: a rejected write is recorded and counted. (log 57: DEDUCED) -/
def State.gateReject (s : State) (i : Nat) (src : GateSource) : State :=
  s.mapGate fun g => { g with
    rejIndex := i
    rejKind := match src with
      | .lodger _ => 0
      | .slot _ => 1
      | .key _ => 2
    rejId := match src with
      | .lodger n => n.val
      | .slot n => n.val
      | .key k => k
    rejectCnt := satInc 0xFFFF g.rejectCnt }

/-- A key that this device hosts and that is held (R40). -/
def State.keyHeld (s : State) (k : Nat) : Bool := s.keys.hosted.any fun h => decide (h.key = k)

/-- R40: the permitted owner of an output. (log 55: DEDUCED) -/
def State.gateAccepts (s : State) (i : Fin 30) (src : GateSource) : Bool :=
  let o := s.outp i
  match src with
  | .lodger n => decide (o.owner = .lodger ∧ o.ownerId = n.val)
  | .slot n => decide (o.owner = .slot ∧ o.ownerId = n.val)
  | .key k => decide (o.owner = .key ∧ o.ownerId = k) && s.keyHeld k

/-- R42: the clamp of a target, and whether it clamped. -/
def Output.clamp (o : Output) (v : Nat) : Nat := clampNat v o.min o.max

/-- An accepted write: clamped (R42), it sets the target, ends other journaled targets of the output as SUPERSEDED (R380)
and, from a key's holder under a grant that is not stale, acts as a release (R46). `own` is the SEQ of the write's record. -/
def State.gateTarget (s : State) (i : Fin 30) (src : GateSource) (v own : Nat) : State :=
  let o := s.outp i
  let t := o.clamp v
  let s := if t = v then s else s.mapGate fun g => { g with clampCnt := satInc 0xFFFF g.clampCnt }
  let s := s.mapOutp i fun o => { o with target := t }
  let s := s.endTargets i.val (fun r => decide (r.seq ≠ own)) .done 1
  let s := match src with
    | .key _ => if o.stale then s else s.releaseOut i false
    | _ => s
  (s.settle i).strokeCheck i

/-- GATE_WRITE (R40 to R42). -/
def State.gateWrite (s : State) (src : GateSource) (i : Fin 30) (v : Nat) : State :=
  if s.gateAccepts i src then s.gateTarget i src v 0 else s.gateReject i.val src

/-- GATE_RELEASE for one output (R46, R63, R64, R73): the owner's write clears JOURNAL_LOST and releases; another Lodger's
write clears JOURNAL_LOST where it is set, and is otherwise ignored and counted. (log 57: DEDUCED) -/
def State.lodgerRelease (s : State) (n : Fin 4) (i : Fin 30) : State :=
  let o := s.outp i
  if o.owner = .lodger ∧ o.ownerId = n.val then s.releaseOut i true
  else if o.causes &&& RestCause.journalLost.mask ≠ 0 then s.clearCause i .journalLost
  else s.mapGate fun g => { g with rejectCnt := satInc 0xFFFF g.rejectCnt }

/-- A write to GATE_RELEASE: every output whose bit is 1, in ascending order. (log 57: DEDUCED) -/
def State.gateRelease (s : State) (n : Fin 4) (rel : Word) : State :=
  (List.finRange 30).foldl (fun s i => if rel.getLsbD i.val then s.lodgerRelease n i else s) s

/-! ### Ramps -/

/-- One ramp interval of an output (R43): SLEW units per second, 1 ms long. (log 56: DEDUCED) -/
def Output.ramp (o : Output) (i : Nat) : Output :=
  let g := o.goal
  if isDo i || o.applied = g then o
  else if o.slew = 0 then { o with applied := g, carry := 0 }
  else
    let c := o.carry + o.slew
    let d := c / 1000
    if o.applied < g then
      if g ≤ o.applied + d then { o with applied := g, carry := 0 } else { o with applied := o.applied + d, carry := c % 1000 }
    else if o.applied ≤ g + d then { o with applied := g, carry := 0 }
    else { o with applied := o.applied - d, carry := c % 1000 }

/-- An envelope and owner as seal slot 7 holds it (Table 12-4): MIN, MAX, SLEW, OWNER. An output in Rest with an empty mask that it
parks stays in Rest: R47 speaks of the moment at which the mask becomes empty. (log 140: DESIGN CHOICE) -/
def Output.loadEnvelope (o : Output) (b : List Byte) : Output :=
  { o with min := fieldAt b 0 2, max := fieldAt b 2 2, slew := fieldAt b 4 2
           owner := OwnerKind.ofCode (fieldAt b 6 2 / 2 ^ 14), ownerId := fieldAt b 6 2 % 2 ^ 10 }.park

def Gate.loadEnvelopes (g : Gate) (v : List Byte) : Gate :=
  { g with outs := Vector.ofFn fun i : Fin 30 => (vget g.outs i).loadEnvelope (slice v (8 * i.val) 8) }

/-- A changed seal slot 7 comes into force at the next ramp interval (Table 12-4): a Live output that it parks moves to its Rest
value as to a target (R47), and a stroke whose target has left its far end is abandoned (R365). -/
def State.newEnvelopes (s : State) : State :=
  match s.gate.envNext with
  | some v =>
    (List.finRange 30).foldl (fun s i => (s.settle i).strokeCheck i) (s.mapGate fun g => { g.loadEnvelopes v with envNext := none })
  | none => s

/-- GATE_RAMP_INTERVAL (R43): a changed seal slot 7 comes into force, and every Live output's ramp moves. (log 56: DEDUCED) -/
def State.gateRamp (s : State) : State :=
  let s := s.newEnvelopes
  (List.finRange 30).foldl (fun s i =>
    if s.isLive i then
      let o' := (s.outp i).ramp i.val
      let s := (s.applyTo i o'.applied).mapOutp i fun o => { o with carry := o'.carry }
      s.targetReached i
    else s) s

/-- DO_CHANGE_INTERVAL (R44): the interval since a DO output's previous change has passed; its latest target is applied. -/
def State.doInterval (s : State) (k : Fin 12) : State :=
  let i : Fin 30 := ⟨k.val + 8, by omega⟩
  if s.isLive i then (s.applyTo i (s.outp i).goal).targetReached i else s

/-! ### Commands -/

/-- What a GATE_WRITE comes from acts: a Lodger that executes, the loop engine while it runs, and the holder's write under a key.
Standby stops them all (R168, R172). -/
def State.sourceActs (s : State) : GateSource → Bool
  | .lodger n => s.lodgerActs n
  | .slot _ => s.loops.running && s.awake
  | .key _ => s.awake

/-- GATE_WRITE. -/
def execGateWrite (src : GateSource) (i : Fin 30) (v : Nat) (s : State) : Result :=
  .next (if s.sourceActs src then s.gateWrite src i v else s)

/-- GATE_RAMP_INTERVAL. -/
def execGateRampInterval (s : State) : Result := .next (if s.inkAlive then s.gateRamp else s)

/-- DO_CHANGE_INTERVAL. -/
def execDoChangeInterval (k : Fin 12) (s : State) : Result := .next (s.doInterval k)

/-- GATE_RELEASE: the register lies at 0x400F_0404. -/
def execGateRelease (n : Fin 4) (user : Bool) (rel : Word) (s : State) : Result :=
  .next (s.access (.lodger n user) .store 0x400F0404 fun s => (s.gateRelease n rel).answer 0)

end Sys2Proof.Machine
end

