-- ==== Sys2Proof/Machine/Sram.lean ====
section
/-! DEFINITION. Main SRAM: written-tags, error correction, the scrubber and MEM_CLEAR (R126 to R136, R151 to R156). -/

namespace Sys2Proof.Machine

/-- First address of main SRAM, and its size (R126). -/
def sramBase : Nat := 0x20000000
def sramSize : Nat := 0x80000

def inSram (addr : Nat) : Bool := decide (sramBase ≤ addr ∧ addr < sramBase + sramSize)

/-- Number of the 64-bit word that holds an address (R127), and the word's own address. -/
def wordOf (addr : Nat) : Nat := (addr - sramBase) / 8
def wordAddr (w : Nat) : Nat := sramBase + 8 * w

/-- The bytes of main SRAM as the cells hold them. -/
def Sram.bytes (m : Sram) (addr n : Nat) : List Byte := Memory.getMany 0 m.cells (addr - sramBase) n

/-- An upset met in a word's check bits (log entry 3: a physical condition comes with the command). -/
def Sram.upset (m : Sram) (w : Nat) (u : Upset) : Sram :=
  match u with
  | .none => m
  | .single => if w ∈ m.doubles then m else { m with singles := Marks.add w m.singles }
  | .double => { m with singles := Marks.del w m.singles, doubles := Marks.add w m.doubles }

/-- What a read of one word meets. -/
inductive WordState where
  | good | unwritten | uncorrectable
  deriving DecidableEq, Repr

/-- The condition of a word before a read of it. -/
def Sram.state (m : Sram) (w : Nat) : WordState :=
  if w ∉ m.tags then .unwritten else if w ∈ m.doubles then .uncorrectable else .good

/-- R130: a single-bit error of a written word is corrected, written back and counted. -/
def State.correctWord (s : State) (w : Nat) : State :=
  if w ∈ s.sram.singles then
    (s.mapSram fun m => { m with singles := Marks.del w m.singles }).mapMem fun r =>
      { r with ceCnt := satInc 0xFFFF r.ceCnt, ce := true, eccAddr := wordAddr w }
  else s

/-- R151, R152: the counts and records of a read that met an unwritten or uncorrectable word. -/
def State.noteWord (s : State) (who : Requester) (w : Nat) : WordState → State
  | .good => s.correctWord w
  | .unwritten => s.mapMem fun r =>
    { r with unwCnt := satInc 0xFFFF r.unwCnt, unwAddr := wordAddr w, unwKind := reqKind who, unwId := reqId who }
  | .uncorrectable => s.mapMem fun r =>
    { r with ueCnt := satInc 0xFF r.ueCnt, ue := true, eccAddr := wordAddr w, ueKind := reqKind who }

/-- A read of `n` bytes that lie in one 64-bit word: the data, or nothing where the word is unwritten or uncorrectable. -/
def State.sramRead (s : State) (who : Requester) (addr n : Nat) : Option (List Byte) × State :=
  let w := wordOf addr
  let c := s.sram.state w
  (if c = .good then some (s.sram.bytes addr n) else none, s.noteWord who w c)

/-- A read of a 32-bit word of main SRAM. -/
def State.sramWord (s : State) (who : Requester) (addr : Nat) : Option Word × State :=
  let r := s.sramRead who addr 4
  (r.1.map fun bs => BitVec.ofNat 32 (leNat bs), r.2)

/-- R128, R153: a write of `bs` inside one 64-bit word. A narrower write reads the word first: an uncorrectable word is not
written and the writer sees the error (`false`); an unwritten word gets zeros in its other bytes. (log 46: DEDUCED) -/
def State.sramWrite (s : State) (who : Requester) (addr : Nat) (bs : List Byte) : Bool × State :=
  let w := wordOf addr
  let off := addr - sramBase
  let put (m : Sram) : Sram :=
    { cells := Memory.setMany 0 m.cells off bs, tags := Marks.add w m.tags, singles := Marks.del w m.singles,
      doubles := if w ∈ m.tags then m.doubles else Marks.del w m.doubles }
  if 8 ≤ bs.length then (true, s.mapSram put)
  else match s.sram.state w with
    | .uncorrectable => (false, s.noteWord who w .uncorrectable)
    | .unwritten =>
      (true, s.mapSram fun m => put { m with cells := Memory.setMany 0 m.cells (8 * w) (List.replicate 8 0) })
    | .good => (true, (s.correctWord w).mapSram put)

/-- MAIN_SRAM_READ (R130, R151, R152, R155). -/
def State.mainSramRead (s : State) (a : Access) (fetch : Bool) (addr n : Nat) (u : Upset) : State :=
  let kind : AccessKind := if fetch then .fetch else .load
  s.arbitrated a kind addr fun s =>
    let r := (s.mapSram fun m => m.upset (wordOf addr) u).sramRead a.who addr n
    match r.1 with
    | some bs => r.2.answer (BitVec.ofNat 32 (leNat bs))
    | none => r.2.answerError a.who kind addr

/-- MAIN_SRAM_WRITE (R128, R153, R155). -/
def State.mainSramWrite (s : State) (a : Access) (addr : Nat) (bs : List Byte) (u : Upset) : State :=
  s.arbitrated a .store addr fun s =>
    let r := (s.mapSram fun m => m.upset (wordOf addr) u).sramWrite a.who addr bs
    if r.1 then r.2.answer 0 else r.2.answerError a.who .store addr

/-- The next written word at or above a word number, wrapping at the end (R131). (log 46: DEDUCED) -/
def Sram.nextWritten (m : Sram) (from_ : Nat) : Option Nat :=
  match m.tags.find? fun w => decide (from_ ≤ w) with
  | some w => some w
  | none => m.tags.head?

/-- The scrubber's read of a written word (R130, R131, R152). REQ_KIND has no code for the scrubber, and keeps the requester
before it. (log 46: DEDUCED) -/
def State.scrubWord (s : State) (w : Nat) : State :=
  if w ∈ s.sram.doubles then
    s.mapMem fun r => { r with ueCnt := satInc 0xFF r.ueCnt, ue := true, eccAddr := wordAddr w }
  else s.correctWord w

/-- SCRUB_STEP (R131): the next written word is read, and a single-bit error corrected. The scrubber starts with the blocks at step 14
of Table 03-2. (log 166: DESIGN CHOICE) -/
def State.scrubStep (s : State) (refused : Nat) (u : Upset) : State :=
  if s.awake && s.mem.scrubEn then
    match s.sram.nextWritten s.mem.scrubPos with
    | none => s
    | some w => (((s.granted refused).mapSram fun m => m.upset w u).scrubWord w).mapMem fun r => { r with scrubPos := (w + 1) % 65536 }
  else s

/-- MEM_CLEAR (R154): the word is zeroed with valid check bits and its written-tag cleared, where the Lodger's regions
permit a write to it; one that they refuse is a store access fault at the word's address and no access that R35 counts. An address
outside main SRAM holds no such word, and nothing is cleared. (log 46: DEDUCED; log 47: DESIGN CHOICE; log 165: DESIGN CHOICE) -/
def State.memClear (s : State) (n : Fin 4) (user : Bool) (addr : Nat) : State :=
  if !(s.lodger n).permits user .store addr then s.answerError (.lodger n user) .store addr
  else if inSram addr then
    let w := wordOf addr
    s.mapSram fun m =>
      { cells := Memory.setMany 0 m.cells (8 * w) (List.replicate 8 0), tags := Marks.del w m.tags,
        singles := Marks.del w m.singles, doubles := Marks.del w m.doubles }
  else s

/-! ### Commands -/

/-- An access of `n` bytes that lies in main SRAM, inside one 64-bit word. -/
def inWord (addr n : Nat) : Bool := inSram addr && decide (1 ≤ n ∧ addr % 8 + n ≤ 8)

/-- MAIN_SRAM_READ. -/
def execMainSramRead (a : Access) (fetch : Bool) (addr n : Nat) (u : Upset) (s : State) : Result :=
  .next (if inWord addr n then s.mainSramRead a fetch addr n u else s)

/-- MAIN_SRAM_WRITE. -/
def execMainSramWrite (a : Access) (addr : Nat) (bs : List Byte) (u : Upset) (s : State) : Result :=
  .next (if inWord addr bs.length then s.mainSramWrite a addr bs u else s)

/-- SCRUB_STEP, granted after so many refusals (R134). -/
def execScrubStep (refused : Nat) (u : Upset) (s : State) : Result := .next (s.scrubStep refused u)

/-- MEM_CLEAR: MEM_CLEAR_ADDR lies at 0x4000_3014. -/
def execMemClear (n : Fin 4) (user : Bool) (addr : Word) (refused : Nat) (s : State) : Result :=
  .next (s.lodgerAccess n user refused .store 0x40003014 fun s => (s.answer 0).memClear n user addr.toNat)

end Sys2Proof.Machine
end

