-- ==== Sys2Proof/Machine/Carder.lean ====
section
/-! DEFINITION. The Carder's control: ownership, START, STOP, holds, requests, drains and orphans (R429 to R436, R447 to R449,
R455 to R462). What moves data is in Machine/Dma.lean. -/

namespace Sys2Proof.Machine

def State.chan (s : State) (c : Fin 24) : Chan := vget s.carder.chans c

def State.mapChan (s : State) (c : Fin 24) (f : Chan → Chan) : State :=
  s.mapCarder fun d => { d with chans := vmod d.chans c f }

/-- Every channel changed. -/
def State.mapChans (s : State) (f : Chan → Chan) : State := s.mapCarder fun d => { d with chans := d.chans.map f }

/-- First address of a channel's registers. -/
def chanBase (c : Fin 24) : Nat := 0x40050000 + c.val * 0x100

/-- The granules of 256 bytes that a range of beats touches, by their first touched address. -/
def granules (addr beats : Nat) (inc : Bool) : List Nat :=
  if inc then (List.range ((addr % 256 + 4 * beats + 255) / 256)).map fun i =>
    if i = 0 then addr else (addr / 256 + i) * 256
  else [addr]

/-- R431: the owner's regions permit every beat of a range, with machine-mode permissions. -/
def State.rangeOk (s : State) (n : Fin 4) (kind : AccessKind) (addr beats : Nat) (inc : Bool) : Bool :=
  (granules addr beats inc).all fun a => (s.lodger n).permits false kind a

/-- R431 for one transfer: the source needs R, the destination W. -/
def State.transferOk (s : State) (n : Fin 4) (src dst beats : Nat) (srcInc dstInc : Bool) : Bool :=
  s.rangeOk n .load src beats srcInc && s.rangeOk n .store dst beats dstInc

/-- A START that continues a chain of 256 descriptors (R439): COUNT is 0 and DESC holds the next descriptor. (log 81: DEDUCED) -/
def Chan.continuesChain (h : Chan) : Bool := h.chainEnd && decide (h.beats = 0 ∧ h.desc ≠ 0)

/-- R447: what refuses a START. (log 81: DEDUCED) -/
def State.startRefused (s : State) (c : Fin 24) : Bool :=
  let h := s.chan c
  match h.owner with
  | none => true
  | some n =>
    decide ((h.beats = 0 ∧ h.continuesChain = false) ∨ h.src % 4 ≠ 0 ∨ h.dst % 4 ≠ 0 ∨ h.desc % 16 ≠ 0 ∨ 12 ≤ h.trig) ||
      !(h.continuesChain || s.transferOk n h.src h.dst h.beats h.srcInc h.dstInc)

def Chan.held (h : Chan) : Bool := h.holdPause || h.holdMode || h.holdOrphan

/-- Beats of transactions that are not in the buffer or on their way to it any more. -/
def unread (rs : List DmaRead) : Nat := (rs.map fun r => r.left + r.got.length).foldl (· + ·) 0

/-- A read that waits in backoff is given up when the channel pauses: its failed beat and what follows it stay unread
(Table 13-3). -/
def Chan.dropReadRetry (h : Chan) : Chan :=
  if h.backoff = .read then
    match h.reads.dropWhile fun r => !r.failed with
    | [] => { h with backoff := .none }
    | r :: later =>
      let n := r.left + unread later
      let kept := if r.got = [] then [] else [{ r with left := 0, tag := none, failed := false }]
      { h with backoff := .none, retries := 0, readLeft := h.readLeft + n, blockLeft := h.blockLeft + n
               reads := (h.reads.takeWhile fun r => !r.failed) ++ kept }
  else h

/-- A pause begins on an ACTIVE channel (Table 13-6 step 1). -/
def Chan.pauseIfHeld (h : Chan) : Chan :=
  if h.held && decide (h.st = .active) then { h.dropReadRetry with st := .pausing } else h

/-- A fetched descriptor takes the registers. -/
def Chan.loadDesc (h : Chan) (d : DmaDesc) : Chan :=
  { h with
    src := d.src, dst := d.dst, desc := d.next, beats := d.flags % 65536, srcInc := d.flags.testBit 16, dstInc := d.flags.testBit 17
    se := d.flags.testBit 18, irq := d.flags.testBit 19, descs := satInc 256 h.descs, readLeft := d.flags % 65536, blockLeft := 0
    next := none }

/-- What follows the last written beat of a transfer: the prefetched descriptor, the end of the chain, or the fetch that is
still to come (R434, R439). -/
def Chan.endTransfer (h : Chan) : Chan :=
  if h.beats = 0 ∧ h.reads = [] ∧ (h.st = .active ∨ h.st = .pausing) then
    if h.desc = 0 ∨ h.descs = 256 then
      { h with
        st := if h.stopping then .idle else .done
        stopping := false, doneEv := true, chainEnd := decide (h.desc ≠ 0), next := none, blockLeft := 0 }
    else match h.st, h.next with
      | .active, some d => h.loadDesc d
      | _, _ => h
  else h

/-- The last hold is clear: the channel goes on from its registers (Table 13-6 step 5). One whose drain had not ended goes on
with the descriptor that it had fetched, where the transfer before it is written. -/
def Chan.resumeIfFree (h : Chan) : Chan :=
  if h.held then h
  else match h.st with
    | .paused => { h with st := .active, readLeft := h.beats, blockLeft := min h.blockLeft h.beats }
    | .pausing => if h.stopping then h else { h with st := .active : Chan }.endTransfer
    | _ => h

/-- R460: a channel that passes the checks of R447 enters ACTIVE with its counts cleared; a hold that stands pauses it at
once (R455). (log 81: DEDUCED) -/
def State.dmaStart (s : State) (c : Fin 24) : State :=
  let h := s.chan c
  match h.st with
  | .active | .pausing | .paused => s.mapChan c fun h => { h with wrIgn := true }
  | .idle | .halted | .done =>
    if s.startRefused c then s.mapChan c fun h => { h with cfgErr := true }
    else s.mapChan c fun h =>
      { h with st := .active, lost := 0, retries := 0, descs := 0, errKind := 0, chainEnd := false, req := false
               blockLeft := 0, readLeft := h.beats, reads := [], next := none, irq := false, backoff := .none
               stopping := false : Chan }.pauseIfHeld

/-- R459 and Table 13-3: STOP. -/
def Chan.stop (h : Chan) : Chan :=
  match h.st with
  | .idle => h
  | .active => { h.dropReadRetry with st := .pausing, stopping := true }
  | .pausing => { h with stopping := true }
  | .paused => { h with st := .idle, holdPause := false, holdMode := false, holdOrphan := false, next := none, blockLeft := 0 }
  | .halted | .done => { h with st := .idle, errKind := 0 }

/-- R455: the owner's PAUSE hold. -/
def Chan.setPause (h : Chan) (b : Bool) : Chan :=
  if b then { h with holdPause := true : Chan }.pauseIfHeld else { h with holdPause := false : Chan }.resumeIfFree

/-- R172, R173: the MODE hold of every channel. -/
def State.carderMode (s : State) (b : Bool) : State :=
  s.mapChans fun h =>
    if b then { h with holdMode := true : Chan }.pauseIfHeld else { h with holdMode := false : Chan }.resumeIfFree

/-- R456 step 3: the ORPHAN hold on every channel of a Lodger; the channels whose drain is waited for. -/
def State.orphanChannels (s : State) (n : Fin 4) : State :=
  let wait := (List.finRange 24).filter fun c =>
    let h := s.chan c
    decide (h.owner = some n ∧ (h.st = .active ∨ h.st = .pausing))
  let s := s.mapChans fun h =>
    if h.owner = some n then { h with holdOrphan := true, orphan := true : Chan }.pauseIfHeld else h
  s.mapLodger n fun l => { l with orphanWait := wait.map (·.val) }

/-- Whether the drains that step 7 of R68 waits for have ended: PAUSED or HALTED (R456), or DONE or IDLE where the drain ended
the transfer (R434) or a STOP (R459). (log 82: DEDUCED) -/
def State.orphansDrained (s : State) (n : Fin 4) : Bool :=
  (s.lodger n).orphanWait.all fun c =>
    match idx? 24 c with
    | some c => decide ((s.chan c).st ≠ .active ∧ (s.chan c).st ≠ .pausing)
    | none => true

/-- R456 step 7: what becomes of a Lodger's channels. One that a later START left PAUSING resumes where this was its last hold
(R455). -/
def State.releaseOrphans (s : State) (n : Fin 4) : State :=
  (s.mapChans fun h =>
    if h.owner = some n then
      let h : Chan := { h with holdOrphan := false }
      if h.st = .paused ∧ h.resume = false then h.stop else h.resumeIfFree
    else h).mapLodger n fun l => { l with orphanWait := [] }

/-- Addresses of the beats that a transaction has still to fetch. -/
def DmaRead.unfetched (r : DmaRead) : List Nat :=
  if r.tag.isSome && !r.failed then (List.range r.left).map fun i => if r.inc then (r.addr + 4 * i) % 2 ^ 32 else r.addr else []

/-- A beat from memory that is fetched and discarded (R158): what a read does to the word still happens. -/
def State.fetchBeat (s : State) (c : Fin 24) (addr : Nat) : State :=
  if inSram addr then (s.sramRead (.carder c) addr 4).2 else if inLedger addr then (s.ledgerWord addr).2 else s

/-- R158: every read burst in flight from memory is fetched to its end. -/
def State.fetchRest (s : State) : State :=
  (List.finRange 24).foldl (fun s c =>
    ((s.chan c).reads.flatMap DmaRead.unfetched).foldl (fun s a => s.fetchBeat c a) s) s

/-- R462: the Carder halts without draining and its state is lost. Bursts in flight end under R157 and R158. -/
def State.carderHalt (s : State) : State := s.fetchRest.mapCarder fun _ => {}

/-- Table 13-6 step 4, R459: a drain is complete. -/
def Chan.drained (h : Chan) : Chan :=
  if h.st = .pausing ∧ h.reads = [] then
    if h.stopping then { h with st := .idle, stopping := false, next := none, blockLeft := 0 }
    else { h with st := .paused, pauseEv := true, next := none }
  else h

/-! ### Requests (R436) -/

def edgeTrig (t : Nat) : Bool := decide (t = 1 ∨ t = 8)

/-- An edge request is held until a block starts; a second one before then sets REQ_OVR. -/
def Chan.edge (h : Chan) : Chan :=
  match h.st with
  | .active | .pausing | .paused => if h.req then { h with reqOvr := true } else { h with req := true }
  | _ => h

/-- A block starts at a block boundary: the block before has been moved whole (R435, R436). (log 85: DEDUCED) -/
def Chan.startBlock (h : Chan) (level : Bool) : Chan :=
  if h.st = .active ∧ h.blockLeft = 0 ∧ h.reads = [] ∧ 0 < h.readLeft then
    if edgeTrig h.trig then
      if h.req then { h with req := false, blockLeft := min (h.reqBlk + 1) h.readLeft } else h
    else if level then { h with blockLeft := min (h.reqBlk + 1) h.readLeft }
    else h
  else h

/-- An edge of a source reaches every channel that it triggers. -/
def State.raiseEdge (s : State) (t : Nat) : State :=
  s.mapChans fun h => if h.trig = t then h.edge.startBlock false else h

/-! ### Register writes of a channel (R430, R448) -/

/-- A Lodger's write to a channel that it does not own is counted and has no effect (R430); a START of a channel that has no
owner sets its CFG_ERR besides (R447). (log 51: DEDUCED) -/
def State.ownedWrite (s : State) (who : Requester) (c : Fin 24) (start : Bool) (go : State → State) : State :=
  let ok (n : Fin 4) : Bool := decide ((s.chan c).owner = some n)
  let refuse := (s.mapCarder fun d => { d with nonOwner := satInc 0xFFFF d.nonOwner }).mapChan c fun h =>
    { h with cfgErr := h.cfgErr || (start && h.owner.isNone) }
  match who with
  | .lodger n _ | .debug n => if ok n then go s else refuse
  | _ => go s

/-- A write of START, PAUSE, STOP and the interrupt enables together, as DMAn_CTRL takes them: STOP acts on the state that it
meets (R459), and a START on what it leaves. (log 81: DEDUCED) -/
def State.chanCtrl (s : State) (c : Fin 24) (w : Word) : State :=
  let s := s.mapChan c fun h => { h with ie := BitVec.ofNat 4 (bits w 10 7) }
  let s := if bit w 2 then s.mapChan c Chan.stop else s
  let s := if (s.chan c).holdPause ≠ bit w 1 then s.mapChan c fun h => h.setPause (bit w 1) else s
  if bit w 0 then s.dmaStart c else s

/-- A set-up write, ignored with WR_IGN while the channel is ACTIVE or PAUSING (R448). -/
def State.chanSetup (s : State) (c : Fin 24) (f : Chan → Chan) : State :=
  s.mapChan c fun h =>
    match h.st with
    | .active | .pausing => { h with wrIgn := true }
    | _ => f h

def Chan.cfgWord (h : Chan) : Word :=
  pack [at_ 24 h.reqBlk, at_ 16 h.trig, flag 14 h.se, flag 13 h.dstInc, flag 12 h.srcInc, at_ 8 h.burst, at_ 4 h.retry, at_ 0 h.prio]

def Chan.setCfg (h : Chan) (w : Word) : Chan :=
  { h with reqBlk := bits w 31 24, trig := bits w 20 16, se := bit w 14, dstInc := bit w 13, srcInc := bit w 12
           burst := bits w 11 8, retry := bits w 6 4, prio := bits w 1 0 }

def DmaState.code : DmaState → Nat
  | .idle => 0
  | .active => 1
  | .pausing => 2
  | .paused => 3
  | .halted => 4
  | .done => 5

def Chan.statWord (h : Chan) : Word :=
  let tags := (h.reads.filter fun r => r.tag.isSome).length
  pack [at_ 30 (match h.owner with
      | some n => n.val
      | none => 0),
    flag 29 h.owner.isSome, at_ 24 tags, flag 22 h.holdOrphan, flag 21 h.holdMode, flag 20 h.holdPause, at_ 16 h.errKind,
    flag 15 h.orphan, flag 14 h.chainEnd, flag 13 h.reqOvr, flag 12 h.cfgErr, flag 11 h.wrIgn, flag 10 h.descEv,
    flag 9 h.pauseEv, flag 8 h.haltEv, flag 7 h.doneEv, at_ 4 h.retries, at_ 0 h.st.code]

/-- W1C bits of DMAn_STAT. -/
def Chan.clearStat (h : Chan) (w : Word) : Chan :=
  { h with orphan := h.orphan && !bit w 15, reqOvr := h.reqOvr && !bit w 13, cfgErr := h.cfgErr && !bit w 12
           wrIgn := h.wrIgn && !bit w 11, descEv := h.descEv && !bit w 10, pauseEv := h.pauseEv && !bit w 9
           haltEv := h.haltEv && !bit w 8, doneEv := h.doneEv && !bit w 7 }

/-- Buffer space reserved and held by a channel, in beats (R443). -/
def Chan.used (h : Chan) : Nat := (h.reads.map fun r => r.left + r.got.length).foldl (· + ·) 0

def Carder.bufUnits (d : Carder) : Nat := ((d.chans.toList.map Chan.used).foldl (· + ·) 0 + 15) / 16

def Carder.tagsUsed (d : Carder) : List Nat := d.chans.toList.flatMap fun h => h.reads.filterMap fun r => r.tag

/-- Reads of the CARDER window (Tables 13-8, 13-9). -/
def State.carderRead (s : State) (off : Nat) : Word :=
  if off < 0x1800 then
    match idx? 24 (off / 0x100) with
    | none => 0
    | some c =>
      let h := s.chan c
      match off % 0x100 with
      | 0x00 => pack [at_ 7 h.ie.toNat, flag 1 h.holdPause]
      | 0x04 => h.cfgWord
      | 0x08 => BitVec.ofNat 32 h.src
      | 0x0C => BitVec.ofNat 32 h.dst
      | 0x10 => pack [at_ 16 h.descs, at_ 0 h.beats]
      | 0x14 => BitVec.ofNat 32 h.desc
      | 0x18 => h.statWord
      | 0x1C => at_ 0 h.lost
      | 0x20 => BitVec.ofNat 32 h.errAddr
      | _ => 0
  else match off with
    | 0x1800 => pack [at_ 16 s.carder.nonOwner, at_ 8 s.carder.tagsUsed.length, at_ 0 s.carder.bufUnits]
    | 0x1804 => pack ((List.finRange 24).map fun c => flag c.val (decide ((s.chan c).st = .halted)))
    | 0x1808 => at_ 0 s.carder.lost
    | _ => 0

/-- Writes of the CARDER window; an offset without a register takes none, whoever writes (R633). -/
def State.carderWrite (s : State) (who : Requester) (off : Nat) (w : Word) : State :=
  if off < 0x1800 then
    match idx? 24 (off / 0x100) with
    | none => s
    | some c => if 0x20 < off % 0x100 then s else s.ownedWrite who c (decide (off % 0x100 = 0) && bit w 0) fun s =>
      match off % 0x100 with
      | 0x00 => s.chanCtrl c w
      | 0x04 => s.chanSetup c fun h => h.setCfg w
      | 0x08 => s.chanSetup c fun h => { h with src := w.toNat }
      | 0x0C => s.chanSetup c fun h => { h with dst := w.toNat }
      | 0x10 => s.chanSetup c fun h => { h with beats := bits w 15 0 }
      | 0x14 => s.chanSetup c fun h => { h with desc := w.toNat }
      | 0x18 => s.mapChan c fun h => h.clearStat w
      | _ => s
  else s

/-! ### Commands -/

/-- A Lodger's write to DMAn_CTRL with the given bits, the interrupt enables as they stand. -/
def State.ctrlCommand (s : State) (n : Fin 4) (user : Bool) (c : Fin 24) (start : Bool) (go : State → State) : State :=
  s.access (.lodger n user) .store (chanBase c) fun s => (s.answer 0).ownedWrite (.lodger n user) c start go

/-- DMA_START. -/
def execDmaStart (n : Fin 4) (user : Bool) (c : Fin 24) (s : State) : Result :=
  .next (s.ctrlCommand n user c true fun s => s.dmaStart c)

/-- DMA_STOP. -/
def execDmaStop (n : Fin 4) (user : Bool) (c : Fin 24) (s : State) : Result :=
  .next (s.ctrlCommand n user c false fun s => s.mapChan c Chan.stop)

/-- DMA_PAUSE. -/
def execDmaPause (n : Fin 4) (user : Bool) (c : Fin 24) (s : State) : Result :=
  .next (s.ctrlCommand n user c false fun s => s.mapChan c fun h => h.setPause true)

/-- DMA_RESUME: the owner's hold is cleared. -/
def execDmaResume (n : Fin 4) (user : Bool) (c : Fin 24) (s : State) : Result :=
  .next (s.ctrlCommand n user c false fun s => s.mapChan c fun h => h.setPause false)

/-- DMA_DRAIN_COMPLETE. -/
def execDmaDrainComplete (c : Fin 24) (s : State) : Result := .next (s.mapChan c Chan.drained)

end Sys2Proof.Machine
end

