-- ==== Sys2Proof/Machine/Gridis.lean ====
section
/-! DEFINITION. Gridis: frames, sequence numbers, transmit buffers, membership, Trip and the controllers (R464 to R502). -/

namespace Sys2Proof.Machine

def State.can (s : State) (c : Fin 2) : Can := vget s.grd.cans c

def State.mapCan (s : State) (c : Fin 2) (f : Can → Can) : State := s.mapGrd fun g => { g with cans := vmod g.cans c f }

def State.grdInt (s : State) (b : Nat) : State := s.mapGrd fun g => { g with int := g.int ||| BitVec.ofNat 5 (2 ^ b) }

/-- GRD_TS (R495): 10 MHz, wrapping. -/
def State.ts (s : State) : Nat := s.grd.clock

/-- GRD_TS at the start of a frame that began `ticks` of 100 ns ago (R495). (log 155: DEDUCED) -/
def State.startTs (s : State) (ticks : Nat) : Nat := (s.grd.clock + 2 ^ 32 - ticks % 2 ^ 32) % 2 ^ 32

/-- The coaching clock, in µs, at the start of such a frame (R520, R521). -/
def State.startClock (s : State) (ticks : Nat) : Nat := s.grp.clock - ticks / 10

/-! ### Frames (R475, R476) -/

def Frame.cls (f : Frame) : Nat := f.id / 2 ^ 26 % 8
def Frame.src (f : Frame) : Nat := f.id / 2 ^ 18 % 256
def Frame.field (f : Frame) : Nat := f.id % 2 ^ 18
def Frame.seq (f : Frame) : Nat := fieldAt f.payload 0 1
def Frame.len (f : Frame) : Nat := fieldAt f.payload 1 1
def Frame.origin (f : Frame) : Nat := fieldAt f.payload 2 1 % 8
def Frame.hops (f : Frame) : Nat := fieldAt f.payload 2 1 / 8 % 8
def Frame.addressed (f : Frame) : Bool := decide (fieldAt f.payload 2 1 / 128 = 1)
def Frame.dest (f : Frame) : Nat := fieldAt f.payload 3 1
def Frame.data (f : Frame) : List Byte := f.payload.drop 4

/-- The valid CAN FD length that holds `n` bytes (R476). -/
def fdLength (n : Nat) : Nat :=
  if n ≤ 8 then n else ([12, 16, 20, 24, 32, 48, 64].find? fun k => decide (n ≤ k)).getD 64

/-- A frame of this device: class, class field, must-deliver mark, destination and data, under a given SEQ. -/
def State.mkFrame (s : State) (cls field seq : Nat) (md : Bool) (dest : Option Nat) (data : List Byte) : Frame :=
  let hdr := leBytes 1 seq ++ leBytes 1 data.length ++
    leBytes 1 (s.grd.seg + (if md then 64 else 0) + (if dest.isSome then 128 else 0)) ++ leBytes 1 (dest.getD 0)
  { id := cls * 2 ^ 26 + s.grd.node * 2 ^ 18 + field
    fd := decide (cls ≠ 0)
    brs := decide (cls ≠ 0) && s.grd.brs
    payload := padTo (if cls = 0 then 8 else fdLength (4 + data.length)) (hdr ++ data) }

/-- R477: the SEQ for a new message of a class. -/
def State.nextSeqOf (s : State) (cls : Fin 8) : Nat × State :=
  (vget s.grd.seqs cls, s.mapGrd fun g => { g with seqs := vmod g.seqs cls fun q => (q + 1) % 256 })

/-! ### Transmit buffers (R489, R492) -/

/-- An Innkeeper frame is placed in a buffer, or waits for one. -/
def State.enqueue (s : State) (c : Fin 2) (t : TxFrame) : State :=
  s.mapCan c fun k => if k.tx.length < 32 then { k with tx := k.tx ++ [t] } else { k with backlog := k.backlog ++ [t] }

def Can.up (k : Can) : Bool := decide (k.st = .active ∨ k.st = .passive)

/-- The controllers that an Innkeeper message goes out on: a bridge uses both, any other member A, or B while A is not
ACTIVE (R481). (log 91: DEDUCED) -/
def State.routes (s : State) : List (Fin 2) :=
  if s.grd.bridge then [0, 1] else if (s.can 0).st = .active then [0] else [1]

/-- A new Innkeeper message on the given controllers. (log 111: DESIGN CHOICE) -/
def State.sendOn (s : State) (cs : List (Fin 2)) (cls : Fin 8) (field : Nat) (dest : Option Nat) (data : List Byte)
    (pinned : Bool) : State :=
  let q := s.nextSeqOf cls
  let f := q.2.mkFrame cls.val field q.1 false dest data
  cs.foldl (fun s c => s.enqueue c { frame := f, pinned := pinned }) q.2

/-- CTRL bits of a list of controllers (Table 11-3). -/
def ctrlOf (cs : List (Fin 2)) : Nat := (if cs.contains 0 then 1 else 0) + (if cs.contains 1 then 2 else 0)

/-- The controllers that CTRL bits name. -/
def ctrlList (n : Nat) : List (Fin 2) := (if n % 2 = 1 then [0] else []) ++ (if n / 2 % 2 = 1 then [1] else [])

/-- A frame is queued on controllers and its record, if it has one, becomes ISSUED. -/
def State.placeFrame (s : State) (cs : List (Fin 2)) (t : TxFrame) : State :=
  let s := cs.foldl (fun s c => s.enqueue c t) s
  if t.journal = 0 then s else s.issued t.journal

/-- Kept records still wait to be issued, or to be sent (R393, R500). -/
def State.keptWait (s : State) : Bool :=
  !s.keys.reclaims.isEmpty || s.grd.cans.toList.any fun k => (k.tx ++ k.backlog).any (·.kept)

/-- A new must-deliver message is placed, once no kept record waits before it (R393, R500). -/
def State.placeMust (s : State) (cs : List (Fin 2)) (t : TxFrame) : State :=
  if s.keptWait then s.mapGrd fun g => { g with deferred := g.deferred ++ [(cs, t)] } else s.placeFrame cs t

/-- Once no kept record waits, the messages that waited for them are placed, in their order (R393, R500). -/
def State.sendDeferred (s : State) : State :=
  if s.keptWait then s
  else s.grd.deferred.foldl (fun s x => s.placeFrame x.1 x.2) (s.mapGrd fun g => { g with deferred := [] })

/-- A journaled message of the Innkeeper (R374, kind 5): the record is written first, then the frame is placed. Without a free
slot it goes without a record and is counted (R384). -/
def State.sendJournaled (s : State) (cs : List (Fin 2)) (f : Frame) : State :=
  match s.wbl.nextFree with
  | some k =>
    let r := s.writeRec k 4 (.grdMsg f.id f.payload.length (ctrlOf cs) f.payload)
    r.2.placeMust cs { frame := f, journal := r.1 }
  | none => (s.mapWbl fun w => { w with unjrnl := satInc 0xFF w.unjrnl }).placeMust cs { frame := f }

/-- A new must-deliver message of the Innkeeper. -/
def State.sendMust (s : State) (cls : Fin 8) (field : Nat) (data : List Byte) : State :=
  let q := s.nextSeqOf cls
  q.2.sendJournaled q.2.routes (q.2.mkFrame cls.val field q.1 true none data)

/-- A new must-deliver message that a Lodger asks for: none when R383 refuses its record, and then nothing is issued. -/
def State.lodgerMust (s : State) (n : Fin 4) (cls : Fin 8) (field : Nat) (dest : Option Nat) (data : List Byte) :
    Bool × State :=
  let q := s.nextSeqOf cls
  let f := q.2.mkFrame cls.val field q.1 true dest data
  let r := s.lodgerRec n.val (.grdMsg f.id f.payload.length (ctrlOf s.routes) f.payload)
  match r.1 with
  | none => (false, r.2)
  | some j =>
    (true, (r.2.mapGrd fun g => { g with seqs := q.2.grd.seqs }).placeMust s.routes { frame := f, journal := j })

/-- A kept GRD_MSG goes out again under its record (R393). -/
def State.resend (s : State) (r : Rec) : State :=
  match r.body with
  | .grdMsg id _ ctrl p =>
    let isFd := decide (id / 2 ^ 26 % 8 ≠ 0)
    s.placeFrame (ctrlList ctrl)
      { frame := { id := id, fd := isFd, brs := isFd && s.grd.brs, payload := p }, journal := r.seq, kept := true }
  | _ => s

/-- A buffer has become free: a waiting frame takes it, and a waiting request of a Lodger is looked at by
TX_REQUEST_RESUME. -/
def Can.refill (k : Can) : Can :=
  match k.backlog with
  | t :: ts => if k.tx.length < 32 then { k with tx := k.tx ++ [t], backlog := ts } else k
  | [] => k

/-- The pending frame with the lowest identifier (R489), the oldest among equals. -/
def lowestTx : List TxFrame → Option TxFrame
  | [] => none
  | t :: ts => match lowestTx ts with
    | none => some t
    | some u => if t.frame.id ≤ u.frame.id then some t else some u

def lowestFrame : List Frame → Option Frame
  | [] => none
  | t :: ts => match lowestFrame ts with
    | none => some t
    | some u => if t.id ≤ u.id then some t else some u

def highestFrame : List Frame → Option Frame
  | [] => none
  | t :: ts => match highestFrame ts with
    | none => some t
    | some u => if u.id ≤ t.id then some t else some u

/-- A controller sends: up, and not in restricted operation (R192). It sends the leaving message of a thermal shutdown
before its domain stops (Table 06-3). (log 86: DEDUCED; log 113: DESIGN CHOICE) -/
def State.canSends (s : State) (c : Fin 2) : Bool :=
  (s.can c).up && !s.power.xtalRc && decide (s.power.mode ≠ .standby) && (s.live || decide (s.power.phase = .shutdown))

/-- The controllers that CTRL of a record's message names (Table 11-3). -/
def State.named (s : State) (journal : Nat) : List (Fin 2) :=
  match s.wbl.find? journal with
  | some r => match r.body with
    | .grdMsg _ _ ctrl _ => ctrlList ctrl
    | _ => [0, 1]
  | none => []

/-- R491: a must-deliver message sent on a controller that CTRL names is delivered: its record is DONE, and its Lodger sees
DELIVERED. A second copy, sent on the other controller afterwards, delivers nothing again. -/
def State.delivered (s : State) (c : Fin 2) (t : TxFrame) : State :=
  if t.journal = 0 || !(s.named t.journal).contains c then s else
    let q := s.recDone t.journal 0
    match t.lodger with
    | some n => if (s.wbl.find? t.journal).isSome then
        q.mapGrd fun g => { g with txm := vmod g.txm n fun m => { m with delivered := true } }
      else q
    | none => q

/-- A pending FOLLOW to a SYNC sent takes the coaching time of that SYNC (R520, R495). (log 15: DEDUCED) -/
def Frame.followTime (f sync : Frame) (clock : Nat) : Frame :=
  if sync.cls = 2 ∧ sync.field = 0 ∧ f.cls = 2 ∧ f.field = 2 ^ 14 ∧ f.src = sync.src ∧ fieldAt f.data 0 1 = sync.seq then
    { f with payload := f.payload.take 8 ++ leBytes 4 (clock / 1000000) ++ leBytes 4 (clock % 1000000) ++ f.payload.drop 16 }
  else f

/-- The frames of a controller that still wait, after a frame has been sent. -/
def Can.stampFollow (k : Can) (sync : Frame) (clock : Nat) : Can :=
  let g (t : TxFrame) : TxFrame := { t with frame := t.frame.followTime sync clock }
  { k with tx := k.tx.map g, backlog := k.backlog.map g }

/-- Copies of a kept frame that still wait on the other controller hold nothing back once it has been sent (R500). -/
def Can.keptSent (k : Can) (t : TxFrame) : Can :=
  let g (u : TxFrame) : TxFrame := if u = t then { u with kept := false } else u
  { k with tx := k.tx.map g, backlog := k.backlog.map g }

/-- A frame sent without error: its start is stamped (R495), and TEC falls by one (ISO 11898-1), which ends PASSIVE below 128.
(log 87: PRESUMED) -/
def Can.sent (k : Can) (ts : Nat) : Can :=
  let t := k.txErr - 1
  { k with txErr := t, sentTs := ts, st := if k.st = .passive ∧ t < 128 ∧ k.rxErr < 128 then .active else k.st }

/-- One of the frames that the Innkeeper placed has been sent: its buffer is free, and what its sending brings about (R491, R500,
R520). -/
def State.ownSent (s : State) (c : Fin 2) (t : TxFrame) (ticks : Nat) : State :=
  let s := s.mapCan c fun k =>
    (({ k with tx := k.tx.erase t : Can }.refill).sent (s.startTs ticks)).stampFollow t.frame (s.startClock ticks)
  let s := s.delivered c t
  if t.kept then (s.mapGrd fun g => { g with cans := g.cans.map fun k => k.keptSent t }).sendDeferred else s

/-- CAN_FRAME_TRANSMITTED: the pending frame with the lowest identifier, of the buffers or of the forwarding queue, has been sent
without error (R474, R489); it began `ticks` of 100 ns ago. (log 86: DEDUCED; log 113: DESIGN CHOICE) -/
def State.frameSent (s : State) (c : Fin 2) (ticks : Nat) : State :=
  if s.canSends c then
    let fwd (f : Frame) : State := s.mapCan c fun k => ({ k with fwd := k.fwd.erase f } : Can).sent (s.startTs ticks)
    match lowestTx (s.can c).tx, lowestFrame (s.can c).fwd with
    | some t, some f => if f.id < t.frame.id then fwd f else s.ownSent c t ticks
    | some t, none => s.ownSent c t ticks
    | none, some f => fwd f
    | none, none => s
  else s

/-! ### Lodger transmit mailboxes (R490) -/

def State.mapTxm (s : State) (n : Fin 4) (f : TxMbx → TxMbx) : State :=
  s.mapGrd fun g => { g with txm := vmod g.txm n f }

/-- First `n` data bytes of a transmit mailbox. -/
def TxMbx.bytes (m : TxMbx) (n : Nat) : List Byte := (m.data.toList.flatMap fun w => leBytes 4 w.toNat).take n

def State.txComplete (s : State) (n : Fin 4) (result : Nat) : State :=
  s.mapTxm n fun m => { m with busy := false, done := true, result := result, waiting := none }

/-- R490 step 4: the frame is queued once every selected controller has a free buffer, and a must-deliver message once no
kept record waits before it (R393); until then BUSY stays set. -/
def State.txQueue (s : State) (n : Fin 4) (t : TxFrame) (ctrl : Nat) : State :=
  let cs := ctrlList ctrl
  if (cs.all fun c => decide ((s.can c).tx.length < 32)) && (decide (t.journal = 0) || !s.keptWait) then
    (s.placeFrame cs t).txComplete n 0
  else s.mapTxm n fun m => { m with waiting := some (t, ctrl) }

/-- GRD_TX_GO (R490). -/
def State.txGo (s : State) (n : Fin 4) : State :=
  let m := vget s.grd.txm n
  if m.busy then s.mapTxm n fun m => { m with overrun := true } else
    let s := s.mapTxm n fun m => { m with busy := true }
    let cls := bits m.hdr 28 26
    let len := bits m.opt 5 0
    let md := bit m.opt 6
    if cls < 5 ∨ 60 < len ∨ (md = true ∧ 28 < len) then s.txComplete n 2 else
      let ctrl := if bits m.opt 17 16 = 0 then 1 else bits m.opt 17 16
      match idx? 8 cls with
      | none => s.txComplete n 2
      | some k =>
        let q := s.nextSeqOf k
        let f := q.2.mkFrame cls (bits m.hdr 17 0) q.1 md (if bit m.opt 7 then some (bits m.opt 15 8) else none) (m.bytes len)
        if md then
          let r := s.lodgerRec n.val (.grdMsg f.id f.payload.length ctrl f.payload)
          match r.1 with
          | none => r.2.txComplete n 4
          | some j =>
            let s := (r.2.mapGrd fun g => { g with seqs := q.2.grd.seqs }).mapTxm n fun m => { m with seq := q.1 }
            s.txQueue n { frame := f, journal := j, lodger := some n } ctrl
        else (q.2.mapTxm n fun m => { m with seq := q.1 }).txQueue n { frame := f, lodger := some n } ctrl

/-- TX_REQUEST_RESUME (R490). -/
def State.txResume (s : State) (n : Fin 4) : State :=
  match (vget s.grd.txm n).waiting with
  | some (t, ctrl) => s.txQueue n t ctrl
  | none => s

/-! ### Membership (R481, R482) -/

def State.member? (s : State) (n : Nat) : Option Member := s.grd.members.find? fun m => decide (m.node = n)

/-- Whether a node is present; the own node always is (R482). -/
def State.present (s : State) (n : Nat) : Bool := decide (n = s.grd.node) || (s.member? n).isSome

/-- Heartbeat FLAGS of this device (Table 14-6). (log 114: DEDUCED) -/
def State.ownFlags (s : State) : Nat :=
  let b (c : Bool) (k : Nat) : Nat := if c then 2 ^ k else 0
  b s.grd.ownTrip 0 + b (decide (s.grp.st = .joining ∨ s.grp.st = .apart)) 1 +
    b (s.thm.range || s.thm.selftest || s.thm.neighbour) 2 + b s.thm.thrReq 3 + b s.grp.ext 4 + b s.grp.onTime 5 +
    b s.grd.bridge 6

def Mode.code : Mode → Nat
  | .run => 1
  | .nightHold => 2
  | .standby => 3

/-- Heartbeat data of this device (Table 14-6). -/
def State.heartbeatData (s : State) : List Byte :=
  let i := s.image.getD {}
  leBytes 8 i.digest ++ leBytes 2 i.version ++ leBytes 2 (unsignedOf 16 s.thm.tj) ++ leBytes 1 s.ownFlags ++
    leBytes 1 s.power.mode.code ++ leBytes 1 s.keys.held.length ++ leBytes 1 0

def isHeartbeat (node : Nat) (f : Frame) : Bool := decide (f.id = 3 * 2 ^ 26 + node * 2 ^ 18)

/-- HEARTBEAT_SEND (R481): a heartbeat still pending is replaced. A device in Standby, in restricted operation or with no
controller up sends none, and none goes out before the kept records (R500). -/
def State.heartbeatSend (s : State) : State :=
  if s.awake && s.grd.started && !s.power.xtalRc && ((s.can 0).up || (s.can 1).up) && !s.keptWait then
    let drop (k : Can) : Can :=
      { k with tx := k.tx.filter fun t => !isHeartbeat s.grd.node t.frame
               backlog := k.backlog.filter fun t => !isHeartbeat s.grd.node t.frame }
    (s.mapGrd fun g => { g with cans := g.cans.map drop }).sendOn s.routes 3 0 none s.heartbeatData false
  else s

/-! ### Trip (R485 to R488) -/

/-- The Trip state (R486). -/
def State.tripActive (s : State) : Bool := s.grd.ownTrip || !s.grd.trips.isEmpty || s.grd.line

/-- A change of what the Trip state is made of; a change of the state sets GRD_INT.TRIP (R486). (log 92: DEDUCED) -/
def State.tripChange (s : State) (f : Grd → Grd) : State :=
  let s' := s.mapGrd f
  if s'.tripActive = s.tripActive then s' else s'.grdInt 0

/-- A node's Trip as its latest Trip frame or heartbeat has it. -/
def State.nodeTrip (s : State) (n : Nat) (on : Bool) : State :=
  s.tripChange fun g => { g with trips := if on then Marks.add n g.trips else Marks.del n g.trips }

/-- TRIP_IO is pulled (R487). -/
def State.tripPull (s : State) : Bool := s.grd.ownTrip && s.grd.backup

def Can.downForTrip (k : Can) : Bool := decide (k.st = .busoff ∨ k.st = .off)

/-- TRIP_RAISE (R485): the own Trip stands with its REASON, and a raise is queued on A and on B. A REASON of 0 raises
nothing. -/
def State.tripRaise (s : State) (reason : Nat) : State :=
  if reason = 0 then s.mapGrd fun g => { g with reason := 0 } else
    let down := (s.can 0).downForTrip || (s.can 1).downForTrip
    let s := s.tripChange fun g =>
      { g with reason := reason, ownTrip := true, backup := (g.ownTrip && g.backup) || down }
    s.sendOn [0, 1] 0 0 none (leBytes 2 reason) false

/-- TRIP_CLEAR (R485): without an own Trip it has no effect. -/
def State.tripClear (s : State) : State :=
  if s.grd.ownTrip then
    let r := s.grd.reason
    let s := s.tripChange fun g => { g with ownTrip := false, backup := false }
    s.sendOn [0, 1] 0 (2 ^ 16) none (leBytes 2 r) false
  else s

/-- TRIP_FORGET (R486): drops the Trip of an absent node. -/
def State.tripForget (s : State) (n : Nat) : State := if s.present n then s else s.nodeTrip n false

/-! ### Controllers (R497 to R499) -/

/-- The other controller. -/
def otherCan (c : Fin 2) : Fin 2 := if c = 0 then 1 else 0

/-- A pending frame taken out of a controller: the buffer it leaves takes the frame that waits longest for one. -/
def Can.take (k : Can) (t : TxFrame) : Can :=
  if k.tx.contains t then { k with tx := k.tx.erase t : Can }.refill else { k with backlog := k.backlog.erase t }

/-- R492: a member that is not a bridge moves the pending frames of a lost controller to the other one, in ascending
identifier order, as far as buffers are free; leaving and throttle notices stay where they are (R484). Nothing moves to a
controller that is lost too. (log 91: DEDUCED) -/
def State.moveFrames (s : State) (c : Fin 2) : State :=
  let o := otherCan c
  if s.grd.bridge || (s.can o).downForTrip then s else
    let rec go : Nat → State → State
      | 0, s => s
      | n + 1, s =>
        let k := s.can o
        match lowestTx (((s.can c).tx ++ (s.can c).backlog).filter fun t => !t.pinned && !(k.tx ++ k.backlog).contains t) with
        | some t =>
          if k.tx.length < 32 then go n ((s.mapCan c fun k => k.take t).mapCan o fun k => { k with tx := k.tx ++ [t] })
          else s
        | none => s
    go 32 s

/-- A controller is ACTIVE again: what is held for it is sent, and with the other one still lost, the frames pending there move to
it (Table 14-8, R492). (log 91: DEDUCED) -/
def State.activeAgain (s : State) (c : Fin 2) : State :=
  if (s.can (otherCan c)).downForTrip then s.moveFrames (otherCan c) else s

/-- BUS_OFF (R464, R498): TEC has passed 255; the frames move (R492), TRIP_IO backs a standing Trip up (R487). In restricted operation
no counter moves (R192). (log 87: PRESUMED; log 112: PRESUMED) -/
def State.busOff (s : State) (c : Fin 2) : State :=
  if s.power.xtalRc = false ∧ ((s.can c).st = .active ∨ (s.can c).st = .passive) then
    let s := (s.mapCan c fun k => { k with st := .busoff, txErr := 255, busoffCnt := satInc 0xFFFF k.busoffCnt }).grdInt 2
    let s := s.mapGrd fun g => { g with backup := g.backup || g.ownTrip }
    s.moveFrames c
  else s

/-- BUSOFF_RECOVERY_COMPLETE (R498, R499): the eighth within 3 600 s leads to OFF, where frames still pending move (R492). The
error counters start again. -/
def State.recovered (s : State) (c : Fin 2) : State :=
  if (s.can c).st = .busoff then
    let rs := s.now :: (s.can c).recoveries.filter fun t => decide (s.now < t + 3600000000)
    if 8 ≤ rs.length then
      let s := (s.mapCan c fun k => { k with st := .off, recoveries := rs, txErr := 0, rxErr := 0 }).grdInt 3
      (s.logEvent 0x0703 (leBytes 1 c.val ++ leBytes 2 (s.can c).busoffCnt)).moveFrames c
    else s.mapCan c fun k => { k with st := .recover, recoveries := rs, txErr := 0, rxErr := 0 }
  else s

/-- HOLDOFF_END (R498). -/
def State.holdoffEnd (s : State) (c : Fin 2) : State :=
  if (s.can c).st = .recover then (s.mapCan c fun k => { k with st := .active }).activeAgain c else s

/-- REEN (R499). -/
def State.reen (s : State) (c : Fin 2) : State :=
  if (s.can c).st = .off then s.mapCan c fun k => { k with st := .recover, recoveries := [] } else s

/-- A frame received without error lowers REC by one; from above 127 it comes back to a value from 119 to 127 that ISO 11898-1
leaves to the controller. That ends PASSIVE with TEC below 128 too. (log 87: PRESUMED) -/
def Can.heard (k : Can) : Can :=
  let r := if 127 < k.rxErr then 119 + Config.openRec k.rxErr % 9 else k.rxErr - 1
  { k with rxErr := r, st := if k.st = .passive ∧ k.txErr < 128 then .active else k.st }

/-- CAN_BUS_ERROR (R464, R497): the error counters rise as ISO 11898-1 has it, by 8 for a transmitter and by `rx` for a
receiver; above 127 the controller is PASSIVE, and a TEC above 255 is bus-off. In RECOVER the controller receives only: REC rises.
In restricted operation the counters are frozen (R192).
(log 87: PRESUMED; log 112: PRESUMED) -/
def State.busError (s : State) (c : Fin 2) (transmitter : Bool) (rx : Nat) : State :=
  if s.power.xtalRc then s
  else if (s.can c).st = .recover then
    if transmitter then s else s.mapCan c fun k => { k with rxErr := satAdd 255 k.rxErr rx }
  else
    let burst := transmitter && decide (255 < (s.can c).txErr + 8)
    let s := if (s.can c).up then
        s.mapCan c fun k =>
          let t := if transmitter then satAdd 255 k.txErr 8 else k.txErr
          let r := if transmitter then k.rxErr else satAdd 255 k.rxErr rx
          { k with txErr := t, rxErr := r, st := if 127 < t ∨ 127 < r then .passive else .active }
      else s
    if burst then s.busOff c else s

/-- CAN controllers stop at step 4 of R172, of Table 05-6 and at step 5 of Table 06-3, and are ACTIVE again after step 3 of R173,
buffers kept (R501). -/
def Grd.halt (g : Grd) : Grd := { g with cans := g.cans.map fun k => { k with st := .stopped } }
def Grd.resume (g : Grd) : Grd :=
  if g.timingBad || !g.started then g
  else { g with cans := g.cans.map fun k => { k with st := .active, txErr := 0, rxErr := 0 } }

/-! ### Commands -/

/-- CAN_FRAME_TRANSMITTED on controller `c`, of a frame that began `ticks` of 100 ns ago. (log 113: DESIGN CHOICE) -/
def execCanFrameTransmitted (c : Fin 2) (ticks : Nat) (s : State) : Result := .next (s.frameSent c ticks)

/-- HEARTBEAT_SEND. -/
def execHeartbeatSend (s : State) : Result := .next s.heartbeatSend

/-- TRIP_RAISE: GRD_TRIP lies at 0x4006_0014. -/
def execTripRaise (n : Fin 4) (user : Bool) (reason : BitVec 16) (s : State) : Result :=
  .next (s.access (.lodger n user) .store 0x40060014 fun s => (s.answer 0).tripRaise reason.toNat)

/-- TRIP_CLEAR. -/
def execTripClear (n : Fin 4) (user : Bool) (s : State) : Result :=
  .next (s.access (.lodger n user) .store 0x40060014 fun s => (s.answer 0).tripClear)

/-- TRIP_FORGET. -/
def execTripForget (n : Fin 4) (user : Bool) (node : Byte) (s : State) : Result :=
  .next (s.access (.lodger n user) .store 0x40060014 fun s => (s.answer 0).tripForget node.toNat)

/-- TRIP_LINE_CHANGE (R486): TRIP_IO has been low, or high, for 20 µs. (log 92: DEDUCED) -/
def execTripLineChange (low : Bool) (s : State) : Result :=
  .next (if s.awake then s.tripChange fun g => { g with line := low } else s)

/-- GRD_TX_GO: GRD_TXn_CMD lies at 0x4006_1044 + n × 0x100. -/
def execGrdTxGo (n : Fin 4) (user : Bool) (s : State) : Result :=
  .next (s.access (.lodger n user) .store (0x40061044 + n.val * 0x100) fun s => (s.answer 0).txGo n)

/-- TX_REQUEST_RESUME. -/
def execTxRequestResume (n : Fin 4) (s : State) : Result := .next (s.txResume n)

/-- BUS_OFF. -/
def execBusOff (c : Fin 2) (s : State) : Result := .next (s.busOff c)

/-- BUSOFF_RECOVERY_COMPLETE. -/
def execBusoffRecoveryComplete (c : Fin 2) (s : State) : Result := .next (s.recovered c)

/-- HOLDOFF_END. -/
def execHoldoffEnd (c : Fin 2) (s : State) : Result := .next (s.holdoffEnd c)

/-- REEN: GRD_CANc_CTRL lies at 0x4006_0100 + c × 0x100. -/
def execReen (n : Fin 4) (user : Bool) (c : Fin 2) (s : State) : Result :=
  .next (s.access (.lodger n user) .store (0x40060100 + c.val * 0x100) fun s => (s.answer 0).reen c)

/-- CAN_BUS_ERROR. (log 112: PRESUMED) -/
def execCanBusError (c : Fin 2) (transmitter : Bool) (rx : Nat) (s : State) : Result := .next (s.busError c transmitter rx)

end Sys2Proof.Machine
end

