-- ==== Sys2Proof/Machine/Mailbox.lean ====
section
/-! DEFINITION. The mailboxes: how a request is posted (R52, R53), and in what order the Innkeeper takes requests (R54). What
each command does is in the files of the services. -/

namespace Sys2Proof.Machine

def State.mbx (s : State) (n : Fin 4) : Mailbox := (s.lodger n).mbx

def State.mapMbx (s : State) (n : Fin 4) (f : Mailbox → Mailbox) : State :=
  s.mapLodger n fun l => { l with mbx := f l.mbx }

/-- First address of Lodger `n`'s block in the INK window. -/
def blockBase (n : Fin 4) : Nat := 0x400F0000 + n.val * 0x100

/-- Argument `i` of a request. -/
def State.mbxArg (s : State) (n : Fin 4) (i : Fin 6) : Nat := (vget (s.mbx n).args i).toNat

/-- Whether the Innkeeper has a request of Lodger `n` still to take. -/
def State.posted (s : State) (n : Fin 4) : Bool := decide ((s.mbx n).job = .posted)

/-- R52, R53: a write to INK_MBXn_CMD sets BUSY at once; while BUSY is set it is ignored and sets OVERRUN. (log 53: DEDUCED) -/
def State.mbxPost (s : State) (n : Fin 4) (seq code : Nat) : State :=
  if (s.mbx n).busy then s.mapMbx n fun m => { m with overrun := true }
  else s.mapMbx n fun m => { m with cmdSeq := seq, cmdCode := code, busy := true, job := .posted }

/-- The first Lodger with a posted request, from a place in the round robin on (R54). -/
def State.nextPosted (s : State) (from_ : Nat) : Option (Fin 4) :=
  [0, 1, 2, 3].findSome? fun i => match idx? 4 ((from_ + i) % 4) with
    | some n => if s.posted n then some n else none
    | none => none

/-- The Innkeeper takes Lodger `n`'s request: the next turn starts with the Lodger after it (R54). (log 53: DEDUCED) -/
def State.takeTurn (s : State) (n : Fin 4) : State :=
  (s.mapInk fun k => { k with mbxNext := (n.val + 1) % 4 }).mapMbx n fun m => { m with job := .idle }

/-- The arguments of a request, as the Lodger writes them to ARG0 and up. -/
def State.mbxArgs (s : State) (n : Fin 4) (args : List Nat) : State :=
  s.mapMbx n fun m => { m with
    args := Vector.ofFn fun i : Fin 6 => match args[i.val]? with
      | some a => BitVec.ofNat 32 a
      | none => vget m.args i }

/-- A Lodger writes a request's arguments and its command code (R52). The Innkeeper serves it at once unless it is busy with
another request that was posted before (R54), which MAILBOX_SERVE takes. (log 53: DEDUCED) -/
def State.mbxCommand (s : State) (n : Fin 4) (user : Bool) (seq code : Nat) (args : List Nat) (serve : State → State) : State :=
  s.access (.lodger n user) .store (blockBase n) fun s =>
    let free := !(s.mbx n).busy && (s.nextPosted 0).isNone
    let s := ((s.answer 0).mbxArgs n args).mbxPost n seq code
    if free then serve (s.takeTurn n) else s

/-- The fields of a mailbox at reset (LODGER_WDOG, and any whole-device reset). -/
def State.mbxReset (s : State) (n : Fin 4) : State := s.mapMbx n fun _ => {}

end Sys2Proof.Machine
end

