-- ==== Sys2Proof/Machine/Keys.lean ====
section
/-! DEFINITION. Keys and leases: the host's side, the holder's side, key steps, Reclaim and key writes (R526 to R535, R546 to
R549). -/

namespace Sys2Proof.Machine

def State.keyInt (s : State) (b : Nat) : State := s.mapKeys fun k => { k with int := k.int ||| BitVec.ofNat 3 (2 ^ b) }

/-- The KEYMAP entry of a key (R505). -/
def State.keyEntry (s : State) (k : Nat) : Option KeyEntry :=
  (s.image.getD {}).keymap.find? fun e => decide (e.key = k)

def State.isIn (s : State) : Bool := decide (s.grp.st = .inGroup)

/-- R514: a node that an IN member treats as apart by its latest heartbeat, be it present or absent. The own node is judged on its
own state. -/
def State.nodeApart (s : State) (n : Nat) : Bool :=
  if n = s.grd.node then !s.isIn
  else match s.grd.latest.find? fun m => decide (m.node = n) with
    | some m => decide (m.flags / 2 % 2 = 1) || decide (some m.digest ≠ s.grp.group)
    | none => false

/-- Key frame data (Table 15-5). -/
def keyData (epoch lease cause rop value : Nat) : List Byte :=
  leBytes 4 epoch ++ leBytes 2 lease ++ leBytes 1 cause ++ leBytes 1 rop ++ leBytes 2 value ++ leBytes 2 0

/-- A Key frame, addressed to the other party. -/
def State.sendKey (s : State) (dest op key epoch lease cause rop : Nat) : State :=
  s.sendOn s.routes 1 (op * 2 ^ 14 + key) (some dest) (keyData epoch lease cause rop 0) false

/-- RECLAIM of a kept KEY_STEP record, which goes out before any new must-deliver message and the first heartbeat (R500); a
repeat under R528 holds nothing back. -/
def State.sendReclaim (s : State) (t : KeyStep) : State :=
  let q := s.nextSeqOf 1
  let f := q.2.mkFrame 1 (7 * 2 ^ 14 + t.key) q.1 false (some t.host) (keyData t.epoch 0 0 t.rop 0)
  q.2.placeFrame q.2.routes { frame := f, kept := decide (t.repeats = 0) }

/-! ### The host (R529 to R533, R547) -/

/-- What a host answers. -/
inductive KeyReply where
  | grant (epoch lease : Nat)
  | deny (cause : Nat)
  | renewed (epoch : Nat)
  | released
  deriving DecidableEq, Repr

def State.hosted? (s : State) (k : Nat) : Option HostedKey := s.keys.hosted.find? fun h => decide (h.key = k)

def State.freeKey (s : State) (k : Nat) : State :=
  s.mapKeys fun q => { q with hosted := q.hosted.filter fun h => decide (h.key ≠ k) }

/-- The gate output that a key of this host commands. -/
def State.keyOutput (s : State) (k : Nat) : Option (Fin 30) :=
  match s.keyEntry k with
  | some e => if e.host = s.grd.node then idx? 30 e.resource else none
  | none => none

/-- Cause KEY on the resource of a key (R532, R533). -/
def State.keyCause (s : State) (k : Nat) : State :=
  match s.keyOutput k with
  | some i => s.setCause i .key
  | none => s

/-- The lease epoch of a key as its host has it: of the lease that stands, or stood last (R529). (log 95: DEDUCED) -/
def State.leaseEpoch (s : State) (k : Nat) : Nat := ((s.keys.epochs.find? fun e => decide (e.1 = k)).map (·.2)).getD 0

/-- R529: a new grant ends cause KEY on the resource, and is fresh for R46. -/
def State.newGrant (s : State) (k src : Nat) : Nat × State :=
  let old := s.leaseEpoch k
  let ep := if old < 0xFFFFFFFF then old + 1 else 1
  let s := s.mapKeys fun q => { q with
    hosted := q.hosted ++ [⟨k, src, ep, s.now⟩]
    epochs := (k, ep) :: q.epochs.filter fun e => decide (e.1 ≠ k) }
  (ep, match s.keyOutput k with
    | some i => (s.clearCause i .key).mapOutp i fun o => { o with stale := false }
    | none => s)

/-- R529: a key asked for at the host. (log 95: DEDUCED) -/
def State.hostGrant (s : State) (src k : Nat) : KeyReply × State :=
  if !s.isIn then (.deny 3, s)
  else match s.hosted? k with
    | some h =>
      if h.holder ≠ src then (.deny 1, s)
      else (.grant h.epoch (((s.keyEntry k).map (·.lease)).getD 3000), s.mapKeys fun q => { q with
        hosted := q.hosted.map fun e => if e.key = k then { e with since := s.now } else e })
    | none =>
      match s.keyEntry k with
      | none => (.deny 2, s)
      | some e =>
        if e.host ≠ s.grd.node then (.deny 2, s)
        else let g := s.newGrant k src; (.grant g.1 e.lease, g.2)

/-- ACQUIRE at the host (R529); a node that is apart is answered APART, whatever the key (R514). (log 96: DEDUCED) -/
def State.hostAcquire (s : State) (src k : Nat) : KeyReply × State :=
  if s.nodeApart src then (.deny 3, s) else s.hostGrant src k

/-- The lease restarts (R531). -/
def State.restartLease (s : State) (k : Nat) : State :=
  s.mapKeys fun q => { q with hosted := q.hosted.map fun e => if e.key = k then { e with since := s.now } else e }

/-- R531: RENEW at the host. -/
def State.hostRenew (s : State) (src k epoch : Nat) : KeyReply × State :=
  if !s.isIn || s.nodeApart src then (.deny 3, s)
  else match s.hosted? k with
    | some h => if h.holder = src ∧ h.epoch = epoch then (.renewed epoch, s.restartLease k) else (.deny 5, s)
    | none => (.deny 5, s)

/-- After a normal release the output stays Live at its applied value (R533): that becomes its target, which supersedes the one it
was moving to. (log 95: DEDUCED) -/
def State.holdApplied (s : State) (k : Nat) : State :=
  match s.keyOutput k with
  | some i =>
    if s.isLive i then
      ((s.mapOutp i fun o => { o with target := o.applied }).endTargets i.val (fun _ => true) .done 1).strokeCheck i
    else s
  | none => s

/-- R533, R515: RELEASE at the host, answered in every case. (log 95: DEDUCED) -/
def State.hostRelease (s : State) (src k cause : Nat) : KeyReply × State :=
  match s.hosted? k with
  | some h =>
    if h.holder = src then
      let s := s.freeKey k
      if cause = 0 then (.released, s.holdApplied k)
      else (.released, (s.keyCause k).logEvent 0x0721 (leBytes 2 k ++ leBytes 1 src ++ leBytes 1 cause))
    else (.released, s)
  | none => (.released, s)

/-- The records of key steps with OP 1 that a key's grants have left ISSUED: not those of a step that still waits. -/
def State.grantRecs (s : State) (k : Nat) : List Nat :=
  (s.wbl.ring.toList.filter fun r => r.notDone && match r.body with
    | .keyStep k' 1 _ _ _ _ _ => decide (k' = k) && !s.keys.steps.any fun t => decide (t.journal = r.seq)
    | _ => false).map (·.seq)

/-- The holder gives a key up without a release: its record is ABANDONED, KEY, and LOST is set and counted (R531). -/
def State.lostKey (s : State) (k : Nat) : State :=
  let s := s.mapKeys fun q => { q with held := q.held.filter (fun h => decide (h.key ≠ k)), lost := satInc 0xFF q.lost }
  (s.grantRecs k).foldl (fun s q => s.recAbandon q 6) (s.keyInt 0)

def State.dropHeld (s : State) (k : Nat) : State :=
  if s.keys.held.any fun h => decide (h.key = k) then s.lostKey k else s

/-- EXPIRED (R531) at the holder, from the key's host. -/
def State.holderExpired (s : State) (src k : Nat) : State :=
  match s.keys.held.find? fun h => decide (h.key = k) with
  | some h => if h.host = src then s.dropHeld k else s
  | none => s

/-- EXPIRED sent to a holder. -/
def State.sendExpired (s : State) (holder k epoch cause : Nat) : State :=
  if holder = s.grd.node then s.holderExpired s.grd.node k else s.sendKey holder 9 k epoch 0 cause 0

/-- R532: a lease ran out at the host. (log 99: DEDUCED) -/
def State.hostExpire (s : State) (h : HostedKey) : State :=
  let s := (s.keyCause h.key).freeKey h.key
  let s := (s.mapKeys fun q => { q with expired := satInc 0xFF q.expired }).keyInt 1
  (s.sendExpired h.holder h.key h.epoch 0).logEvent 0x0720 (leBytes 2 h.key ++ leBytes 1 h.holder ++ leBytes 4 h.epoch)

/-- Every hosted key is freed and its holder told (R512, R552). -/
def State.freeAllHosted (s : State) (cause : Nat) : State :=
  s.keys.hosted.foldl (fun s h => (s.freeKey h.key).sendExpired h.holder h.key h.epoch cause) s

/-- The lease of a hosted key in µs. -/
def State.leaseUs (s : State) (k : Nat) : Nat := ((s.keyEntry k).map (·.lease)).getD 3000 * 1000

/-- R547: RECLAIM at the host, judged on the lease alone, whatever the holder's membership (R514); inside the guard the host applies R532 at once (R546). (log 95: DEDUCED) -/
def State.hostReclaim (s : State) (src k epoch rop : Nat) : KeyReply × State :=
  if rop = 2 then s.hostRelease src k 0
  else if rop = 3 then s.hostRelease src k 1
  else if !s.isIn then (.deny 3, s)
  else if rop ≠ 1 then (.deny 5, s)
  else if epoch = 0 then s.hostGrant src k
  else match s.hosted? k with
    | some h =>
      if h.holder = src ∧ h.epoch = epoch then
        if s.now ≤ h.since + s.leaseUs k then (.renewed epoch, s.restartLease k) else (.deny 5, s.hostExpire h)
      else (.deny 5, s)
    | none => (.deny 5, s)

/-- The answer goes back to a remote holder, with the lease epoch (Table 15-5). -/
def State.sendReply (s : State) (dest k : Nat) : KeyReply → State
  | .grant e l => s.sendKey dest 1 k e l 0 0
  | .deny c => s.sendKey dest 2 k (s.leaseEpoch k) 0 c 0
  | .renewed e => s.sendKey dest 4 k e 0 0 0
  | .released => s.sendKey dest 6 k (s.leaseEpoch k) 0 0 0

/-- R534: WRITE at the host, passed to the gate only under the holder's epoch; it is never answered. -/
def State.hostWrite (s : State) (src k epoch value : Nat) : State :=
  match s.hosted? k, s.keyOutput k with
  | some h, some i => if h.holder = src ∧ h.epoch = epoch then s.gateWrite (.key k) i value else s
  | _, _ => s

/-! ### The holder (R527 to R533, R548) -/

/-- The request of a key step, at this device's own host or on Gridis. -/
def State.askHost (s : State) (t : KeyStep) : Option KeyReply × State :=
  if t.host = s.grd.node then
    let r := match t.op with
      | .acquire => s.hostAcquire s.grd.node t.key
      | .release => s.hostRelease s.grd.node t.key t.cause
      | .reclaim => s.hostReclaim s.grd.node t.key t.epoch t.rop
    (some r.1, r.2)
  else
    (none, match t.op with
      | .acquire => s.sendKey t.host 0 t.key 0 0 0 0
      | .release => s.sendKey t.host 5 t.key t.epoch 0 t.cause 0
      | .reclaim => s.sendReclaim t)

def State.addStep (s : State) (t : KeyStep) : State := s.mapKeys fun q => { q with steps := q.steps ++ [t] }

def State.dropStep (s : State) (t : KeyStep) : State := s.mapKeys fun q => { q with steps := q.steps.erase t }

/-- A KEY_STEP record of the Innkeeper; without a free slot the step goes unjournaled and is counted (R384). -/
def State.keyRec (s : State) (origin : Nat) (body : RecBody) : Nat × State :=
  match s.wbl.nextFree with
  | some k => let r := s.writeRec k origin body; (r.1, r.2.issued r.1)
  | none => (0, s.mapWbl fun w => { w with unjrnl := satInc 0xFF w.unjrnl })

/-- On RELEASED, the release record and the key's acquire record become DONE (R533). -/
def State.stepReleased (s : State) (t : KeyStep) (result : Nat) : State :=
  let s := (s.dropStep t).recDone t.journal 0
  let s := (s.grantRecs t.key).foldl (fun s q => s.recDone q 0) s
  match t.mbx with
  | some n => s.mbxDone n result
  | none => s

/-- A held key is released with a cause: 0 normal, 1 fault, 2 apart. Only the first two are journaled (Table 11-1). -/
def State.releaseKey (s : State) (h : HeldKey) (cause journal : Nat) (mbx : Option (Fin 4)) : State :=
  let s := s.mapKeys fun q => { q with held := q.held.filter fun e => decide (e.key ≠ h.key) }
  let t : KeyStep :=
    { key := h.key, host := h.host, op := .release, epoch := h.epoch, cause := cause, journal := journal, acq := h.journal,
      mbx := mbx, lodger := h.lodger }
  let r := s.askHost t
  match r.1 with
  | some _ => r.2.stepReleased t 0
  | none => r.2.addStep t

/-- Body of a release record (Table 11-3). -/
def releaseBody (h : HeldKey) (op : Nat) : RecBody := .keyStep h.key op 1 0 h.epoch h.host [h.key]

/-- A release by the Innkeeper: only one with cause fault is journaled (Table 11-1). -/
def State.releaseInk (s : State) (h : HeldKey) (cause : Nat) : State :=
  if cause = 1 then let r := s.keyRec 4 (releaseBody h 3); r.2.releaseKey h cause r.1 none
  else s.releaseKey h cause 0 none

/-- The keys of a list that this device still holds are released with cause normal. -/
def State.releaseAll (s : State) (ks : List Nat) (cause : Nat) : State :=
  ks.foldl (fun s k => match s.keys.held.find? fun h => decide (h.key = k) with
    | some h => s.releaseInk h cause
    | none => s) s

/-- The epoch of a grant is written into the step's record, which stays ISSUED while the key is held (R530). -/
def State.recEpoch (s : State) (q epoch : Nat) : State :=
  s.mapRec q fun r => match r.body with
    | .keyStep k o n st _ h ks => { r with state := .issued, body := .keyStep k o n st epoch h ks }
    | _ => r

/-- The holder records a grant (R530). -/
def State.takeGrant (s : State) (t : KeyStep) (epoch lease : Nat) : State :=
  let s := (s.dropStep t).recEpoch t.journal epoch
  s.mapKeys fun q => { q with held := (q.held.filter fun h => decide (h.key ≠ t.key)) ++
    [⟨t.key, t.host, epoch, s.now, lease, t.journal, t.lodger⟩] }

/-- A refused or failed step of KEY_ACQUIRE: its record is DONE, the keys granted before it are released with cause normal,
and the request completes (R530). -/
def State.acquireFailed (s : State) (t : KeyStep) (result : Nat) : State :=
  let s := (s.dropStep t).recDone t.journal 0
  match t.mbx with
  | none => s
  | some n =>
    match (s.lodger n).mbx.job with
    | .acquire ks i _ => (s.releaseAll (ks.take i) 0).mbxDone n result
    | _ => s

/-- R527: the steps of KEY_ACQUIRE from the `i`-th key on. A key hosted by this device is answered at once; the answer of
another host ends the walk until it comes. -/
def State.acquireFrom : Nat → Fin 4 → List Nat → Nat → State → State
  | 0, _, _, _, s => s
  | fuel + 1, n, ks, i, s =>
    match ks[i]? with
    | none => s.mbxDone n 0
    | some k =>
      match s.keyEntry k with
      | none => s.mbxDone n 2
      | some e =>
        let r := s.lodgerRec n.val (.keyStep k 1 ks.length i 0 e.host ks)
        match r.1 with
        | none => (r.2.releaseAll (ks.take i) 0).mbxDone n 4
        | some q =>
          let t : KeyStep := { key := k, host := e.host, op := .acquire, journal := q, mbx := some n, lodger := n.val }
          let s := r.2.mapLodger n fun l => { l with mbx := { l.mbx with job := .acquire ks i q } }
          let a := (s.issued q).askHost t
          match a.1 with
          | none => a.2.addStep t
          | some (.grant ep l) => State.acquireFrom fuel n ks (i + 1) (a.2.takeGrant t ep l)
          | some _ => a.2.acquireFailed t 3

/-! ### Reclaim (R393, R547, R548) -/

/-- The OUT_TARGET records of a key-owned output that waited for the key (Table 11-7). -/
def State.deferredTargets (s : State) (k : Nat) : List Rec :=
  s.wbl.ring.toList.filter fun r => r.notDone && match r.body with
    | .outTarget _ _ _ ok oi => decide (ok = 3 ∧ oi = k)
    | _ => false

def State.replayKeyTargets (s : State) (k : Nat) : State :=
  (s.deferredTargets k).foldl (fun s r => match r.body with
    | .outTarget i t .. => match idx? 30 i with
      | some i =>
        if s.gateAccepts i (.key k) then ((s.gateTarget i (.key k) t r.seq).issued r.seq).targetReached i
        else s.recAbandon r.seq 5
      | none => s
    | _ => s) s

def State.abandonKeyTargets (s : State) (k : Nat) : State :=
  (s.deferredTargets k).foldl (fun s r => s.recAbandon r.seq 6) s

/-- R548: a refused Reclaim step. -/
def State.reclaimRefused (s : State) (t : KeyStep) (cause : Nat) : State :=
  let s := s.dropStep t
  let ks := match s.wbl.find? t.journal with
    | some r => match r.body with
      | .keyStep _ _ _ _ _ _ ks => ks
      | _ => [t.key]
    | none => [t.key]
  let mine (r : Rec) : Bool := r.notDone && match r.body with
    | .keyStep _ _ _ _ _ _ ks' => decide (ks' = ks)
    | _ => false
  let seqs := (s.wbl.ring.toList.filter mine).map (·.seq)
  let waiting := s.keys.reclaims.filter fun q => seqs.contains q
  let s := s.mapKeys fun q => { q with
    reclaims := q.reclaims.filter fun x => !seqs.contains x, reclaimNo := satInc 0xFF q.reclaimNo }
  let s := s.releaseAll ks 0
  let s := (t.journal :: waiting).foldl (fun s q => s.recAbandon q 6) s
  let s := ks.foldl State.abandonKeyTargets s
  (s.keyInt 2).logEvent 0x0723 (leBytes 2 t.key ++ leBytes 1 cause)

/-- A Reclaim accepted: the key is held again under its record (R547). -/
def State.reclaimAccepted (s : State) (t : KeyStep) (epoch lease : Nat) : State :=
  let s := s.takeGrant t epoch lease
  let s := (s.mapKeys fun q => { q with reclaimOk := satInc 0xFF q.reclaimOk }).keyInt 2
  (s.logEvent 0x0722 (leBytes 2 t.key ++ leBytes 4 epoch)).replayKeyTargets t.key

/-- The answer to a Reclaim step. (log 99: DEDUCED) -/
def State.reclaimAnswer (s : State) (t : KeyStep) : KeyReply → State
  | .grant e l => s.reclaimAccepted t e l
  | .renewed e => s.reclaimAccepted t e (((s.keyEntry t.key).map (·.lease)).getD 3000)
  | .released => s.stepReleased t 0
  | .deny c => s.reclaimRefused t c

/-- The kept KEY_STEP records, as Reclaims, and GRD_MSG records are issued in SEQ order (R393): a Reclaim to another host ends
the walk until its answer comes. With the last one sent, the new must-deliver messages that waited go out. -/
def State.reclaimNext : Nat → State → State
  | 0, s => s
  | fuel + 1, s =>
    match s.keys.reclaims with
    | [] => s.sendDeferred
    | q :: qs =>
      let s := s.mapKeys fun k => { k with reclaims := qs }
      match s.wbl.find? q with
      | none => State.reclaimNext fuel s
      | some r =>
        match r.body with
        | .keyStep k op _ _ ep h _ =>
          let t : KeyStep := { key := k, host := h, op := .reclaim, epoch := ep, rop := op, journal := q, lodger := r.origin }
          let a := (s.issued q).askHost t
          match a.1 with
          | none => a.2.addStep t
          | some rep => State.reclaimNext fuel (a.2.reclaimAnswer t rep)
        | _ => State.reclaimNext fuel (s.resend r)

/-! ### Answers from other hosts -/

/-- The waiting step of a key, of the operations that an answer can be meant for. (log 97: DEDUCED) -/
def State.step? (s : State) (p : StepOp → Bool) (src k : Nat) : Option KeyStep :=
  s.keys.steps.find? fun t => p t.op && decide (t.key = k ∧ t.host = src)

/-- Operations that ask for a key, and those that give one back. (log 97: DEDUCED) -/
def StepOp.asks (o : StepOp) : Bool := decide (o ≠ .release)
def StepOp.returns (o : StepOp) : Bool := decide (o ≠ .acquire)

/-- GRANT (R530). -/
def State.onGrant (s : State) (src k epoch lease : Nat) : State :=
  match s.step? StepOp.asks src k with
  | some t =>
    match t.op with
    | .acquire =>
      let s := s.takeGrant t epoch lease
      match t.mbx with
      | some n => match (s.lodger n).mbx.job with
        | .acquire ks i _ => State.acquireFrom 5 n ks (i + 1) s
        | _ => s
      | none => s
    | .reclaim => State.reclaimNext 129 (s.reclaimAccepted t epoch lease)
    | .release => s
  | none => s

/-- DENY: a step that waits is refused (R530, R548); a held key is dropped (R531). The DENY that answers a RENEW crossing a
release finds neither and is ignored (R546). -/
def State.onDeny (s : State) (src k cause : Nat) : State :=
  match s.step? StepOp.asks src k with
  | some t =>
    match t.op with
    | .acquire => s.acquireFailed t 3
    | .reclaim => State.reclaimNext 129 (s.reclaimRefused t cause)
    | .release => s
  | none => s.holderExpired src k

/-- RENEWED (R531, R547). -/
def State.onRenewed (s : State) (src k epoch : Nat) : State :=
  match s.step? (fun o => decide (o = .reclaim)) src k with
  | some t => State.reclaimNext 129 (s.reclaimAnswer t (.renewed epoch))
  | none =>
    s.mapKeys fun q => { q with held := q.held.map fun h =>
      if h.key = k ∧ h.host = src ∧ h.epoch = epoch then { h with since := s.now } else h }

/-- RELEASED (R533). -/
def State.onReleased (s : State) (src k : Nat) : State :=
  match s.step? StepOp.returns src k with
  | some t =>
    match t.op with
    | .release => s.stepReleased t 0
    | .reclaim => State.reclaimNext 129 (s.reclaimAnswer t .released)
    | .acquire => s
  | none => s

/-- R528: a step without an answer for 100 ms is repeated three times; then it fails and is handled as a DENY, and the
request that it serves completes with TIMEOUT (R530). A failed release leaves the key dropped (R531). -/
def State.stepTimeout (s : State) (k : Nat) : State :=
  match s.keys.steps.find? fun t => decide (t.key = k) with
  | none => s
  | some t =>
    if t.repeats < 3 then
      let t' := { t with repeats := t.repeats + 1 }
      (s.askHost t').2.mapKeys fun q => { q with steps := q.steps.map fun u => if u = t then t' else u }
    else match t.op with
      | .acquire => s.acquireFailed t 5
      | .reclaim =>
        let c := Config.openReason s.draws % 256
        State.reclaimNext 129 ((s.mapDraws (· + 1)).reclaimRefused t c)
      | .release =>
        let s := ((s.dropStep t).recDone t.journal 0).lostKey t.key
        match t.mbx with
        | some n => s.mbxDone n 5
        | none => s

/-- R531: LEASE / 3 after the grant or the last RENEWED, the holder sends RENEW. -/
def State.renewDue (s : State) (k : Nat) : State :=
  match s.keys.held.find? fun h => decide (h.key = k) with
  | none => s
  | some h =>
    if h.host = s.grd.node then
      let r := s.hostRenew s.grd.node k h.epoch
      match r.1 with
      | .renewed e => r.2.onRenewed s.grd.node k e
      | _ => r.2.dropHeld k
    else s.sendKey h.host 3 k h.epoch 0 0 0

/-! ### Requests of Lodgers -/

/-- KEY_ACQUIRE (R527 to R530). (log 98: DEDUCED) -/
def State.serveKeyAcquire (s : State) (n : Fin 4) : State :=
  let count := s.mbxArg n 0
  let ks := [s.mbxArg n 1, s.mbxArg n 2, s.mbxArg n 3, s.mbxArg n 4].take count
  if count = 0 ∨ 4 < count ∨ ascending ks = false then s.mbxDone n 2
  else if !s.isIn then s.mbxDone n 6
  else if ks.any fun k => (s.keyEntry k).isNone then s.mbxDone n 2
  else if 64 < s.keys.held.length + (ks.filter fun k => !s.keys.held.any fun h => decide (h.key = k)).length then s.mbxDone n 3
  else State.acquireFrom 5 n ks 0 s

/-- A key that a Lodger holds (R40). (log 98: DEDUCED) -/
def State.keyOf (s : State) (n : Fin 4) (k : Nat) : Option HeldKey :=
  s.keys.held.find? fun h => decide (h.key = k ∧ h.lodger = n.val)

/-- KEY_RELEASE (R533). (log 98: DEDUCED) -/
def State.serveKeyRelease (s : State) (n : Fin 4) : State :=
  match s.keyOf n (s.mbxArg n 0) with
  | none => s.mbxDone n 2
  | some h =>
    let r := s.lodgerRec n.val (releaseBody h 2)
    match r.1 with
    | none => r.2.mbxDone n 4
    | some q =>
      let s := (r.2.issued q).mapMbx n fun m => { m with job := .release h.key q }
      s.releaseKey h 0 q (some n)

/-- KEY_WRn (R40, R534, R535), written for a Lodger that holds the key: VALUE goes to the gate of this host, or as WRITE to another; with JRNL the frame is journaled. -/
def State.keyWrite (s : State) (n m : Fin 4) (w : Word) : State :=
  let k := bits w 9 0
  let v := bits w 31 16
  let fin (s : State) (r : Nat) : State := s.mapKeys fun q => { q with wrResult := vset q.wrResult m r }
  match s.keyOf n k with
  | none => fin s 2
  | some h =>
    if h.host = s.grd.node then
      match s.keyOutput k with
      | some i => fin (s.gateWrite (.key k) i v) 0
      | none => fin s 2
    else
      let field := 8 * 2 ^ 14 + k
      let data := keyData h.epoch 0 0 0 v
      if bit w 15 then let r := s.lodgerMust n 1 field (some h.host) data; fin r.2 (if r.1 then 0 else 4)
      else fin (s.sendOn s.routes 1 field (some h.host) data false) 0

/-- R68 step 4, R546: the keys that a Lodger obtained are released with cause fault, and its steps not granted end. -/
def State.faultKeys (s : State) (n : Fin 4) : State :=
  let mine := s.keys.steps.filter fun t => decide (t.mbx = some n ∧ t.op = .acquire)
  let s := mine.foldl (fun s t => (s.dropStep t).recAbandon t.journal 6) s
  let s := s.mapKeys fun q => { q with steps := q.steps.map fun t => if t.mbx = some n then { t with mbx := none } else t }
  (s.keys.held.filter fun h => decide (h.lodger = n.val)).foldl (fun s h => s.releaseInk h 1) s

/-- R513, R546: on entry to APART every held key is released, and a KEY_ACQUIRE under way completes with APART. (log 99: DEDUCED) -/
def State.apartKeys (s : State) : State :=
  let waiting := s.keys.steps.filter fun t => decide (t.op = .acquire)
  let s := waiting.foldl (fun s t =>
    let s := (s.dropStep t).recAbandon t.journal 6
    match t.mbx with
    | some n => s.mbxDone n 6
    | none => s) s
  s.keys.held.foldl (fun s h => s.releaseInk h 2) s

/-! ### Registers (Table 15-16) -/

/-- Lease left, in ms. -/
def leaseLeft (now since lease : Nat) : Nat := satTo 16 (openQuot (since + lease * 1000 - now) 1000)

/-- The hosted key as the registers show it: what retention SRAM keeps of it through a reset shows once Gridis has started (R18).
(log 13: DESIGN CHOICE) -/
def State.hostShown (s : State) (k : Nat) : Option HostedKey := if s.grd.started then s.hosted? k else none

def State.keyInfo (s : State) : Word :=
  let k := s.keys.query
  match s.keys.held.find? fun h => decide (h.key = k), s.hostShown k with
  | some h, g => pack [at_ 30 (if g.isSome then 3 else 1), at_ 16 h.host, at_ 0 (leaseLeft s.now h.since h.lease)]
  | none, some g => pack [at_ 30 2, at_ 16 g.holder, at_ 0 (leaseLeft s.now g.since (s.leaseUs k / 1000))]
  | none, none => 0

def State.keyEpoch (s : State) : Nat :=
  let k := s.keys.query
  match s.keys.held.find? fun h => decide (h.key = k), s.hostShown k with
  | some h, _ => h.epoch
  | none, some g => g.epoch
  | none, none => 0

/-! ### Commands -/

/-- KEY_ACQUIRE by Lodger `n`. -/
def execKeyAcquire (n : Fin 4) (user : Bool) (seq : Byte) (count : Nat) (keys : List Nat) (s : State) : Result :=
  .next (s.mbxCommand n user seq.toNat 0x01 (count :: keys.take 4) fun s => s.serveKeyAcquire n)

/-- KEY_RELEASE by Lodger `n`. -/
def execKeyRelease (n : Fin 4) (user : Bool) (seq : Byte) (key : Nat) (s : State) : Result :=
  .next (s.mbxCommand n user seq.toNat 0x02 [key] fun s => s.serveKeyRelease n)

/-- The block runs and can be reached by frames. -/
def State.grouped (s : State) : Bool := s.awake && s.grd.started

/-- A frame's effect on the group services, while the device is awake and Gridis has started. -/
def State.onFrame (s : State) (go : State → State) : State := if s.grouped then go s else s

/-- What the coaching clock brings about: it runs in every mode except Off (R516). (log 94: DEDUCED) -/
def State.onClock (s : State) (go : State → State) : State := if s.live && s.grd.started then go s else s

/-- ACQUIRE from node `src`. -/
def execAcquire (src key : Nat) (s : State) : Result :=
  .next (s.onFrame fun s => let r := s.hostAcquire src key; r.2.sendReply src key r.1)

/-- GRANT from node `src`. -/
def execGrant (src key epoch lease : Nat) (s : State) : Result := .next (s.onFrame fun s => s.onGrant src key epoch lease)

/-- DENY from node `src`. -/
def execDeny (src key cause : Nat) (s : State) : Result := .next (s.onFrame fun s => s.onDeny src key cause)

/-- RENEW from node `src`. -/
def execRenew (src key epoch : Nat) (s : State) : Result :=
  .next (s.onFrame fun s => let r := s.hostRenew src key epoch; r.2.sendReply src key r.1)

/-- RENEWED from node `src`. -/
def execRenewed (src key epoch : Nat) (s : State) : Result := .next (s.onFrame fun s => s.onRenewed src key epoch)

/-- RELEASE from node `src`. -/
def execRelease (src key cause : Nat) (s : State) : Result :=
  .next (s.onFrame fun s => let r := s.hostRelease src key cause; r.2.sendReply src key r.1)

/-- RELEASED from node `src`. -/
def execReleased (src key : Nat) (s : State) : Result := .next (s.onFrame fun s => s.onReleased src key)

/-- RECLAIM from node `src`. -/
def execReclaim (src key epoch rop : Nat) (s : State) : Result :=
  .next (s.onFrame fun s => let r := s.hostReclaim src key epoch rop; r.2.sendReply src key r.1)

/-- WRITE from node `src`. -/
def execKeyWriteFrame (src key epoch value : Nat) (s : State) : Result :=
  .next (s.onFrame fun s => s.hostWrite src key epoch value)

/-- EXPIRED from node `src`. -/
def execExpired (src key : Nat) (s : State) : Result := .next (s.onFrame fun s => s.holderExpired src key)

/-- KEY_ANSWER_TIMEOUT of the step of a key. -/
def execKeyAnswerTimeout (key : Nat) (s : State) : Result := .next (s.onFrame fun s => s.stepTimeout key)

/-- RENEW_DUE. -/
def execRenewDue (key : Nat) (s : State) : Result := .next (s.onFrame fun s => s.renewDue key)

/-- HOLDER_LEASE_EXPIRY. -/
def execHolderLeaseExpiry (key : Nat) (s : State) : Result := .next (s.onFrame fun s => s.dropHeld key)

/-- HOST_LEASE_EXPIRY. -/
def execHostLeaseExpiry (key : Nat) (s : State) : Result :=
  .next (s.onFrame fun s => match s.hosted? key with
    | some h => s.hostExpire h
    | none => s)

/-- KEY_WRITE_CMD: KEY_WRm lies at 0x4006_8120 + m × 8. -/
def execKeyWriteCmd (n : Fin 4) (user : Bool) (m : Fin 4) (w : Word) (s : State) : Result :=
  .next (s.access (.lodger n user) .store (0x40068120 + m.val * 8) fun s => (s.answer 0).keyWrite n m w)

/-- KEY_QUERY: the register lies at 0x4006_8104. -/
def execKeyQuery (n : Fin 4) (user : Bool) (w : Word) (s : State) : Result :=
  .next (s.access (.lodger n user) .store 0x40068104 fun s => (s.answer 0).mapKeys fun q => { q with query := bits w 9 0 })

end Sys2Proof.Machine
end

