-- ==== Sys2Proof/Machine/Book.lean ====
section
/-! DEFINITION. Bookings: the own table, the tracked table and their registers (R506, R536 to R544, R551, R553). -/

namespace Sys2Proof.Machine

/-- The coaching clock in seconds (R516), which saturate (R20). -/
def State.coachS (s : State) : Nat := satTo 32 (s.grp.clock / 1000000)

def State.bookInt (s : State) (b : Nat) : State := s.mapBook fun k => { k with int := k.int ||| BitVec.ofNat 5 (2 ^ b) }

/-- The BOOKCLASS entry of a kind (R506). -/
def State.bookClass (s : State) (k : Nat) : Option BookClass :=
  (s.image.getD {}).bookclass.find? fun e => decide (e.bkind = k)

def BookState.code : BookState → Nat
  | .empty => 0
  | .planned => 1
  | .confirmed => 2
  | .withdrawn => 3
  | .ended => 4
  | .lapsed => 5

/-- A booking that has not ended. -/
def Booking.open_ (b : Booking) : Bool := decide (b.state = .planned ∨ b.state = .confirmed)

/-- Booking data (Table 15-6). -/
def Booking.data (b : Booking) (cause : Nat) : List Byte :=
  leBytes 2 b.serial ++ leBytes 1 b.bkind ++ leBytes 1 cause ++ leBytes 4 b.start ++ leBytes 2 b.duration ++ leBytes 2 b.key ++
    leBytes 4 b.value.toNat ++ leBytes 4 b.made

/-- The booking that a node's frame for a slot describes. -/
def Booking.ofData (node slot : Nat) (d : List Byte) : Booking :=
  { node := node, slot := slot, serial := fieldAt d 0 2, bkind := fieldAt d 2 1, cause := fieldAt d 3 1, start := fieldAt d 4 4,
    duration := fieldAt d 8 2, key := fieldAt d 10 2, value := BitVec.ofNat 32 (fieldAt d 12 4), made := fieldAt d 16 4 }

def State.own (s : State) (k : Fin 32) : Booking := vget s.book.own k

def State.mapOwn (s : State) (k : Fin 32) (f : Booking → Booking) : State :=
  s.mapBook fun b => { b with own := vmod b.own k f }

/-- Class field of a booking frame (R536): KIND 0 ANNOUNCE, 1 CONFIRM, 2 WITHDRAW, 3 END. -/
def bookField (kind slot : Nat) : Nat := kind * 2 ^ 14 + slot

/-- A must-deliver booking frame for an own booking. -/
def State.bookMust (s : State) (kind : Nat) (k : Fin 32) (cause : Nat) : State :=
  s.sendMust 4 (bookField kind k.val) ((s.own k).data cause)

/-- A booking frame that is not must-deliver. -/
def State.bookSend (s : State) (kind : Nat) (k : Fin 32) : State :=
  s.sendOn s.routes 4 (bookField kind k.val) none ((s.own k).data 0) false

/-- An own booking is WITHDRAWN with a cause, and WITHDRAW is sent as a must-deliver message. -/
def State.withdrawOwn (s : State) (k : Fin 32) (cause : Nat) : State :=
  (s.mapOwn k fun b => { b with state := .withdrawn, cause := cause, changed := s.coachS }).bookMust 2 k cause

/-- The 0x0740 entry of a withdrawal (Table 15-14). -/
def State.logWithdrawn (s : State) (k : Fin 32) (cause : Nat) : State :=
  s.logEvent 0x0740 (leBytes 1 k.val ++ leBytes 2 (s.own k).serial ++ leBytes 1 cause)

/-- A CONFIRMED own booking ENDS, and END is sent (R541). -/
def State.endOwn (s : State) (k : Fin 32) : State :=
  (s.mapOwn k fun b => { b with state := .ended, changed := s.coachS }).bookSend 3 k

/-- A PLANNED own booking is CONFIRMED (R539). -/
def State.confirmOwn (s : State) (k : Fin 32) : State :=
  ((s.mapOwn k fun b => { b with state := .confirmed, changed := s.coachS }).bookMust 1 k 0).bookInt 1

/-- A withdrawal by the device itself under R539: cause 1 TIME or 2 APART. -/
def State.withdrawDue (s : State) (k : Fin 32) (cause : Nat) : State :=
  ((s.withdrawOwn k cause).logWithdrawn k cause).bookInt 4

/-- R539: START of an own booking. -/
def State.bookStart (s : State) (k : Fin 32) : State :=
  if (s.own k).state = .planned then
    if !s.isIn then s.withdrawDue k 2 else if !s.grp.onTime then s.withdrawDue k 1 else s.confirmOwn k
  else s

/-! ### Commands of Lodgers (R537, R540, R541) -/

/-- The lowest free slot. -/
def State.freeSlot (s : State) : Option (Fin 32) := (List.finRange 32).find? fun k => !(s.own k).open_

/-- The first result of Table 15-7 that keeps a booking from being made, before its record. -/
def State.makeRefused (s : State) (m : BookMbx) : Option Nat :=
  let bkind := bits m.dur 21 16
  let dur := bits m.dur 15 0
  let start := m.start.toNat * 1000000
  if !s.isIn then some 4
  else if !s.grp.onTime then some 3
  else match s.bookClass bkind with
    | none => some 5
    | some c =>
      if (!c.needsKey && decide (m.key ≠ 0xFFFF)) || (c.needsKey && (s.keyEntry m.key).isNone) then some 5
      else if start < s.grp.clock + 10000000 ∨ s.grp.clock + 7200000000 < start ∨ dur = 0 ∨ (c.maxDur ≠ 0 ∧ c.maxDur < dur) then
        some 2
      else if s.freeSlot.isNone then some 1
      else none

def State.bookResult (s : State) (n : Fin 4) (slot r : Nat) : State :=
  s.mapBook fun b => { b with mbx := vmod b.mbx n fun m => { m with slot := slot, result := r } }

/-- MAKE (R537, R538). The ANNOUNCE is a must-deliver message of the Lodger, so R383 may refuse its record. (log 100: DEDUCED) -/
def State.bookMake (s : State) (n : Fin 4) : State :=
  let m := vget s.book.mbx n
  match s.makeRefused m, s.freeSlot with
  | some r, _ => s.bookResult n m.slot r
  | none, none => s.bookResult n m.slot 1
  | none, some k =>
    let old := (s.own k).serial
    let b : Booking :=
      { node := s.grd.node, slot := k.val, state := .planned, serial := if old < 65535 then old + 1 else 1, bkind := bits m.dur 21 16
        start := m.start.toNat, duration := bits m.dur 15 0, key := m.key, value := m.value, made := s.coachS, changed := s.coachS }
    let r := s.lodgerMust n 4 (bookField 0 k.val) none (b.data 0)
    if r.1 then ((r.2.mapOwn k fun _ => b).bookResult n k.val 0).bookInt 0 else r.2.bookResult n m.slot 6

/-- WITHDRAW and END of an own booking: PLANNED is withdrawn by its maker's choice, unless R383 refuses the record of the
WITHDRAW; CONFIRMED ends. (log 100: DEDUCED) -/
def State.bookClose (s : State) (n : Fin 4) (k : Fin 32) : State :=
  match (s.own k).state with
  | .planned =>
    let b := { s.own k with state := .withdrawn, cause := 0, changed := s.coachS }
    let r := s.lodgerMust n 4 (bookField 2 k.val) none (b.data 0)
    if r.1 then ((r.2.mapOwn k fun _ => b).logWithdrawn k 0).bookResult n k.val 0 else r.2.bookResult n k.val 6
  | .confirmed => (s.endOwn k).bookResult n k.val 0
  | _ => s.bookResult n k.val 7

/-! ### Events of the device itself -/

/-- R513: every PLANNED own booking is withdrawn with cause APART. -/
def State.withdrawApart (s : State) : State :=
  (List.finRange 32).foldl (fun s k => if (s.own k).state = .planned then s.withdrawOwn k 2 else s) s

/-- START of a booking has passed, by the coaching clock, or by the RTC, which runs on in Off and holds coaching seconds once it has
been set (R525). (log 100: DEDUCED) -/
def State.startPassed (s : State) (b : Booking) : Bool :=
  decide (b.start * 1000000 ≤ s.grp.clock) || (s.power.rtcSet && decide (b.start ≤ s.power.rtc))

/-- R551: when the device reaches IN, kept bookings are announced again, or withdrawn with cause RESET. -/
def State.restoreBookings (s : State) : State :=
  if s.book.restore then
    (List.finRange 32).foldl (fun s k =>
      if (s.own k).state = .planned then
        if s.startPassed (s.own k) then (s.withdrawOwn k 3).bookInt 4 else s.bookSend 0 k
      else s) (s.mapBook fun b => { b with restore := false })
  else s

/-- Table 15-11: a step of the clock past START of a PLANNED own booking. Only a maker that is IN confirms (R539), and bookings
that a reset kept wait until the device reaches IN (R551). (log 100: DEDUCED) -/
def State.stepBookings (s : State) : State :=
  if s.book.restore then s
  else (List.finRange 32).foldl (fun s k =>
    let b := s.own k
    if b.state = .planned ∧ b.start * 1000000 ≤ s.grp.clock then
      if !s.isIn then s.withdrawDue k 2
      else if s.grp.clock < (b.start + b.duration) * 1000000 then s.confirmOwn k
      else s.withdrawDue k 1
    else s) s

/-! ### Tracked bookings (R542, R544) -/

/-- A record that R544 may remove for a new booking: index and record. (log 100: DEDUCED) -/
def oldestOf (p : Booking → Bool) (l : List Booking) : Option Nat :=
  let c := (l.zipIdx.filter fun x => p x.1)
  (c.foldl (fun best x => match best with
    | none => some x
    | some y => if x.1.entered < y.1.entered then some x else some y) none).map (·.2)

/-- The place of the record that R544 removes. -/
def State.retireIdx (s : State) : Option Nat :=
  let l := s.book.tracked
  let ended (b : Booking) : Bool := decide (b.state = .ended ∨ b.state = .lapsed)
  match oldestOf (fun b => !b.open_ && decide (b.entered + 86400 < s.coachS)) l with
  | some i => some i
  | none => match oldestOf ended l with
    | some i => some i
    | none => oldestOf (fun b => decide (b.state = .withdrawn)) l

/-- A new tracked record. -/
def State.trackNew (s : State) (b : Booking) : State :=
  let b := { b with changed := s.coachS, entered := s.coachS }
  if s.book.tracked.length < 256 then
    (s.mapBook fun k => { k with tracked := k.tracked ++ [b] }).bookInt 2
  else match s.retireIdx with
    | some i =>
      (s.mapBook fun k => { k with tracked := lmod k.tracked i fun _ => b, retired := satInc 0xFF k.retired }).bookInt 2
    | none => s.mapBook fun k => { k with drop := satInc 0xFF k.drop }

def sameBooking (a b : Booking) : Bool := decide (a.node = b.node ∧ a.slot = b.slot ∧ a.serial = b.serial)

/-- A tracked record changed: BOOK_INT.TRACK, and WITHDRAWN for a move to that state. -/
def State.trackSet (s : State) (i : Nat) (f : Booking → Booking) : State :=
  match s.book.tracked[i]? with
  | none => s
  | some old =>
    let new := f old
    if new = old then s else
      let s := (s.mapBook fun k => { k with tracked := lmod k.tracked i fun _ =>
          { new with changed := s.coachS, entered := if new.state = old.state then old.entered else s.coachS } }).bookInt 2
      if new.state = .withdrawn ∧ old.state ≠ .withdrawn then s.bookInt 3 else s

/-- R542: a booking frame of another node moves its record to a state. -/
def State.trackFrame (s : State) (b : Booking) (st : BookState) : State :=
  match s.book.tracked.findIdx? (sameBooking b) with
  | some i => s.trackSet i fun old => match st with
    | .planned => { b with state := .planned, cause := 0, changed := old.changed, entered := old.entered }
    | .withdrawn => { old with state := .withdrawn, cause := b.cause }
    | _ => { old with state := st, cause := 0 }
  | none =>
    if st = .planned ∨ st = .confirmed then s.trackNew { b with state := st, cause := 0 } else s

/-- A booking frame (R512, R514): ignored in JOINING and APART, and from a node that is apart. -/
def State.bookFrame (s : State) (src slot : Nat) (d : List Byte) (st : BookState) : State :=
  if s.isIn && !s.nodeApart src then s.trackFrame (Booking.ofData src slot d) st else s

/-- R514: what becomes of the bookings and leases of a node that an IN member treats as apart. -/
def State.applyApart (s : State) (n : Nat) : State :=
  let s := (List.range s.book.tracked.length).foldl (fun s i =>
    s.trackSet i fun b => if b.node = n ∧ b.state = .planned then { b with state := .withdrawn, cause := 2 } else b) s
  s.keys.hosted.foldl (fun s h => if h.holder = n then (s.hostRelease n h.key 2).2 else s) s

/-- TRACKED_LAPSE. -/
def State.trackLapse (s : State) (i : Nat) : State :=
  s.trackSet i fun b => if b.state = .planned then { b with state := .lapsed } else b

/-- TRACKED_DURATION_END. -/
def State.trackEnd (s : State) (i : Nat) : State :=
  s.trackSet i fun b => if b.state = .confirmed then { b with state := .ended } else b

/-! ### Registers (Table 15-17, R553) -/

/-- The eight words of a record. -/
def Booking.words (b : Booking) : List Word :=
  let d := leBytes 1 b.node ++ leBytes 1 b.slot ++ leBytes 1 b.state.code ++ leBytes 1 b.cause ++ b.data b.cause ++
    leBytes 4 b.changed ++ leBytes 4 0
  (List.range 8).map fun i => BitVec.ofNat 32 (fieldAt d (4 * i) 4)

/-- The record whose words stand at an offset of the KEY and BOOK window. -/
def State.recordAt (s : State) (off : Nat) : Booking :=
  if off < 0x2000 then (match idx? 32 ((off - 0x1000) / 0x20) with
    | some k => s.own k
    | none => {})
  else (s.book.tracked[(off - 0x2000) / 0x20]?).getD {}

/-- The hold on a record, while it stands (R553). -/
def State.bookHold (s : State) (base : Nat) : Option BookHold :=
  s.book.holds.find? fun h => decide (h.base = base ∧ s.now ≤ h.since + 100)

/-- A read of a word of the own or the tracked table (offsets 0x1000 to 0x3FFF). -/
def State.recordWord (s : State) (off : Nat) : Word :=
  let base := off / 0x20 * 0x20
  let ws := match s.bookHold base with
    | some h => h.words
    | none => (s.recordAt base).words
  ws.getD (off % 0x20 / 4) 0

/-- R553: a read of word 0 begins a hold, one of word 7 ends it. -/
def State.recordEffect (s : State) (off : Nat) : State :=
  let base := off / 0x20 * 0x20
  let others := s.book.holds.filter fun h => decide (h.base ≠ base ∧ s.now ≤ h.since + 100)
  if off % 0x20 = 0 then
    let ws := match s.bookHold base with
      | some h => h.words
      | none => (s.recordAt base).words
    s.mapBook fun b => { b with holds := others ++ [⟨base, ws, s.now⟩] }
  else if off % 0x20 = 0x1C then s.mapBook fun b => { b with holds := others }
  else s

/-! ### Commands -/

/-- First address of the booking registers of mailbox `m`. -/
def bookBase (m : Fin 4) : Nat := 0x40068200 + m.val * 0x20

/-- A write to BOOK_CMDm. -/
def State.bookCmd (s : State) (n : Fin 4) (user : Bool) (m : Fin 4) (go : State → State) : State :=
  s.access (.lodger n user) .store (bookBase m + 0x10) fun s => go (s.answer 0)

/-- BOOK_MAKE. -/
def execBookMake (n : Fin 4) (user : Bool) (m : Fin 4) (s : State) : Result :=
  .next (s.bookCmd n user m fun s => s.bookMake m)

/-- BOOK_WITHDRAW. -/
def execBookWithdraw (n : Fin 4) (user : Bool) (m : Fin 4) (slot : Fin 32) (s : State) : Result :=
  .next (s.bookCmd n user m fun s => s.bookClose m slot)

/-- BOOK_END. -/
def execBookEnd (n : Fin 4) (user : Bool) (m : Fin 4) (slot : Fin 32) (s : State) : Result :=
  .next (s.bookCmd n user m fun s => s.bookClose m slot)

/-- ANNOUNCE_REPEAT (R538), of a booking that a reset kept once R551 has announced it again. -/
def execAnnounceRepeat (k : Fin 32) (s : State) : Result :=
  .next (s.onFrame fun s => if !s.book.restore && decide ((s.own k).state = .planned) then s.bookSend 0 k else s)

/-- BOOKING_START_DUE. -/
def execBookingStartDue (k : Fin 32) (s : State) : Result := .next (s.onClock fun s => s.bookStart k)

/-- BOOKING_DURATION_END. -/
def execBookingDurationEnd (k : Fin 32) (s : State) : Result :=
  .next (s.onClock fun s => if (s.own k).state = .confirmed then s.endOwn k else s)

/-- ANNOUNCE of node `src` with the data of Table 15-6. -/
def execAnnounce (src slot : Nat) (data : List Byte) (s : State) : Result :=
  .next (s.onFrame fun s => s.bookFrame src slot data .planned)

/-- CONFIRM of node `src`. -/
def execConfirm (src slot : Nat) (data : List Byte) (s : State) : Result :=
  .next (s.onFrame fun s => s.bookFrame src slot data .confirmed)

/-- WITHDRAW of node `src`. -/
def execWithdraw (src slot : Nat) (data : List Byte) (s : State) : Result :=
  .next (s.onFrame fun s => s.bookFrame src slot data .withdrawn)

/-- END of node `src`. -/
def execBookFrameEnd (src slot : Nat) (data : List Byte) (s : State) : Result :=
  .next (s.onFrame fun s => s.bookFrame src slot data .ended)

/-- TRACKED_LAPSE of tracked record `i`. -/
def execTrackedLapse (i : Nat) (s : State) : Result := .next (s.onClock fun s => s.trackLapse i)

/-- TRACKED_DURATION_END of tracked record `i`. -/
def execTrackedDurationEnd (i : Nat) (s : State) : Result := .next (s.onClock fun s => s.trackEnd i)

/-- BOOKING_RECORD_READ: word 0 of own record `i`, or of tracked record `i`. -/
def execBookingRecordRead (n : Fin 4) (user own : Bool) (i refused : Nat) (s : State) : Result :=
  let off := (if own then 0x1000 else 0x2000) + i * 0x20
  .next (s.lodgerAccess n user refused .load (0x40068000 + off) fun s => (s.recordEffect off).answer (s.recordWord off))

end Sys2Proof.Machine
end

