-- ==== Sys2Proof/Machine/Group.lean ====
section
/-! DEFINITION. Membership, the digest vote, the coaching clock and the KEY and BOOK window (R482, R484, R507 to R525, R551, R552). -/

namespace Sys2Proof.Machine

def State.grpInt (s : State) (b : Nat) : State := s.mapGrp fun g => { g with int := g.int ||| BitVec.ofNat 4 (2 ^ b) }

/-! ### Presence (R482) -/

/-- A member inserted by node number, in place of its earlier entry. -/
def insertMember (m : Member) : List Member → List Member
  | [] => [m]
  | x :: l => if m.node < x.node then m :: x :: l else if m.node = x.node then m :: l else x :: insertMember m l

/-- HEARTBEAT (R482): the node is present; its Trip is as FLAGS bit 0 has it; an IN member judges it under R514. -/
def State.onHeartbeat (s : State) (m : Member) : State :=
  if m.node = s.grd.node then s else
    let was := (s.member? m.node).isSome
    let s := s.mapGrd fun g =>
      { g with members := insertMember m g.members, latest := insertMember { m with heardAt := some s.now } g.latest }
    let s := if was then s else s.grdInt 1
    let s := s.nodeTrip m.node (m.flags % 2 = 1)
    if s.isIn && s.nodeApart m.node then s.applyApart m.node else s

/-- NODE_ABSENT and LEAVING (R482): the node is no longer present; its Trip stands (R486). -/
def State.nodeGone (s : State) (n : Nat) : State :=
  if (s.member? n).isSome then
    (s.mapGrd fun g => { g with members := g.members.filter fun m => decide (m.node ≠ n) }).grdInt 1
  else s

/-- Presence is judged in Standby too (R228, R482): a member without a heartbeat for 300 ms is no longer present, nor its temperature
available. -/
def State.memberAbsent (s : State) (n : Nat) : State :=
  if s.live && s.grd.started then
    (s.mapGrd fun g => { g with latest := g.latest.map fun m => if m.node = n then { m with heardAt := none } else m }).nodeGone n
  else s

/-- R478: whether a SEQ of a source and class is remembered. -/
def State.remembered (s : State) (src cls seq : Nat) : Bool :=
  s.grd.dups.any fun d => decide (d.src = src ∧ d.cls = cls ∧ d.seq = seq ∧ s.now ≤ d.at_ + 30000000)

/-- R478: an accepted SEQ is remembered, with the latest 15 others of its source and class within 30 s. -/
def State.remember (s : State) (src cls seq : Nat) : State :=
  s.mapGrd fun g =>
    let same := g.dups.filter fun d => decide (d.src = src ∧ d.cls = cls ∧ s.now ≤ d.at_ + 30000000)
    let others := g.dups.filter fun d => decide (¬ (d.src = src ∧ d.cls = cls) ∧ s.now ≤ d.at_ + 30000000)
    { g with dups := ⟨src, cls, seq, s.now⟩ :: same.take 15 ++ others }

/-- The duplicate filter: a remembered SEQ is discarded and counted. (log 90: DEDUCED) -/
def State.dedup (s : State) (src cls seq : Nat) (go : State → State) : State :=
  if s.remembered src cls seq then s.mapGrd fun g => { g with dup := satInc 0xFFFFFFFF g.dup }
  else go (s.remember src cls seq)

/-! ### The vote (R508 to R511) -/

/-- What the device's own heartbeat says of it. (log 114: DEDUCED) -/
def State.selfMember (s : State) : Member :=
  { node := s.grd.node, origin := s.grd.seg, digest := (s.image.getD {}).digest, version := (s.image.getD {}).version
    tj := s.thm.tj, flags := s.ownFlags }

/-- Every present node, the own one among them. (log 114: DEDUCED) -/
def State.everyone (s : State) : List Member := insertMember s.selfMember s.grd.members

/-- R508: the voters. -/
def State.voters (s : State) : List Member :=
  s.everyone.filter fun m => decide (s.grp.segmask = 0) || s.grp.segmask.testBit m.origin

/-- The value that most of a list carry, the lowest among equals, and how many carry it. -/
def mostCommon (l : List Nat) : Option (Nat × Nat) :=
  l.foldl (fun best v =>
    let n := (l.filter (· = v)).length
    match best with
    | none => some (v, n)
    | some (b, k) => if k < n ∨ (k = n ∧ v < b) then some (v, n) else some (b, k)) none

/-- R510: whether a version lies inside the window around the reference. Major in the high byte, minor in the low one. -/
def versionFits (ref own : Nat) : Bool :=
  decide (ref / 256 = own / 256 ∧ ref % 256 ≤ own % 256 + 1 ∧ own % 256 ≤ ref % 256 + 1)

/-- R509, R510: the counts of the vote. (log 93: DEDUCED) -/
def State.countVotes (s : State) : State :=
  let vs := s.voters
  let q := if s.grp.quorum = 0 then 1 else s.grp.quorum
  match mostCommon (vs.map (·.digest)) with
  | some (d, n) =>
    if q ≤ n then
      let ref := ((mostCommon ((vs.filter fun m => decide (m.digest = d)).map (·.version))).map (·.1)).getD 0
      s.mapGrp fun g => { g with votes := n, voters := vs.length, group := some d, refVersion := ref }
    else s.mapGrp fun g => { g with votes := 0, voters := vs.length, group := none, refVersion := 0 }
  | none => s.mapGrp fun g => { g with votes := 0, voters := 0, group := none, refVersion := 0 }

/-- R511: the apart causes DIGEST, VERSION, QUORUM, SCOPE from bit 0. -/
def State.apartCauses (s : State) : BitVec 4 :=
  let i := s.image.getD {}
  let b (c : Bool) (m : BitVec 4) : BitVec 4 := if c then m else 0
  (match s.grp.group with
    | some d => b (decide (d ≠ i.digest)) 1 ||| b (!versionFits s.grp.refVersion i.version) 2
    | none => 4) ||| b (decide (s.grp.system ≠ i.system)) 8

/-- An output whose owner is a key. -/
def ownedByKey (o : Output) : Bool := decide (o.owner = .key)

/-- Entry to APART (R511 to R513, Table 15-14). -/
def State.enterApart (s : State) : State :=
  let s := (s.mapGrp fun g => { g with st := .apart, apartCnt := satInc 0xFF g.apartCnt }).grpInt 0
  let s := s.logEvent 0x0710 (leBytes 1 s.grp.cause.toNat ++ leBytes 8 (s.image.getD {}).digest ++ leBytes 8 (s.grp.group.getD 0))
  let s := (s.apartKeys.withdrawApart).freeAllHosted 2
  s.setCauses .apart ownedByKey

/-- Entry to IN: cause APART ends; kept bookings are looked at (R551). -/
def State.enterIn (s : State) : State :=
  let back := decide (s.grp.st = .apart)
  let s := (s.mapGrp fun g => { g with st := .inGroup }).grpInt 0
  let s := s.clearCauses .apart ownedByKey
  let s := if back then s.logEvent 0x0711 [] else s
  s.restoreBookings

/-- Entry to JOINING (R511, R512, R551): every key hosted has been freed, and outputs owned by keys carry cause APART. -/
def State.enterJoining (s : State) : State :=
  let s := (s.mapGrp fun g => { g with
    st := .joining, cause := 0, onTime := false, goodAt := none, sync := none, master := none, source := none }).grpInt 0
  s.setCauses .apart ownedByKey

/-! ### The coaching clock (R516 to R525) -/

/-- R517: the master among the present nodes. -/
def State.findMaster (s : State) : Option Nat :=
  let ok := s.everyone.filter fun m => decide (m.flags / 2 % 2 = 0)
  match ok.find? fun m => decide (m.flags / 16 % 2 = 1) with
  | some m => some m.node
  | none => ok.head?.map (·.node)

def State.isMaster (s : State) : Bool := decide (s.grp.master = some s.grd.node)

/-- Segment of a node: its sealed one for the own node, else of its NODE entry, else of its heartbeat. -/
def State.segOf (s : State) (n : Nat) : Nat :=
  if n = s.grd.node then s.grd.seg
  else match (s.image.getD {}).nodes.find? fun e => decide (e.node = n) with
    | some e => e.seg
    | none => ((s.member? n).map (·.origin)).getD 0

/-- The segments that a bridge joins, of the NODE table. -/
def State.edges (s : State) : List (Nat × Nat × Nat) :=
  ((s.image.getD {}).nodes.filter (·.bridge)).map fun e => (e.node, e.seg, e.bseg)

/-- Segments within `k` bridges of a set. -/
def reach (edges : List (Nat × Nat × Nat)) : Nat → List Nat → List Nat
  | 0, segs => segs
  | k + 1, segs =>
    reach edges k (segs ++ edges.flatMap fun e =>
      (if segs.contains e.2.1 then [e.2.2] else []) ++ if segs.contains e.2.2 then [e.2.1] else [])

/-- Bridges between two segments (R473: the graph has no cycle), if they are joined. (log 94: DEDUCED) -/
def State.tiers (s : State) (from_ dest : Nat) : Option Nat :=
  (List.range 8).find? fun k => (reach s.edges k [from_]).contains dest

/-- R519: the source of a segment. (log 94: DEDUCED) -/
def State.sourceOf (s : State) (seg : Nat) : Option Nat :=
  match s.grp.master with
  | none => none
  | some m =>
    if s.segOf m = seg then some m
    else match s.tiers (s.segOf m) seg with
      | none => none
      | some d =>
        ((s.everyone.filter fun p => decide (p.flags / 32 % 2 = 1) && s.edges.any fun e =>
          decide (e.1 = p.node) &&
            ((decide (e.2.1 = seg) && decide (s.tiers (s.segOf m) e.2.2 = some (d - 1))) ||
             (decide (e.2.2 = seg) && decide (s.tiers (s.segOf m) e.2.1 = some (d - 1))))).head?).map (·.node)

/-- The segment from which this device takes its time: a bridge takes it from its segment nearest the master. (log 94: DEDUCED) -/
def State.timeSeg (s : State) : Nat :=
  match s.grp.master with
  | some m =>
    if s.grd.bridge then
      match s.tiers (s.segOf m) s.grd.seg, s.tiers (s.segOf m) s.grd.bseg with
      | some a, some b => if b < a then s.grd.bseg else s.grd.seg
      | none, some _ => s.grd.bseg
      | _, none => s.grd.seg
    else s.grd.seg
  | none => s.grd.seg

/-- R522 at an evaluation or a FOLLOW: GRP_INT.ON_TIME is set by a change. -/
def State.judgeTime (s : State) : State :=
  let on := s.isMaster || match s.grp.goodAt with
    | some t => decide (s.now ≤ t + 3000000)
    | none => false
  if on = s.grp.onTime then s else (s.mapGrp fun g => { g with onTime := on }).grpInt 2

/-- R517, R519: master and source at an evaluation. A change of the master sets GRP_INT.MASTER, is counted and logged. -/
def State.judgeMaster (s : State) : State :=
  let m := s.findMaster
  let s := s.mapGrp fun g => { g with master := m }
  let s := match m, s.grp.lastMaster with
    | some a, some b =>
      if a = b then s else
        ((s.mapGrp fun g => { g with lastMaster := some a, masterChg := satInc 0xFF g.masterChg }).grpInt 3).logEvent 0x0731
          (leBytes 1 b ++ leBytes 1 a)
    | some a, none => (s.mapGrp fun g => { g with lastMaster := some a }).grpInt 3
    | none, _ => s
  let src := s.sourceOf s.timeSeg
  let tier := match m with
    | some a => (s.tiers (s.segOf a) s.timeSeg).getD 0
    | none => 0
  (s.mapGrp fun g => { g with source := src, noSource := src.isNone, tier := tier
                              mext := if m = some s.grd.node then g.ext else g.mext }).judgeTime

/-- VOTE_EVALUATION (R509 to R515, R517). -/
def State.evaluate (s : State) : State :=
  let s := s.countVotes
  let c := s.apartCauses
  let s := s.mapGrp fun g => { g with cause := c }
  let s := if s.isIn && decide (c ≠ 0) then s.enterApart else s
  let s := if s.isIn then s.grd.latest.foldl (fun s m => if s.nodeApart m.node then s.applyApart m.node else s) s else s
  s.judgeMaster

/-- JOINING_END (R511): the causes are judged as they stand; keys obtained by Reclaim are released only on the way to APART
(R513). (log 93: DEDUCED) -/
def State.joiningEnd (s : State) : State :=
  if s.grp.st = .joining then
    let s := s.countVotes
    let c := s.apartCauses
    let s := s.mapGrp fun g => { g with cause := c }
    if c = 0 then s.enterIn else s.enterApart
  else s

/-- APART_RETURN (R511). -/
def State.apartReturn (s : State) : State := if s.grp.st = .apart ∧ s.grp.cause = 0 then s.enterIn else s

/-- An offset limited to 32 bits, signed (GRP_OFFSET, Table 15-14). -/
def sat32 (x : Int) : Int := max (-2147483648) (min 2147483647 x)

/-- R521: an offset steps the clock when it is 2 s or more, else the clock slews until it is gone. (log 15: DEDUCED) -/
def State.moveClock (s : State) (off : Int) : State :=
  if 2000000 ≤ off.natAbs then
    let s := (s.mapGrp fun g => { g with
      clock := ((g.clock : Int) + off).toNat, slewLeft := 0, slewAcc := 0, steps := satInc 0xFFFF g.steps
      steppedAt := some s.now }).grpInt 1
    (s.logEvent 0x0730 (leBytes 4 (unsignedOf 32 (sat32 off)))).stepBookings
  else s.mapGrp fun g => { g with slewLeft := off, slewAcc := 0 }

/-- R525: on group time the RTC takes the coaching seconds whenever the two differ. (log 14: DEDUCED) -/
def State.setRtc (s : State) : State :=
  if s.grp.onTime && decide (s.power.rtc ≠ s.coachS) then
    s.mapPower fun p => { p with rtc := s.coachS, rtcSet := true }
  else s

/-- EXT_TIME_SET (R518). -/
def State.extSet (s : State) : State :=
  let s := s.mapGrp fun g => { g with ext := true }
  if s.isMaster then
    (s.mapGrp fun g => { g with mext := true }).moveClock
      (((s.grp.extS * 1000000 + s.grp.extUs : Nat) : Int) - (s.grp.clock : Int))
  else s

/-- EXT_TIME_CLEAR and EXT_VALID_EXPIRY (R518). -/
def State.extEnd (s : State) : State :=
  s.mapGrp fun g => { g with ext := false, mext := if g.master = some s.grd.node then false else g.mext }

/-- R520: the controllers that face a segment which this device serves. -/
def State.timeRoutes (s : State) : List (Fin 2) :=
  let serves (seg : Nat) : Bool := decide (s.sourceOf seg = some s.grd.node)
  if s.grd.bridge then
    (if serves s.grd.seg then [0] else []) ++ (if serves s.grd.bseg then [1] else [])
  else if serves s.grd.seg then (if (s.can 0).st = .active then [0] else [1]) else []

/-- FLAGS of a FOLLOW (Table 15-3). -/
def State.followFlags (s : State) : Nat :=
  let stepped := if s.isMaster then (match s.grp.steppedAt with
    | some t => decide (s.now ≤ t + 10000000)
    | none => false) else s.grp.mstepped
  (if s.grp.mext then 1 else 0) + (if stepped then 2 else 0)

/-- SYNC_SEND (R520): SYNC, then FOLLOW with the coaching time of the SYNC. The master also sets its RTC (R525). -/
def State.syncSend (s : State) : State :=
  let s := if s.isMaster then s.setRtc else s
  s.timeRoutes.foldl (fun s c =>
    let q := vget s.grd.seqs 2
    let seg := if c = 0 then s.grd.seg else if s.grd.bridge then s.grd.bseg else s.grd.seg
    let tier := match s.grp.master with
      | some m => (s.tiers (s.segOf m) seg).getD 0
      | none => 0
    let s := s.sendOn [c] 2 0 none [] false
    s.sendOn [c] 2 (2 ^ 14) none
      (leBytes 1 q ++ leBytes 1 s.followFlags ++ leBytes 1 (s.grp.master.getD 0) ++ leBytes 1 tier ++ leBytes 4 s.coachS ++
        leBytes 4 (s.grp.clock % 1000000)) false) s

/-- SYNC (R520): timestamped at its start, `ticks` of 100 ns ago, when it comes from the segment's source with HOPS 0. -/
def State.onSync (s : State) (src seq hops ticks : Nat) : State :=
  if hops = 0 ∧ s.grp.source = some src ∧ src ≠ s.grd.node then
    s.mapGrp fun g => { g with sync := some ⟨src, seq, s.startClock ticks⟩ }
  else s

/-- FOLLOW (R521, R522, R525). (log 15: DEDUCED) -/
def State.onFollow (s : State) (src syncSeq hops flags secs micros : Nat) : State :=
  match s.grp.sync with
  | none => s
  | some y =>
    if hops = 0 ∧ s.grp.source = some src ∧ y.src = src ∧ y.seq = syncSeq then
      let off : Int := ((secs * 1000000 + micros : Nat) : Int) - (y.clock : Int)
      let s := s.mapGrp fun g => { g with
        sync := none, offset := sat32 off, mext := flags % 2 = 1, mstepped := flags / 2 % 2 = 1
        goodAt := if off.natAbs ≤ 250000 then some s.now else g.goodAt }
      ((s.moveClock off).judgeTime).setRtc
    else s

/-- GROUP_TIME_LOST (R522). -/
def State.timeLost (s : State) : State := (s.mapGrp fun g => { g with goodAt := none }).judgeTime

/-! ### The KEY and BOOK window at 0x4006_8000 (Tables 15-15 to 15-17) -/

/-- What GRP_TIME shows: 0 from a whole-device reset (R18), the coaching clock once Gridis has started. (log 13: DESIGN CHOICE) -/
def State.timeShown (s : State) : Nat := if s.grp.st = .before then 0 else s.grp.clock

def GrpState.code : GrpState → Nat
  | .before => 0
  | .joining => 1
  | .inGroup => 2
  | .apart => 3

def State.grpRead (s : State) (off : Nat) : Word :=
  let g := s.grp
  let i := s.image.getD {}
  match off with
  | 0x00 => pack [at_ 24 (satTo 8 g.votes), at_ 16 (satTo 8 g.voters), at_ 8 g.cause.toNat, at_ 0 g.st.code]
  | 0x04 => BitVec.ofNat 32 i.digest
  | 0x08 => BitVec.ofNat 32 (i.digest / 2 ^ 32)
  | 0x0C => BitVec.ofNat 32 (g.group.getD 0)
  | 0x10 => BitVec.ofNat 32 (g.group.getD 0 / 2 ^ 32)
  | 0x14 => pack [at_ 16 g.refVersion, at_ 0 i.version]
  | 0x18 => at_ 0 g.int.toNat
  | 0x1C => at_ 0 g.intEn.toNat
  | 0x20 => at_ 0 (satTo 32 (s.timeShown / 1000000))
  | 0x24 => at_ 0 g.latchedUs
  | 0x28 => pack [at_ 24 (g.lastMaster.getD 0), at_ 16 (g.source.getD 0), flag 4 s.power.rtcSet, flag 3 g.ext, flag 2 g.mext,
      flag 1 g.onTime, flag 0 g.noSource]
  | 0x2C => BitVec.ofNat 32 (unsignedOf 32 g.offset)
  | 0x30 => BitVec.ofNat 32 g.extS
  | 0x34 => at_ 0 g.extUs
  | 0x3C => pack [at_ 16 g.steps, at_ 8 g.masterChg, at_ 0 g.apartCnt]
  | _ => 0

def State.keyRead (s : State) (off : Nat) : Word :=
  let k := s.keys
  match off with
  | 0x100 => pack [at_ 16 (if s.grd.started then satTo 8 k.hosted.length else 0), at_ 0 k.held.length]
  | 0x104 => at_ 0 k.query
  | 0x108 => s.keyInfo
  | 0x10C => BitVec.ofNat 32 s.keyEpoch
  | 0x110 => pack [at_ 24 k.expired, at_ 16 k.lost, at_ 8 k.reclaimOk, at_ 0 k.reclaimNo]
  | 0x114 => at_ 0 k.int.toNat
  | 0x118 => at_ 0 k.intEn.toNat
  | 0x124 => at_ 5 (vget k.wrResult 0)
  | 0x12C => at_ 5 (vget k.wrResult 1)
  | 0x134 => at_ 5 (vget k.wrResult 2)
  | 0x13C => at_ 5 (vget k.wrResult 3)
  | _ => 0

/-- BOOK_STAT.OWN and TRACKED: bookings that have not ended, and records in the tracked table. What retention SRAM keeps of the first
through a reset shows once Gridis has started (R18). (log 13: DESIGN CHOICE) -/
def State.bookStat (s : State) : Word :=
  pack [at_ 26 (if s.grd.started then ((List.finRange 32).filter fun k => (s.own k).open_).length else 0), at_ 16 s.book.tracked.length, at_ 8 s.book.drop,
    at_ 0 s.book.retired]

def State.bookRead (s : State) (off : Nat) : Word :=
  if off < 0x280 then
    match idx? 4 ((off - 0x200) / 0x20) with
    | none => 0
    | some n =>
      let m := vget s.book.mbx n
      match off % 0x20 with
      | 0x00 => m.start
      | 0x04 => m.dur
      | 0x08 => at_ 0 m.key
      | 0x0C => m.value
      | 0x14 => pack [at_ 8 m.slot, at_ 4 m.result]
      | _ => 0
  else match off with
    | 0x300 => s.bookStat
    | 0x304 => at_ 0 s.book.int.toNat
    | 0x308 => at_ 0 s.book.intEn.toNat
    | _ => 0

/-- A read of the KEY and BOOK window. -/
def State.groupRead (s : State) (off : Nat) : Word :=
  if off < 0x100 then s.grpRead off else if off < 0x200 then s.keyRead off else if off < 0x1000 then s.bookRead off
  else s.recordWord off

/-- What a read of the window does besides. -/
def State.groupEffect (s : State) (off : Nat) : State :=
  if off = 0x20 then s.mapGrp fun g => { g with latchedUs := s.timeShown % 1000000 }
  else if 0x1000 ≤ off then s.recordEffect off
  else s

/-- A write of the KEY and BOOK window by Lodger `n` (of another requester's, KEY_WRn and BOOK_CMDn take the register's own
number). -/
def State.groupWrite (s : State) (off : Nat) (w : Word) : State :=
  match off with
  | 0x18 => s.mapGrp fun g => { g with int := g.int &&& ~~~(w.setWidth 4) }
  | 0x1C => s.mapGrp fun g => { g with intEn := w.setWidth 4 }
  | 0x30 => s.mapGrp fun g => { g with extS := w.toNat }
  | 0x34 => s.mapGrp fun g => { g with extUs := bits w 19 0 }
  | 0x38 =>
    let s := if bit w 0 then s.extSet else s
    if bit w 1 then s.extEnd else s
  | 0x104 => s.mapKeys fun k => { k with query := bits w 9 0 }
  | 0x114 => s.mapKeys fun k => { k with int := k.int &&& ~~~(w.setWidth 3) }
  | 0x118 => s.mapKeys fun k => { k with intEn := w.setWidth 3 }
  | 0x120 => s.keyWrite 0 0 w
  | 0x128 => s.keyWrite 1 1 w
  | 0x130 => s.keyWrite 2 2 w
  | 0x138 => s.keyWrite 3 3 w
  | 0x304 => s.mapBook fun k => { k with int := k.int &&& ~~~(w.setWidth 5) }
  | 0x308 => s.mapBook fun k => { k with intEn := w.setWidth 5 }
  | _ =>
    if 0x200 ≤ off ∧ off < 0x280 then
      match idx? 4 ((off - 0x200) / 0x20), idx? 32 (bits w 12 8) with
      | some n, some k =>
        let set (f : BookMbx → BookMbx) : State := s.mapBook fun b => { b with mbx := vmod b.mbx n f }
        match off % 0x20 with
        | 0x00 => set fun m => { m with start := w }
        | 0x04 => set fun m => { m with dur := w &&& 0x003FFFFF#32 }
        | 0x08 => set fun m => { m with key := bits w 15 0 }
        | 0x0C => set fun m => { m with value := w }
        | 0x10 =>
          match bits w 1 0 with
          | 1 => s.bookMake n
          | 2 | 3 => s.bookClose n k
          | _ => s
        | _ => s
      | _, _ => s
    else s

/-! ### Commands -/

/-- HEARTBEAT of a node (Table 14-6): `tj` is the TJ field. -/
def execHeartbeat (src origin digest version tj flags : Nat) (s : State) : Result :=
  .next (s.onFrame fun s => s.onHeartbeat
    { node := src, origin := origin, digest := digest, version := version, tj := signed 16 tj, flags := flags })

/-- NODE_ABSENT. -/
def execNodeAbsent (node : Nat) (s : State) : Result := .next (s.memberAbsent node)

/-- LEAVING of a node. -/
def execLeaving (src : Nat) (s : State) : Result := .next (s.onFrame fun s => s.nodeGone src)

/-- THROTTLE_NOTICE of a node (R484, R478): received, and no rule gives it a further effect. (log 121: DEDUCED) -/
def execThrottleNotice (src seq : Nat) (s : State) : Result := .next (s.onFrame fun s => s.dedup src 3 seq fun s => s)

/-- TRIP_FRAME (R486): a raise or a clear of node `src`. -/
def execTripFrame (src : Nat) (raise : Bool) (s : State) : Result := .next (s.onFrame fun s => s.nodeTrip src raise)

/-- VOTE_EVALUATION. -/
def execVoteEvaluation (s : State) : Result := .next (s.onFrame State.evaluate)

/-- JOINING_END. -/
def execJoiningEnd (s : State) : Result := .next (s.onFrame State.joiningEnd)

/-- APART_RETURN. -/
def execApartReturn (s : State) : Result := .next (s.onFrame State.apartReturn)

/-- EXT_TIME_SET: GRP_EXT_CMD lies at 0x4006_8038. -/
def execExtTimeSet (n : Fin 4) (user : Bool) (s : State) : Result :=
  .next (s.access (.lodger n user) .store 0x40068038 fun s => (s.answer 0).extSet)

/-- EXT_TIME_CLEAR. -/
def execExtTimeClear (n : Fin 4) (user : Bool) (s : State) : Result :=
  .next (s.access (.lodger n user) .store 0x40068038 fun s => (s.answer 0).extEnd)

/-- EXT_VALID_EXPIRY. -/
def execExtValidExpiry (s : State) : Result := .next (if s.live then s.extEnd else s)

/-- SYNC_SEND. -/
def execSyncSend (s : State) : Result := .next (s.onFrame State.syncSend)

/-- SYNC of a node, which began `ticks` of 100 ns ago. -/
def execSync (src seq hops ticks : Nat) (s : State) : Result := .next (s.onFrame fun s => s.onSync src seq hops ticks)

/-- FOLLOW of a node (Table 15-3). -/
def execFollow (src syncSeq hops flags secs micros : Nat) (s : State) : Result :=
  .next (s.onFrame fun s => s.onFollow src syncSeq hops flags secs micros)

/-- GROUP_TIME_LOST. -/
def execGroupTimeLost (s : State) : Result := .next (s.onClock State.timeLost)

/-- GRP_TIME_READ: GRP_TIME_S lies at 0x4006_8020. -/
def execGrpTimeRead (n : Fin 4) (user : Bool) (refused : Nat) (s : State) : Result :=
  .next (s.lodgerAccess n user refused .load 0x40068020 fun s => (s.groupEffect 0x20).answer (s.groupRead 0x20))

end Sys2Proof.Machine
end

