-- ==== Sys2Proof/Machine/CanRx.lean ====
section
/-! DEFINITION. Receiving Gridis frames, and the GRD window (R474, R478, R479, R483, R493, R494, Tables 14-12 to 14-15). -/

namespace Sys2Proof.Machine

/-! ### Checks (R479) -/

/-- A KIND that Table 14-4 and the chapters of the services define. -/
def Frame.kindOk (f : Frame) : Bool :=
  match f.cls with
  | 0 => decide (f.field / 2 ^ 16 ≤ 1)
  | 1 => decide (f.field / 2 ^ 14 ≤ 9)
  | 2 => decide (f.field / 2 ^ 14 ≤ 1)
  | 3 => decide (f.field / 2 ^ 14 ≤ 2)
  | 4 => decide (f.field / 2 ^ 14 ≤ 3)
  | _ => true

/-- LEN fits the payload. -/
def Frame.lenOk (f : Frame) : Bool := decide (4 ≤ f.payload.length ∧ f.len + 4 ≤ f.payload.length)

/-! ### Forwarding (R474) -/

/-- The frame with HOPS increased by 1. -/
def Frame.hop (f : Frame) : Frame := { f with payload := lmod f.payload 2 fun b => b + 8 }

/-- A bridge forwards a frame received on `c` to the other controller. -/
def State.forward (s : State) (c : Fin 2) (f : Frame) : State :=
  let o : Fin 2 := if c = 0 then 1 else 0
  let other := if c = 0 then s.grd.bseg else s.grd.seg
  if !s.grd.bridge || decide (f.origin = other ∨ f.hops = 7) then s
  else
    let q := (s.can o).fwd ++ [f.hop]
    if q.length ≤ 64 then s.mapCan o fun k => { k with fwd := q }
    else match highestFrame q with
      | some h => (s.mapCan o fun k => { k with fwd := q.erase h }).mapGrd fun g => { g with fwdDrop := satInc 0xFF g.fwdDrop }
      | none => s

/-! ### Classes 0 to 4 (R493) -/

/-- The data bytes that LEN counts. -/
def Frame.body (f : Frame) : List Byte := f.data.take f.len

/-- A Key frame addressed to this device (Tables 15-4, 15-5). -/
def State.keyFrame (s : State) (f : Frame) : State :=
  let b := f.body
  let src := f.src
  let k := f.field % 2 ^ 10
  let epoch := fieldAt b 0 4
  let cause := fieldAt b 6 1
  let reply (r : KeyReply × State) : State := r.2.sendReply src k r.1
  if !f.addressed || decide (f.dest ≠ s.grd.node) then s
  else match f.field / 2 ^ 14 with
    | 0 => reply (s.hostAcquire src k)
    | 1 => s.onGrant src k epoch (fieldAt b 4 2)
    | 2 => s.onDeny src k cause
    | 3 => reply (s.hostRenew src k epoch)
    | 4 => s.onRenewed src k epoch
    | 5 => reply (s.hostRelease src k cause)
    | 6 => s.onReleased src k
    | 7 => reply (s.hostReclaim src k epoch (fieldAt b 7 1))
    | 8 => s.hostWrite src k epoch (fieldAt b 8 2)
    | 9 => s.holderExpired src k
    | _ => s

/-- A frame of classes 0 to 4 that began `ticks` of 100 ns ago, consumed by the Innkeeper. -/
def State.consume (s : State) (f : Frame) (ticks : Nat) : State :=
  let b := f.body
  match f.cls with
  | 0 => s.nodeTrip f.src (f.field / 2 ^ 16 = 0)
  | 1 => s.keyFrame f
  | 2 =>
    if f.field / 2 ^ 14 = 0 then s.onSync f.src f.seq f.hops ticks
    else s.onFollow f.src (fieldAt b 0 1) f.hops (fieldAt b 1 1) (fieldAt b 4 4) (fieldAt b 8 4)
  | 3 =>
    match f.field / 2 ^ 14 with
    | 0 => s.onHeartbeat
        { node := f.src, origin := f.origin, digest := fieldAt b 0 8, version := fieldAt b 8 2
          tj := signed 16 (fieldAt b 10 2), flags := fieldAt b 12 1 }
    | 1 => s.nodeGone f.src
    | _ => s
  | 4 =>
    let slot := f.field % 32
    match f.field / 2 ^ 14 with
    | 0 => s.bookFrame f.src slot b .planned
    | 1 => s.bookFrame f.src slot b .confirmed
    | 2 => s.bookFrame f.src slot b .withdrawn
    | 3 => s.bookFrame f.src slot b .ended
    | _ => s
  | _ => s

/-- R493: a filter of the controller and the frame's address let a frame of class 5 to 7 in. -/
def State.wants (s : State) (c : Fin 2) (f : Frame) : Bool :=
  ((s.can c).filters.toList.any fun x => bit x.1 31 && decide (f.id &&& bits x.2 28 0 = bits x.1 28 0 &&& bits x.2 28 0)) &&
    (!f.addressed || decide (f.dest = s.grd.node))

/-- R493: a frame of class 5 to 7 enters the receive FIFO of its controller, with the stamp of its start (R495). -/
def State.toFifo (s : State) (c : Fin 2) (f : Frame) (ticks : Nat) : State :=
  let k := s.can c
  if s.wants c f then
    if k.rx.length < 32 then s.mapCan c fun k => { k with rx := k.rx ++ [⟨f, s.startTs ticks⟩] }
    else (s.mapCan c fun k => { k with rxOvr := satInc 0xFF k.rxOvr }).grdInt 4
  else s

/-- R478: the device accepts a frame that its Innkeeper consumes, that enters a FIFO, or that a bridge passes on (R474). What it
drops it does not remember. (log 90: DEDUCED) -/
def State.accepts (s : State) (c : Fin 2) (f : Frame) : Bool :=
  decide (f.cls < 5) || s.grd.bridge || (s.wants c f && decide ((s.can c).rx.length < 32))

def Can.receives (k : Can) : Bool := decide (k.st = .active ∨ k.st = .passive ∨ k.st = .recover)

/-- R478 and what follows: a frame that another node sent and that passes R479 is deduplicated, forwarded by a bridge, and
consumed or queued. (log 90: DEDUCED) -/
def State.takeIn (s : State) (c : Fin 2) (f : Frame) (ticks : Nat) : State :=
  if s.remembered f.src f.cls f.seq then s.mapGrd fun g => { g with dup := satInc 0xFFFFFFFF g.dup }
  else
    let s := if s.accepts c f then (s.remember f.src f.cls f.seq).forward c f else s
    if f.cls < 5 then s.consume f ticks else s.toFifo c f ticks

/-- R483: a frame that carries the own node number. (log 89: DEDUCED) -/
def State.clashCheck (s : State) (c : Fin 2) (f : Frame) : State :=
  if f.src = s.grd.node then (s.mapGrd fun g => { g with clash := true }).logEvent 0x0702 (leBytes 1 c.val) else s

/-- The error counters hear a frame received without error; in restricted operation they are frozen (R192). (log 87: PRESUMED) -/
def State.canHears (s : State) (c : Fin 2) : State := if s.power.xtalRc then s else s.mapCan c Can.heard

/-- CAN_FRAME_RECEIVED: a frame with an 11-bit identifier, and a remote frame, is counted (Table 14-1); the others go through
R483 and R479. (log 89: DEDUCED) -/
def State.receive (s : State) (c : Fin 2) (std : Bool) (f : Frame) (ticks : Nat) : State :=
  if !(s.grouped && (s.can c).receives) then s
  else
    let s := s.canHears c
    if std then s.mapGrd fun g => { g with std := satInc 0xFF g.std }
    else
      let s := s.clashCheck c f
      if !f.lenOk then s.mapGrd fun g => { g with lenErr := satInc 0xFF g.lenErr }
      else if !f.kindOk then s.mapGrd fun g => { g with kindErr := satInc 0xFF g.kindErr }
      else if f.src = s.grd.node then s
      else s.takeIn c f ticks

/-! ### The GRD window (Tables 14-12 to 14-15) -/

def CanState.code : CanState → Nat
  | .active => 0
  | .passive => 1
  | .busoff => 2
  | .recover => 3
  | .off => 4
  | .stopped => 5

/-- 32 bits of a set of nodes. -/
def nodeBits (k : Nat) (p : Nat → Bool) : Word := pack ((List.range 32).map fun j => flag j (p (32 * k + j)))

/-- Completed recoveries within 3 600 s (R499). -/
def State.recov (s : State) (c : Fin 2) : Nat :=
  ((s.can c).recoveries.filter fun t => decide (s.now < t + 3600000000)).length

/-- Controller registers (Table 14-13). -/
def State.canRead (s : State) (c : Fin 2) (off : Nat) : Word :=
  let k := s.can c
  if 0x40 ≤ off ∧ off < 0xC0 then
    match idx? 16 ((off - 0x40) / 8) with
    | some f => if off % 8 = 0 then (vget k.filters f).1 else (vget k.filters f).2
    | none => 0
  else match off with
    | 0x00 => at_ 16 k.holdoff
    | 0x04 => pack [at_ 24 k.txErr, at_ 16 k.rxErr, at_ 0 k.st.code]
    | 0x08 => pack [at_ 16 k.busoffCnt, at_ 8 (min 8 (s.recov c)), at_ 0 k.rxOvr]
    | _ => 0

/-- Receive FIFO window (Table 14-14); an empty FIFO reads zero. -/
def State.rxRead (s : State) (c : Fin 2) (off : Nat) : Word :=
  let k := s.can c
  if off = 0x48 then at_ 0 k.rx.length
  else match k.rx with
    | [] => 0
    | e :: _ =>
      let p := e.frame.payload
      match off with
      | 0x00 => pack [flag 31 e.frame.fd, flag 30 e.frame.brs, at_ 0 e.frame.id]
      | 0x04 => BitVec.ofNat 32 e.ts
      | 0x08 => BitVec.ofNat 32 (fieldAt p 0 4)
      | _ => if 0x0C ≤ off ∧ off ≤ 0x44 then BitVec.ofNat 32 (fieldAt p (4 + (off - 0x0C)) 4) else 0

/-- RX_FIFO_POP (R494): reading W17 removes the oldest entry. -/
def State.rxPop (s : State) (c : Fin 2) : State := s.mapCan c fun k => { k with rx := k.rx.drop 1 }

def State.txRead (s : State) (n : Fin 4) (off : Nat) : Word :=
  let m := vget s.grd.txm n
  match off with
  | 0x00 => m.hdr
  | 0x04 => m.opt
  | 0x48 => pack [at_ 8 m.seq, at_ 5 m.result, flag 3 m.delivered, flag 2 m.overrun, flag 1 m.done, flag 0 m.busy]
  | _ =>
    if 0x08 ≤ off ∧ off ≤ 0x40 then
      match idx? 15 ((off - 8) / 4) with
      | some i => vget m.data i
      | none => 0
    else 0

/-- A read of the GRD window. -/
def State.grdRead (s : State) (off : Nat) : Word :=
  let g := s.grd
  if 0x1000 ≤ off then
    match idx? 4 ((off - 0x1000) / 0x100) with
    | some n => s.txRead n (off % 0x100)
    | none => 0
  else if 0x400 ≤ off then (if off < 0x600 then s.rxRead (if off < 0x500 then 0 else 1) (off % 0x100) else 0)
  else if 0x100 ≤ off then (if off < 0x300 then s.canRead (if off < 0x200 then 0 else 1) (off % 0x100) else 0)
  else match off with
    | 0x00 => pack [flag 31 g.clash, flag 30 g.timingBad, flag 27 g.bridge, at_ 24 g.bseg, at_ 16 g.seg, at_ 0 g.node]
    | 0x04 => pack [at_ 24 g.lenErr, at_ 16 g.kindErr, at_ 8 g.std, at_ 0 g.fwdDrop]
    | 0x08 => BitVec.ofNat 32 g.dup
    | 0x0C => at_ 0 g.int.toNat
    | 0x10 => at_ 0 g.intEn.toNat
    | 0x14 => at_ 16 g.reason
    | 0x18 => pack [flag 3 s.tripPull, flag 2 g.line, flag 1 g.ownTrip, flag 0 s.tripActive]
    | 0x20 => BitVec.ofNat 32 s.ts
    | _ =>
      if 0x40 ≤ off ∧ off < 0x60 then nodeBits ((off - 0x40) / 4) fun j => g.trips.contains j
      else if 0x60 ≤ off ∧ off < 0x80 then nodeBits ((off - 0x60) / 4) fun j => g.started && s.present j
      else 0

/-- What a read of the window does besides. -/
def State.grdEffect (s : State) (off : Nat) : State :=
  if off = 0x444 then s.rxPop 0 else if off = 0x544 then s.rxPop 1 else s

/-- A write of GRD_TRIP (R485, R486): REASON is kept; RAISE, CLEAR and FORGET act in this order. -/
def State.tripWrite (s : State) (w : Word) : State :=
  let s := s.mapGrd fun g => { g with reason := bits w 31 16 }
  let s := if bit w 0 then s.tripRaise (bits w 31 16) else s
  let s := if bit w 1 then s.tripClear else s
  if bit w 2 then s.tripForget (bits w 15 8) else s

def State.canWrite (s : State) (c : Fin 2) (off : Nat) (w : Word) : State :=
  if 0x40 ≤ off ∧ off < 0xC0 then
    match idx? 16 ((off - 0x40) / 8) with
    | some f => s.mapCan c fun k => { k with filters := vmod k.filters f fun x =>
        if off % 8 = 0 then (w &&& 0x9FFFFFFF#32, x.2) else (x.1, w &&& 0x1FFFFFFF#32) }
    | none => s
  else if off = 0 then
    let h := bits w 25 16
    let s := if 1 ≤ h ∧ h ≤ 600 then s.mapCan c fun k => { k with holdoff := h } else s
    if bit w 1 then s.reen c else s
  else s

def State.txWrite (s : State) (n : Fin 4) (off : Nat) (w : Word) : State :=
  match off with
  | 0x00 => s.mapTxm n fun m => { m with hdr := w &&& 0x1C03FFFF#32 }
  | 0x04 => s.mapTxm n fun m => { m with opt := w &&& 0x0003FFFF#32 }
  | 0x44 => if bit w 0 then s.txGo n else s
  | 0x48 => s.mapTxm n fun m =>
    { m with delivered := m.delivered && !bit w 3, overrun := m.overrun && !bit w 2, done := m.done && !bit w 1 }
  | _ =>
    if 0x08 ≤ off ∧ off ≤ 0x40 then
      match idx? 15 ((off - 8) / 4) with
      | some i => s.mapTxm n fun m => { m with data := vset m.data i w }
      | none => s
    else s

/-- A write of the GRD window. -/
def State.grdWrite (s : State) (off : Nat) (w : Word) : State :=
  if 0x1000 ≤ off then
    match idx? 4 ((off - 0x1000) / 0x100) with
    | some n => s.txWrite n (off % 0x100) w
    | none => s
  else if 0x100 ≤ off ∧ off < 0x300 then s.canWrite (if off < 0x200 then 0 else 1) (off % 0x100) w
  else match off with
    | 0x00 => s.mapGrd fun g => { g with clash := g.clash && !bit w 31 }
    | 0x0C => s.mapGrd fun g => { g with int := g.int &&& ~~~(w.setWidth 5) }
    | 0x10 => s.mapGrd fun g => { g with intEn := w.setWidth 5 }
    | 0x14 => s.tripWrite w
    | _ => s

/-! ### Commands -/

/-- CAN_FRAME_RECEIVED on controller `c`: the identifier has 11 bits, or the frame is a remote frame, when `std`; the
frame began `ticks` of 100 ns ago. (log 111: DESIGN CHOICE) -/
def execCanFrameReceived (c : Fin 2) (std : Bool) (id : Nat) (fd brs : Bool) (payload : List Byte) (ticks : Nat) (s : State) : Result :=
  .next (s.receive c std { id := id, fd := fd, brs := brs, payload := payload } ticks)

/-- RX_FIFO_POP: GRD_RXc_W17 lies at 0x4006_0444 + c × 0x100. -/
def execRxFifoPop (n : Fin 4) (user : Bool) (c : Fin 2) (refused : Nat) (s : State) : Result :=
  .next (s.lodgerAccess n user refused .load (0x40060444 + c.val * 0x100) fun s => (s.rxPop c).answer (s.rxRead c 0x44))

end Sys2Proof.Machine
end

