-- ==== Sys2Proof/Machine/FanWave.lean ====
section
/-! DEFINITION. What a fan channel forms from its shunt voltages: phase currents, their RMS (R311, R328), and the amplitudes of a
resonance sweep (R334). The manual gives no numeric method: sums are whole numbers, the sine has thirty binary places (log entry 128). -/

namespace Sys2Proof.Machine

/-- The root of a whole number, rounded down, found bit by bit from bit `f` on. -/
def rootBits : Nat → Nat → Nat → Nat
  | 0, r, _ => r
  | f + 1, r, n => if (r + 2 ^ f) * (r + 2 ^ f) ≤ n then rootBits f (r + 2 ^ f) n else rootBits f r n

/-- The root of `n / d` in whole numbers; where it is not whole the rounding is open (log entry 7). -/
def openRoot (n d : Nat) : Nat :=
  let r := rootBits 40 0 (n / d)
  if r * r * d = n then r else if Config.roundsUp n d then r + 1 else r

/-- The sine of `a` / 2 ^ 32 turns, times 2 ^ 30. -/
def sinTurn (a : Nat) : Int :=
  let x := a % 2 ^ 32
  let r := x % 2 ^ 30
  let t : Nat := (if x / 2 ^ 30 % 2 = 1 then 2 ^ 30 - r else r) * 1686629713 / 2 ^ 30
  let q := t * t / 2 ^ 30
  let term (k acc : Nat) : Nat := 2 ^ 30 - q * acc / 2 ^ 30 / k
  let v : Nat := t * term 6 (term 20 (term 42 (term 72 (term 110 (2 ^ 30))))) / 2 ^ 30
  if x < 2 ^ 31 then (v : Int) else -(v : Int)

def cosTurn (a : Nat) : Int := sinTurn (a + 2 ^ 30)

/-- The current of phase W (R311). -/
def phaseW (iu iv : Int) : Int := -(iu + iv)

/-- A phase current in µA: the shunt voltage in µV over SHUNT in mΩ (R311). -/
def FanMotor.current (m : FanMotor) (uv : Int) : Int := openQuotInt (uv * 1000) m.shunt

/-- The squares of the three phase currents of one sample, in µA². -/
def phaseSquares (p : Int × Int) : Nat := (p.1 * p.1 + p.2 * p.2 + phaseW p.1 p.2 * phaseW p.1 p.2).natAbs

/-- R328: the RMS of the three phase currents, in mA, of sums of squares and numbers of samples. -/
def rmsOf (l : List (Nat × Nat)) : Nat :=
  let n := l.foldl (fun a p => a + p.2) 0
  if n = 0 then 0 else openRoot (l.foldl (fun a p => a + p.1) 0) (3 * n * 1000000)

/-- A sample of the phase U current at a rotor angle joins a bin's sums at the orders 1, 2 and BLADES (R334). -/
def Spectral.add (b : Spectral) (blades : Nat) (angle : Nat) (iu : Int) : Spectral :=
  let at_ (k : Nat) (p : Int × Int) : Int × Int := (p.1 + iu * cosTurn (k * angle), p.2 + iu * sinTurn (k * angle))
  { n := b.n + 1, one := at_ 1 b.one, two := at_ 2 b.two, blade := if blades = 0 then b.blade else at_ blades b.blade }

/-- FANn_MAPb: the root of the sum of the squares of the amplitudes, in mA (R334). -/
def Spectral.amplitude (b : Spectral) : Nat :=
  let sq (p : Int × Int) : Nat := (p.1 * p.1 + p.2 * p.2).natAbs
  if b.n = 0 then 0 else openRoot (4 * (sq b.one + sq b.two + sq b.blade)) (b.n * b.n * 2 ^ 60 * 1000000)

/-- The rotor's turn over one sample out of `m` in 1 ms at n_ref, in 2 ^ -32 turns. -/
def turnOver (nref m : Nat) : Nat := nref * 2 ^ 32 / (60000000 * m)

/-- The channel takes the shunt voltages of 1 ms, in µV (R311, R328, R334). -/
def Fan.sense (f : Fan) (samples : List (Int × Int)) : Fan :=
  let l := samples.map fun p => (f.motor.current p.1, f.motor.current p.2)
  let sq := ((l.map phaseSquares).foldl (· + ·) 0, l.length) :: f.squares.take 99
  let f := { f with squares := sq, cur := satTo 16 (rmsOf sq) }
  match f.task with
  | .sweep 2 =>
    l.foldl (fun f p =>
      let a := (f.angle + turnOver f.nref l.length) % 2 ^ 32
      { f with angle := a, spec := lmod f.spec f.bin fun b => b.add f.blades a p.1 }) f
  | _ => f

end Sys2Proof.Machine
end

