-- ==== Sys2Proof/Machine/F32.lean ====
section
/-! DEFINITION. IEEE 754-2008 binary32 (R25, R277): every operation computes exactly and rounds once, to nearest, ties to even. -/

namespace Sys2Proof.Machine

/-- The value of a binary32 word. A finite magnitude is a whole number of the least subnormal, 2 ^ -149; all NaNs are one. -/
inductive F32 where
  | fin (neg : Bool) (mag : Nat)
  | inf (neg : Bool)
  | nan
  deriving DecidableEq, Repr

/-- The value that a binary32 word spells. -/
def F32.ofBits (w : Word) : F32 :=
  let s := w.getLsbD 31
  let e := bits w 30 23
  let m := bits w 22 0
  if e = 255 then (if m = 0 then .inf s else .nan)
  else if e = 0 then .fin s m
  else .fin s ((m + 2 ^ 23) * 2 ^ (e - 1))

/-- Exponent and fraction bits of the magnitude `n / d` (in units of 2 ^ -149) rounded to nearest, ties to even:
the number `k * 2 ^ 23 + r` of binary32's own ordering, 0x7F80_0000 or above meaning infinity. -/
def F32.roundMag (n d : Nat) : Nat :=
  let q := n / d
  let k := if q < 2 ^ 24 then 0 else q.log2 - 23
  k * 2 ^ 23 + roundEven n (d * 2 ^ k)

/-- The magnitude that exponent-and-fraction bits `b` stand for. -/
def F32.magOf (b : Nat) : Nat :=
  let e := b / 2 ^ 23
  let m := b % 2 ^ 23
  if e = 0 then m else (m + 2 ^ 23) * 2 ^ (e - 1)

/-- The binary32 value nearest to ±`n / d` units of 2 ^ -149. -/
def F32.round (neg : Bool) (n d : Nat) : F32 :=
  let b := F32.roundMag n d
  if b < 0x7F800000 then .fin neg (F32.magOf b) else .inf neg

/-- The word of a value; a NaN shows as the quiet NaN 0x7FC0_0000 (no kept state holds another one, entry 8). -/
def F32.toBits : F32 → Word
  | .fin neg mag => (if neg then 0x80000000#32 else 0#32) ||| BitVec.ofNat 32 (F32.roundMag mag 1)
  | .inf neg => if neg then 0xFF800000#32 else 0x7F800000#32
  | .nan => 0x7FC00000#32

/-- The signed number of units of 2 ^ -149 of a finite value. -/
def F32.units (neg : Bool) (mag : Nat) : Int := if neg then -(mag : Int) else mag

def F32.neg : F32 → F32
  | .fin s m => .fin (!s) m
  | .inf s => .inf (!s)
  | .nan => .nan

/-- Addition. An exact zero sum of unlike signs is +0. -/
def F32.add : F32 → F32 → F32
  | .fin s a, .fin t b =>
    let z := F32.units s a + F32.units t b
    if z = 0 then .fin (s && t) 0 else F32.round (decide (z < 0)) z.natAbs 1
  | .inf s, .fin _ _ => .inf s
  | .fin _ _, .inf t => .inf t
  | .inf s, .inf t => if s = t then .inf s else .nan
  | _, _ => .nan

def F32.sub (x y : F32) : F32 := F32.add x (F32.neg y)

def F32.mul : F32 → F32 → F32
  | .fin s a, .fin t b => F32.round (s != t) (a * b) (2 ^ 149)
  | .inf s, .fin t b => if b = 0 then .nan else .inf (s != t)
  | .fin s a, .inf t => if a = 0 then .nan else .inf (s != t)
  | .inf s, .inf t => .inf (s != t)
  | _, _ => .nan

def F32.div : F32 → F32 → F32
  | .fin s a, .fin t b =>
    if b = 0 then (if a = 0 then .nan else .inf (s != t)) else F32.round (s != t) (a * 2 ^ 149) b
  | .inf s, .fin t _ => .inf (s != t)
  | .fin s _, .inf t => .fin (s != t) 0
  | _, _ => .nan

def F32.isFinite : F32 → Bool
  | .fin _ _ => true
  | _ => false

/-- `x < y`; false when either is a NaN. -/
def F32.lt : F32 → F32 → Bool
  | .fin s a, .fin t b => decide (F32.units s a < F32.units t b)
  | .inf s, .fin _ _ => s
  | .fin _ _, .inf t => !t
  | .inf s, .inf t => s && !t
  | _, _ => false

/-- `x ≤ y`; false when either is a NaN. -/
def F32.le : F32 → F32 → Bool
  | .fin s a, .fin t b => decide (F32.units s a ≤ F32.units t b)
  | .inf s, .fin _ _ => s
  | .fin _ _, .inf t => !t
  | .inf s, .inf t => s || !t
  | _, _ => false

/-- Numeric equality (−0 equals +0). -/
def F32.eq (x y : F32) : Bool := F32.le x y && F32.le y x

def F32.abs : F32 → F32
  | .fin _ m => .fin false m
  | .inf _ => .inf false
  | .nan => .nan

/-- clamp of R277: `lo` when x < lo, `hi` when x > hi, else x. -/
def F32.clamp (x lo hi : F32) : F32 := if F32.lt x lo then lo else if F32.lt hi x then hi else x

def F32.zero : F32 := .fin false 0

/-- The binary32 value nearest to the ratio of two whole numbers. -/
def F32.ofRatio (neg : Bool) (n d : Nat) : F32 := F32.round neg (n * 2 ^ 149) d

def F32.ofNat (n : Nat) : F32 := F32.ofRatio false n 1

def F32.ofInt (z : Int) : F32 := F32.ofRatio (decide (z < 0)) z.natAbs 1

/-- The whole number nearest to a value, ties to even; `none` when it is not finite. -/
def F32.toInt? : F32 → Option Int
  | .fin s m => some (let r := roundEven m (2 ^ 149); if s then -(r : Int) else r)
  | _ => none

/-- The largest whole number not above a finite value. -/
def F32.floor? : F32 → Option Int
  | .fin s m => some ((F32.units s m) / (2 ^ 149 : Nat))
  | _ => none

/-- The smallest whole number not below a finite value. -/
def F32.ceil? : F32 → Option Int
  | .fin s m => some (-((-(F32.units s m)) / (2 ^ 149 : Nat)))
  | _ => none

/-- The value rounded to a whole number, ties to even, and clamped to 0 … `hi`: the form in which a value reaches a gate
output (R279). A value that is not finite never reaches it (R293). -/
def F32.toNatClamp (x : F32) (hi : Nat) : Nat :=
  match x with
  | .fin s m => if s then 0 else min hi (roundEven m (2 ^ 149))
  | .inf s => if s then 0 else hi
  | .nan => 0

/-- A sorted copy, ascending by F32.le (insertion). -/
def F32.insert (x : F32) : List F32 → List F32
  | [] => [x]
  | y :: ys => if F32.le x y then x :: y :: ys else y :: F32.insert x ys

def F32.sort (l : List F32) : List F32 := l.foldr F32.insert []

end Sys2Proof.Machine
end

