-- ==== Sys2Proof/Machine/Loop.lean ====
section
/-! DEFINITION. The loop engine: register writes, health checks, the law and the destinations of a sample (R268 to R309). -/

namespace Sys2Proof.Machine

def State.slot (s : State) (n : Fin 48) : LoopSlot := vget s.loops.slots n

def State.mapSlot (s : State) (n : Fin 48) (f : LoopSlot → LoopSlot) : State :=
  s.mapLoops fun l => { l with slots := vmod l.slots n f }

/-- First address of slot `n`'s registers. -/
def slotBase (n : Fin 48) : Nat := 0x40020000 + n.val * 0x100

def f32 (w : Word) : F32 := F32.ofBits w

/-- A binary32 word that is neither infinite nor a NaN. -/
def finite (w : Word) : Bool := (f32 w).isFinite

/-- Bits of STAT.CAUSE (Table 08-13). -/
def causeRange : BitVec 6 := 1
def causeStale : BitVec 6 := 2
def causeFreeze : BitVec 6 := 4
def causeMemory : BitVec 6 := 8
def causeNumBad : BitVec 6 := 16
def causeSchedBad : BitVec 6 := 32

/-! ### Conditions on the set-up (R274, R283, R293, R294) -/

/-- The coefficient conditions of R293: finite words, TF ≥ 0, SLEW ≥ 0, UMIN ≤ UMAX. -/
def coefOk (b : Bank) : Bool :=
  b.toList.all finite && !F32.lt (f32 b[3]) F32.zero && !F32.lt (f32 b[8]) F32.zero && !F32.lt (f32 b[7]) (f32 b[6])

/-- An aligned address of main SRAM. -/
def sramAligned (a size : Nat) : Bool := inSram a && decide (a % size = 0)

/-- The boundaries in use, T1 to T[REGIONS − 1]. -/
def LoopSlot.bounds (x : LoopSlot) : List F32 := (x.t.toList.take x.regions).map f32

def strictly : List F32 → Bool
  | a :: b :: l => F32.lt a b && strictly (b :: l)
  | _ => true

/-- The schedule points of a slot. -/
def LoopSlot.points (x : LoopSlot) (all : List (Word × Word)) : List (F32 × F32) :=
  ((all.drop x.fbFirst).take x.fbCount).map fun p => (f32 p.1, f32 p.2)

/-- R294 for SCHEDULE fallback. -/
def LoopSlot.schedOk (x : LoopSlot) (all : List (Word × Word)) : Bool :=
  decide (2 ≤ x.fbCount ∧ x.fbCount ≤ 16 ∧ x.fbFirst + x.fbCount ≤ all.length) && strictly ((x.points all).map (·.1))

/-- R294 without its coefficient part. -/
def LoopSlot.setupOk (x : LoopSlot) (all : List (Word × Word)) : Bool :=
  decide (x.fallback ≤ 2) && (decide (x.destKind ≠ 1) || decide (x.destId ≤ 29)) &&
    (decide (x.destKind ≠ 2) || decide (x.destId ≤ 47)) && strictly x.bounds &&
    (decide (x.fallback ≠ 2) || decide (x.destKind = 1)) && (decide (x.fallback ≠ 1) || x.schedOk all)

/-- R274 over the four addresses; REG_ADDR alone may be 0 (Table 08-7). -/
def LoopSlot.addrOk (x : LoopSlot) : Bool :=
  sramAligned x.fbAddr 8 && (decide (x.regAddr = 0) || sramAligned x.regAddr 4) && sramAligned x.destAddr 4 &&
    sramAligned x.schedAddr 4

/-- R274 over the addresses that an enabled slot uses. (log 67: DEDUCED) -/
def LoopSlot.addrUsedOk (x : LoopSlot) : Bool :=
  sramAligned x.fbAddr 8 && (decide (x.regAddr = 0) || sramAligned x.regAddr 4) &&
    (decide (x.destKind ≠ 3) || sramAligned x.destAddr 4) && (decide (x.fallback ≠ 1) || sramAligned x.schedAddr 4)

/-- Every bank in use passes the coefficient conditions. -/
def LoopSlot.banksOk (x : LoopSlot) : Bool := (x.banks.toList.take (x.regions + 1)).all coefOk

/-- The inner slot that a slot would have. -/
def LoopSlot.inner (x : LoopSlot) : Option Nat := if x.en ∧ x.destKind = 2 then some x.destId else none

/-- R283: following inner slots from `a` never comes back to `a`. -/
def chainFree (links : List (Nat × Nat)) (a : Nat) : Nat → Nat → Bool
  | 0, _ => false
  | k + 1, x => match links.find? fun l => decide (l.1 = x) with
    | none => true
    | some l => decide (l.2 ≠ a) && chainFree links a k l.2

/-- R283 over all slots. -/
def cascadesOk (slots : List LoopSlot) : Bool :=
  let links := slots.zipIdx.filterMap fun x => x.1.inner.map fun m => (x.2, m)
  decide (links.map (·.2)).Nodup && links.all fun l => chainFree links l.1 49 l.1

/-! ### Register writes (R281, R287 to R292, R295 to R298) -/

def State.slotErr (s : State) (n : Fin 48) : State := s.mapSlot n fun x => { x with cfgErr := true }

/-- A field write, ignored with CFG_ERR where it breaks R274 or R294. -/
def State.slotSet (s : State) (n : Fin 48) (ok : LoopSlot → Bool) (f : LoopSlot → LoopSlot) : State :=
  if ok (f (s.slot n)) then s.mapSlot n f else s.slotErr n

/-- R306, R285: an enabled slot starts in TRACK; its first sample falls at the next tick. -/
def LoopSlot.enable (x : LoopSlot) : LoopSlot :=
  { x with st := .track, goodrun := 0, integ := 0, region := 0, cause := 0, stale := 0, lastSeq := none, frz := 0, frzWait := false
           restart := false, realign := false, limited := false, due := 1 }

/-- Outputs owned by a loop slot (Table 02-3). -/
def ownedBySlot (n : Fin 48) (o : Output) : Bool := decide (o.owner = .slot ∧ o.ownerId = n.val)

/-- The FEEDBACK cause that the slot has set is cleared (R297, R304). -/
def State.clearFeedback (s : State) (n : Fin 48) : State :=
  let x := s.slot n
  if x.fbSet then
    let s := (s.mapSlot n fun x => { x with fbSet := false }).clearCauses .feedback (ownedBySlot n)
    match idx? 30 x.destId with
    | some i => s.clearCause i .feedback
    | none => s
  else s

/-- LOOP_EVT of a slot. -/
def State.loopEvt (s : State) (n : Fin 48) : State :=
  s.mapLoops fun l => { l with evt := l.evt ||| BitVec.ofNat 48 (2 ^ n.val) }

/-- A slot changes state; entering or leaving FALLBACK sets its LOOP_EVT bit. -/
def State.setSlotState (s : State) (n : Fin 48) (st : LoopSt) : State :=
  let old := (s.slot n).st
  let s := s.mapSlot n fun x => { x with st := st }
  if old ≠ st ∧ (old = .fallback ∨ st = .fallback) then s.loopEvt n else s

/-- SLOT_DISABLE (R297). -/
def State.slotOff (s : State) (n : Fin 48) : State :=
  let s := (s.clearFeedback n).setSlotState n .off
  s.mapSlot n fun x => { x with en := false, due := 0 }

/-- A write of LOOPn_CTRL. -/
def State.slotCtrl (s : State) (n : Fin 48) (y : LoopSlot → LoopSlot) : State :=
  let x := s.slot n
  let z := y x
  let all := s.loops.points
  if x.en ∧ (z.direct ≠ x.direct ∨ z.destKind ≠ x.destKind ∨ z.destId ≠ x.destId) then s.slotErr n
  else if !z.setupOk all then s.slotErr n
  else if z.en && (!z.addrUsedOk || decide (z.staleN = 0 ∨ z.goodK = 0) ||
      ((!x.en || decide (z.regions ≠ x.regions)) && !z.banksOk) || !cascadesOk (vset s.loops.slots n z).toList) then s.slotErr n
  else if x.en && !z.en then (s.slotOff n).mapSlot n fun x => { x with fallback := z.fallback, regions := z.regions }
  else s.mapSlot n fun _ => if z.en && !x.en then z.enable else z

/-- The outer slot of a cascade around slot `n`. -/
def State.isInner (s : State) (n : Fin 48) : Bool := s.loops.slots.toList.any fun x => decide (x.inner = some n.val)

/-- SETPOINT_WRITE (R281). -/
def State.setpoint (s : State) (n : Fin 48) (w : Word) : State :=
  if s.isInner n then s.slotErr n else s.mapSlot n fun x => { x with sp := w }

/-- LOOP_OUT_WRITE (R298). -/
def State.loopOut (s : State) (n : Fin 48) (w : Word) : State :=
  if (s.slot n).en then s else s.mapSlot n fun x => { x with out := w }

/-- The staging words go into bank BANK if they pass R293 (R287). (log 67: DEDUCED) -/
def LoopSlot.commit (x : LoopSlot) : LoopSlot :=
  if coefOk x.stg then
    { x with pend := false, banks := match idx? 4 x.bank with
      | some b => vset x.banks b x.stg
      | none => x.banks }
  else { x with pend := false, commitErr := true }

/-- A write of LOOPn_COMMIT (R287, R288, R290). -/
def LoopSlot.commitWrite (x : LoopSlot) (view bank : Nat) (go : Bool) : LoopSlot :=
  if x.pend then { x with cfgErr := true }
  else
    let x := { x with view := view, bank := bank }
    if !go then x
    else if x.direct then { x with cfgErr := true }
    else if x.en then { x with pend := true }
    else x.commit

/-- A write of LOOPn_STGk (R287, R288, R290 to R292). -/
def LoopSlot.stage (x : LoopSlot) (k : Fin 9) (w : Word) : LoopSlot :=
  if x.direct then
    { x with banks := vmod x.banks 0 fun b => vset b k w, wseq := (x.wseq + 1) % 65536, left := x.left - 1 }
  else if x.pend then { x with cfgErr := true }
  else { x with stg := vset x.stg k w }

/-- A write of LOOPn_DGRP (R292). -/
def LoopSlot.group (x : LoopSlot) (count : Nat) : LoopSlot :=
  if 9 < count then x
  else if count = 0 then { x with left := 0 }
  else { x with left := count, grpOvr := x.grpOvr || decide (0 < x.left) }

/-! ### The sample: inputs, region, health (R273, R285, R286, R299 to R301) -/

/-- A word that the slot reads from main SRAM. -/
def State.slotRead (s : State) (n : Fin 48) (addr : Nat) : Option Word × State :=
  if sramAligned addr 4 then s.sramWord (.loop n) addr else (none, s)

/-- R285: the region moves up, then down. -/
def moveRegion (t : List F32) (hys z : F32) (m : Nat) : Nat :=
  let up := (List.range t.length).foldl (fun m _ => match t[m]? with
    | some b => if F32.le b z then m + 1 else m
    | none => m) m
  (List.range t.length).foldl (fun m _ => match m, t[m - 1]? with
    | m' + 1, some b => if F32.lt z (F32.sub b hys) then m' else m' + 1
    | m, _ => m) up

/-- R284 to R286. -/
def LoopSlot.selectRegion (x : LoopSlot) (z : Option Word) : LoopSlot :=
  let x := { x with region := min x.region x.regions }
  let h := f32 x.hys
  if !strictly x.bounds || !(h.isFinite && !F32.lt h F32.zero) then { x with cfgErr := true }
  else match z with
    | none => x
    | some z => if finite z then { x with region := moveRegion x.bounds h (f32 z) x.region } else x

/-- The bank in force: bank 0 in direct mode, else that of the region. -/
def LoopSlot.coef (x : LoopSlot) : Bank :=
  if x.direct then x.banks[0] else match idx? 4 x.region with
    | some b => vget x.banks b
    | none => x.banks[0]

/-- |a − b| > c. -/
def beyond (a b c : F32) : Bool := F32.lt c (F32.abs (F32.sub a b))

/-- R300: the freeze timer at a CLOSED sample; `ticks` is the sample period. u is the output as it stands. -/
def LoopSlot.freezeStep (x : LoopSlot) (y : Word) (ticks : Nat) : LoopSlot :=
  if beyond (f32 y) (f32 x.yRef) (f32 x.frzBand) then { x with frz := 0, yRef := y, uRef := x.uPrev }
  else { x with frz := x.frz + ticks }

/-- The FREEZE condition of Table 08-4. (log 66: DEDUCED) -/
def LoopSlot.frozen (x : LoopSlot) : Bool :=
  decide (4 * x.frzTime ≤ x.frz) && beyond (f32 x.uPrev) (f32 x.uRef) (f32 x.frzDu)

/-- Table 08-4 in its order, with R300 at every CLOSED sample whose y can be read, and R301: the faults of the sample, and the slot
after it. -/
def LoopSlot.classify (x : LoopSlot) (y hw : Option Word) (memBad : Bool) (ticks : Nat) : BitVec 6 × LoopSlot :=
  match y, hw, memBad with
  | some y, some hw, false =>
    let x := { x with frzWait := x.frzWait && !beyond (f32 y) (f32 x.yRef) (f32 x.frzBand) }
    let x := if x.st = .closed then x.freezeStep y ticks else x
    if bit hw 7 then (0, x)
    else
      let new := decide (x.lastSeq ≠ some (bits hw 31 16))
      let x := if new then { x with lastSeq := some (bits hw 31 16), stale := 0 } else { x with stale := satInc 255 x.stale }
      let range := if bit hw 0 && finite y then 0 else causeRange
      let stale := if !new && decide (x.staleN ≤ x.stale) then causeStale else 0
      let freeze := if decide (x.st = .closed ∧ 0 < x.frzTime) && x.frozen then causeFreeze else 0
      let fault := range ||| stale ||| freeze
      (fault, { x with
        goodrun := if fault ≠ 0 then 0 else if new && !x.frzWait then satInc 255 x.goodrun else x.goodrun })
  | _, _, _ => (causeMemory, { x with goodrun := 0 })

/-! ### The law (R277, R278, R293) -/

/-- h of a sample: the divider in force times 250 µs (R269), in s. -/
def samplePeriod (div : Nat) : F32 := F32.ofRatio false div 4000

/-- One closed-loop sample: the output and the kept state, or nothing where R293 holds the output. (log 68: DEDUCED) -/
def LoopSlot.law (x : LoopSlot) (c : Bank) (h : F32) (y : Word) (restart realign hold : Bool) : Option (F32 × LoopSlot) :=
  let r := f32 x.sp
  let y := f32 y
  let kp := f32 (vget c 0)
  let ki := f32 (vget c 1)
  let kd := f32 (vget c 2)
  let tf := f32 (vget c 3)
  let slew := f32 (vget c 8)
  let uPrev := f32 x.uPrev
  let e := F32.sub r y
  let v := F32.sub (F32.mul (f32 (vget c 5)) r) y
  let p := F32.mul kp (F32.sub (F32.mul (f32 (vget c 4)) r) y)
  let dPrev := if restart then F32.zero else f32 x.dPrev
  let vPrev := if restart then v else f32 x.vPrev
  let tfh := F32.add tf h
  let d := F32.add (F32.mul (F32.div tf tfh) dPrev) (F32.mul (F32.div kd tfh) (F32.sub v vPrev))
  let i := if realign then F32.sub (F32.sub uPrev p) d else f32 x.integ
  let step := if realign || hold then F32.zero else F32.mul (F32.mul ki h) e
  let uRaw := F32.add (F32.add p (F32.add i step)) d
  if !(coefOk c && r.isFinite && p.isFinite && d.isFinite && uRaw.isFinite) then none
  else
    let u := F32.clamp uRaw (f32 (vget c 6)) (f32 (vget c 7))
    let u := if F32.lt F32.zero slew then
        let sh := F32.mul slew h
        F32.clamp u (F32.sub uPrev sh) (F32.add uPrev sh)
      else u
    let windup := (F32.lt u uRaw && F32.lt F32.zero step) || (F32.lt uRaw u && F32.lt step F32.zero)
    let step := if windup then F32.zero else step
    some (u, { x with integ := (F32.add i step).toBits, dPrev := d.toBits, vPrev := v.toBits, limited := !F32.eq u uRaw })

/-! ### Destinations and states (R279, R302 to R305) -/

/-- R279: u goes to LOOPn_OUT, is kept as u_prev, and goes to the destination. -/
def State.slotWrite (s : State) (n : Fin 48) (u : Word) : State :=
  let s := s.mapSlot n fun x => { x with uPrev := u, out := u }
  let x := s.slot n
  match x.destKind with
  | 1 => match idx? 30 x.destId with
    | some i => s.gateWrite (.slot n) i ((f32 u).toNatClamp 65535)
    | none => s
  | 2 => match idx? 48 x.destId with
    | some m => s.mapSlot m fun y => { y with sp := u }
    | none => s
  | 3 =>
    let r := s.sramWrite (.loop n) x.destAddr (leBytes 4 u.toNat)
    if r.1 then r.2 else r.2.mapSlot n fun x => { x with destBad := true }
  | _ => s

/-- The destination output of a slot, if it is a gate output. -/
def LoopSlot.output (x : LoopSlot) : Option (Fin 30) := if x.destKind = 1 then idx? 30 x.destId else none

/-- The destination is Live, or is no gate output. -/
def State.destLive (s : State) (n : Fin 48) : Bool :=
  match (s.slot n).output with
  | some i => s.isLive i
  | none => true

/-- The start value u_prev on entry to CLOSED (Table 08-2). (log 67: DEDUCED) -/
def State.startValue (s : State) (n : Fin 48) : Word :=
  let x := s.slot n
  match x.destKind with
  | 1 => match idx? 30 x.destId with
    | some i => (F32.ofNat (s.outp i).applied).toBits
    | none => x.out
  | 2 => match idx? 48 x.destId with
    | some m => (s.slot m).sp
    | none => x.out
  | _ => x.out

/-- Entry to CLOSED (R278): u_prev takes the start value; the freeze check starts afresh. (log 66: DEDUCED) -/
def State.enterClosed (s : State) (n : Fin 48) (y : Word) : State :=
  let u := s.startValue n
  (s.mapSlot n fun x => { x with uPrev := u, cause := 0, frz := 0, yRef := y, uRef := u, frzWait := false }).setSlotState n .closed

/-- NUM_BAD (R293): the sample holds its output. LOOP_EVT is set where the sample before did not hold. -/
def State.numBad (s : State) (n : Fin 48) (was : Bool) : State :=
  let s := s.mapSlot n fun x => { x with cause := x.cause ||| causeNumBad, badCnt := satInc 0xFF x.badCnt, limited := false }
  (if was then s else s.loopEvt n).slotWrite n (s.slot n).uPrev

/-- NUM_BAD of a sample that writes no result of a law: HOLD and REST in FALLBACK, and TRACK. Nothing else is written: HOLD writes
u_prev itself, and the others write nothing (R279, Table 08-5). (log 68: DEDUCED) -/
def State.numCheck (s : State) (n : Fin 48) (c : Bank) (was : Bool) : State :=
  if coefOk c && finite (s.slot n).sp then s
  else
    let s := s.mapSlot n fun x => { x with cause := x.cause ||| causeNumBad, badCnt := satInc 0xFF x.badCnt }
    if was then s else s.loopEvt n

/-- The law runs, or R293 holds the output. (log 68: DEDUCED) -/
def State.slotLaw (s : State) (n : Fin 48) (c : Bank) (h : F32) (y : Word) (restart realign hold was : Bool) : State :=
  match (s.slot n).law c h y restart realign hold with
  | some (u, x) => (s.mapSlot n fun _ => x).slotWrite n u.toBits
  | none => s.numBad n was

/-- U of the schedule at s (Table 08-5). -/
def scheduleAt (pts : List (F32 × F32)) (x : F32) : F32 :=
  match pts with
  | [] => F32.zero
  | [p] => p.2
  | p :: q :: l =>
    if F32.le x p.1 then p.2
    else if F32.lt x q.1 then F32.add p.2 (F32.mul (F32.sub x p.1) (F32.div (F32.sub q.2 p.2) (F32.sub q.1 p.1)))
    else scheduleAt (q :: l) x

/-- SCHED_BAD (R303): u_prev is written again; R293 judges the sample too. -/
def State.schedBad (s : State) (n : Fin 48) (c : Bank) (was : Bool) : State :=
  let s := s.mapSlot n fun x => { x with cause := x.cause ||| causeSchedBad }
  (s.slotWrite n (s.slot n).uPrev).numCheck n c was

/-- SCHEDULE fallback at one sample (Table 08-5, R303, R293). -/
def State.slotSchedule (s : State) (n : Fin 48) (c : Bank) (h : F32) (was : Bool) : State :=
  let x := s.slot n
  let r := s.slotRead n x.schedAddr
  match r.1 with
  | some w =>
    if finite w then
      let s := r.2.mapSlot n fun x => { x with cause := x.cause &&& ~~~causeSchedBad }
      let u := F32.clamp (scheduleAt (x.points s.loops.points) (f32 w)) (f32 (vget c 6)) (f32 (vget c 7))
      let slew := f32 (vget c 8)
      let u := if F32.lt F32.zero slew then
          let sh := F32.mul slew h
          F32.clamp u (F32.sub (f32 x.uPrev) sh) (F32.add (f32 x.uPrev) sh)
        else u
      if coefOk c && finite x.sp && u.isFinite then s.slotWrite n u.toBits else s.numBad n was
    else r.2.schedBad n c was
  | none => r.2.schedBad n c was

/-- The fallback action of a sample (Table 08-5). -/
def State.slotFallback (s : State) (n : Fin 48) (c : Bank) (h : F32) (was : Bool) : State :=
  let s := s.mapSlot n fun x => { x with limited := false }
  let x := s.slot n
  match x.fallback with
  | 0 => (s.slotWrite n x.uPrev).numCheck n c was
  | 1 => s.slotSchedule n c h was
  | _ =>
    let s := ((s.mapSlot n fun x => { x with fbSet := true }).setCauses .feedback (ownedBySlot n)).numCheck n c was
    match x.output with
    | some i => s.setCause i .feedback
    | none => s

/-- The inner slot of a cascade was not CLOSED, or was limited, at its own last sample (R282); one that has taken none holds.
(log 169: DESIGN CHOICE) -/
def State.innerHeld (s : State) (x : LoopSlot) : Bool :=
  match x.destKind, idx? 48 x.destId with
  | 2, some m => (s.slot m).heldOuter
  | _, _ => false

/-- R305: a TRACK sample with GOODRUN at GOOD_K writes the start value and sends a release. -/
def State.slotRelease (s : State) (n : Fin 48) : State :=
  match (s.slot n).output with
  | some i =>
    let s := s.gateWrite (.slot n) i (s.outp i).applied
    if s.gateAccepts i (.slot n) then s.releaseOut i false else s
  | none => s

/-- One sample of an enabled slot (R273 to R305). `div` is the divider in force. (log 67: DEDUCED) -/
def State.sample (s : State) (n : Fin 48) (div : Nat) : State :=
  let x0 := s.slot n
  let was := decide (x0.cause &&& causeNumBad ≠ 0)
  let restart := x0.restart
  let hold := s.innerHeld x0
  -- R287, R289: a pending commit comes first
  let x1 := if x0.pend && !x0.direct then x0.commit else x0
  let committed := x0.pend && !x0.direct && coefOk x0.stg && decide (x0.bank = x0.region)
  let s := s.mapSlot n fun _ =>
    { x1 with
      due := div, cause := x1.cause &&& ~~~causeNumBad, restart := false, realign := false, destBad := false
      usedSeq := x1.wseq, mixed := x1.mixed || decide (0 < x1.left)
      mixCnt := if 0 < x1.left then satInc 0xFF x1.mixCnt else x1.mixCnt }
  -- R273: the inputs
  let ry := s.slotRead n x0.fbAddr
  let rh := ry.2.slotRead n (x0.fbAddr + 4)
  let s := rh.2
  let rz := if x0.direct ∨ x0.regAddr = 0 then (some x0.reg, s) else s.slotRead n x0.regAddr
  let s := rz.2
  -- R285: the region
  let s := if x0.direct then s else s.mapSlot n fun x => x.selectRegion rz.1
  let realign := x0.realign || (!x0.direct && decide ((s.slot n).region ≠ x0.region)) || committed
  let c := (s.slot n).coef
  let h := samplePeriod div
  -- R305: a CLOSED slot whose output has left Live tracks
  let s := if (s.slot n).st = .closed ∧ s.destLive n = false then s.setSlotState n .track else s
  let cl := (s.slot n).classify ry.1 rh.1 (x0.destBad || rz.1.isNone) div
  let fault := cl.1
  let s := s.mapSlot n fun _ => { cl.2 with cause := cl.2.cause ||| fault }
  let y := ry.1.getD 0
  let good := decide ((s.slot n).goodK ≤ (s.slot n).goodrun)
  match (s.slot n).st with
  | .off => s
  | .closed =>
    if fault ≠ 0 then
      let s := s.mapSlot n fun x => { x with faults := satInc 0xFFFF x.faults, frzWait := x.frzWait || decide (fault &&& causeFreeze ≠ 0) }
      (s.setSlotState n .fallback).slotFallback n c h was
    else s.slotLaw n c h y restart realign hold was
  | .fallback =>
    if good then
      let s := (s.mapSlot n fun x => { x with cause := 0 }).clearFeedback n
      if s.destLive n then (s.enterClosed n y).slotLaw n c h y true true hold was
      else ((s.setSlotState n .track).mapSlot n fun x => { x with limited := false }).numCheck n c was
    else s.slotFallback n c h was
  | .track =>
    if good then
      let s := s.slotRelease n
      if s.destLive n then (s.enterClosed n y).slotLaw n c h y true true hold was
      else (s.mapSlot n fun x => { x with limited := false }).numCheck n c was
    else (s.mapSlot n fun x => { x with limited := false }).numCheck n c was

/-! ### The tick (R268 to R271) -/

/-- The divider in force (R269, R307). -/
def State.divider (s : State) (n : Fin 48) : Nat := if s.power.mode = .nightHold then (s.slot n).ndiv else (s.slot n).div

/-- What a sample leaves for an outer slot (R282). -/
def LoopSlot.sampled (x : LoopSlot) : LoopSlot := { x with heldOuter := decide (x.st ≠ .closed) || x.limited }

/-- One slot at a tick. (log 66: DEDUCED; log 68: DEDUCED) -/
def State.slotTick (s : State) (n : Fin 48) : State :=
  let x := s.slot n
  if x.st = .off then s
  else if x.due ≤ 1 then (s.sample n (s.divider n)).mapSlot n LoopSlot.sampled
  else s.mapSlot n fun x => { x with due := x.due - 1 }

/-- A sample falls due at this tick. -/
def State.anyDue (s : State) : Bool := s.loops.slots.toList.any fun x => decide (x.st ≠ .off ∧ x.due ≤ 1)

/-- LOOP_TICK: the due slots in ascending order; `late` when the tick before had not ended (R271); `refused` as of R134, of the reads
of a due sample. -/
def State.loopTick (s : State) (refused : Nat) (late : Bool) : State :=
  if s.awake && s.loops.running then
    let s := if s.anyDue then s.granted refused else s
    let s := if late then s.mapLoops fun l => { l with late := satInc 0xFFFF l.late } else s
    (List.finRange 48).foldl State.slotTick s
  else s

/-- R308: after a wake from Standby. -/
def State.loopsWake (s : State) : State :=
  s.mapLoops fun l => { l with slots := l.slots.map fun x =>
    if x.st = .off then x else { x with due := 1, restart := true, stale := 0, frz := 0 } }

/-! ### The LOOP window at 0x4002_0000 -/

def LoopSt.code : LoopSt → Nat
  | .off => 0
  | .track => 1
  | .closed => 2
  | .fallback => 3

def LoopSlot.statWord (x : LoopSlot) : Word :=
  pack [at_ 24 x.goodrun, flag 21 x.grpOvr, flag 20 x.commitErr, flag 19 x.pend, flag 18 x.cfgErr, flag 17 x.mixed,
    flag 16 x.limited, at_ 8 x.cause.toNat, at_ 4 (if x.direct then 0 else x.region), at_ 0 x.st.code]

def LoopSlot.ctrlWord (x : LoopSlot) : Word :=
  pack [at_ 16 x.destId, at_ 8 x.destKind, at_ 4 x.regions, at_ 2 x.fallback, flag 1 x.direct, flag 0 x.en]

/-- A read of a slot's registers. -/
def LoopSlot.read (x : LoopSlot) (off : Nat) : Word :=
  if 0x60 ≤ off ∧ off ≤ 0x80 then (match idx? 9 ((off - 0x60) / 4) with
    | some k => if x.direct then vget x.banks[0] k else vget x.stg k
    | none => 0)
  else if 0xA0 ≤ off ∧ off ≤ 0xC0 then (match idx? 9 ((off - 0xA0) / 4), idx? 4 x.view with
    | some k, some b => vget (vget x.banks b) k
    | _, _ => 0)
  else match off with
    | 0x00 => x.ctrlWord
    | 0x04 => pack [at_ 16 x.ndiv, at_ 0 x.div]
    | 0x08 => BitVec.ofNat 32 x.fbAddr
    | 0x0C => x.sp
    | 0x10 => BitVec.ofNat 32 x.regAddr
    | 0x14 => x.reg
    | 0x18 => x.t[0]
    | 0x1C => x.t[1]
    | 0x20 => x.t[2]
    | 0x24 => x.hys
    | 0x28 => BitVec.ofNat 32 x.destAddr
    | 0x2C => BitVec.ofNat 32 x.schedAddr
    | 0x30 => pack [at_ 16 x.frzTime, at_ 8 x.goodK, at_ 0 x.staleN]
    | 0x34 => x.frzBand
    | 0x38 => x.frzDu
    | 0x3C => pack [at_ 16 x.fbCount, at_ 0 x.fbFirst]
    | 0x40 => x.statWord
    | 0x44 => x.out
    | 0x48 => x.integ
    | 0x4C => pack [at_ 16 x.usedSeq, at_ 0 x.wseq]
    | 0x50 => at_ 8 x.left
    | 0x54 => pack [at_ 8 x.view, at_ 0 x.bank]
    | 0x58 => pack [at_ 24 x.badCnt, at_ 16 x.mixCnt, at_ 0 x.faults]
    | _ => 0

def State.loopRead (s : State) (off : Nat) : Word :=
  if off < 0x3000 then (match idx? 48 (off / 0x100) with
    | some n => (s.slot n).read (off % 0x100)
    | none => 0)
  else match off with
    | 0x3000 => BitVec.ofNat 32 s.loops.evt.toNat
    | 0x3004 => BitVec.ofNat 32 (s.loops.evt.toNat / 2 ^ 32)
    | 0x3008 => BitVec.ofNat 32 s.loops.evtEn.toNat
    | 0x300C => BitVec.ofNat 32 (s.loops.evtEn.toNat / 2 ^ 32)
    | 0x3010 => at_ 0 s.loops.late
    | _ => 0

/-- A write of a slot's registers. -/
def State.slotRegWrite (s : State) (n : Fin 48) (off : Nat) (w : Word) : State :=
  if 0x60 ≤ off ∧ off ≤ 0x80 then (match idx? 9 ((off - 0x60) / 4) with
    | some k => s.mapSlot n fun x => x.stage k w
    | none => s)
  else match off with
    | 0x00 => s.slotCtrl n fun x => { x with
        destId := bits w 21 16, destKind := bits w 9 8, regions := bits w 5 4, fallback := bits w 3 2, direct := bit w 1, en := bit w 0 }
    | 0x04 => s.slotSet n (fun x => decide (1 ≤ x.div ∧ x.div ≤ 400 ∧ 1 ≤ x.ndiv ∧ x.ndiv ≤ 400)) fun x =>
        { x with div := bits w 8 0, ndiv := bits w 24 16 }
    | 0x08 => s.slotSet n (fun x => sramAligned x.fbAddr 8) fun x => { x with fbAddr := w.toNat }
    | 0x0C => s.setpoint n w
    | 0x10 => s.slotSet n (fun x => decide (x.regAddr = 0) || sramAligned x.regAddr 4) fun x => { x with regAddr := w.toNat }
    | 0x14 => s.mapSlot n fun x => { x with reg := w }
    | 0x18 => s.slotSet n (fun x => strictly x.bounds) fun x => { x with t := vset x.t 0 w }
    | 0x1C => s.slotSet n (fun x => strictly x.bounds) fun x => { x with t := vset x.t 1 w }
    | 0x20 => s.slotSet n (fun x => strictly x.bounds) fun x => { x with t := vset x.t 2 w }
    | 0x24 => s.mapSlot n fun x => { x with hys := w }
    | 0x28 => s.slotSet n (fun x => sramAligned x.destAddr 4) fun x => { x with destAddr := w.toNat }
    | 0x2C => s.slotSet n (fun x => sramAligned x.schedAddr 4) fun x => { x with schedAddr := w.toNat }
    | 0x30 => s.slotSet n (fun x => decide (0 < x.goodK ∧ 0 < x.staleN)) fun x =>
        { x with frzTime := bits w 31 16, goodK := bits w 15 8, staleN := bits w 7 0 }
    | 0x34 => s.mapSlot n fun x => { x with frzBand := w }
    | 0x38 => s.mapSlot n fun x => { x with frzDu := w }
    | 0x40 => s.mapSlot n fun x => { x with
        grpOvr := x.grpOvr && !bit w 21, commitErr := x.commitErr && !bit w 20, cfgErr := x.cfgErr && !bit w 18
        mixed := x.mixed && !bit w 17 }
    | 0x44 => s.loopOut n w
    | 0x50 => s.mapSlot n fun x => x.group (bits w 3 0)
    | 0x54 => s.mapSlot n fun x => x.commitWrite (bits w 9 8) (bits w 1 0) (bit w 4)
    | _ => s

def State.loopWrite (s : State) (off : Nat) (w : Word) : State :=
  let lo : BitVec 48 := BitVec.ofNat 48 w.toNat
  let hi : BitVec 48 := BitVec.ofNat 48 (bits w 15 0 * 2 ^ 32)
  if off < 0x3000 then (match idx? 48 (off / 0x100) with
    | some n => s.slotRegWrite n (off % 0x100) w
    | none => s)
  else match off with
    | 0x3000 => s.mapLoops fun l => { l with evt := l.evt &&& ~~~lo }
    | 0x3004 => s.mapLoops fun l => { l with evt := l.evt &&& ~~~hi }
    | 0x3008 => s.mapLoops fun l => { l with evtEn := (l.evtEn &&& 0xFFFF00000000#48) ||| lo }
    | 0x300C => s.mapLoops fun l => { l with evtEn := (l.evtEn &&& 0xFFFFFFFF#48) ||| hi }
    | _ => s

/-! ### Commands -/

/-- LOOP_TICK. -/
def execLoopTick (refused : Nat) (late : Bool) (s : State) : Result := .next (s.loopTick refused late)

/-- COMMIT_GO: GO with a target bank, VIEW as it stands. -/
def execCommitGo (n : Fin 4) (user : Bool) (slot : Fin 48) (bank : Fin 4) (s : State) : Result :=
  .next (s.access (.lodger n user) .store (slotBase slot + 0x54) fun s =>
    (s.answer 0).mapSlot slot fun x => x.commitWrite x.view bank.val true)

/-- DIRECT_COEF_WRITE: LOOPn_STGk. -/
def execDirectCoefWrite (n : Fin 4) (user : Bool) (slot : Fin 48) (k : Fin 9) (w : Word) (s : State) : Result :=
  .next (s.access (.lodger n user) .store (slotBase slot + 0x60 + 4 * k.val) fun s =>
    (s.answer 0).mapSlot slot fun x => x.stage k w)

/-- DIRECT_GROUP_WRITE: LOOPn_DGRP. -/
def execDirectGroupWrite (n : Fin 4) (user : Bool) (slot : Fin 48) (count : Fin 16) (s : State) : Result :=
  .next (s.access (.lodger n user) .store (slotBase slot + 0x50) fun s =>
    (s.answer 0).mapSlot slot fun x => x.group count.val)

/-- SLOT_ENABLE: LOOPn_CTRL with EN set and its other fields as they stand. -/
def execSlotEnable (n : Fin 4) (user : Bool) (slot : Fin 48) (s : State) : Result :=
  .next (s.access (.lodger n user) .store (slotBase slot) fun s => (s.answer 0).slotCtrl slot fun x => { x with en := true })

/-- SLOT_DISABLE: LOOPn_CTRL with EN clear and its other fields as they stand. -/
def execSlotDisable (n : Fin 4) (user : Bool) (slot : Fin 48) (s : State) : Result :=
  .next (s.access (.lodger n user) .store (slotBase slot) fun s => (s.answer 0).slotCtrl slot fun x => { x with en := false })

/-- SETPOINT_WRITE: LOOPn_SP. -/
def execSetpointWrite (n : Fin 4) (user : Bool) (slot : Fin 48) (w : Word) (s : State) : Result :=
  .next (s.access (.lodger n user) .store (slotBase slot + 0x0C) fun s => (s.answer 0).setpoint slot w)

/-- LOOP_OUT_WRITE: LOOPn_OUT. -/
def execLoopOutWrite (n : Fin 4) (user : Bool) (slot : Fin 48) (w : Word) (s : State) : Result :=
  .next (s.access (.lodger n user) .store (slotBase slot + 0x44) fun s => (s.answer 0).loopOut slot w)

end Sys2Proof.Machine
end

