-- ==== Sys2Proof/Machine/Wear.lean ====
section
/-! DEFINITION. The wear block: samples, the nightly update, predictions, the hold-up test and the counters of the wear history
(R397 to R413). -/

namespace Sys2Proof.Machine

/-! ### Samples and histories (R397, R407, R411) -/

/-- The WEAR entry of indicator `m`. -/
def State.wearEntry (s : State) (m : Nat) : Option WearEntry := (s.image.getD {}).wear[m]?

def State.mapInd (s : State) (m : Fin 32) (f : Indicator → Indicator) : State :=
  s.mapWear fun w => { w with inds := vmod w.inds m f }

/-- Every indicator whose entry passes a test is changed. -/
def State.mapInds (s : State) (p : WearEntry → Bool) (f : Indicator → Indicator) : State :=
  s.mapWear fun w =>
    { w with
      inds := Vector.ofFn fun m : Fin 32 =>
        let i := vget w.inds m
        match s.wearEntry m.val with
        | some e => if p e then f i else i
        | none => i }

/-- A sample for the indicators of a kind and source (R407). -/
def State.wearSample (s : State) (kind source value : Nat) (p : WearEntry → Bool) : State :=
  s.mapInds (fun e => decide (e.kind = kind ∧ e.source = source) && p e) fun i =>
    { i with sum := i.sum + value, samples := i.samples + 1 }

/-- Day number (R408). -/
def State.dayNumber (s : State) : Nat := s.power.rtc / 86400

/-- A history that starts on a day. -/
def Indicator.cleared (day : Nat) (header : Nat × Nat × Nat) : Indicator := { start := some day, header := some header }

/-- KIND, SOURCE and FLAGS of an entry. -/
def WearEntry.head (e : WearEntry) : Nat × Nat × Nat := (e.kind, e.source, e.flags)

/-- The versions of a header down to the one in the cells. -/
def headersTo (cell : Option Line) : List (Line × Indicator) → List (Line × Indicator)
  | [] => []
  | x :: xs => if some x.1 = cell then [x] else x :: headersTo cell xs

/-- The header line of an indicator (Table 12-2), whose layout the manual does not give (entry 9). What it holds is noted with it.
(log 150: DEDUCED) -/
def State.writeHeader (s : State) (m : Fin 32) : State :=
  let d := s.draws
  let line := (List.range 32).map fun i => Config.openByte (1440 + m.val) d i
  let old := s.ledger.cell (1440 + m.val)
  let s := s.mapWear fun w => { w with headers := vmod w.headers m fun l => (line, vget w.inds m) :: headersTo old l }
  (s.mapDraws (· + 1)).inkLine (1440 + m.val) line

/-- The indicator as the header line in the cells holds it; none where the line is poison. (log 150: DEDUCED) -/
def State.headerOf (s : State) (m : Fin 32) : Option Indicator :=
  match s.ledger.cell (1440 + m.val) with
  | some d => ((vget s.wear.headers m).find? fun x => decide (x.1 = d)).map (·.2)
  | none => none

/-- R411: the history of an indicator is cleared, its header and the points of its ring. A cleared point is zeros. (log 75: DEDUCED) -/
def State.clearHistory (s : State) (m : Fin 32) (e : WearEntry) : State :=
  let s := (s.mapInd m fun _ => Indicator.cleared s.dayNumber e.head).writeHeader m
  (List.range 13).foldl (fun s k =>
    let line := 1472 + 13 * m.val + k
    match s.ledger.latest line with
    | some d => if d.all fun b => decide (b = 0) then s else s.inkLine line []
    | none => s) s

/-- R411: a baseline capture clears the FAN_DMI histories of its channel. -/
def State.clearDmiHistory (s : State) (c : Nat) : State :=
  (List.finRange 32).foldl (fun s m => match s.wearEntry m.val with
    | some e => if e.kind = 1 ∧ e.source = c then s.clearHistory m e else s
    | none => s) s

/-- R411, at boot: an indicator is taken up from its header in the cells, or cleared where that holds another KIND, SOURCE or FLAGS or
is poison. The samples since the last nightly update count on (R407). (log 75: DEDUCED; log 150: DEDUCED; log 167: DEDUCED) -/
def State.checkHistories (s : State) : State :=
  (List.finRange 32).foldl (fun s m => match s.wearEntry m.val, s.headerOf m with
    | some e, some i =>
      if i.header = some e.head then s.mapInd m fun j => { i with sum := j.sum, samples := j.samples } else s.clearHistory m e
    | some e, none => s.clearHistory m e
    | none, _ => s) s

/-! ### Day values, points and predictions (R406 to R410) -/

/-- The largest Ledger block counter, and the lowest block that has it. -/
def Ledger.topBlock (l : Ledger) : Nat × Nat :=
  (List.finRange 128).foldl (fun a b => if a.2 < vget l.blocks b then (b.val, vget l.blocks b) else a) (0, 0)

/-- The day value of an indicator (Table 12-1), a binary32 word. -/
def State.dayValue (s : State) (e : WearEntry) (i : Indicator) : Option Word :=
  let mean := if i.samples = 0 then none else some (F32.ofRatio false i.sum i.samples).toBits
  match e.kind with
  | 2 => (idx? 6 e.source).map fun c => (F32.ofRatio false (vget s.fans c).runs 3600).toBits
  | 3 => (idx? 6 e.source).map fun c => (F32.ofNat (vget s.fans c).starts).toBits
  | 4 => (idx? 12 e.source).map fun c => (F32.ofNat (vget s.out.dos c).cyc).toBits
  | 6 => some (F32.ofRatio false s.ledger.topBlock.2 1000).toBits
  | 7 => some (F32.ofNat s.wear.shift).toBits
  | 10 => some (F32.ofRatio false s.wear.blSeconds 3600).toBits
  | _ => mean

/-- The units of 2 ^ -149 of a word. -/
def unitsOf (w : Word) : Int :=
  match F32.ofBits w with
  | .fin s m => F32.units s m
  | _ => 0

/-- Mean of binary32 words, rounded once. (log 75: DEDUCED) -/
def meanOf (l : List Word) : Word :=
  let z := (l.map unitsOf).foldl (· + ·) 0
  (F32.round (decide (z < 0)) z.natAbs l.length).toBits

/-- R408: whether a point is due. -/
def Indicator.pointDue (i : Indicator) (day : Nat) : Bool :=
  match i.points.getLast?, i.start with
  | some p, _ => decide (p.day + 7 ≤ day)
  | none, some d => decide (d + 7 ≤ day)
  | none, none => false

/-- The LIMIT in force (R398). -/
def WearEntry.limitInForce (e : WearEntry) : Nat :=
  if e.limit ≠ 0 then e.limit else match e.kind with
    | 1 => 1150
    | 6 => 10000000
    | 7 => 400
    | 8 => 700
    | 9 => 500
    | 10 => 50000
    | _ => 0

/-- `min(x, 65534)` of a rounded quotient. -/
def capDays : Option Int → Nat
  | some z => min z.toNat 65534
  | none => 65534

/-- The slopes of R409 from every pair of points, `g` = −1 for a falling indicator. -/
def slopesOf (falling : Bool) : List WearPoint → List F32
  | [] => []
  | p :: ps => (ps.map fun q =>
      let d := F32.sub (F32.ofBits q.value) (F32.ofBits p.value)
      F32.div (if falling then F32.neg d else d) (F32.ofNat (q.day - p.day))) ++ slopesOf falling ps

/-- The prediction of an indicator (R409). -/
def Indicator.predict (i : Indicator) (e : WearEntry) : Indicator :=
  let falling := decide (e.kind = 8)
  let win := if e.window = 0 then 26 else e.window
  let pts := i.points.drop (i.points.length - win)
  match pts.getLast? with
  | none => { i with status := .none }
  | some last =>
    if pts.length < 4 then { i with status := .none }
    else
      let m := F32.sub (F32.ofNat e.limitInForce) (F32.ofBits last.value)
      let margin := if falling then F32.neg m else m
      if F32.le margin F32.zero then { i with status := .reached, daysLeft := 0, lo := 0, hi := 0 }
      else
        let sl := F32.sort (slopesOf falling pts)
        let n := sl.length
        let at1 (k : Nat) : F32 := sl.getD (k - 1) F32.zero
        let med := if n % 2 = 1 then at1 ((n + 1) / 2)
          else F32.div (F32.add (at1 (n / 2)) (at1 (n / 2 + 1))) (F32.ofNat 2)
        let sLo := at1 ((n + 9) / 10)
        let sHi := at1 ((9 * n + 9) / 10)
        if F32.le med F32.zero then { i with status := .notApproaching, daysLeft := 65535, lo := 65535, hi := 65535 }
        else { i with
          status := .predicting
          daysLeft := capDays (F32.div margin med).toInt?
          lo := capDays (F32.div margin sHi).floor?
          hi := if F32.lt F32.zero sLo then capDays (F32.div margin sLo).ceil? else 65535 }

/-- R410: the flags of a prediction, each raised and logged once. (log 76: DEDUCED) -/
def State.wearFlags (s : State) (m : Fin 32) : State :=
  let i := vget s.wear.inds m
  let s := if i.status ≠ .none ∧ i.lo ≤ s.wear.warnDays ∧ !i.warn then
      ((s.mapInd m fun i => { i with warn := true }).mapWear fun w => { w with int := w.int ||| 2 }).logEvent 0x0601
        (leBytes 1 m.val ++ leBytes 2 i.lo)
    else s
  if i.status = .reached ∧ !i.reached then
    ((s.mapInd m fun i => { i with reached := true }).mapWear fun w => { w with int := w.int ||| 4 }).logEvent 0x0602
      (leBytes 1 m.val ++ leBytes 4 (match i.points.getLast? with
        | some p => p.value.toNat
        | none => 0))
  else s

/-- The 8 bytes of a point (Table 12-2). -/
def WearPoint.bytes (p : WearPoint) : List Byte := leBytes 2 p.day ++ leBytes 1 p.count ++ [0] ++ leBytes 4 p.value.toNat

/-- The ring line that holds position `k`, with the points that now stand in it. -/
def Indicator.ringLine (i : Indicator) (k : Nat) : Line :=
  (List.range 4).flatMap fun j =>
    let p := k / 4 * 4 + j
    let back := (i.pos + 51 - p) % 52
    match i.points.reverse[back]? with
    | some q => q.bytes
    | none => List.replicate 8 0

/-- A new point of an indicator, written to its ring (R408). -/
def State.addPoint (s : State) (m : Fin 32) (p : WearPoint) : State :=
  let k := (vget s.wear.inds m).pos
  let s := s.mapInd m fun i =>
    let l := i.points ++ [p]
    { i with points := l.drop (l.length - 52), pos := (i.pos + 1) % 52, days := [] }
  s.inkLine (1472 + 13 * m.val + k / 4) ((vget s.wear.inds m).ringLine k)

/-- Step 3 of the nightly update for one indicator: its day value. (log 75: DEDUCED) -/
def State.nightDay (s : State) (m : Fin 32) (e : WearEntry) : State :=
  s.mapInd m fun i => { i with
    sum := 0, samples := 0, start := some (i.start.getD s.dayNumber)
    days := i.days ++ (match s.dayValue e i with
      | some v => [v]
      | none => []) }

/-- Step 4: its new point, where one is due. (log 75: DEDUCED) -/
def State.nightPoint (s : State) (m : Fin 32) : State :=
  let i := vget s.wear.inds m
  if i.pointDue s.dayNumber && !i.days.isEmpty then
    s.addPoint m { day := s.dayNumber, count := satTo 8 i.days.length, value := meanOf i.days }
  else s

/-- Step 5: its prediction with the flags, and the header. (log 75: DEDUCED; log 76: DEDUCED) -/
def State.nightPredict (s : State) (m : Fin 32) (e : WearEntry) : State :=
  ((s.mapInd m fun i => i.predict e).wearFlags m).writeHeader m

/-- A step of the nightly update for every indicator that has an entry. -/
def State.eachIndicator (s : State) (f : State → Fin 32 → WearEntry → State) : State :=
  (List.finRange 32).foldl (fun s m => match s.wearEntry m.val with
    | some e => f s m e
    | none => s) s

/-- The nightly update after its hold-up test, step by step over all indicators: the die measurement, day values, points and
predictions (R406). -/
def State.nightRest (s : State) : State :=
  let s := s.mapWear fun w => { w with shift := w.shiftNext }
  let s := (s.eachIndicator State.nightDay).eachIndicator fun s m _ => s.nightPoint m
  (s.eachIndicator State.nightPredict).mapWear fun w => { w with int := w.int ||| 1 }

/-- WEAR_DIE.SHIFT (R401). -/
def dieShift (fRef fRun : Nat) : Nat := satTo 16 (nearest (10000 * (fRef - fRun)) fRef)

/-- NIGHTLY_UPDATE (R406, R412, R413), with the counts that the die's rings have after the test. (log 75: DEDUCED) -/
def State.nightlyUpdate (s : State) (fRef fRun : Nat) : State :=
  if s.live && s.power.rtcSet && decide (s.power.rtc % 86400 = s.wear.nightTime) && !s.wear.testing then
    let s := s.mapWear fun w => { w with shiftNext := dieShift fRef fRun }
    if !s.wear.holdEn then s.nightRest
    else if s.power.chg = 2 then
      (s.mapWear fun w => { w with testing := true }).mapPower fun p => { p with chg := 0 }
    else (s.mapWear fun w => { w with holdResult := 4 }).nightRest
  else s

/-- The hold-up test ends with a result; the charger runs again from the next measurement of HOLD. (log 77: DEDUCED) -/
def State.holdEnds (s : State) (result : Nat) : State :=
  s.mapWear fun w => { w with testing := false, holdResult := result, holdDay := s.dayNumber % 65536 }

/-- ESR in mΩ from V1 and V2 in 0.1 mV (R412). -/
def holdEsr (v1 v2 : Nat) : Nat := if v2 ≤ v1 then satTo 16 (openQuot (v1 - v2) 2) else Config.openHold (v1 - v2) 2 % 65536

/-- C in 0.1 mF from the four samples in 0.1 mV (R412). -/
def holdCap (v1 v2 v3 v4 : Nat) : Nat :=
  let d : Int := 10 * ((v3 : Int) - v4) - ((v1 : Int) - v2)
  if 0 < d then satTo 16 (openQuot 20000000 d.toNat) else Config.openHold 20000000 d % 65536

/-- HOLD_TEST_ABORT (R413). -/
def State.holdTestAbort (s : State) : State := if s.wear.testing then (s.holdEnds 3).nightRest else s

/-- HOLD_UP_TEST_END. A sample below 2.10 V has ended the test before (R413). -/
def State.holdTestEnd (s : State) (v1 v2 v3 v4 : Nat) : State :=
  if [v1, v2, v3, v4].any fun v => decide (v < 21000) then s.holdTestAbort
  else if s.wear.testing then
    let e := holdEsr v1 v2
    let c := holdCap v1 v2 v3 v4
    let s := (s.holdEnds 1).mapWear fun w => { w with esr := e, cap := c, int := w.int ||| 8 }
    ((s.wearSample 8 0 c fun _ => true).wearSample 9 0 e fun _ => true).nightRest
  else s

/-- A power-fail trip ends a hold-up test with RESULT 2 (Table 12-10). -/
def State.holdTestFails (s : State) : State := if s.wear.testing then s.holdEnds 2 else s

/-! ### Counters of the wear history (R403 to R405) -/

/-- What retention SRAM holds of the wear block is lost: the copies of the counters, and the samples since the last nightly update. -/
def Wear.forget (w : Wear) : Wear :=
  { w with copies := {}, blockCopies := {}, inds := w.inds.map fun i => { i with sum := 0, samples := 0 } }

/-- The 40 words of the counter lines. -/
def State.counterWords (s : State) : List Nat :=
  (s.fans.toList.map (·.runs)) ++ (s.fans.toList.map (·.starts)) ++ (s.out.dos.toList.map (·.cyc)) ++ [s.wear.blSeconds] ++
    List.replicate 15 0

/-- COUNTER_REFRESH (R404). -/
def State.counterRefresh (s : State) : State :=
  s.mapWear fun w => { w with copies := s.counterWords, blockCopies := s.ledger.blocks.toList }

/-- The counter lines and their content, in ascending address order: the copies in retention SRAM. (log 164: DESIGN CHOICE) -/
def State.counterLines (s : State) : List (Nat × Line) :=
  ((List.range 5).map fun k => (1408 + k, (List.range 8).flatMap fun j => leBytes 4 (s.wear.copies.getD (8 * k + j) 0))) ++
    (List.range 32).map fun k => (1920 + k, (List.range 4).flatMap fun j => leBytes 8 (s.wear.blockCopies.getD (4 * k + j) 0))

/-- Those whose content differs from what was last written. A line never written counts as zero. -/
def State.changedLines (s : State) : List (Nat × Line) :=
  s.counterLines.filter fun l => decide ((s.ledger.latest l.1).getD (List.replicate 32 0) ≠ l.2)

/-- The changed counter lines are written as journaled LEDGER_LINE records. -/
def State.writeCounters (s : State) : State := s.changedLines.foldl (fun s l => s.inkLine l.1 l.2) s

/-- The number of `n` bytes at a Ledger address, 0 where the line is poison. (log 77: DEDUCED) -/
def State.ledgerNum (s : State) (addr n : Nat) : Nat :=
  match s.ledger.cell (addr / 32) with
  | some d => fieldAt d (addr % 32) n
  | none => 0

/-- R405: each counter is the larger of its Ledger copy and, where retention SRAM was accepted, its retained copy. The
arguments are offsets from 0x3000_0000 and the copy's place. -/
def State.restored (s : State) (addr n : Nat) (copy : Nat) : Nat :=
  max (s.ledgerNum addr n) (if s.mem.retValid then copy else 0)

/-- Step 12 of boot for the counters. Writes that boot itself has made to a block count on top (R145). -/
def State.restoreCounters (s : State) : State :=
  let c (k : Nat) : Nat := s.restored (0xB000 + 4 * k) 4 (s.wear.copies.getD k 0)
  let s := s.mapFans fun fs => Vector.ofFn fun n : Fin 6 => { vget fs n with runs := c n.val, starts := c (6 + n.val) }
  let s := s.mapOut fun b => { b with dos := Vector.ofFn fun n : Fin 12 => { vget b.dos n with cyc := c (12 + n.val) } }
  let s := s.mapWear fun w => { w with blSeconds := c 24 }
  let s := s.mapLedger fun l =>
    { l with
      blocks := Vector.ofFn fun b : Fin 128 =>
        min (2 ^ 64 - 1) (s.restored (0xF000 + 8 * b.val) 8 (s.wear.blockCopies.getD b.val 0) + vget l.blocks b) }
  s.counterRefresh

/-! ### The WEAR window at 0x400A_0000 -/

def PredStatus.code : PredStatus → Nat
  | .none => 0
  | .predicting => 1
  | .notApproaching => 2
  | .reached => 3

/-- A read of an indicator's registers. -/
def State.indRead (s : State) (m : Fin 32) (off : Nat) : Word :=
  let i := vget s.wear.inds m
  match off with
  | 0x00 => match s.wearEntry m.val with
    | some e => pack [at_ 24 e.window, at_ 16 e.flags, at_ 8 e.source, at_ 0 e.kind]
    | none => 0
  | 0x04 => match s.wearEntry m.val with
    | some e => BitVec.ofNat 32 e.limitInForce
    | none => 0
  | 0x08 => match i.points.getLast? with
    | some p => p.value
    | none => 0
  | 0x0C => pack [at_ 30 (if i.reached then 3 else i.status.code), flag 29 i.warn, at_ 16 i.points.length, at_ 0 i.daysLeft]
  | 0x10 => pack [at_ 16 i.hi, at_ 0 i.lo]
  | _ => 0

def State.wearRead (s : State) (off : Nat) : Word :=
  let w := s.wear
  if 0x100 ≤ off ∧ off < 0x500 then (match idx? 32 ((off - 0x100) / 0x20) with
    | some m => s.indRead m (off % 0x20)
    | none => 0)
  else match off with
    | 0x00 => pack [at_ 24 w.warnDays, flag 17 w.holdEn, at_ 0 w.nightTime]
    | 0x08 => pack [at_ 16 w.holdDay, at_ 0 w.holdResult]
    | 0x0C => pack [at_ 16 w.esr, at_ 0 w.cap]
    | 0x10 => at_ 0 w.shift
    | 0x14 => pack [at_ 25 s.ledger.topBlock.1, at_ 0 (satTo 25 (openQuot s.ledger.topBlock.2 1000))]
    | 0x18 => BitVec.ofNat 32 w.blSeconds
    | 0x1C => at_ 0 w.int.toNat
    | 0x20 => at_ 0 w.intEn.toNat
    | _ => 0

def State.wearWrite (s : State) (off : Nat) (w : Word) : State :=
  match off with
  | 0x00 => s.mapWear fun x => { x with
      warnDays := bits w 31 24, holdEn := bit w 17, nightTime := if bits w 16 0 ≤ 86399 then bits w 16 0 else x.nightTime }
  | 0x1C => s.mapWear fun x => { x with int := x.int &&& ~~~(w.setWidth 4) }
  | 0x20 => s.mapWear fun x => { x with intEn := w.setWidth 4 }
  | _ => s

/-! ### Commands -/

/-- The counters are in use: step 12 of boot has restored them (R405). -/
def State.countersKept (s : State) : Bool := s.live || decide (s.power.phase = .ledgerWait)

/-- HOURLY_COUNTER_WRITE. -/
def execHourlyCounterWrite (s : State) : Result := .next (if s.countersKept then s.writeCounters else s)

/-- COUNTER_REFRESH. -/
def execCounterRefresh (s : State) : Result := .next (if s.countersKept then s.counterRefresh else s)

/-- NIGHTLY_UPDATE, with the counts of the reference ring and of the running ring. -/
def execNightlyUpdate (fRef fRun : Nat) (s : State) : Result := .next (s.nightlyUpdate fRef fRun)

/-- HOLD_UP_TEST_END, with the four samples of HOLD in 0.1 mV. -/
def execHoldUpTestEnd (v1 v2 v3 v4 : Nat) (s : State) : Result := .next (s.holdTestEnd v1 v2 v3 v4)

/-- HOLD_TEST_ABORT. -/
def execHoldTestAbort (s : State) : Result := .next s.holdTestAbort

end Sys2Proof.Machine
end

