-- ==== Sys2Proof/Machine/Fan.lean ====
section
/-! DEFINITION. The three-phase fan drives (R310 to R352). -/

namespace Sys2Proof.Machine

def State.fan (s : State) (c : Fin 6) : Fan := vget s.fans c

def State.mapFan (s : State) (c : Fin 6) (f : Fan → Fan) : State := s.mapFans fun fs => vmod fs c f

/-- First address of channel `c`'s registers. -/
def fanBase (c : Fin 6) : Nat := 0x40030000 + c.val * 0x200

/-- The gate output of a channel (R37). -/
def fanOut (c : Fin 6) : Fin 30 := ⟨24 + c.val, by omega⟩

/-- A service session is open. -/
def State.sessionOpen (s : State) : Bool := decide (s.svc.st = .open_)

/-- An event of Table 12-9 about a channel. -/
def State.fanLog (s : State) (event : Nat) (c : Fin 6) (x : Nat) : State :=
  s.logEvent event (leBytes 1 c.val ++ leBytes 1 x)

/-! ### Targets, bands and ramps (R319, R320, R325 to R327) -/

/-- The highest speed of a channel, in whole rpm (R319). (log 69: DEDUCED) -/
def topRpm (poles : Nat) : Nat := if poles = 0 then 24000 else min 24000 (96000 / poles)

/-- The target that a channel takes from the gate: none with EN clear (R320, R351). -/
def State.fanTarget (s : State) (c : Fin 6) : Nat := if (s.fan c).en then (s.outp (fanOut c)).applied else 0

/-- R319, R320: the clamped target of a target above 0. -/
def Fan.clampTarget (f : Fan) (t : Nat) : Nat := min (topRpm f.motor.poles) (max t f.cfg.minRpm)

/-- The bands in use. -/
def Fan.bands (f : Fan) : List (Nat × Nat) := f.cfg.skips.toList.filter fun b => decide (b ≠ (0, 0))

/-- R325: the effective target in rpm of a clamped target, for n_ref in thousandths of an rpm. -/
def effective (bands : List (Nat × Nat)) (t nref : Nat) : Nat :=
  match bands.find? fun b => decide (b.1 ≤ t ∧ t ≤ b.2) with
  | none => t
  | some b =>
    if nref ≤ 1000 * b.1 then b.1
    else if 1000 * b.2 ≤ nref then b.2
    else if nref - 1000 * b.1 ≤ 1000 * b.2 - nref then b.1
    else b.2

/-- `x` moved towards `goal` by at most `d`. -/
def towards (x goal d : Nat) : Nat := if x < goal then min goal (x + d) else max goal (x - d)

/-- R326 over 1 ms: one rpm/s moves n_ref by one thousandth. (log 70: DEDUCED) -/
def Fan.rampRef (f : Fan) (bands : List (Nat × Nat)) (goal : Nat) : Nat :=
  let inside := bands.any fun b => decide (1000 * b.1 < f.nref ∧ f.nref < 1000 * b.2)
  towards f.nref (1000 * goal)
    (if inside then 100 * f.cfg.skipRate else if f.nref < 1000 * goal then f.cfg.rampUp else f.cfg.rampDn)

/-- What n_ref moves towards now, and the bands that count: a capture point (R329), a sweep's stage (R333), else R325. -/
def Fan.course (f : Fan) (target : Nat) : Nat × List (Nat × Nat) :=
  match f.task with
  | .base k _ => (((f.base.toList)[k]?.getD {}).rpm, f.bands)
  | .sweep 1 => (f.mapLo, [])
  | .sweep 2 => (f.mapHi, [])
  | _ => (effective f.bands (f.clampTarget target) f.nref, f.bands)

/-! ### Baselines and the speed loop (R314, R321 to R324) -/

/-- A baseline point put in its place by speed. -/
def insertPoint (p : BasePoint) : List BasePoint → List BasePoint
  | [] => [p]
  | q :: l => if p.rpm < q.rpm then p :: q :: l else q :: insertPoint p l

/-- The captured points in ascending speed order (R323). (log 69: DEDUCED) -/
def Fan.captured (f : Fan) : List BasePoint :=
  (f.base.toList.filter fun p => decide (p.rpm ≠ 0 ∧ (p.cur ≠ 0 ∨ p.duty ≠ 0))).foldr insertPoint []

/-- interp_duty (R323). (log 69: DEDUCED) -/
def Fan.interp (f : Fan) (n : F32) : F32 :=
  let pts := f.captured.map fun p => (F32.ofNat p.rpm, F32.ofRatio false p.duty 1000)
  match pts with
  | [] => F32.zero
  | p :: _ => if F32.lt n p.1 then F32.div (F32.mul p.2 n) p.1 else scheduleAt pts n

/-- DUTY_MAX (R314). -/
def Fan.dutyMax (f : Fan) : F32 := F32.ofRatio false (1000 - f.cfg.pwmKhz) 1000

/-- n_ref as a binary32 value. -/
def Fan.ref32 (f : Fan) : F32 := F32.ofRatio false f.nref 1000

/-- Direct mode is in effect (R324): not during a task, which runs in speed mode. -/
def Fan.runsDirect (f : Fan) : Bool := f.direct && decide (f.task = .none) && !f.captured.isEmpty

/-- ILIM_ACT of this period or the last (R315). -/
def Fan.ilimAct (f : Fan) : Bool := f.ilimNow || f.ilimLast

/-- The speed loop of R321. -/
def Fan.speedLoop (f : Fan) : Fan :=
  let nref := f.ref32
  let e := F32.sub nref (F32.ofNat f.meas)
  let ff := f.interp nref
  let i := f32 f.integ
  let step := F32.mul (F32.mul (f32 f.cfg.ki) (F32.ofRatio false 1 1000)) e
  let dRaw := F32.add (F32.add ff (F32.mul (f32 f.cfg.kp) e)) (F32.add i step)
  let d := F32.clamp dRaw F32.zero f.dutyMax
  let stop := ((F32.lt d dRaw || f.ilimAct) && F32.lt F32.zero step) || (F32.lt dRaw d && F32.lt step F32.zero)
  { f with duty := d.toBits, integ := (F32.add i (if stop then F32.zero else step)).toBits }

/-- A duty within 0.0 to DUTY_MAX (R314). -/
def Fan.limitDuty (f : Fan) (d : F32) : Word := (F32.clamp d F32.zero f.dutyMax).toBits

/-- The duty of one 1 ms step in RUN (R321, R324). -/
def Fan.runDuty (f : Fan) : Fan :=
  if f.runsDirect then { f with duty := f.limitDuty (f.interp f.ref32) } else f.speedLoop

/-- Entry to RUN at a speed in thousandths of an rpm (R314, R322). -/
def Fan.enterRun (f : Fan) (nref : Nat) (dLast : Word) : Fan :=
  let f := { f with st := .run, nref := nref, duty := f.limitDuty (f32 dLast) }
  let e := F32.sub f.ref32 (F32.ofNat f.meas)
  { f with integ := (F32.sub (F32.sub (f32 dLast) (f.interp f.ref32)) (F32.mul (f32 f.cfg.kp) e)).toBits }

/-- ALIGN_DUTY as a fraction. -/
def Fan.alignDuty (f : Fan) : F32 := F32.ofRatio false f.cfg.alignDuty 200

/-- DRIVE.DUTY (R328). -/
def Fan.shownDuty (f : Fan) : Nat :=
  match f32 f.duty with
  | .fin _ m => openQuot (m * 1000) (2 ^ 149)
  | _ => Config.shownDuty f.duty % 1024

/-! ### States and faults (R339 to R350) -/

/-- The channel switches its gates. -/
def Fan.switching (f : Fan) : Bool :=
  match f.st with
  | .brake | .precharge | .align | .openloop | .run => true
  | _ => false

/-- A fault of a kind is raised: any task ends first (Table 09-3). One of a channel that switches its gates lets a phase short of the
same period prevail. (log 73: DEDUCED) -/
def Fan.fault (f : Fan) (kind : BitVec 5) : Fan :=
  { f.abort with kinds := f.kinds ||| kind, faultNow := f.faultNow || f.switching, steady := Vector.replicate 8 (0, 0) }

/-- LATCHED with a cause: 1 STALL, 2 SHORT, 3 OPEN, 4 REVERSED. (log 73: DEDUCED) -/
def Fan.latch (f : Fan) (cause : Nat) : Fan :=
  { f.gatesOff with st := .latched, cause := cause, nref := 0, attempting := false, nextAttempt := false }

/-- WAIT with ATTEMPT incremented (R341, R343). -/
def Fan.toWait (f : Fan) : Fan := { f.gatesOff with st := .wait, attempt := f.attempt + 1, attempting := false, nref := 0 }

/-- Table 09-5a, step 1. -/
def Fan.toCatch (f : Fan) (attempt : Bool) : Fan :=
  { f.gatesOff with
    st := .catch_, attempting := attempt, nextAttempt := false, hallLost := false, vgdWait := false, nref := 0
    starts := satInc 0xFFFFFFFF f.starts }

/-- A fan channel switches (Table 02-3). -/
def State.fanSwitches (s : State) : Bool := s.fans.toList.any Fan.switching

/-- VGD below its threshold while a channel switches is doubt: Blank (R65, Table 02-3). -/
def State.vgdDoubt (s : State) : State :=
  if !s.power.vgdOk && s.fanSwitches && !s.gate.blank then s.gateBlank 2 else s

/-- A start (R349), which VGD_OK may hold. -/
def State.fanBegin (s : State) (c : Fin 6) (attempt : Bool) : State :=
  if s.power.vgdOk then s.mapFan c fun f => f.toCatch attempt else s.mapFan c fun f => { f with vgdWait := true }

/-- FAN_START: a target above 0 while OFF. (log 73: DEDUCED) -/
def State.fanStart (s : State) (c : Fin 6) : State :=
  let f := s.fan c
  if s.awake && !s.gate.blank && decide (f.st = .off ∧ 0 < s.fanTarget c) then s.fanBegin c f.nextAttempt else s

/-- RESTART_WAIT_END (R342). -/
def State.restartWaitEnd (s : State) (c : Fin 6) : State :=
  if s.awake && decide ((s.fan c).st = .wait ∧ 0 < s.fanTarget c) then s.fanBegin c true else s

/-- VGD_OK has returned: channels that wait for it start. -/
def State.fansVgd (s : State) : State :=
  (List.finRange 6).foldl (fun s c =>
    if (s.fan c).vgdWait then
      match (s.fan c).st with
      | .wait => s.restartWaitEnd c
      | _ => s.fanStart c
    else s) s

/-- A sweep runs. -/
def Fan.sweeping (f : Fan) : Bool :=
  match f.task with
  | .sweep _ => true
  | _ => false

/-- FAN_STOP (R320, R350). During a sweep gate writes update the target only (R333), while EN 0 keeps a channel OFF (R351); a capture
ends without results, and so does such a sweep. (log 72: DEDUCED) -/
def State.fanStop (s : State) (c : Fin 6) : State :=
  let f := s.fan c
  if s.fanTarget c = 0 ∧ (f.sweeping = false ∨ f.en = false) ∧ f.st ≠ .off ∧ f.st ≠ .latched then
    s.mapFan c fun f => { f.abort.toOff with vgdWait := false }
  else s

/-- STALL_TIMEOUT (R340, R341). -/
def State.stallTimeout (s : State) (c : Fin 6) : State :=
  let f := s.fan c
  if f.st = .run ∧ f.attempting = false ∧ 0 < s.fanTarget c ∧ f.meas < f.cfg.stallRpm then
    let s := s.mapFan c fun f =>
      let f := f.fault 1
      if f.attempt = 3 then f.latch 1 else f.toWait
    s.fanLog 0x0301 c (s.fan c).attempt
  else s

/-- In RUN with LOCK set and MEAS at or above STALL_RPM. -/
def Fan.good (f : Fan) : Bool := decide (f.st = .run ∧ f.cfg.stallRpm ≤ f.meas) && f.lock

/-- RESTART_SUCCESS (R342). -/
def Fan.succeed (f : Fan) : Fan := if f.attempting && f.good then { f with attempting := false } else f

/-- RESTART_WINDOW_END (R343). -/
def State.windowEnd (s : State) (c : Fin 6) : State :=
  let f := s.fan c
  if f.attempting then
    if f.attempt < 3 then s.mapFan c fun f => f.abort.toWait
    else (s.mapFan c fun f => f.abort.latch 1).fanLog 0x0302 c 1
  else s

/-- ATTEMPT_CLEAR (R344). -/
def Fan.clearAttempt (f : Fan) : Fan := if f.good then { f with attempt := 0 } else f

/-- The service clear of R345. -/
def State.fanClear (s : State) (c : Fin 6) : State :=
  if (s.fan c).st = .latched then
    (s.mapFan c fun f => { f.toOff with kinds := 0, cause := 0, attempt := 0, nextAttempt := false }).fanLog 0x0304 c 0
  else s

/-- PHASE_SHORT (R346). It prevails over any other fault of its period (Table 09-3). -/
def State.phaseShort (s : State) (c : Fin 6) : State :=
  let f := s.fan c
  if f.switching || f.faultNow then (s.mapFan c fun f => (f.fault 2).latch 2).fanLog 0x0302 c 2 else s

/-- LATCHED with cause OPEN (R347). -/
def State.fanOpen (s : State) (c : Fin 6) : State := (s.mapFan c fun f => (f.fault 4).latch 3).fanLog 0x0302 c 3

/-- Reversed phase order (R348). -/
def State.fanReversed (s : State) (c : Fin 6) : State :=
  let f := s.fan c
  let s := if f.revFix then s.mapFan c fun f => { (f.fault 8).toCatch f.attempting with revSwap := true }
    else s.mapFan c fun f => (f.fault 8).latch 4
  s.fanLog 0x0303 c (if f.revFix then 1 else 0)

/-! ### Commutation (R316 to R318) -/

/-- MEAS of six step intervals in ns (R316). -/
def measOf (poles : Nat) (l : List Nat) : Nat := satTo 16 (openQuot 60000000000 (poles * l.foldl (· + ·) 0))

/-- A step of the commutation: LOCK sets after six in a row. -/
def Fan.crossing (f : Fan) (ns : Nat) : Fan :=
  let l := (ns :: f.intervals).take 6
  let n := satInc 6 f.crossings
  { f with
    crossings := n, intervals := l, lock := f.lock || decide (n = 6)
    meas := if n = 6 then measOf f.motor.poles l else f.meas }

/-- LOCK_LOSS (R317): LOCK clears and MEAS reads 0. -/
def Fan.loseLock (f : Fan) : Fan := { f with lock := false, meas := 0, crossings := 0, intervals := [] }

/-- The channel commutates from Hall codes now. (log 70: DEDUCED) -/
def Fan.onHall (f : Fan) : Bool := f.hall && !f.hallLost

/-- OPENLOOP and RUN. -/
def Fan.turning (f : Fan) : Bool := decide (f.st = .openloop ∨ f.st = .run)

/-- The code after a Hall code in the forward order of six-step commutation. (log 134: PRESUMED) -/
def hallNext (x : BitVec 3) : BitVec 3 :=
  match x.toNat with
  | 1 => 3
  | 3 => 2
  | 2 => 6
  | 6 => 4
  | 4 => 5
  | 5 => 1
  | _ => 0

/-- What a new Hall code is after an old one, for DIR reversed or not (R318, R348). -/
def hallStep (reverse : Bool) (old new : BitVec 3) : HallStep :=
  if new = 0 ∨ new = 7 then .invalid
  else if old = 0 ∨ old = 7 ∨ old = new then .position
  else if (if reverse then hallNext new = old else hallNext old = new) then .along
  else if (if reverse then hallNext old = new else hallNext new = old) then .against
  else .outOfSequence

/-- A Hall fault (R318): FAULT.HALL; a channel that commutates from the codes goes on sensorless or loses its lock. (log 70: DEDUCED) -/
def Fan.hallFault (f : Fan) : Fan :=
  let g := { f.fault 16 with against := 0 }
  if f.onHall && f.turning then
    if f.hallFb && decide (f.cfg.handover ≤ f.meas) then { g with hallLost := true } else g.loseLock
  else g

/-- RUN begins on a Hall channel: the code that stands is the one it commutates from (R318). -/
def Fan.hallStands (f : Fan) : Fan :=
  if f.onHall && decide (f.st = .run ∧ (f.hallCode = 0 ∨ f.hallCode = 7)) then f.hallFault else f

/-- HALL_CHANGE (R318, R348): the Hall inputs take a code. -/
def State.hallChange (s : State) (c : Fin 6) (code : BitVec 3) (ns : Nat) : State :=
  let f := s.fan c
  let s := s.mapFan c fun f => { f with hallCode := code }
  match hallStep f.motor.reverse f.hallCode code with
  | .position => s
  | .along => if f.onHall && f.turning then s.mapFan c fun f => { f.crossing ns with against := 0 } else s
  | .against =>
    if f.onHall && f.turning then
      let s := s.mapFan c fun f => { f.crossing ns with against := f.against + 1 }
      if 8 ≤ (s.fan c).against then s.fanReversed c else s
    else s
  | _ => if f.hall && s.awake then s.mapFan c Fan.hallFault else s

/-! ### The control tick (R319 to R326, R328, R333, R339) -/

/-- The stage of a sweep after n_ref has moved, and its bin (R333, R334). -/
def Fan.sweepStep (f : Fan) : Fan :=
  match f.task with
  | .sweep 1 =>
    if f.nref = 1000 * f.mapLo then { f with task := .sweep 2, bin := 0, angle := 0, spec := List.replicate 64 {} } else f
  | .sweep 2 =>
    let f := { f with bin := min 63 ((f.nref / 1000 - f.mapLo) * 64 / (f.mapHi - f.mapLo)) }
    if f.nref = 1000 * f.mapHi then { f with task := .sweep 3 } else f
  | _ => f

/-- n_ref at a tick in RUN (R326, R333), in a restart attempt too: R326 prevails over the worked case of Table 09-4 (R7). -/
def Fan.moveRef (f : Fan) (target : Nat) : Fan :=
  let g := f.course target
  match f.task with
  | .sweep 2 => { f with nref := towards f.nref (1000 * g.1) f.mapRate }
  | _ => { f with nref := f.rampRef g.2 g.1 }

/-- The conditions of R330 at a point, but for faults, which break the window when they are raised. -/
def Fan.steadyAt (f : Fan) (target : Nat) (k : Fin 8) : Bool :=
  let p := vget f.base k
  let d := if f.meas < p.rpm then p.rpm - f.meas else f.meas - p.rpm
  f.lock && decide (f.st = .run ∧ 0 < target ∧ p.rpm ≠ 0 ∧ p.cur ≠ 0 ∧ 100 * d ≤ p.rpm) && !f.ilimAct &&
    decide (f.nref = 1000 * effective f.bands (f.clampTarget target) f.nref)

/-- The duty in 2 ^ -149. -/
def Fan.dutyUnits (f : Fan) : Nat :=
  match f32 f.duty with
  | .fin _ m => m
  | _ => f.shownDuty * 2 ^ 149 / 1000

/-- What the channel averages over the ms that ends: CUR and duty of a capture's point after 20 s (R329), and CUR while the
conditions of R330 hold. (log 72: DEDUCED) -/
def Fan.tally (f : Fan) (target : Nat) : Fan :=
  let add (k : Fin 8) : Nat × Nat :=
    if f.steadyAt target k then ((vget f.steady k).1 + 1, (vget f.steady k).2 + f.cur) else (0, 0)
  let f := { f with steady := Vector.ofFn add }
  match f.task with
  | .base .. =>
    if f.taskMs < 20000 then { f with taskMs := f.taskMs + 1 }
    else if f.taskMs < 30000 then
      { f with taskMs := f.taskMs + 1, accCur := f.accCur + f.cur, accDuty := f.accDuty + f.dutyUnits }
    else f
  | _ => f

/-- FAN_CONTROL_TICK for a channel whose gate target is `target`, with the shunt voltages of phases U and V over the ms, in µV. -/
def Fan.tick (f : Fan) (target : Nat) (shunts : List (Int × Int)) : Fan :=
  let f := ({ f with clamped := decide (topRpm f.motor.poles < target) }.sense shunts).tally target
  match f.st with
  | .run =>
    let f := if 0 < target ∨ f.task ≠ .none then (f.moveRef target).sweepStep else f
    { f.runDuty with noBase := f.direct && f.captured.isEmpty }
  | .openloop =>
    let f := { f with nref := towards f.nref (1000 * f.cfg.handover) f.cfg.rampUp }
    let ff := f.interp f.ref32
    { f with duty := f.limitDuty (if F32.lt f.alignDuty ff then ff else f.alignDuty) }
  | _ => f

def State.fanTick (s : State) (c : Fin 6) (shunts : List (Int × Int)) : State :=
  if s.awake then s.mapFan c fun f => f.tick (s.fanTarget c) shunts else s

/-! ### Baseline capture (R329) -/

/-- The points in use, in register order. -/
def Fan.used (f : Fan) : List (Nat × Nat) :=
  (f.base.toList.zipIdx.filter fun p => decide (p.1.rpm ≠ 0)).map fun p => (p.2, p.1.rpm)

/-- R329: what a capture needs. -/
def State.captureOk (s : State) (c : Fin 6) : Bool :=
  let f := s.fan c
  let r := f.used.map (·.2)
  s.sessionOpen && s.isLive (fanOut c) && decide (f.st = .run ∧ f.task = .none) && ascending r &&
    r.all fun x => f.bands.all fun b => decide (x < b.1 ∨ b.2 < x)

/-- The 64 bytes of a channel's baseline (Table 12-2). -/
def Fan.baseBytes (f : Fan) (time : Nat) : List Byte :=
  let pts := f.base.toList.flatMap fun p => leBytes 2 p.rpm ++ leBytes 2 p.cur ++ leBytes 2 p.duty
  let front := pts ++ leBytes 4 time ++ List.replicate 8 0
  front ++ leBytes 4 (crc32 front)

/-- Every point is done: the set is journaled and written, and the DMI flags clear. (log 72: DEDUCED) -/
def State.captureDone (s : State) (c : Fin 6) (got : List (Nat × Nat × Nat)) : State :=
  let s := s.mapFan c fun f => { f with
    task := .none, dmiValid := false, dmiAged := false
    base := got.foldl (fun b g => match idx? 8 g.1 with
      | some k => vmod b k fun p => { p with cur := satTo 16 g.2.1, duty := g.2.2 % 1024 }
      | none => b) f.base }
  let b := (s.fan c).baseBytes s.power.rtc
  let s := (s.inkLine (1416 + 2 * c.val) (b.take 32)).inkLine (1417 + 2 * c.val) (b.drop 32)
  (s.fanLog 0x0305 c got.length).clearDmiHistory c.val

/-- BASELINE_CAPTURE. (log 72: DEDUCED) -/
def State.captureStart (s : State) (c : Fin 6) : State :=
  if s.captureOk c then
    match (s.fan c).used with
    | [] => s.captureDone c []
    | p :: _ => s.mapFan c fun f => { f with task := .base p.1 [], taskMs := 0, accCur := 0, accDuty := 0 }
  else s.mapFan c fun f => { f with baseErr := true }

/-- BASELINE_POINT_DONE: the averages over the 10 000 control ticks that follow the wait of 20 s. (log 72: DEDUCED) -/
def State.pointDone (s : State) (c : Fin 6) : State :=
  let f := s.fan c
  match f.task with
  | .base k got =>
    if f.taskMs < 30000 then s else
      let got := got ++ [(k, openQuot f.accCur 10000, openQuot (f.accDuty * 1000) (2 ^ 149 * 10000))]
      match f.used.find? fun p => decide (k < p.1) with
      | some p => s.mapFan c fun f => { f with task := .base p.1 got, taskMs := 0, accCur := 0, accDuty := 0 }
      | none => s.captureDone c got
  | _ => s

/-! ### Resonance sweep (R332 to R335) -/

/-- R332. -/
def State.sweepOk (s : State) (c : Fin 6) : Bool :=
  let f := s.fan c
  let o := s.outp (fanOut c)
  s.sessionOpen && s.isLive (fanOut c) &&
    decide (f.st = .run ∧ f.task = .none ∧ o.min ≤ f.mapLo ∧ f.mapHi ≤ o.max ∧ f.cfg.handover ≤ f.mapLo ∧
      f.cfg.stallRpm < f.mapLo ∧ f.mapLo + 640 ≤ f.mapHi ∧ (f.mapHi - f.mapLo) % 64 = 0)

/-- RESONANCE_SWEEP. (log 72: DEDUCED) -/
def State.sweepStart (s : State) (c : Fin 6) : State :=
  s.mapFan c fun f => if s.sweepOk c then { f with task := .sweep 1, bin := 0 } else { f with mapErr := true }

/-- A number put in its place, ascending. -/
def insertNat (x : Nat) : List Nat → List Nat
  | [] => [x]
  | y :: l => if x ≤ y then x :: y :: l else y :: insertNat x l

/-- R335, step 1: MAPb exceeds THR / 10 times the median of the 64 bins. -/
def resonant (thr : Nat) (bins : List Nat) (x : Nat) : Bool :=
  let l := bins.foldr insertNat []
  decide (thr * (l.getD 31 0 + l.getD 32 0) < 20 * x)

/-- R335, steps 2 and 3: runs of resonant bins as (first, last, peak). -/
def resonantRuns (thr : Nat) (bins : List Nat) : List (Nat × Nat × Nat) :=
  (bins.zipIdx.foldl (fun acc x =>
    if resonant thr bins x.1 then
      match acc with
      | (a, b, p) :: l => if b + 1 = x.2 then (a, x.2, max p x.1) :: l else (x.2, x.2, x.1) :: acc
      | [] => [(x.2, x.2, x.1)]
    else acc) []).reverse

/-- R335, step 4: a run is kept when fewer than four others come before it by peak, the lower one first where peaks agree. -/
def keptRuns (runs : List (Nat × Nat × Nat)) : List (Nat × Nat × Nat) :=
  runs.filter fun r => decide ((runs.filter fun q => decide (r.2.2 < q.2.2 ∨ (q.2.2 = r.2.2 ∧ q.1 < r.1))).length < 4)

/-- The proposals of a sweep (R335). -/
def proposals (thr lo hi : Nat) (bins : List Nat) : List (Nat × Nat) :=
  let w := (hi - lo) / 64
  (keptRuns (resonantRuns thr bins)).map fun r => (lo + (r.1 - 1) * w, min hi (lo + (r.2.1 + 2) * w))

/-- SWEEP_END: the channel is back at its effective target, and the amplitudes of the 64 bins are formed (R333 to R335). -/
def State.sweepEnd (s : State) (c : Fin 6) : State :=
  let f := s.fan c
  match f.task with
  | .sweep 3 =>
    if f.nref = 1000 * (f.course (s.fanTarget c)).1 then
      let bins := f.spec.map Spectral.amplitude
      let s := s.mapFan c fun f => { f with
        task := .none, mapDone := true, map_ := bins.map (satTo 16), props := proposals f.thr f.mapLo f.mapHi bins }
      s.fanLog 0x0306 c (s.fan c).props.length
    else s
  | _ => s

/-! ### Drive margin index (R330, R331, R348) -/

/-- R330: the conditions have held for 10 s, and hold. -/
def State.dmiOk (s : State) (c : Fin 6) (k : Fin 8) : Bool :=
  (s.fan c).steadyAt (s.fanTarget c) k && decide (10000 ≤ (vget (s.fan c).steady k).1)

/-- DMI_UPDATE: 1 000 × the mean of CUR over the window / BASEk.CUR. -/
def State.dmiUpdate (s : State) (c : Fin 6) (k : Fin 8) : State :=
  if s.dmiOk c k then
    let w := vget (s.fan c).steady k
    let v := satTo 16 (nearest (1000 * w.2) (w.1 * (vget (s.fan c).base k).cur))
    let s := s.mapFan c fun f => { f with
      dmiValue := v, dmiPoint := k.val, dmiValid := true, dmiAged := f.dmiAged || decide (1150 ≤ v)
      steady := Vector.replicate 8 (0, 0) }
    let s := s.wearSample 1 c.val v fun _ => true
    if !(s.fan c).onHall && decide (v < 700) then s.fanReversed c else s
  else s

/-! ### The FAN window at 0x4003_0000 (R336 to R338, Table 09-7) -/

/-- R327 for one band. -/
def FanCfg.bandOk (g : FanCfg) (poles : Nat) (b : Nat × Nat) : Bool :=
  decide (b = (0, 0) ∨ (g.minRpm < b.1 ∧ b.1 + 20 ≤ b.2 ∧ b.2 ≤ topRpm poles))

/-- R327: bands in use do not overlap. -/
def FanCfg.bandsApart (g : FanCfg) : Bool :=
  let l := g.skips.toList.filter fun b => decide (b ≠ (0, 0))
  l.zipIdx.all fun a => l.zipIdx.all fun b => decide (a.2 = b.2 ∨ a.1.2 < b.1.1 ∨ b.1.2 < a.1.1)

/-- The rules of R336 that a register's fields take part in. A field's own range is asked of the register that holds it. (log 71: DEDUCED) -/
def FanCfg.ok (g : FanCfg) (poles off : Nat) : Bool :=
  let limits := decide (g.handover ≤ g.minRpm)
  let stall := decide (g.stallRpm < g.minRpm)
  let skips := (g.skips.toList.all fun b => g.bandOk poles b) && g.bandsApart
  match off with
  | 0x04 => decide (20 ≤ g.pwmKhz ∧ g.pwmKhz ≤ 50 ∧ 10 ≤ g.dead ∧ g.dead ≤ 200)
  | 0x0C => decide (100 ≤ g.handover ∧ 1 ≤ g.alignDuty ∧ g.alignDuty ≤ 100 ∧ 1 ≤ g.align) && limits
  | 0x10 => decide (1 ≤ g.skipRate ∧ 150 ≤ g.minRpm ∧ g.minRpm ≤ 6000) && limits && stall && skips
  | 0x14 => decide (1 ≤ g.rampUp ∧ g.rampUp ≤ 5000 ∧ 1 ≤ g.rampDn ∧ g.rampDn ≤ 5000)
  | 0x18 => decide (2 ≤ g.rstWin ∧ 1 ≤ g.rstWait ∧ 1 ≤ g.stallTime)
  | 0x1C => finite g.kp
  | 0x20 => finite g.ki && !F32.lt (f32 g.ki) F32.zero
  | 0x24 => skips
  | 0x28 => skips
  | 0x2C => skips
  | 0x30 => skips
  | 0x34 => decide (50 ≤ g.stallRpm) && stall
  | _ => true

/-- The set-up with a register's fields taken from a word. -/
def FanCfg.put (g : FanCfg) (off : Nat) (w : Word) : FanCfg :=
  match off with
  | 0x04 => { g with dead := bits w 15 8, pwmKhz := bits w 5 0 }
  | 0x0C => { g with handover := bits w 31 16, alignDuty := bits w 15 8, align := bits w 7 0 }
  | 0x10 => { g with skipRate := bits w 23 16, minRpm := bits w 15 0 }
  | 0x14 => { g with rampDn := bits w 31 16, rampUp := bits w 15 0 }
  | 0x18 => { g with rstWin := bits w 31 24, rstWait := bits w 23 16, stallTime := bits w 15 8 }
  | 0x1C => { g with kp := w }
  | 0x20 => { g with ki := w }
  | 0x24 => { g with skips := vset g.skips 0 (bits w 15 0, bits w 31 16) }
  | 0x28 => { g with skips := vset g.skips 1 (bits w 15 0, bits w 31 16) }
  | 0x2C => { g with skips := vset g.skips 2 (bits w 15 0, bits w 31 16) }
  | 0x30 => { g with skips := vset g.skips 3 (bits w 15 0, bits w 31 16) }
  | 0x34 => { g with stallRpm := bits w 15 0 }
  | _ => g

/-- A register's word. -/
def FanCfg.get (g : FanCfg) (off : Nat) : Word :=
  let skip (k : Fin 4) : Word := let b := vget g.skips k; pack [at_ 16 b.2, at_ 0 b.1]
  match off with
  | 0x04 => pack [at_ 8 g.dead, at_ 0 g.pwmKhz]
  | 0x0C => pack [at_ 16 g.handover, at_ 8 g.alignDuty, at_ 0 g.align]
  | 0x10 => pack [at_ 16 g.skipRate, at_ 0 g.minRpm]
  | 0x14 => pack [at_ 16 g.rampDn, at_ 0 g.rampUp]
  | 0x18 => pack [at_ 24 g.rstWin, at_ 16 g.rstWait, at_ 8 g.stallTime]
  | 0x1C => g.kp
  | 0x20 => g.ki
  | 0x24 => skip 0
  | 0x28 => skip 1
  | 0x2C => skip 2
  | 0x30 => skip 3
  | 0x34 => at_ 0 g.stallRpm
  | _ => 0

/-- A write of a shadowed register (R336, R337). (log 71: DEDUCED) -/
def Fan.shadowWrite (f : Fan) (off : Nat) (w : Word) : Fan :=
  let g := f.shadow.put off w
  if g.ok f.motor.poles off then { f with shadow := g } else { f with cfgErr := true }

/-- A write of FANn_CTRL (R336, R338). (log 71: DEDUCED) -/
def Fan.ctrlWrite (f : Fan) (c : Fin 6) (w : Word) : Fan :=
  let direct := bit w 1
  let hall := bit w 2
  let fb := bit w 3
  let fix := bit w 4
  if (f.st ≠ .off ∧ (direct ≠ f.direct ∨ hall ≠ f.hall ∨ fb ≠ f.hallFb ∨ fix ≠ f.revFix)) ∨ (hall ∧ 2 ≤ c.val) then
    { f with cfgErr := true }
  else { f with shadowHold := bit w 5, revFix := fix, hallFb := fb, hall := hall, direct := direct, en := bit w 0 }

/-- PWM_PERIOD_BOUNDARY (R315, R337, R338). -/
def Fan.boundary (f : Fan) : Fan :=
  let f := { f with ilimLast := f.ilimNow, ilimNow := false, faultNow := false, cfg := if f.shadowHold then f.cfg else f.shadow }
  if f.st = .off then { f with motor := f.sealed }
  else { f with motor := { f.motor with ilim := f.sealed.ilim, shunt := f.sealed.shunt } }

def FanSt.code : FanSt → Nat
  | .off => 0
  | .catch_ => 1
  | .precharge => 1
  | .brake => 2
  | .align => 3
  | .openloop => 4
  | .run => 5
  | .wait => 6
  | .latched => 7

def Fan.read (f : Fan) (off : Nat) : Word :=
  if 0x04 ≤ off ∧ off ≤ 0x34 ∧ off ≠ 0x08 then f.shadow.get off
  else if 0x60 ≤ off ∧ off ≤ 0x7C then (match idx? 8 ((off - 0x60) / 4) with
    | some k => let p := vget f.base k; pack [at_ 16 p.cur, at_ 0 p.rpm]
    | none => 0)
  else if 0x80 ≤ off ∧ off ≤ 0x9C then (match idx? 8 ((off - 0x80) / 4) with
    | some k => at_ 0 (vget f.base k).duty
    | none => 0)
  else if 0xB0 ≤ off ∧ off ≤ 0xBC then (match f.props[(off - 0xB0) / 4]? with
    | some p => pack [at_ 16 p.2, at_ 0 p.1]
    | none => 0)
  else if 0x100 ≤ off ∧ off ≤ 0x1FC then at_ 0 (f.map_.getD ((off - 0x100) / 4) 0)
  else match off with
    | 0x00 => pack [flag 5 f.shadowHold, flag 4 f.revFix, flag 3 f.hallFb, flag 2 f.hall, flag 1 f.direct, flag 0 f.en]
    | 0x08 => pack [at_ 24 f.motor.shunt, at_ 8 f.motor.ilim, flag 4 f.motor.reverse, at_ 0 f.motor.poles]
    | 0x40 => pack [at_ 29 f.attempt, flag 12 f.revSwap, flag 11 f.vgdWait, flag 10 f.noBase, flag 9 f.baseErr, flag 8 f.cfgErr,
        flag 7 f.clamped, flag 6 f.ilimLast, flag 5 f.lock, flag 4 (decide (f.task ≠ .none)), at_ 0 f.st.code]
    | 0x44 => pack [at_ 8 f.cause, at_ 0 f.kinds.toNat]
    | 0x4C => pack [at_ 16 (satTo 16 (openQuot f.nref 1000)), at_ 0 f.meas]
    | 0x50 => pack [at_ 16 f.cur, at_ 0 (satTo 10 f.shownDuty)]
    | 0x54 => pack [flag 25 f.dmiValid, flag 24 f.dmiAged, at_ 16 f.dmiPoint, at_ 0 f.dmiValue]
    | 0x58 => BitVec.ofNat 32 f.runs
    | 0x5C => BitVec.ofNat 32 f.starts
    | 0xA0 => pack [at_ 16 f.mapHi, at_ 0 f.mapLo]
    | 0xA4 => pack [at_ 16 f.blades, at_ 8 f.thr, at_ 0 f.mapRate]
    | 0xA8 => pack [at_ 16 f.props.length, at_ 8 f.bin, flag 1 f.mapErr, flag 0 f.mapDone]
    | _ => 0

def State.fanRead (s : State) (off : Nat) : Word :=
  match idx? 6 (off / 0x200) with
  | some c => (s.fan c).read (off % 0x200)
  | none => 0

/-- The bit of FAULT.KINDS that a latch cause holds (R345). -/
def latchedKind (f : Fan) : BitVec 5 :=
  if f.st = .latched then (match f.cause with
    | 1 => 1
    | 2 => 2
    | 3 => 4
    | 4 => 8
    | _ => 0)
  else 0

/-- A write of FANn_CMD. -/
def State.fanCmd (s : State) (c : Fin 6) (w : Word) : State :=
  let s := if bit w 0 ∧ s.sessionOpen then s.fanClear c else s
  let s := if bit w 1 then s.captureStart c else s
  let s := if bit w 2 then s.sweepStart c else s
  if bit w 3 then s.mapFan c Fan.abort else s

def State.fanRegWrite (s : State) (c : Fin 6) (off : Nat) (w : Word) : State :=
  if 0x04 ≤ off ∧ off ≤ 0x34 then
    if off = 0x08 then s else s.mapFan c fun f => f.shadowWrite off w
  else if 0x60 ≤ off ∧ off ≤ 0x7C then (match idx? 8 ((off - 0x60) / 4) with
    | some k => s.mapFan c fun f => { f with base := vmod f.base k fun p => { p with rpm := bits w 15 0 } }
    | none => s)
  else match off with
    | 0x00 => s.mapFan c fun f => f.ctrlWrite c w
    | 0x40 => s.mapFan c fun f => { f with baseErr := f.baseErr && !bit w 9, cfgErr := f.cfgErr && !bit w 8 }
    | 0x44 => s.mapFan c fun f => { f with kinds := f.kinds &&& (~~~(w.setWidth 5) ||| latchedKind f) }
    | 0x48 => s.fanCmd c w
    | 0xA0 => s.mapFan c fun f => { f with mapHi := bits w 31 16, mapLo := bits w 15 0 }
    | 0xA4 => s.mapFan c fun f =>
        if 10 ≤ bits w 15 8 ∧ bits w 15 8 ≤ 100 ∧ 1 ≤ bits w 7 0 then
          { f with blades := bits w 20 16, thr := bits w 15 8, mapRate := bits w 7 0 }
        else { f with cfgErr := true }
    | 0xA8 => s.mapFan c fun f => { f with mapErr := f.mapErr && !bit w 1, mapDone := f.mapDone && !bit w 0 }
    | _ => s

def State.fanWrite (s : State) (off : Nat) (w : Word) : State :=
  match idx? 6 (off / 0x200) with
  | some c => s.fanRegWrite c (off % 0x200) w
  | none => s

/-! ### Commands -/

/-- PWM_PERIOD_BOUNDARY. -/
def execPwmPeriodBoundary (c : Fin 6) (s : State) : Result := .next (if s.awake then s.mapFan c Fan.boundary else s)

/-- FAN_CONTROL_TICK, with the differential voltages across the shunts of phases U and V in the ms that ends, in µV. -/
def execFanControlTick (c : Fin 6) (shunts : List (Int × Int)) (s : State) : Result := .next (s.fanTick c shunts)

/-- BEMF_ZERO_CROSSING, with the step interval in ns. -/
def execBemfZeroCrossing (c : Fin 6) (ns : Nat) (s : State) : Result :=
  .next (s.mapFan c fun f => if !f.onHall && f.turning then f.crossing ns else f)

/-- LOCK_LOSS. -/
def execLockLoss (c : Fin 6) (s : State) : Result :=
  .next (s.mapFan c fun f => if !f.onHall && f.turning then f.loseLock else f)

/-- HALL_CHANGE, with the new code and the step interval in ns. Channels 2 to 5 have no Hall inputs (Table 09-1). -/
def execHallChange (c : Fin 2) (code : BitVec 3) (ns : Nat) (s : State) : Result :=
  .next (s.hallChange ⟨c.val, by omega⟩ code ns)

/-- CURRENT_LIMIT (R315). -/
def execCurrentLimit (c : Fin 6) (s : State) : Result :=
  .next (s.mapFan c fun f => if f.switching then { f with ilimNow := true, steady := Vector.replicate 8 (0, 0) } else f)

/-- PHASE_SHORT. -/
def execPhaseShort (c : Fin 6) (s : State) : Result := .next (s.phaseShort c)

/-- OPEN_PHASE in RUN (R347). -/
def execOpenPhase (c : Fin 6) (s : State) : Result := .next (if (s.fan c).st = .run then s.fanOpen c else s)

/-- STALL_TIMEOUT. -/
def execStallTimeout (c : Fin 6) (s : State) : Result := .next (s.stallTimeout c)

/-- RESTART_WAIT_END. -/
def execRestartWaitEnd (c : Fin 6) (s : State) : Result := .next (s.restartWaitEnd c)

/-- RESTART_SUCCESS. -/
def execRestartSuccess (c : Fin 6) (s : State) : Result := .next (s.mapFan c Fan.succeed)

/-- RESTART_WINDOW_END. -/
def execRestartWindowEnd (c : Fin 6) (s : State) : Result := .next (s.windowEnd c)

/-- ATTEMPT_CLEAR. -/
def execAttemptClear (c : Fin 6) (s : State) : Result := .next (s.mapFan c Fan.clearAttempt)

/-- FAN_CMD_CLEAR: CMD.CLEAR, which takes effect only while a service session is open. -/
def execFanCmdClear (n : Fin 4) (user : Bool) (c : Fin 6) (s : State) : Result :=
  .next (s.access (.lodger n user) .store (fanBase c + 0x48) fun s => (s.answer 0).fanCmd c 1)

/-- BASELINE_CAPTURE: CMD.BASE. -/
def execBaselineCapture (n : Fin 4) (user : Bool) (c : Fin 6) (s : State) : Result :=
  .next (s.access (.lodger n user) .store (fanBase c + 0x48) fun s => (s.answer 0).captureStart c)

/-- BASELINE_POINT_DONE. -/
def execBaselinePointDone (c : Fin 6) (s : State) : Result := .next (s.pointDone c)

/-- RESONANCE_SWEEP: CMD.MAP. -/
def execResonanceSweep (n : Fin 4) (user : Bool) (c : Fin 6) (s : State) : Result :=
  .next (s.access (.lodger n user) .store (fanBase c + 0x48) fun s => (s.answer 0).sweepStart c)

/-- SWEEP_END. -/
def execSweepEnd (c : Fin 6) (s : State) : Result := .next (s.sweepEnd c)

/-- TASK_ABORT: CMD.ABORT. -/
def execTaskAbort (n : Fin 4) (user : Bool) (c : Fin 6) (s : State) : Result :=
  .next (s.access (.lodger n user) .store (fanBase c + 0x48) fun s => (s.answer 0).mapFan c Fan.abort)

/-- DMI_UPDATE at point `k`. -/
def execDmiUpdate (c : Fin 6) (k : Fin 8) (s : State) : Result := .next (s.dmiUpdate c k)

/-- FAN_START. -/
def execFanStart (c : Fin 6) (s : State) : Result := .next (s.fanStart c)

/-- Step 2 of Table 09-5a, by the speed that the phase senses showed. In RUN at MEAS the six intervals of R316 are those of MEAS. (log 70: DEDUCED) -/
def Fan.caught (f : Fan) (reverse : Bool) (rpm : Nat) (duty : Word) : Fan :=
  if rpm < f.cfg.handover then { f with st := .precharge }
  else if reverse then { f with st := .brake }
  else ({ f with
      meas := satTo 16 rpm, lock := true, crossings := 6
      intervals := List.replicate 6 (10000000000 / (f.motor.poles * satTo 16 rpm)) }.enterRun (1000 * satTo 16 rpm) duty).hallStands

/-- CATCH_END: the channel begins to switch, which is doubt while VGD is low. -/
def execCatchEnd (c : Fin 6) (reverse : Bool) (rpm : Nat) (duty : Word) (s : State) : Result :=
  .next (if (s.fan c).st = .catch_ then (s.mapFan c fun f => f.caught reverse rpm duty).vgdDoubt else s)

/-- BRAKE_END: CATCH again. -/
def execBrakeEnd (c : Fin 6) (s : State) : Result :=
  .next (s.mapFan c fun f => if f.st = .brake then { f with st := .catch_ } else f)

/-- PRECHARGE_END. -/
def execPrechargeEnd (c : Fin 6) (s : State) : Result :=
  .next (s.mapFan c fun f =>
    if f.st = .precharge then
      if f.hall then (f.enterRun 0 0).hallStands else { f with st := .align, duty := f.alignDuty.toBits }
    else f)

/-- ALIGN_END, with the aligned current in mA (R347). -/
def execAlignEnd (c : Fin 6) (cur : Nat) (s : State) : Result :=
  let f := s.fan c
  .next (if f.st = .align then
      if 10 * cur < f.motor.ilim then s.fanOpen c else s.mapFan c fun f => { f with st := .openloop, nref := 0 }
    else s)

/-- HANDOVER_REACHED. -/
def execHandoverReached (c : Fin 6) (s : State) : Result :=
  .next (s.mapFan c fun f => if f.st = .openloop then f.enterRun (1000 * f.cfg.handover) f.duty else f)

/-- FAN_STOP. -/
def execFanStop (c : Fin 6) (s : State) : Result := .next (s.fanStop c)

end Sys2Proof.Machine
end

