-- ==== Sys2Proof/Machine/UartEdge.lean ====
section
/-! DEFINITION. The boundaries of a serial port: where a side takes what is pending, and the end that Standby and the stops make
(R563, R565, R567, R570, R572, R575). -/

namespace Sys2Proof.Machine

/-- The polarity that a POL_MODE fixes, or the one in force in automatic mode (R565). -/
def fixedPol (mode : Nat) (inv : Bool) : Bool := if mode = 1 then false else if mode = 2 then true else inv

/-- A flip takes effect on transmit when the transmitter is empty, be DEn asserted or not (R567). (log 101: DEDUCED) -/
def Uart.takeFlip (u : Uart) : Uart :=
  if u.shift.isSome || decide (u.txCfg.polMode ≠ 0) then u else { u with invTx := u.invTx != u.flipTx, flipTx := false }

/-- The transmit side takes a flip once it is empty, and what is pending once DEn has been released too (R570). -/
def Uart.takeTx (u : Uart) : Uart :=
  let u := u.takeFlip
  if u.de || u.shift.isSome then u
  else
    let c := if u.pendTx then u.cfg else u.txCfg
    { u with txCfg := c, pendTx := false, invTx := fixedPol c.polMode (u.invTx != u.flipTx), flipTx := false }

/-- The receive side takes what is pending when no character is being received. -/
def Uart.takeRx (u : Uart) : Uart :=
  if u.busy.isSome then u
  else
    let c := if u.pendRx then u.cfg else u.rxCfg
    { u with rxCfg := c, pendRx := false, invRx := fixedPol c.polMode (u.invRx != u.flipRx), flipRx := false, rxOn := u.rxOn && u.en }

/-- Standby and the stops: DEn low, the characters under way cut short (R572, R575); both sides are at a boundary (R570). -/
def Uart.cut (u : Uart) : Uart := ({ u with de := false, shift := none, busy := none }.takeRx).takeTx

end Sys2Proof.Machine
end

