-- ==== Sys2Proof/Machine/Reset.lean ====
section
/-! DEFINITION. Whole-device resets (R70, R76, R77), the halt of the blocks that a power failure and a thermal shutdown share
(step 3 of Tables 05-6 and 06-3), and the leaving message (R484). -/

namespace Sys2Proof.Machine

/-- A whole-device reset cause (Table 03-1), in the order of priority of R77. -/
inductive ResetCause where
  | por | brownout | external | lockstep | hwWatchdog | inkRequest | imageFail
  deriving DecidableEq, Repr

/-- Its bit in CAUSE (Table 03-10). -/
def ResetCause.mask : ResetCause → BitVec 7
  | .por => 1
  | .brownout => 2
  | .external => 4
  | .lockstep => 16
  | .hwWatchdog => 8
  | .inkRequest => 32
  | .imageFail => 64

/-- What a whole-device reset keeps of power: the Night Porter's state, the pins and the supplies (R18, R198, R224); CLK_STAT is
at its reset values (Table 05-7). (log 26: DEDUCED) -/
def Power.afterReset (p : Power) (c : BitVec 7) : Power where
  phase := if p.testHigh then .test else .reset
  latchedCauses := p.latchedCauses ||| c
  offWake := p.offWake
  npWakeSrc := p.npWakeSrc
  vioOk := p.vioOk
  vaOk := p.vaOk
  vaoOk := p.vaoOk
  vgdOk := p.vgdOk
  holdOk := p.holdOk
  rtc := p.rtc
  rtcAt := p.rtcAt
  rtcSet := p.rtcSet
  thmLatch := p.thmLatch
  thmLast := p.thmLast
  testHigh := p.testHigh
  nrstLow := p.nrstLow
  nrstFrom := p.nrstFrom

/-- A whole-device reset that latches the causes of a mask: every register at its reset value; what is kept is memory, the
Ledger's cells, the NOR and the boot record, the Waybill ring and what else retention SRAM and the Night Porter hold, and the
pins. Read bursts of the Carder in flight from memory are fetched to their end (R158). R44 does not say whether a DO output's
interval runs on through a reset; its last change is forgotten. Expiries of R69 before it no longer count. The samples of the wear
indicators since the last nightly update are kept (R407). (log 139: DESIGN CHOICE; log 156: DESIGN CHOICE; log 167: DEDUCED) -/
def State.resetWith (s : State) (c : BitVec 7) : State :=
  { State.reset with
    now := s.now
    draws := s.draws
    pending := s.pending
    bus := s.bus
    power := { s.power.afterReset c with nrstFrom := if c &&& 3 = 0 then s.power.nrstFrom else some s.now }
    boot := { slotA := s.boot.slotA, slotB := s.boot.slotB, crash := s.boot.crash, crashPos := s.boot.crashPos, nor := s.boot.nor }
    sram := s.fetchRest.sram
    ledger := { s.ledger with waiting := [], blocks := Vector.replicate 128 0 }
    wbl :=
      { ring := s.wbl.ring, last := s.wbl.last, nextSeq := s.wbl.nextSeq, logPos := s.wbl.logPos
        flushResult := s.wbl.flushResult, flushCount := s.wbl.flushCount, flushTime := s.wbl.flushTime }
    grp := { clock := s.grp.clock }
    keys := { epochs := s.keys.epochs, hosted := s.keys.hosted }
    book := { own := s.book.own }
    sns := { diState := s.sns.diState, diEdges := s.sns.diEdges, cnt := s.sns.cnt }
    fans := s.fans.map fun f => { hallCode := f.hallCode }
    wear :=
      { headers := s.wear.headers, copies := s.wear.copies, blockCopies := s.wear.blockCopies
        inds := s.wear.inds.map fun i => { sum := i.sum, samples := i.samples } }
    svc := { prev := s.svc.prev, halves := if c &&& 3 = 0 then s.svc.halves else [], halvesAt := s.svc.halvesAt } }

/-- A whole-device reset with a cause (R76). -/
def State.deviceReset (s : State) (c : ResetCause) : State := s.resetWith c.mask

/-- An INK_REQUEST reset. -/
def State.inkReset (s : State) : State := s.deviceReset .inkRequest

/-- The service session ends without reply or log entry (Table 17-4). -/
def Svc.drop (x : Svc) : Svc :=
  { x with
    st := .closed, session := 0, role := 0, challenge := [], lastSeq := none, lastReply := none, out := [], closing := none
    closeWait := [], phraseWait := false, fails := 0, app := none }

/-- R629: rails, backlight, bus and PNL_RST low at once. -/
def Pnl.dark (p : Pnl) : Pnl :=
  { p with
    lit := false, rails := [], rst := false, timing := false, requests := false, resync := false, again := false, good := 0
    st := .off, step := 0, driven := false, fifo := [], drive := [] }

/-- Step 3 of Tables 05-6 and 06-3: Lodgers, loop engine and Carder halted, charger off; with them the service session, the
panel and the serial ports (Table 17-4, R629, R575). -/
def State.haltBlocks (s : State) : State :=
  let s := s.mapLodgers fun l => l.map fun x => { x with run := .stopped }
  let s := s.mapLoops fun l => { l with running := false }
  let s := s.carderHalt.mapFans fun f => f.map Fan.blank
  let s := s.mapOut fun b => { b with ao := b.ao.map fun a => { a with stroke := none } }
  let s := s.mapSns fun b => { b with running := false }
  let s := s.mapSvc Svc.drop
  let s := s.mapSeals fun x => { x with collect := none, commit := none, resetDue := false }
  let s := s.mapPnl Pnl.dark
  let s := s.mapUarts fun u => { u with ports := u.ports.map Uart.cut }
  s.mapPower fun p => { p with chg := 0 }

/-- R484: the leaving message on A and B, from the queues in which it is placed. -/
def State.leaving (s : State) (cause : Nat) : State :=
  if s.grd.started then
    s.sendOn [0, 1] 3 (2 ^ 14) none (leBytes 1 cause ++ [0] ++ leBytes 2 (unsignedOf 16 s.thm.tj)) true
  else s

/-- R484: the throttle notice. (log 62: DEDUCED) -/
def State.throttleNotice (s : State) (enf : Nat) : State :=
  if s.grd.started then
    s.sendOn s.routes 3 (2 * 2 ^ 14) none (leBytes 2 (unsignedOf 16 s.thm.tj) ++ leBytes 1 enf ++ [0]) true
  else s

/-- Thermal shutdown (R221, R222): Blank, the latch and its cause, the blocks halted, the leaving message queued. A flush that
runs ends (R223), and the next boot has no OFF_WAKE (R225). A nightly update under way, which runs only in the modes of R406, ends
with its hold-up test. (log 62: DEDUCED; log 77: DEDUCED) -/
def State.thermalShutdown (s : State) (cause : Nat) : State :=
  let s := s.gateBlank 3
  let s := s.mapWear fun w => { w with testing := false }
  let s := s.mapPower fun p =>
    { p with thmLatch := true, thmLast := cause, phase := .shutdown, flushRuns := false, offWake := false }
  s.haltBlocks.leaving cause

end Sys2Proof.Machine
end

