-- ==== Sys2Proof/Machine/Panel.lean ====
section
/-! DEFINITION. The inspection panel driver (R606 to R629). -/

namespace Sys2Proof.Machine

/-- Bits of PNL_INT (Table 18-6). -/
def pVs : BitVec 7 := 1
def pUnderrun : BitVec 7 := 2
def pCrack : BitVec 7 := 4
def pRail : BitVec 7 := 8
def pState : BitVec 7 := 16
def pGeom : BitVec 7 := 32
def pCfgErr : BitVec 7 := 64

def Pnl.raise (p : Pnl) (b : BitVec 7) : Pnl := { p with int := p.int ||| b }

/-- A new STATE; each change raises INT.STATE. -/
def Pnl.to (p : Pnl) (st : PnlSt) : Pnl := if p.st = st then p else { p.raise pState with st := st }

/-- R628: the panel is allowed. -/
def State.panelAllowed (s : State) : Bool :=
  s.live && match s.power.mode with
    | .run => true
    | .nightHold => decide (s.svc.st = .open_)
    | .standby => false

/-! ### Rails (R624 to R627) -/

/-- The rail of step `k` in the sequence in force, if the step is used. -/
def Pnl.railOf (p : Pnl) (k : Nat) : Option (Fin 3) := if k < 3 then idx? 3 (fieldAt p.inForce k 1) else none

/-- The first used step from `k` on, or 3. -/
def Pnl.nextStep (p : Pnl) (k : Nat) : Nat := ([0, 1, 2].find? fun i => decide (k ≤ i) && (p.railOf i).isSome).getD 3

/-- The start of the power-up (R626). A sequence without a used rail keeps the panel off (Table 18-6). -/
def Pnl.powerUp (p : Pnl) : Pnl :=
  let p := { p with inForce := p.railseq }
  if p.nextStep 0 = 3 ∨ p.railseq = List.replicate 16 0 then p
  else { p with step := p.nextStep 0, driven := false }.to .rails

/-- The start of the power-down (R627): the backlight goes off at once. The frame in progress goes on to the next VS. An ON that
waited for the end of an earlier power-down is forgotten (R623, R624, R628). -/
def Pnl.powerDown (p : Pnl) : Pnl :=
  match p.st with
  | .off => p
  | _ =>
    let p := { p with lit := false, resync := false, again := false }.to .down
    if p.timing ∨ p.rails ≠ [] then p else p.to .off

/-- One step of the power-down: the rail enabled last goes off. -/
def Pnl.offStep (p : Pnl) : Pnl :=
  if p.st = .down ∧ p.timing = false then
    let off : BitVec 3 := match p.rails.getLast? with
      | some r => BitVec.ofNat 3 (2 ^ r)
      | none => 0
    let p := { p with rails := p.rails.dropLast, good := p.good &&& ~~~off }
    if p.rails = [] then
      let p := p.to .off
      if p.again then { p with again := false }.powerUp else p
    else p
  else p

/-- The power-down of a Standby entry, to its end (R628). (log 107: DEDUCED) -/
def Pnl.downToEnd (p : Pnl) : Pnl := if p.st = .off then p else { p.dark with st := p.st }.to .off

/-- A rail fault (R624): 1 timeout, 2 lost. -/
def State.railFault (s : State) (rail cause : Nat) : State :=
  let s := s.mapPnl fun p =>
    { p.raise pRail with railFlt := true, fltRail := rail, railFaults := satInc 0xFFFF p.railFaults }.powerDown
  s.logEvent 0x0901 (leBytes 1 rail ++ leBytes 1 cause)

/-- RAIL_STEP_DELAY. -/
def Pnl.driveRail (p : Pnl) : Pnl :=
  match p.st, p.driven, p.railOf p.step with
  | .rails, false, some r => { p with driven := true, rails := p.rails ++ [r.val] }
  | _, _, _ => p

/-- RAIL_GOOD. -/
def Pnl.railGood (p : Pnl) (r : Fin 3) : Pnl :=
  let q := { p with good := p.good ||| BitVec.ofNat 3 (2 ^ r.val) }
  if p.st = .rails ∧ p.driven = true ∧ p.railOf p.step = some r then { q with step := p.nextStep (p.step + 1), driven := false } else q

/-- RAIL_TIMEOUT. -/
def State.railTimeout (s : State) : State :=
  let p := s.pnl
  match p.st, p.driven, p.railOf p.step with
  | .rails, true, some r => if p.good.getLsbD r.val then s else s.railFault r.val 1
  | _, _, _ => s

/-- RAIL_LOST: the good input has been low for more than 1 ms. -/
def State.railLost (s : State) (r : Fin 3) : State :=
  let p := s.pnl
  let s := s.mapPnl fun p => { p with good := p.good &&& ~~~(BitVec.ofNat 3 (2 ^ r.val)) }
  if p.rails.contains r.val && p.good.getLsbD r.val then s.railFault r.val 2 else s

/-! ### Timing and frames (R608 to R614, R617, R621) -/

/-- Words of one line (R609). -/
def PnlTiming.lineWords (t : PnlTiming) : Nat := if t.odEn then t.hact / 4 else t.hact / 8

/-- Black (R609). -/
def PnlTiming.black (t : PnlTiming) : BitVec 4 := if t.black15 then 15 else 0

/-- The rest of the frame is black (R621). -/
def Pnl.blackLine (p : Pnl) : Pnl := { p with drive := List.replicate p.cfg.hact p.cfg.black }

/-- Overdrive entry (b, p, n) (R615). -/
def Pnl.odEntry (p : Pnl) (b prev next : Nat) : BitVec 4 := (p.od.getD (b * 256 + prev * 16 + next) 0).setWidth 4

/-- The level at which a pixel is driven, from its previous and its next level (R612). -/
def Pnl.odLevel (p : Pnl) (prev next : BitVec 4) : BitVec 4 :=
  if prev = next then next else p.odEntry p.band prev.toNat next.toNat

/-- The levels of the pixels of one word (R609, R612). -/
def Pnl.wordLevels (p : Pnl) (w : Word) : List (BitVec 4) :=
  if p.cfg.odEn then
    (List.range 4).map fun k => p.odLevel (BitVec.ofNat 4 (bits w (8 * k + 7) (8 * k + 4))) (BitVec.ofNat 4 (bits w (8 * k + 3) (8 * k)))
  else (List.range 8).map fun k => BitVec.ofNat 4 (bits w (4 * k + 3) (4 * k))

/-- A line is driven from its words in the FIFO (R609, R612). -/
def Pnl.driveLine (p : Pnl) : Pnl :=
  { p with drive := (p.fifo.take p.cfg.lineWords).flatMap p.wordLevels, fifo := p.fifo.drop p.cfg.lineWords }

/-- A frame is being driven, black or not, and the panel stays on. -/
def Pnl.showing (p : Pnl) : Bool := decide (p.st = .black ∨ p.st = .live ∨ p.st = .held)

/-- An underrun (R621): black from here on, until a RESYNC written after it. A power-down that runs goes on. -/
def Pnl.underrun (p : Pnl) : Pnl :=
  let p := { p.raise pUnderrun with underruns := satInc 0xFFFF p.underruns, fifo := [], requests := false, resync := false }
  if p.showing then p.to .held else p

/-- A timing that acts as an underrun when it takes effect (R617). -/
def PnlTiming.breaks (o n : PnlTiming) : Bool := decide (o.pclk ≠ n.pclk ∨ o.hact ≠ n.hact ∨ o.vact ≠ n.vact ∨ o.odEn ≠ n.odEn)

/-- R617: what takes effect at a VS. A change of PCLK, HACT, VACT or OD_EN acts as an underrun of the frame that begins. The band
chosen last is taken while TEMP_EN is 1 and TEMP_UI is VALID (R613, R614). (log 107: DEDUCED) -/
def Pnl.takeTiming (p : Pnl) (warm : Bool) : Pnl :=
  let b := if warm then p.bandNext else p.band
  let q := { p.raise pVs with cfg := p.shadow, band := b, bandNext := b, line := 0 }
  if p.showing && p.cfg.breaks p.shadow then q.underrun else q

/-- Lines of a frame (R608). -/
def PnlTiming.lines (t : PnlTiming) : Nat := t.vsw + t.vbp + t.vact + t.vfp

/-- FRAME_START: VS, once every line of the frame has begun (R608). (log 107: DEDUCED) -/
def Pnl.frame (p : Pnl) (warm : Bool) : Pnl :=
  if !p.timing || decide (p.line < p.cfg.lines) then p
  else
    let p := p.takeTiming warm
    match p.st with
    | .black => { p with requests := true }.to .live
    | .held => if p.resync then { p with resync := false, requests := true, fifo := [] }.to .live else p
    | .down =>
      let p := { p with rst := false, timing := false, requests := false, drive := [] }
      if p.rails = [] then p.to .off else p
    | _ => p

/-- PANEL_RESET_RELEASE: PNL_RST goes high and the timing starts with a VS. -/
def Pnl.releaseReset (p : Pnl) (warm : Bool) : Pnl :=
  if p.st = .rails ∧ p.step = 3 then ({ p with rst := true, timing := true }.takeTiming warm).to .black else p

/-- LINE_START: the start of HS raises the request for the next line (R610), and DE checks this line's data (R621) and drives
it: black in a black frame and after an underrun, the levels of R612 otherwise. After the last line of the frame comes a VS. -/
def State.lineStart (s : State) : State :=
  let p := s.pnl
  if !p.timing || decide (p.cfg.lines ≤ p.line) then s
  else
    let t := p.cfg
    let first := t.vsw + t.vbp
    let asks := decide (first ≤ p.line + 1 ∧ p.line + 1 < first + t.vact)
    let active := decide (first ≤ p.line ∧ p.line < first + t.vact)
    let s := s.mapPnl fun p => { p with line := p.line + 1, drive := [] }
    let s := if p.requests && asks then s.raiseEdge 8 else s
    if !active then s
    else if p.requests then
      s.mapPnl fun p => if p.fifo.length < t.lineWords then p.underrun.blackLine else p.driveLine
    else s.mapPnl Pnl.blackLine

/-- PIXEL_WRITE (R610). -/
def Pnl.pixel (p : Pnl) (w : Word) : Pnl := if p.fifo.length < 160 then { p with fifo := p.fifo ++ [w] } else p

/-- R613: the band after a sense swap at temperature `t`. -/
def bandAfter (ts : Vector Int 3) (b : Nat) (t : F32) : Nat :=
  let T (k : Nat) : Int := match idx? 3 (k - 1) with
    | some i => vget ts i
    | none => 0
  let up := [1, 2, 3].foldl (fun b k => if b + 1 = k ∧ F32.le (F32.ofInt (T k)) t = true then k else b) b
  [3, 2, 1].foldl (fun b k => if b = k ∧ F32.lt t (F32.ofInt (T k - 2)) = true then k - 1 else b) up

/-- R614: TEMP_EN is 1 and TEMP_UI is VALID. -/
def State.panelWarm (s : State) : Bool :=
  match idx? 16 s.pnl.tempUi with
  | some u => s.pnl.tempEn && (vget s.sns.uis u).shown.valid
  | none => false

/-- R613, R614. -/
def State.bandAtSwap (s : State) : State :=
  match idx? 16 s.pnl.tempUi with
  | some u =>
    let r := (vget s.sns.uis u).shown
    if s.panelWarm then s.mapPnl fun p => { p with bandNext := bandAfter p.temps p.bandNext (F32.ofBits r.val) } else s
  | none => s

/-! ### Crack loop (R622, R623) -/

/-- CRACK_MEASURE, with the loop resistance in Ω. -/
def State.crackMeasure (s : State) (ohms : Nat) : State :=
  if s.awake then
    let shown := satTo 16 (openQuot ohms 10)
    let high := decide (s.pnl.lim ≠ 0 ∧ s.pnl.lim * 100 < ohms)
    let s := s.mapPnl fun p => { p with
      ohms := shown
      crkHigh := if high then satInc 3 p.crkHigh else 0
      crkLow := if high || decide (p.lim = 0) then 0 else satInc 10 p.crkLow }
    if s.pnl.crkHigh = 3 ∧ s.pnl.crack = false then
      (s.mapPnl fun p => { p.raise pCrack with lit := false, crack := true }.powerDown).logEvent 0x0902 (leBytes 2 shown)
    else s
  else s

/-- CRK_CLR. -/
def State.crackClear (s : State) : State :=
  if s.pnl.crack && decide (s.pnl.crkLow = 10) then (s.mapPnl fun p => { p with crack := false }).logEvent 0x0903 [] else s

/-! ### The PNL window at 0x4009_0000 -/

/-- THR_ENF as the panel takes it: while its clock is stopped, as it stood when the clock stopped (R636). -/
def State.panelThr (s : State) : Bool := if s.panelAllowed then s.thm.thrEnf else s.pnl.thrSeen

/-- APPLIED (R616). -/
def State.blApplied (s : State) : Nat := if s.panelThr then min s.pnl.duty 250 else s.pnl.duty

/-- PANEL_ON: ON written from 0 to 1 (R626). -/
def State.panelOn (s : State) : State :=
  if s.pnl.on || s.pnl.crack || !s.panelAllowed then s
  else s.mapPnl fun p =>
    let p := { p with on := true }
    match p.st with
    | .off => p.powerUp
    | .down => { p with again := true }
    | _ => p

/-- PANEL_OFF (R627). -/
def State.panelOff (s : State) : State :=
  if s.pnl.on then s.mapPnl fun p => { p with on := false, again := false }.powerDown else s

/-- RESYNC (R621). -/
def Pnl.setResync (p : Pnl) : Pnl := if p.st = .held then { p with resync := true } else p

/-- A write of PNL_CTRL. (log 107: DEDUCED) -/
def State.panelCtrl (s : State) (w : Word) : State :=
  let s := s.mapPnl fun p => { p with
    tempEn := bit w 5
    shadow := { p.shadow with black15 := bit w 4, vsPol := bit w 3, hsPol := bit w 2, odEn := bit w 1 } }
  let s := if bit w 8 then s.crackClear else s
  let s := if bit w 7 then s.mapPnl Pnl.setResync else s
  if bit w 0 then s.panelOn else s.panelOff

/-- Signed byte of a word. -/
def byteOf (w : Word) (lo : Nat) : Int := signed 8 (bits w (lo + 7) lo)

/-- A write of PNL_SIZE (R618). -/
def Pnl.setSize (p : Pnl) (hact vact : Nat) : Pnl :=
  let h := if 320 < hact then 320 else if hact < 8 then 8 else hact / 8 * 8
  let v := if 240 < vact then 240 else if vact = 0 then 1 else vact
  let p := { p with shadow := { p.shadow with hact := h, vact := v } }
  if 320 < hact ∨ hact < 8 ∨ 240 < vact ∨ vact = 0 then p.raise pGeom else p

def State.panelWrite (s : State) (off : Nat) (w : Word) : State :=
  let zero := decide (bits w 23 16 = 0 ∨ bits w 15 8 = 0 ∨ bits w 7 0 = 0)
  if 0x800 ≤ off ∧ off < 0xC00 then
    s.mapPnl fun p => { p with od := p.od.take (off - 0x800) ++ (leBytes 4 (w.toNat)).map (· &&& 0x0F#8) ++ p.od.drop (off - 0x800 + 4) }
  else match off with
    | 0x00 => s.panelCtrl w
    | 0x04 => s.mapPnl fun p => { p with railFlt := p.railFlt && !bit w 10 }
    | 0x08 => s.mapPnl fun p =>
        if 40 ≤ bits w 6 0 ∧ bits w 6 0 ≤ 80 then { p with shadow := { p.shadow with pclk := bits w 6 0 } } else p.raise pCfgErr
    | 0x0C => s.mapPnl fun p => p.setSize (bits w 8 0) (bits w 23 16)
    | 0x10 => s.mapPnl fun p =>
        if zero then p.raise pCfgErr
        else { p with shadow := { p.shadow with hbp := bits w 23 16, hsw := bits w 15 8, hfp := bits w 7 0 } }
    | 0x14 => s.mapPnl fun p =>
        if zero then p.raise pCfgErr
        else { p with shadow := { p.shadow with vbp := bits w 23 16, vsw := bits w 15 8, vfp := bits w 7 0 } }
    | 0x18 => s.mapPnl fun p =>
        if byteOf w 0 < byteOf w 8 ∧ byteOf w 8 < byteOf w 16 then
          { p with tempUi := bits w 27 24, temps := Vector.ofFn fun k : Fin 3 => byteOf w (8 * k.val) }
        else p.raise pCfgErr
    | 0x1C => s.mapPnl fun p => { p with duty := min 1000 (bits w 9 0) }
    | 0x20 => s.mapPnl fun p => { p with lim := bits w 7 0 }
    | 0x24 => s.mapPnl fun p => { p with int := p.int &&& ~~~(w.setWidth 7) }
    | 0x28 => s.mapPnl fun p => { p with intEn := w.setWidth 7 }
    | 0x40 => s.mapPnl fun p => p.pixel w
    | _ => s

def PnlSt.code : PnlSt → Nat
  | .off => 0
  | .rails => 1
  | .black => 2
  | .live => 3
  | .down => 4
  | .held => 5

def State.panelRead (s : State) (off : Nat) : Word :=
  let p := s.pnl
  let t := p.shadow
  let T (k : Fin 3) : Nat := unsignedOf 8 (vget p.temps k)
  if 0x800 ≤ off ∧ off < 0xC00 then BitVec.ofNat 32 (fieldAt p.od (off - 0x800) 4)
  else if 0x60 ≤ off ∧ off < 0x70 then BitVec.ofNat 32 (fieldAt p.railseq (off - 0x60) 4)
  else match off with
    | 0x00 => pack [flag 5 p.tempEn, flag 4 t.black15, flag 3 t.vsPol, flag 2 t.hsPol, flag 1 t.odEn, flag 0 p.on]
    | 0x04 => pack [at_ 16 p.fltRail, flag 12 s.panelThr, flag 11 p.crack, flag 10 p.railFlt,
        at_ 8 p.band, at_ 4 p.good.toNat, at_ 0 p.st.code]
    | 0x08 => at_ 0 t.pclk
    | 0x0C => pack [at_ 16 t.vact, at_ 0 t.hact]
    | 0x10 => pack [at_ 16 t.hbp, at_ 8 t.hsw, at_ 0 t.hfp]
    | 0x14 => pack [at_ 16 t.vbp, at_ 8 t.vsw, at_ 0 t.vfp]
    | 0x18 => pack [at_ 24 p.tempUi, at_ 16 (T 2), at_ 8 (T 1), at_ 0 (T 0)]
    | 0x1C => pack [at_ 16 s.blApplied, at_ 0 p.duty]
    | 0x20 => pack [at_ 16 p.ohms, at_ 0 p.lim]
    | 0x24 => at_ 0 p.int.toNat
    | 0x28 => at_ 0 p.intEn.toNat
    | 0x2C => pack [at_ 16 p.railFaults, at_ 0 p.underruns]
    | _ => 0

/-! ### The PNL domain's clock (R163, R636) -/

/-- What a held write does: a set ON is ignored, since the panel was not allowed when it was written (R628). (log 106: DEDUCED) -/
def State.panelApply (s : State) (off : Nat) (w : Word) : State :=
  if off = 0 ∧ bit w 0 then s.panelWrite off ((w &&& 0xFFFFFFFE#32) ||| flag 0 s.pnl.on) else s.panelWrite off w

/-- A write of the window: held while the domain is stopped, in place of an earlier held one to the same register. (log 106: DEDUCED; log 116: DEDUCED) -/
def State.panelBusWrite (s : State) (off : Nat) (w : Word) : State :=
  if s.panelAllowed then s.panelWrite off w
  else s.mapPnl fun p => { p with crossing := (p.crossing.filter fun x => decide (x.1 ≠ off)) ++ [(off, w)] }

/-- A read of the window: of a register with a held write, the value of that write. -/
def State.panelBusRead (s : State) (off : Nat) : Word :=
  match s.pnl.crossing.find? fun x => decide (x.1 = off) with
  | some x => (s.panelApply off x.2).panelRead off
  | none => s.panelRead off

/-- A row that writes one register of the window: while the domain is stopped it is a held write of the word. (log 106: DEDUCED) -/
def State.panelCommand (s : State) (off : Nat) (w : Word) (f : State → State) : State :=
  if s.panelAllowed then f s else s.panelBusWrite off w

/-- PNL_CTRL as it reads, with one bit set. -/
def State.ctrlWith (s : State) (b : Nat) : Word := s.panelBusRead 0 ||| flag b true

/-- The domain's clock stops, with THR_ENF as the panel took it until then, and the power-down begins (R628, R636). -/
def State.panelClockStop (s : State) (thr : Bool) : State := s.mapPnl fun p => { p with thrSeen := thr }.powerDown

/-- The domain's clock starts: held writes take effect. (log 106: DEDUCED; log 116: DEDUCED) -/
def State.panelClockStart (s : State) : State :=
  if s.panelAllowed then
    s.pnl.crossing.foldl (fun s x => s.panelApply x.1 x.2) (s.mapPnl fun p => { p with crossing := [] })
  else s

/-! ### Commands -/

/-- PANEL_ON: PNL_CTRL with ON set and its other fields as they stand. -/
def execPanelOn (n : Fin 4) (user : Bool) (s : State) : Result :=
  .next (s.access (.lodger n user) .store 0x40090000 fun s => (s.answer 0).panelCommand 0 (s.ctrlWith 0) State.panelOn)

/-- PANEL_OFF. -/
def execPanelOff (n : Fin 4) (user : Bool) (s : State) : Result :=
  .next (s.access (.lodger n user) .store 0x40090000 fun s => (s.answer 0).panelCommand 0 (s.panelBusRead 0 &&& 0xFFFFFFFE#32) State.panelOff)

/-- RAIL_STEP_DELAY. -/
def execRailStepDelay (s : State) : Result := .next (s.mapPnl Pnl.driveRail)

/-- RAIL_GOOD. -/
def execRailGood (r : Fin 3) (s : State) : Result := .next (s.mapPnl fun p => p.railGood r)

/-- RAIL_TIMEOUT. -/
def execRailTimeout (s : State) : Result := .next s.railTimeout

/-- RAIL_LOST. -/
def execRailLost (r : Fin 3) (s : State) : Result := .next (s.railLost r)

/-- PANEL_RESET_RELEASE. -/
def execPanelResetRelease (s : State) : Result := .next (s.mapPnl fun p => p.releaseReset s.panelWarm)

/-- FRAME_START. -/
def execFrameStart (s : State) : Result := .next (s.mapPnl fun p => p.frame s.panelWarm)

/-- LINE_START. -/
def execLineStart (s : State) : Result := .next s.lineStart

/-- RESYNC. -/
def execResync (n : Fin 4) (user : Bool) (s : State) : Result :=
  .next (s.access (.lodger n user) .store 0x40090000 fun s => (s.answer 0).panelCommand 0 (s.ctrlWith 7) fun s => s.mapPnl Pnl.setResync)

/-- PIXEL_WRITE by a Lodger: PNL_PIX lies at 0x4009_0040. -/
def execPixelWrite (n : Fin 4) (user : Bool) (w : Word) (s : State) : Result :=
  .next (s.access (.lodger n user) .store 0x40090040 fun s => (s.answer 0).panelCommand 0x40 w fun s => s.mapPnl fun p => p.pixel w)

/-- BACKLIGHT_START. -/
def execBacklightStart (s : State) : Result :=
  .next (s.mapPnl fun p => if p.st = .live ∨ p.st = .held then { p with lit := true } else p)

/-- RAIL_OFF_STEP. -/
def execRailOffStep (s : State) : Result := .next (s.mapPnl Pnl.offStep)

/-- CRACK_MEASURE. -/
def execCrackMeasure (ohms : Nat) (s : State) : Result := .next (s.crackMeasure ohms)

/-- CRK_CLR. -/
def execCrkClr (n : Fin 4) (user : Bool) (s : State) : Result :=
  .next (s.access (.lodger n user) .store 0x40090000 fun s => (s.answer 0).panelCommand 0 (s.ctrlWith 8) State.crackClear)

end Sys2Proof.Machine
end

