-- ==== Sys2Proof/Machine/Out.lean ====
section
/-! DEFINITION. The output block: readback, strokes, faults and heater periods (R353 to R373). -/

namespace Sys2Proof.Machine

def State.ao (s : State) (n : Fin 8) : AoOut := vget s.out.ao n

def State.mapAo (s : State) (n : Fin 8) (f : AoOut → AoOut) : State := s.mapOut fun b => { b with ao := vmod b.ao n f }

def State.dout (s : State) (k : Fin 12) : DoOut := vget s.out.dos k

def State.mapDo (s : State) (k : Fin 12) (f : DoOut → DoOut) : State := s.mapOut fun b => { b with dos := vmod b.dos k f }

/-- Gate outputs of AO `n` and DO `k`. -/
def aoGate (n : Fin 8) : Fin 30 := ⟨n.val, by omega⟩
def doGate (k : Fin 12) : Fin 30 := ⟨8 + k.val, by omega⟩

/-- Bits of OUT_INT (Table 10-8). -/
def State.outInt (s : State) (b : BitVec 4) : State := s.mapOut fun o => { o with int := o.int ||| b }
def outFault : BitVec 4 := 1
def outStroke : BitVec 4 := 2
def outStrFlt : BitVec 4 := 4
def outCfgErr : BitVec 4 := 8

/-- R371: a newly set fault flag. (log 80: DEDUCED) -/
def State.faultSet (s : State) (was : Bool) : State := if was then s else s.outInt outFault

/-- Readback, stroke timing, OPEN_LOAD and the retry timer run (R372, R373). (log 79: DEDUCED) -/
def State.outRuns (s : State) : Bool := s.awake && s.out.running

/-- The cut-offs act from step 14 in every mode except Off, in a flush and after a thermal shutdown too, and R373 stops no other
fault detection but the ones `outRuns` guards. (log 79: DEDUCED) -/
def State.cutOffs (s : State) : Bool :=
  s.out.running && decide (s.live ∨ s.power.phase = .flushing ∨ s.power.phase = .shutdown ∨ s.power.phase = .halted)

/-- R371: the log entry of a fault of a gate index, which the Innkeeper raises as long as it runs: in a flush too, and until the end of
a thermal shutdown. (log 79: DEDUCED) -/
def State.outLog (s : State) (i kind : Nat) : State :=
  if s.live || decide (s.power.phase = .flushing ∨ s.power.phase = .shutdown) then s.logEvent 0x0401 (leBytes 1 i ++ leBytes 1 kind) else s

/-! ### Analog outputs (R355, R370) -/

/-- AO_READBACK: one measurement of the pin in mV. -/
def State.readback (s : State) (n : Fin 8) (mv : Nat) : State :=
  if s.outRuns then
    let a := s.ao n
    let v := satTo 16 mv
    let want := (s.outp (aoGate n)).applied
    let d := if v < want then want - v else v - want
    let out := decide (a.rbTol * 10 < d)
    let miss := if out then satInc 20 a.rbMiss else 0
    let hit := if out then 0 else satInc 20 a.rbHit
    let err := if miss = 20 then true else if hit = 20 then false else a.rbErr
    (s.mapAo n fun a => { a with rb := v, rbMiss := miss, rbHit := hit, rbErr := err }).faultSet (a.rbErr || !err)
  else s

/-- The pin is high impedance: in Off, without VAO or VIO (R360, R657), or with its stage disconnected after OVERVOLT. -/
def State.aoHiz (s : State) (n : Fin 8) : Bool :=
  decide (s.power.phase = .off) || !s.power.vioOk || !s.power.vaoOk || (s.ao n).overvolt

/-- AO_OVERVOLT. -/
def State.aoOvervolt (s : State) (n : Fin 8) : State :=
  if s.cutOffs && !s.aoHiz n then
    ((s.mapAo n fun a => { a with overvolt := true }).outInt outFault).outLog n.val 1
  else s

/-! ### Strokes (R364 to R366) -/

/-- The end of a measurement with a result. -/
def State.strokeResult (s : State) (n : Fin 8) (opening : Bool) (start : Nat) : State :=
  let t := satTo 16 (openQuot (s.now - start) 10000)
  let s := s.mapAo n fun a => { a with
    stroke := none, strDir := opening, strokeLast := t, strokeCount := satInc 0xFFFF a.strokeCount }
  (s.outInt outStroke).wearSample 5 n.val t fun e => decide ((e.flags % 2 = 1) = opening)

/-- R364, R365: one output at a sense swap. -/
def State.strokeSwap (s : State) (n : Fin 8) : State :=
  match (s.ao n).stroke with
  | none => s
  | some (opening, start) =>
    match idx? 16 (s.ao n).strokeUi with
    | none => s
    | some u =>
      let r := (vget s.sns.uis u).shown
      let v := F32.ofBits r.val
      if !r.valid then s.mapAo n fun a => { a with stroke := none }
      else if (if opening then F32.le (F32.ofNat 90) v else F32.le v (F32.ofNat 10)) then s.strokeResult n opening start
      else s

def State.strokesAtSwap (s : State) : State :=
  if s.outRuns then (List.finRange 8).foldl State.strokeSwap s else s

/-- STROKE_TIMEOUT (R366). -/
def State.strokeTimeout (s : State) (n : Fin 8) : State :=
  if s.outRuns && (s.ao n).stroke.isSome then
    ((s.mapAo n fun a => { a with stroke := none, strFlt := true }).outInt
      (outStrFlt ||| (if (s.ao n).strFlt then 0 else outFault))).outLog n.val 3
  else s

/-! ### Relay drivers (R370) -/

/-- The switch conducts. (log 78: DEDUCED) -/
def State.doOn (s : State) (k : Fin 12) : Bool :=
  decide ((s.outp (doGate k)).applied = 1) && !(s.dout k).driverOff && !(s.dout k).latched

/-- The switch has conducted within the present µs: a gate change of the same µs may have opened it since (Table 10-4). -/
def State.doConducted (s : State) (k : Fin 12) : Bool :=
  s.doOn k || (decide ((s.outp (doGate k)).changedAt = some s.now) && !(s.dout k).driverOff && !(s.dout k).latched)

/-- DO_OVERCURRENT: the driver goes off; after a retry, the retry has failed, and the third failure latches. -/
def State.overcurrent (s : State) (k : Fin 12) : State :=
  if s.cutOffs && s.doConducted k then
    let d := s.dout k
    let n := if d.overcur then satInc 255 d.retry else d.retry
    let lat := decide (3 ≤ n)
    let s := (s.mapDo k fun d => { d with overcur := true, driverOff := true, retry := n, latched := lat }).faultSet (d.overcur && !lat)
    if lat then s.outLog (8 + k.val) 2 else s
  else s

/-- DO_RETRY. (log 78: DEDUCED) -/
def State.doRetry (s : State) (k : Fin 12) : State :=
  if s.outRuns && decide ((s.outp (doGate k)).applied = 1) && !(s.dout k).latched && (s.dout k).driverOff then
    (s.mapDo k fun d => { d with driverOff := false }).countClose k
  else s

/-- OUT_DO_CLR: a relay that closes by it counts (R356). -/
def State.doClear (s : State) (w : Word) : State :=
  s.mapOut fun b =>
    { b with
      dos := Vector.ofFn fun k : Fin 12 =>
        let d := vget b.dos k
        let closes := (d.latched || d.driverOff) && decide ((s.outp (doGate k)).applied = 1)
        if bit w k.val then
          { d with latched := false, overcur := false, retry := 0, driverOff := false,
                   cyc := if closes then satInc 0xFFFFFFFF d.cyc else d.cyc }
        else d }

/-- HEATER_PERIOD_START (R357): duty and PERIOD as they stand now. The counters run on the NP clock in every mode except Off (R167). -/
def State.heaterStart (s : State) (k : Fin 4) : State :=
  if s.inkAlive then s.heaterRestart ⟨20 + k.val, by omega⟩ (s.outp ⟨20 + k.val, by omega⟩).applied else s

/-- R373: on entry to Standby strokes are abandoned; at the wake every count starts afresh. (log 79: DEDUCED) -/
def State.outStandby (s : State) : State := s.mapOut fun b => { b with ao := b.ao.map fun a => { a with stroke := none } }
def State.outWake (s : State) : State := s.mapOut fun b => { b with ao := b.ao.map fun a => { a with rbMiss := 0, rbHit := 0 } }

/-! ### The OUT window at 0x4004_0000 -/

def State.aoStat (s : State) (n : Fin 8) : Word :=
  let a := s.ao n
  pack [at_ 16 a.rb, flag 8 a.strDir, flag 7 a.stroke.isSome, flag 5 (s.aoHiz n), flag 4 a.strFlt, flag 3 (s.out.running && !s.power.vaoOk),
    flag 2 a.overvolt, flag 1 a.overload, flag 0 a.rbErr]

def State.outRead (s : State) (off : Nat) : Word :=
  if off < 0x80 then (match idx? 8 (off / 0x10) with
    | some n =>
      let a := s.ao n
      match off % 0x10 with
      | 0x0 => pack [at_ 24 a.strokeMax, at_ 16 a.strokeUi, flag 15 a.strokeEn, at_ 0 a.rbTol]
      | 0x4 => s.aoStat n
      | 0x8 => pack [at_ 16 a.strokeCount, at_ 0 a.strokeLast]
      | _ => 0
    | none => 0)
  else if 0x100 ≤ off ∧ off < 0x160 then (match idx? 12 ((off - 0x100) / 8) with
    | some k =>
      let d := s.dout k
      match off % 8 with
      | 0 => pack [at_ 8 d.retry, flag 3 (s.doOn k), flag 2 d.latched, flag 1 d.openLoad, flag 0 d.overcur]
      | 4 => BitVec.ofNat 32 d.cyc
      | _ => 0
    | none => 0)
  else if 0x200 ≤ off ∧ off < 0x210 then (match idx? 4 ((off - 0x200) / 4) with
    | some k => at_ 0 (vget s.out.hts k).period
    | none => 0)
  else match off with
    | 0x300 => match s.out.dos.toList.findIdx? (·.climok) with
      | some k => pack [flag 7 true, at_ 0 k]
      | none => 0
    | 0x304 => at_ 0 s.out.int.toNat
    | 0x308 => at_ 0 s.out.intEn.toNat
    | _ => 0

/-- A write of OUT_AOn_CFG (R369). -/
def State.aoCfg (s : State) (n : Fin 8) (w : Word) : State :=
  if bits w 31 24 = 0 ∨ bits w 7 0 = 0 then s.outInt outCfgErr
  else s.mapAo n fun a => { a with strokeMax := bits w 31 24, strokeUi := bits w 19 16, strokeEn := bit w 15, rbTol := bits w 7 0 }

def State.outWrite (s : State) (off : Nat) (w : Word) : State :=
  if off < 0x80 then (match idx? 8 (off / 0x10) with
    | some n =>
      match off % 0x10 with
      | 0x0 => s.aoCfg n w
      | 0x4 => s.mapAo n fun a => { a with strFlt := a.strFlt && !bit w 4 }
      | _ => s
    | none => s)
  else if 0x200 ≤ off ∧ off < 0x210 then (match idx? 4 ((off - 0x200) / 4) with
    | some k =>
      if bits w 7 0 = 0 then s.outInt outCfgErr
      else s.mapOut fun b => { b with hts := vmod b.hts k fun h => { h with period := bits w 7 0 } }
    | none => s)
  else match off with
    | 0x304 => s.mapOut fun b => { b with int := b.int &&& ~~~(w.setWidth 4) }
    | 0x308 => s.mapOut fun b => { b with intEn := w.setWidth 4 }
    | 0x30C => s.doClear w
    | _ => s

/-! ### Commands -/

/-- AO_READBACK, with the pin voltage in mV. -/
def execAoReadback (n : Fin 8) (mv : Nat) (s : State) : Result := .next (s.readback n mv)

/-- AO_OVERLOAD: the output has been in current limit for 10 ms. -/
def execAoOverload (n : Fin 8) (s : State) : Result :=
  .next (if s.cutOffs && !s.aoHiz n then (s.mapAo n fun a => { a with overload := true }).faultSet (s.ao n).overload else s)

/-- AO_OVERLOAD_CLEAR. -/
def execAoOverloadClear (n : Fin 8) (s : State) : Result :=
  .next (if s.cutOffs then s.mapAo n fun a => { a with overload := false } else s)

/-- AO_OVERVOLT. -/
def execAoOvervolt (n : Fin 8) (s : State) : Result := .next (s.aoOvervolt n)

/-- AO_RECONNECT_TRY, and whether the pin stays below 11.5 V. -/
def execAoReconnectTry (n : Fin 8) (ok : Bool) (s : State) : Result :=
  .next (if s.cutOffs && ok then s.mapAo n fun a => { a with overvolt := false } else s)

/-- STROKE_TIMEOUT. -/
def execStrokeTimeout (n : Fin 8) (s : State) : Result := .next (s.strokeTimeout n)

/-- DO_OVERCURRENT. -/
def execDoOvercurrent (k : Fin 12) (s : State) : Result := .next (s.overcurrent k)

/-- DO_OVERCURRENT_CLEAR: the driver has run for 1 s. -/
def execDoOvercurrentClear (k : Fin 12) (s : State) : Result :=
  .next (if s.cutOffs && s.doOn k then s.mapDo k fun d => { d with overcur := false, retry := 0 } else s)

/-- DO_RETRY. -/
def execDoRetry (k : Fin 12) (s : State) : Result := .next (s.doRetry k)

/-- DO_OPEN_LOAD: driver off and the drain below 2 V for 100 ms. -/
def execDoOpenLoad (k : Fin 12) (s : State) : Result :=
  .next (if s.outRuns && !s.doOn k then (s.mapDo k fun d => { d with openLoad := true }).faultSet (s.dout k).openLoad else s)

/-- DO_OPEN_LOAD_CLEAR: the drain above 2 V for 100 ms. -/
def execDoOpenLoadClear (k : Fin 12) (s : State) : Result :=
  .next (if s.outRuns then s.mapDo k fun d => { d with openLoad := false } else s)

/-- DO_CLEAR: OUT_DO_CLR lies at 0x4004_030C. -/
def execDoClear (n : Fin 4) (user : Bool) (w : Word) (s : State) : Result :=
  .next (s.access (.lodger n user) .store 0x4004030C fun s => (s.answer 0).doClear w)

/-- HEATER_PERIOD_START. -/
def execHeaterPeriodStart (k : Fin 4) (s : State) : Result := .next (s.heaterStart k)

end Sys2Proof.Machine
end

