-- ==== Sys2Proof/Machine/Temper.lean ====
section
/-! DEFINITION. The temperature formulas of R236 (NTC and Pt1000), in fixed point, and the errors that Table 07-1 allows. Degrees
are counted in millionths. -/

namespace Sys2Proof.Machine

/-- Terms of the series of artanh for an argument whose square is `z2` (in units of 2 ^ -64). -/
def artanhTerms : Nat → Nat → Nat → Nat → Nat
  | 0, _, _, _ => 0
  | f + 1, k, p, z2 => p / (2 * k + 1) + artanhTerms f (k + 1) (p * z2 / 2 ^ 64) z2

/-- ln (n / d) in units of 2 ^ -64: the power of two of the quotient, and the series for the rest. -/
def lnFix (n d : Nat) : Int :=
  let x := n * 2 ^ 64 / d
  let e : Nat := x.log2
  let m := x * 2 ^ 64 / 2 ^ e
  let z := (m - 2 ^ 64) * 2 ^ 64 / (m + 2 ^ 64)
  ((e : Int) - 64) * 12786308645202655659 + 2 * (artanhTerms 20 0 z (z * z / 2 ^ 64) : Nat)

/-- T − 273.15 of an NTC input: 1/T = C0 + C1 × ln(R) + C2 × (ln(R))³, with R in mΩ. None where a coefficient is not finite or
the sum is not above 0. -/
def ntcMicro (c0 c1 c2 : Word) (res : Nat) : Option Int :=
  match F32.ofBits c0, F32.ofBits c1, F32.ofBits c2 with
  | .fin s0 m0, .fin s1 m1, .fin s2 m2 =>
    let l := lnFix res 1000
    let inv := F32.units s0 m0 * (2 ^ 64 : Nat) + F32.units s1 m1 * l + F32.units s2 m2 * (l * l * l) / (2 ^ 128 : Nat)
    if res = 0 ∨ inv ≤ 0 then none else some ((1000000 * 2 ^ 213 : Nat) / inv - 273150000)
  | _, _, _ => none

/-- 1/T of an NTC input is not above 0, or grows without bound at R = 0, so that no temperature of its range has the resistance. -/
def ntcBeyond (c0 c1 c2 : Word) (res : Nat) : Bool :=
  match F32.ofBits c0, F32.ofBits c1, F32.ofBits c2 with
  | .fin _ _, .fin _ m1, .fin _ m2 => (ntcMicro c0 c1 c2 res).isNone && decide (res ≠ 0 ∨ m1 ≠ 0 ∨ m2 ≠ 0)
  | _, _, _ => false

/-- Resistance of a Pt1000 at a temperature, in 10 ^ -30 µΩ, with the coefficients of IEC 60751. (log 133: PRESUMED) -/
def pt1000At (x : Int) : Int :=
  (10 ^ 39 : Nat) + 39083 * (10 ^ 26 : Nat) * x - 5775 * (10 ^ 17 : Nat) * x * x -
    (if x < 0 then 4183 * (x - (10 ^ 8 : Nat)) * x * x * x else 0)

/-- The highest temperature of a range at which the resistance is not above a target: halving. -/
def pt1000Halve : Nat → Int → Int → Int → Int
  | 0, lo, _, _ => lo
  | f + 1, lo, hi, r => let m := (lo + hi) / 2; if pt1000At m ≤ r then pt1000Halve f m hi r else pt1000Halve f lo m r

/-- Temperature of a Pt1000 input: R less C0, with R in mΩ and C0 in Ω. None outside −200 to +850 °C, for which IEC 60751 gives its
coefficients. (log 133: PRESUMED) -/
def pt1000Micro (c0 : Word) (res : Nat) : Option Int :=
  match F32.ofBits c0 with
  | .fin s m =>
    let r := ((res : Int) * (2 ^ 149 : Nat) - 1000 * F32.units s m) * (10 ^ 33 : Nat) / (2 ^ 149 : Nat)
    if r < pt1000At (-200000000) ∨ pt1000At 850000000 < r then none else some (pt1000Halve 40 (-200000000) 850000001 r)
  | _ => none

/-- R less C0 lies outside what IEC 60751 gives its coefficients for. -/
def pt1000Beyond (c0 : Word) (res : Nat) : Bool :=
  match F32.ofBits c0 with
  | .fin _ _ => (pt1000Micro c0 res).isNone
  | _ => false

/-- A converted value within the error that a table allows: the converter's own where it is one, and else the formula's. -/
def withinError (w : Word) (ideal tol : Int) : Word :=
  let good := match F32.ofBits w with
    | .fin s m => decide ((F32.units s m * 1000000 - ideal * (2 ^ 149 : Nat)).natAbs ≤ (tol * (2 ^ 149 : Nat)).natAbs)
    | _ => false
  if good then w else (F32.round (decide (ideal < 0)) (ideal.natAbs * 2 ^ 149) 1000000).toBits

/-- A measurement: the formula's value within the error that Table 07-1 gives, the smaller one in its inner range. Outside the
measuring range the formula holds as well (R236, R244); no error is stated there, and the one of the range's edges is kept.
(log 8: DESIGN CHOICE) -/
def measured (w : Word) (t : Option Int) (inLo inHi : Int) (inTol tol : Int) : Word :=
  match t with
  | some x => withinError w x (if inLo ≤ x ∧ x ≤ inHi then inTol else tol)
  | none => w

/-- VAL of an NTC input: ±0.2 °C from −20 to +70 °C, ±0.5 °C elsewhere in −40 to +125 °C. (log 8: DESIGN CHOICE) -/
def ntcVal (c0 c1 c2 : Word) (res : Nat) : Word :=
  measured (Config.ntcCelsius c0 c1 c2 res) (ntcMicro c0 c1 c2 res) (-20000000) 70000000 200000 500000

/-- VAL of a Pt1000 input: ±0.1 °C from −40 to +85 °C, ±0.3 °C elsewhere in −50 to +150 °C. (log 8: DESIGN CHOICE) -/
def pt1000Val (c0 : Word) (res : Nat) : Word :=
  measured (Config.pt1000Celsius c0 res) (pt1000Micro c0 res) (-40000000) 85000000 100000 300000

end Sys2Proof.Machine
end

