-- ==== Sys2Proof/Machine/Thm.lean ====
section
/-! DEFINITION. The thermal block: levels, throttle, windows, sensor faults and shutdown (R200 to R234). -/

namespace Sys2Proof.Machine

def State.thmInt (s : State) (b : Nat) : State := s.mapThm fun t => { t with int := t.int ||| BitVec.ofNat 5 (2 ^ b) }

/-- The body of events 0x0201 to 0x0203: Tj as THM_TJ. -/
def State.tjBytes (s : State) : List Byte := leBytes 2 (unsignedOf 16 s.thm.tj)

/-! ### Levels (R202 to R207) -/

/-- The levels in force in °C, and whether they are the defaults of R203. -/
def Thm.levels (t : Thm) : Nat × Nat × Nat × Bool :=
  let w := clampNat t.warnLevel 85 140
  let r := clampNat t.throttleLevel 95 145
  let d := clampNat t.shutdownLevel 105 150
  if w < r ∧ r < d then (w, r, d, false) else (125, 135, 145, true)

/-- A hysteresis in force (Table 06-1). -/
def hysOf (n : Nat) : Nat := clampNat n 2 15

/-- R202: whether a level stands after a conversion. -/
def levelAfter (was : Bool) (tj : Int) (level hys : Nat) : Bool :=
  if was then !decide (tj < 8 * ((level : Int) - hys)) else decide (8 * (level : Int) ≤ tj)

/-- The Lodgers run, so that a throttle request can be raised (R234). -/
def State.lodgersRun (s : State) : Bool := s.awake

/-- R208: the request is raised, and the grace timer starts. -/
def State.raiseThrottle (s : State) : State :=
  (s.mapThm fun t => { t with thrReq := true, graceRuns := true, comply := 0 }).thmInt 1

/-- R234: a throttle level that stands raises its request once the Lodgers run. A request that stood before Standby stands on with
its grace timer, and is not raised anew. (log 132: DESIGN CHOICE) -/
def State.throttleResume (s : State) : State :=
  if s.thm.throttled && !s.thm.thrReq && s.lodgersRun then s.raiseThrottle else s

/-- R208: throttle is entered. The notice and the log entry go at once; the request waits while the Lodgers are stopped. (log 62: DEDUCED) -/
def State.throttleEntered (s : State) : State :=
  (((s.mapThm fun t => { t with throttled := true }).throttleNotice 0).logEvent 0x0202 s.tjBytes).throttleResume

/-- R212: throttle is left. (log 62: DEDUCED) -/
def State.throttleLeft (s : State) : State :=
  (s.mapThm fun t => { t with throttled := false, thrReq := false, thrEnf := false, comply := 0, graceRuns := false }).thmInt 2

/-- Warning and throttle at a conversion (R206 to R208, R212). -/
def State.thmLevels (s : State) : State :=
  let l := s.thm.levels
  let s := s.mapThm fun t => { t with cfgBad := l.2.2.2 }
  let w := levelAfter s.thm.warn s.thm.tj l.1 (hysOf s.thm.warnHys)
  let newW := w && !s.thm.warn
  let s := s.mapThm fun t => { t with warn := w }
  let s := if newW then (s.thmInt 0).logEvent 0x0201 s.tjBytes else s
  let r := levelAfter s.thm.throttled s.thm.tj l.2.1 (hysOf s.thm.throttleHys)
  if r && !s.thm.throttled then s.throttleEntered
  else if !r && s.thm.throttled then s.throttleLeft
  else s

/-! ### Windows (R215 to R217) -/

/-- A window with its hysteresis. -/
def windowAfter (was : Bool) (x low high hys : Int) : Bool :=
  if was then decide (low ≤ x ∧ x ≤ high) else decide (low + hys ≤ x ∧ x ≤ high - hys)

/-- The board temperature, while its input is valid; one that is not finite estimates nothing, and counts as unavailable.
(log 143: DESIGN CHOICE) -/
def State.boardTemp (s : State) (ui : Nat) : Option F32 :=
  match idx? 16 ui with
  | some u =>
    let r := (vget s.sns.uis u).shown
    let v := F32.ofBits r.val
    if r.valid && v.isFinite then some v else none
  | none => none

/-- The board charging window (R216). -/
def boardAfter (was : Bool) (v : Option F32) (low high : Int) : Bool :=
  match v with
  | none => false
  | some x =>
    if was then F32.le (F32.ofInt low) x && F32.le x (F32.ofInt high)
    else F32.le (F32.ofInt (low + 2)) x && F32.le x (F32.ofInt (high - 2))

/-- THM_STAT.CHG_WIN. -/
def Thm.chgWin (t : Thm) : Bool := t.dieWin && (!t.boardEn || t.boardWin)

/-- A change of what the windows rest on; a window in force that changes with it raises THM_INT.WIN (R217). -/
def State.mapWindows (s : State) (f : Thm → Thm) : State :=
  let t := f s.thm
  let changed := decide (t.ledgerWin ≠ s.thm.ledgerWin ∨ t.chgWin ≠ s.thm.chgWin)
  let s := s.mapThm fun _ => t
  if changed then s.thmInt 4 else s

/-- Seal slot 14. -/
def Thm.loadBoard (t : Thm) (v : List Byte) : Thm :=
  { t with
    boardEn := decide (fieldAt v 0 1 = 1), boardUi := fieldAt v 1 1 % 16, boardNext := none
    boardLow := signed 8 (fieldAt v 2 1), boardHigh := signed 8 (fieldAt v 3 1) }

/-- Seal slot 8. -/
def Thm.load (t : Thm) (v : List Byte) : Thm :=
  { t with
    warnLevel := fieldAt v 0 1, throttleLevel := fieldAt v 1 1, shutdownLevel := fieldAt v 2 1, levelNext := none
    warnHys := fieldAt v 3 1, throttleHys := fieldAt v 4 1, shutdownHys := fieldAt v 5 1, crossCheck := decide (fieldAt v 6 1 = 1) }

/-- A changed seal slot 8 acts from the next conversion on (R204, Table 12-4). -/
def Thm.takeLevels (t : Thm) : Thm :=
  match t.levelNext with
  | some v => t.load v
  | none => t

/-- A changed seal slot 14 acts from the next conversion on (Table 12-4). -/
def Thm.takeBoard (t : Thm) : Thm :=
  match t.boardNext with
  | some v => t.loadBoard v
  | none => t

/-- The windows at a conversion. -/
def State.thmWindows (s : State) : State :=
  s.mapWindows fun t => let t := t.takeBoard
    { t with
    ledgerWin := windowAfter t.ledgerWin t.tj (-240) 920 24
    dieWin := windowAfter t.dieWin t.tj (-240) 800 24
    boardWin := boardAfter t.boardWin (s.boardTemp t.boardUi) t.boardLow t.boardHigh }

/-- R216: the board window counts as closed from the moment its input is shown invalid. -/
def State.boardCheck (s : State) : State :=
  s.mapWindows fun t => { t with boardWin := t.boardWin && (s.boardTemp t.boardUi).isSome }

/-! ### Sensor faults (R219, R226 to R230) -/

/-- A sensor fault stands. -/
def Thm.faulty (t : Thm) : Bool := t.range || t.selftest || t.neighbour

/-- A sensor fault is detected; R227 applies to a fault that does not stand yet. Kinds: 1 RANGE, 2 SELFTEST, 3 NEIGHBOUR. (log 61: DEDUCED) -/
def State.sensorFault (s : State) (k : SensorFault) : State :=
  let t := s.thm
  let stood := match k with
    | .range => t.range
    | .selftest => t.selftest
    | .neighbour => t.neighbour
  let kind := match k with
    | .range => 1
    | .selftest => 2
    | .neighbour => 3
  if stood then s else
    let s := s.mapThm fun t => { t with
      range := t.range || decide (k = .range), selftest := t.selftest || decide (k = .selftest)
      neighbour := t.neighbour || decide (k = .neighbour), faultKind := kind, faultCnt := satInc 0xFF t.faultCnt }
    (s.thmInt 3).logEvent 0x0203 (s.tjBytes ++ leBytes 1 kind)

/-- R219, R220: Tj in use. (log 61: DEDUCED) -/
def Thm.use (t : Thm) : Thm :=
  if !t.faulty then { t with tj := t.reading, source := 0, held := t.reading }
  else match t.crossCheck, t.estimate with
    | true, some e => { t with tj := e, source := 1 }
    | _, _ => { t with tj := t.held, source := 2 }

/-- The thermal block runs: from step 1 of Table 03-2 on, in every mode except Off (R200, R218, R231), until a shutdown halts the
device. -/
def State.thmRuns (s : State) : Bool := s.inkAlive || decide (s.power.phase = .flushing)

/-- A shutdown can be caused (R221): where boot stopped at step 2 the latch is set and every output Blank already. (log 168: DEDUCED) -/
def State.thmTrips (s : State) : Bool := s.thmRuns && decide (s.power.phase ≠ .latched)

/-- R148: a write window that closes in a flush has let a free number of lines into the cells, and one that opens lets the flush go on.
(log 149: DEDUCED) -/
def State.flushWindow (s : State) (was : Bool) : State :=
  if s.power.phase = .flushing ∧ s.thm.ledgerWin ≠ was then
    if was then (s.mapDraws (· + 1)).mapPower fun p => { p with flushCap := some (Config.flushedLines s.draws) }
    else s.mapPower fun p => { p with flushCap := none }
  else s

/-- TJ_CONVERSION, with the diode's reading in 0.125 °C. While boot waits at step 2 it waits at any temperature (R232), so that the
programmable level causes no shutdown there. (log 61: DEDUCED; log 136: DESIGN CHOICE) -/
def State.conversion (s : State) (reading : Int) : State :=
  if s.thmRuns then
    let s := s.mapThm fun t => { t.takeLevels with reading := reading }
    let s := if reading < -480 ∨ 1600 < reading then s.sensorFault .range else s
    let s := (((s.mapThm Thm.use).thmLevels).thmWindows).flushWindow s.thm.ledgerWin
    if 8 * (s.thm.levels.2.2.1 : Int) ≤ s.thm.tj ∧ s.power.phase ≠ .tooHot ∧ s.thmTrips = true then s.thermalShutdown 1 else s
  else s

/-- The heartbeat of a node that has arrived within the last 300 ms (R228); that the node has left since (R482) does not end it. -/
def State.freshBeat (s : State) (n : Nat) : Option Member :=
  s.grd.latest.find? fun m => decide (m.node = n) && (match m.heardAt with
    | some t => decide (s.now ≤ t + 300000)
    | none => false)

/-- A neighbour's temperature in units of 2 ^ -149 °C, while it is available (R228). -/
def State.neighbourTemp (s : State) (n : Neighbour) : Option Int :=
  let off := n.offset * (2 ^ 146 : Nat)
  match n.kind with
  | 1 => match s.boardTemp n.id with
    | some (.fin neg m) => some (F32.units neg m + off)
    | _ => none
  | 2 =>
    let nodes := (s.image.getD {}).nodes
    match s.freshBeat n.id, nodes.find? (fun e => decide (e.node = n.id)), nodes.find? (fun e => decide (e.node = s.grd.node)) with
    | some m, some e, some me =>
      if e.cabinet = me.cabinet ∧ m.flags.testBit 2 = false then some (m.tj * (2 ^ 146 : Nat) + off) else none
    | _, _, _ => none
  | _ => none

/-- NEIGHBOUR_CHECK (R226, R229). -/
def State.neighbourCheck (s : State) : State :=
  if s.thmRuns then
    let l := (s.image.getD {}).neighbours.filterMap s.neighbourTemp
    let sum := l.foldl (· + ·) 0
    let n := l.length
    let s := s.mapThm fun t => { t with estimate := if n = 0 then none else some (openQuotInt sum (n * 2 ^ 146)) }
    if 0 < n ∧ 15 * 2 ^ 149 * n < (s.thm.reading * (2 ^ 146 * n : Nat) - sum).natAbs then s.sensorFault .neighbour else s
  else s

/-- SENSOR_FAULT_CLEAR (R226). -/
def State.sensorClear (s : State) : State :=
  if s.thm.faulty then (s.mapThm fun t => { t with range := false, selftest := false, neighbour := false }).thmInt 3 else s

/-- TOO_HOT_TIMEOUT (R230). -/
def State.tooHot (s : State) : State :=
  if s.thmTrips && s.thm.faulty && (!s.thm.crossCheck || s.thm.estimate.isNone) then s.thermalShutdown 3 else s

/-! ### Throttle enforcement (R209 to R211) -/

/-- Every Lodger that is started and not HELD has complied (R210). -/
def State.allComplied (s : State) : Bool :=
  (List.finRange 4).all fun n => s.thm.comply.getLsbD n.val || match (s.lodger n).run with
    | .running | .halted => false
    | .stopped | .held => true

/-- GRACE_EXPIRY (R210). -/
def State.graceExpiry (s : State) : State :=
  if s.thm.graceRuns && s.thm.thrReq then
    let s := s.mapThm fun t => { t with graceRuns := false }
    if s.allComplied then s
    else (s.mapThm fun t => { t with thrEnf := true, enfCnt := satInc 0xFF t.enfCnt }).throttleNotice 1
  else s

/-- The Lodger divider in force (R188, R210), as PWR_NIGHT and the enforcement give it. -/
def State.lodgerDivider (s : State) : Nat :=
  let night := match s.power.ldgDiv with
    | 0 => 2
    | 1 => 4
    | _ => 8
  let base := if s.power.mode = .nightHold then night else 1
  if s.thm.thrEnf then max base 4 else base

/-! ### The THM window at 0x4000_2000 -/

/-- A read of the window. THM_LEVEL and THM_HYST show the sealed bytes as they stand, also outside Table 06-1, not the values
that R203 puts in their place. (log 131: DESIGN CHOICE) -/
def State.thmRead (s : State) (off : Nat) : Word :=
  let t := s.thm
  match off with
  | 0x00 => pack [at_ 16 t.source, at_ 0 (unsignedOf 16 t.tj)]
  | 0x04 => pack [at_ 16 t.shutdownLevel, at_ 8 t.throttleLevel, at_ 0 t.warnLevel]
  | 0x08 => pack [at_ 8 (t.shutdownHys % 16), at_ 4 (t.throttleHys % 16), at_ 0 (t.warnHys % 16)]
  | 0x0C => pack [flag 24 t.boardEn, at_ 20 t.boardUi, flag 16 t.crossCheck, at_ 0 t.grace]
  | 0x10 => pack [at_ 8 (unsignedOf 8 t.boardHigh), at_ 0 (unsignedOf 8 t.boardLow)]
  | 0x14 => pack [at_ 12 t.faultKind, at_ 8 t.comply.toNat, flag 7 t.cfgBad, flag 6 t.faulty, flag 5 t.chgWin, flag 4 t.ledgerWin,
      flag 3 t.thrEnf, flag 2 t.thrReq, flag 1 t.warn]
  | 0x18 => at_ 0 t.int.toNat
  | 0x1C => at_ 0 t.intEn.toNat
  | 0x20 => pack [at_ 8 t.enfCnt, at_ 0 t.faultCnt]
  | 0x24 => at_ 0 s.power.thmLast
  | _ => 0

def State.thmWrite (s : State) (off : Nat) (w : Word) : State :=
  match off with
  | 0x18 => s.mapThm fun t => { t with int := t.int &&& ~~~(w.setWidth 5) }
  | 0x1C => s.mapThm fun t => { t with intEn := w.setWidth 5 }
  | _ => s

/-! ### Commands -/

/-- TJ_CONVERSION. (log 3: DESIGN CHOICE) -/
def execTjConversion (reading : Int) (s : State) : Result := .next (s.conversion reading)

/-- FIXED_SHUTDOWN_TRIP (R218): in every mode except Off, from step 1 of Table 03-2 on (R231). -/
def execFixedShutdownTrip (s : State) : Result := .next (if s.thmTrips then s.thermalShutdown 2 else s)

/-- SHUTDOWN_HALT (Table 06-3, step 5): every domain except NP and WD stops, the CAN controllers among them (R501). -/
def execShutdownHalt (s : State) : Result :=
  .next (if s.power.phase = .shutdown then (s.mapGrd Grd.halt).mapPower fun p => { p with phase := .halted, pllLock := 0 } else s)

/-- THERMAL_LATCH_CLEAR (R224): VIO has been below 1.0 V for more than 100 ms. A device that the latch kept stopped, or whose
boot would stop at it, is then without power. -/
def execThermalLatchClear (s : State) : Result :=
  .next (s.mapPower fun p => { p with
    thmLatch := false, vioOk := false
    phase := match p.phase with
      | .shutdown | .halted | .latched => .off
      | .reset => if p.thmLatch then .off else .reset
      | x => x })

/-- R201: the difference of two conversions at bias currents of 8 to 1 lies within ±5 % of the value expected at the reading,
which is the diode's own (Config.selftestDelta). (log 137: DESIGN CHOICE) -/
def State.selftestPass (s : State) (low high : Int) : Bool :=
  let e : Int := Config.selftestDelta s.thm.reading
  decide (20 * ((high - low) - e).natAbs ≤ e.natAbs)

/-- SELFTEST_STEP (R201): a step's two conversions, and those of the repeat that follows a failed step at once. Only a failed
repeat is a failure. -/
def execSelftestStep (low high low2 high2 : Int) (s : State) : Result :=
  .next (if s.thmRuns && !s.selftestPass low high && !s.selftestPass low2 high2 then s.sensorFault .selftest else s)

/-- NEIGHBOUR_CHECK. -/
def execNeighbourCheck (s : State) : Result := .next s.neighbourCheck

/-- SENSOR_FAULT_CLEAR. -/
def execSensorFaultClear (s : State) : Result := .next s.sensorClear

/-- TOO_HOT_TIMEOUT. -/
def execTooHotTimeout (s : State) : Result := .next s.tooHot

/-- GRACE_EXPIRY. -/
def execGraceExpiry (s : State) : Result := .next s.graceExpiry

end Sys2Proof.Machine
end

