-- ==== Sys2Proof/Machine/Sns.lean ====
section
/-! DEFINITION. The sense block: universal inputs, result block, I²C sensors, digital and counting inputs (R235 to R267). -/

namespace Sys2Proof.Machine

def State.ui (s : State) (n : Fin 16) : UiIn := vget s.sns.uis n

def State.mapUi (s : State) (n : Fin 16) (f : UiIn → UiIn) : State := s.mapSns fun b => { b with uis := vmod b.uis n f }

def State.snsInt (s : State) (b : Nat) : State := s.mapSns fun k => { k with int := k.int ||| BitVec.ofNat 4 (2 ^ b) }

/-- Scanning runs (R237, R265, R266). -/
def State.scanning (s : State) : Bool := s.awake && s.sns.running && s.sns.uiEn

/-! ### Conversions (R236, R246) -/

/-- C0 + (x / span) × (C1 − C0), computed exactly and rounded once: the forms of R236 for 0 to 10 V and 4 to 20 mA. With a
coefficient that is not finite binary32 arithmetic gives an infinity, or a NaN whose bits are open. (log 8: DESIGN CHOICE) -/
def scaled (c0 c1 : Word) (x span : Int) : Word :=
  match F32.ofBits c0, F32.ofBits c1 with
  | .fin s0 m0, .fin s1 m1 =>
    let u0 := F32.units s0 m0
    let u1 := F32.units s1 m1
    let n := u0 * span + x * (u1 - u0)
    (F32.round (decide (n < 0)) n.natAbs span.toNat).toBits
  | a, b =>
    match a.add ((F32.ofRatio (decide (x < 0)) x.natAbs span.toNat).mul (b.sub a)) with
    | .nan => Config.nanBits c0 c1 x
    | v => v.toBits

/-- `x` lies outside lo … hi in whole °C (T of Table 07-3). -/
def outsideC (v : Word) (lo hi : Int) : Bool :=
  F32.lt (F32.ofBits v) (F32.ofInt lo) || F32.lt (F32.ofInt hi) (F32.ofBits v)

/-- VAL of a conversion (R236). `res` is the resistance in mΩ; `level` the voltage in µV, or the current in nA of a 4 to
20 mA input. -/
def UiIn.convert (u : UiIn) (res : Nat) (level : Int) : Word :=
  match u.type with
  | 1 => ntcVal u.c0 u.c1 u.c2 res
  | 2 => pt1000Val u.c0 res
  | 3 => scaled u.c0 u.c1 level 10000000
  | 4 => scaled u.c0 u.c1 (level - 4000000) 16000000
  | 5 => if res < 1000000 then 0x3F800000 else if 10000000 < res then 0 else u.val
  | _ => u.val

/-- Table 07-3: which of OPEN, SHORT, OVER, REVERSED holds at a conversion that gave `v`. A resistance for which the formula of R236
gives no temperature at all, `beyond`, lies outside every range. -/
def wiring (type res : Nat) (level : Int) (v : Word) (beyond : Bool) : Vector Bool 4 :=
  match type with
  | 1 => #v[decide (1000000000 < res), decide (res < 50000), beyond || outsideC v (-40) 125, false]
  | 2 => #v[decide (2500000 < res), decide (res < 500000), beyond || outsideC v (-50) 150, false]
  | 3 => #v[false, false, decide (10500000 < level), decide (level < -500000)]
  | 4 => #v[decide (-500000 ≤ level ∧ level < 500000), decide (23000000 < level),
      decide ((500000 ≤ level ∧ level < 3600000) ∨ (21000000 < level ∧ level ≤ 23000000)), decide (level < -500000)]
  | 5 => #v[false, false, decide (3600000 < level), decide (level < -500000)]
  | _ => #v[false, false, false, false]

/-- The resistance lies beyond the temperatures that the input's formula knows. -/
def UiIn.beyond (u : UiIn) (res : Nat) : Bool :=
  match u.type with
  | 1 => ntcBeyond u.c0 u.c1 u.c2 res
  | 2 => pt1000Beyond u.c0 res
  | _ => false

/-- R246: a flag is set at once, and cleared after two consecutive conversions without its condition. -/
def UiIn.judge (u : UiIn) (c : Vector Bool 4) : UiIn :=
  { u with
    faults := Vector.ofFn fun i : Fin 4 => vget c i || (vget u.faults i && decide (vget u.clean i < 1))
    clean := Vector.ofFn fun i : Fin 4 => if vget c i then 0 else if vget u.faults i then vget u.clean i + 1 else 0 }

/-- Newly set flags among two fault banks. (log 25: DESIGN CHOICE; log 63: DEDUCED) -/
def newFlags (old new : Vector Bool 4) : Nat := ((List.finRange 4).filter fun i => vget new i && !vget old i).length

/-- R247: newly set flags. (log 25: DESIGN CHOICE) -/
def State.flagged (s : State) (n : Fin 16) (k : Nat) : State :=
  if k = 0 then s else (s.mapUi n fun u => { u with fltCnt := satAdd 0xFFF u.fltCnt k }).snsInt 1

/-- Conversions are discarded while SETTLE runs, and from VA_OK's return until two complete cycles have swapped (R249, R251). -/
def State.discards (s : State) (n : Fin 16) : Bool := decide (0 < (s.ui n).settle ∨ 0 < s.sns.vaWin)

/-- Converter of an input, and the input's place among its visits (R237). -/
def converterOf (n : Fin 16) : Fin 2 := if n.val < 8 then 0 else 1

/-- The input's visit in the converter's cycle is over. -/
def Sns.passed (b : Sns) (n : Fin 16) : Bool := decide (n.val % 8 < vget b.visit (converterOf n))

/-- The visit is over or idle, or may have been idle: an input that this cycle found Off and that has been turned on since. -/
def Sns.visited (b : Sns) (n : Fin 16) : Bool := b.passed n || decide ((vget b.uis n).type = 0) || (vget b.uis n).woken

/-- A conversion of `n` may come next on its converter: ascending order, idle visits passed over (R237). -/
def Sns.nextVisit (b : Sns) (n : Fin 16) : Bool :=
  !b.passed n && decide ((vget b.uis n).type ≠ 0) &&
    (List.finRange 16).all fun k => b.visited k || decide (converterOf k ≠ converterOf n ∨ n ≤ k)

/-- Both converters have made every visit of the cycle. -/
def Sns.cycleDone (b : Sns) : Bool := (List.finRange 16).all b.visited

/-- A cycle begins at UI0 and UI8 (R237, R266). A cycle that was broken off no longer counts for the windows of R249 and R251. -/
def Sns.newCycle (b : Sns) : Sns :=
  { b with visit := Vector.replicate 2 0, finishing := Vector.replicate 2 false, vaWin := min b.vaWin 2
           uis := b.uis.map fun u => { u with settle := min u.settle 2, woken := false } }

/-- The converter converts: scanning runs, or Standby lets it finish the visit in progress (R237, R266). -/
def State.converts (s : State) (n : Fin 16) : Bool :=
  s.sns.nextVisit n && (s.scanning || (decide (s.power.phase = .running) && vget s.sns.finishing (converterOf n)))

/-- UI_CONVERSION (R237, R245, R246, R247): a discarded conversion counts in SEQ and leaves the input without a value, and RAW and
COM as they were. A conversion out of the order of R237 does not occur and changes nothing. (log 63: DEDUCED; log 145: DESIGN CHOICE) -/
def State.uiConversion (s : State) (n : Fin 16) (res : Nat) (level : Int) (com : Bool) (raw : Nat) : State :=
  if s.converts n then
    let s := (s.mapUi n fun u => { u with seq := (u.seq + 1) % 65536 }).mapSns fun b => { b with
      visit := b.visit.set (converterOf n) (n.val % 8 + 1), finishing := b.finishing.set (converterOf n) false }
    if s.discards n then s.mapUi n fun u => { u with has := false } else
      let u := s.ui n
      let v := u.convert res level
      let u' := { (u.judge (wiring u.type res level v (u.beyond res))) with val := v, has := true, com := com, raw := raw % 2 ^ 20 }
      let fresh := newFlags u.faults u'.faults + if com && !u.com then 1 else 0
      let s := (s.mapUi n fun _ => u').mapSns fun b => { b with
        com := if com then b.com ||| BitVec.ofNat 4 (2 ^ (n.val / 4)) else b.com &&& ~~~(BitVec.ofNat 4 (2 ^ (n.val / 4))) }
      s.flagged n fresh
  else s

/-! ### The result block (R240, R241, R243, R244) -/

/-- Flags of Table 07-2, bits [7:1]. -/
def UiIn.flags (u : UiIn) (vaLow : Bool) : BitVec 7 :=
  BitVec.ofNat 7 ((if vget u.faults 0 then 1 else 0) + (if vget u.faults 1 then 2 else 0) + (if vget u.faults 2 then 4 else 0) +
    (if vget u.faults 3 then 8 else 0) + (if u.com then 16 else 0) + (if vaLow then 32 else 0) + if 0 < u.settle then 64 else 0)

/-- What a swap makes readable of an input. -/
def UiIn.show_ (u : UiIn) (vaLow : Bool) : UiShown :=
  let f := u.flags vaLow
  let only := decide (f &&& 0x73 = 0)
  { val := if u.type ≠ 0 ∧ u.has ∧ only then u.val else 0x7FC00000
    flags := f, valid := decide (u.type ≠ 0 ∧ u.has ∧ f = 0), seq := u.seq }

/-- The swap itself (R240): SETTLE and VA_LOW are cleared at the swap that ends their window (R249, R251). Stroke feedback (R364),
the panel band (R613) and the board window (R216) are judged on the new results. -/
def State.doSwap (s : State) : State :=
  let low := !s.power.vaOk || decide (1 < s.sns.vaWin)
  let newLow := low && !s.sns.vaLow
  let s := if newLow then (List.finRange 16).foldl (fun s n => s.flagged n 1) s else s
  let s := s.mapSns fun b => { b with
    uis := b.uis.map fun u => let u := { u with settle := u.settle - 1 }; { u with shown := u.show_ low }
    vaLow := low, vaWin := b.vaWin - 1, cycle := (b.cycle + 1) % 65536, swapDue := false }
  (s.strokesAtSwap.bandAtSwap.boardCheck.snsInt 0).raiseEdge 1

/-- The hold of R241 stands. (log 64: DEDUCED) -/
def State.resultHeld (s : State) : Bool :=
  match s.sns.hold with
  | some t => decide (s.now ≤ t + 100)
  | none => false

/-- SCAN_SWAP: the cycle ends with its last visit and the next begins; a swap due while the block is held waits (R241). (log 63: DEDUCED) -/
def State.scanSwap (s : State) : State :=
  if s.scanning && s.sns.cycleDone then
    let s := s.mapSns fun b => { b with visit := Vector.replicate 2 0, uis := b.uis.map fun u => { u with woken := false } }
    if s.resultHeld then s.mapSns fun b => { b with swapDue := true }
    else (s.mapSns fun b => { b with hold := none }).doSwap
  else s

/-- The hold ends, and a waiting swap takes place. (log 64: DEDUCED) -/
def State.endHold (s : State) : State :=
  let due := s.sns.swapDue
  let s := s.mapSns fun b => { b with hold := none, swapDue := false }
  if due then s.doSwap else s

/-- Standby (R266): each converter finishes the visit in progress and stops; a swap that waits does not take place, and the I²C
buses stop. (log 63: DEDUCED) -/
def State.snsStandby (s : State) : State :=
  let scans := s.scanning
  s.mapSns fun b => { b with
    finishing := Vector.replicate 2 scans, hold := none, swapDue := false
    buses := b.buses.map fun k => { k with busy := none, wire := [], due := [] } }

/-- The wake (R266). -/
def State.snsWake (s : State) : State := s.mapSns Sns.newCycle

/-- A type change (R249): the window is two complete cycles, and the cycle in progress before them. A dry contact starts open: it has no
earlier value for a first conversion between 1 kΩ and 10 kΩ. (log 63: DEDUCED; log 146: DESIGN CHOICE) -/
def State.uiType (s : State) (n : Fin 16) (t : Nat) : State :=
  if 5 < t ∨ (s.ui n).type = t then s
  else
    let was := (s.ui n).settle
    let s := s.mapUi n fun u => { u with
      type := t, faults := Vector.replicate 4 false, clean := Vector.replicate 4 0, com := false, has := false, val := 0
      woken := u.woken || decide (u.type = 0)
      settle := if s.scanning then 3 else 2 }
    s.flagged n (if was = 0 then 1 else 0)

/-! ### I²C sensors (R254 to R259) -/

def State.i2c (s : State) (m : Fin 16) : I2cSlot := vget s.sns.i2c m

def State.mapI2c (s : State) (m : Fin 16) (f : I2cSlot → I2cSlot) : State :=
  s.mapSns fun b => { b with i2c := vmod b.i2c m f }

/-- Bus of a slot (Table 07-5). -/
def I2cSlot.bus (x : I2cSlot) : Fin 2 := if x.addr < 128 then 0 else 1

def State.mapBus2 (s : State) (b : Fin 2) (f : I2cBus → I2cBus) : State :=
  s.mapSns fun k => { k with buses := vmod k.buses b f }

def I2cSlot.len (x : I2cSlot) : Nat := x.form / 16 % 8
def I2cSlot.crc (x : I2cSlot) : Bool := decide (x.form / 128 % 2 = 1)

/-- R256: the CRC groups of the data. -/
def crcGroupsOk : List Byte → Bool
  | a :: b :: c :: l => decide (crc8 [a, b] = c) && crcGroupsOk l
  | _ => true

/-- The transaction of R254: the command phase, if the entry has one, and the read phase. -/
def I2cSlot.transaction (x : I2cSlot) : List I2cSym :=
  let address : Byte := BitVec.ofNat 8 (2 * (x.addr % 128))
  let n := x.form % 4
  (if n = 0 then [] else
    .start :: .byte address :: ((leBytes 2 x.cmd).take n).map .byte ++ [.stop, .waitMs x.wait]) ++
    [.start, .byte (address ||| 1), .read x.len, .stop]

/-- A transaction's failure (R256, R259). (log 65: DEDUCED) -/
def I2cSlot.fail (x : I2cSlot) (crc timeout nack : Bool) : I2cSlot :=
  { x with failCnt := satInc 0xFF x.failCnt, valid := false, fails := x.fails + 1, stale := x.stale || decide (2 ≤ x.fails)
           crcErr := crc, timeout := timeout, nack := nack }

def I2cSlot.succeed (x : I2cSlot) : I2cSlot :=
  { x with seq := (x.seq + 1) % 65536, valid := true, fails := 0, stale := false }

/-- The data that a read phase has brought (R258). -/
def I2cSlot.take (x : I2cSlot) (bytes : List Byte) : I2cSlot := { x with data := padTo 6 (bytes.take x.len) }

/-- A transaction's outcome at its slot: data that fails its CRC is written too (R258), and a transaction that has read none leaves the
old data. (log 65: DEDUCED) -/
def I2cSlot.outcome (x : I2cSlot) : I2cEnd → I2cSlot
  | .data bs =>
    if x.crc && !(decide (x.len = 3 ∨ x.len = 6) && crcGroupsOk (padTo x.len bs)) then (x.take bs).fail true false false
    else (x.take bs).succeed
  | .nack => x.fail false false true
  | .timeout => x.fail false true false

/-- A slot changes, and SNS_INT.I2C follows its STALE (Table 07-9). -/
def State.i2cResult (s : State) (m : Fin 16) (y : I2cSlot) : State :=
  let was := (s.i2c m).stale
  let s := s.mapI2c m fun _ => y
  if y.stale ≠ was then s.snsInt 3 else s

/-- A transaction is due to start (R254, R257): the nine pulses and a STOP go first where SDA is low, and with SDA still low it fails. -/
def State.i2cStart (s : State) (m : Fin 16) : Sda → State
  | .high => s.mapBus2 (s.i2c m).bus fun b => { b with busy := some m.val, wire := (s.i2c m).transaction }
  | .recovers => s.mapBus2 (s.i2c m).bus fun b => { b with
      busy := some m.val, wire := .pulses 9 :: .stop :: (s.i2c m).transaction }
  | .stuck => (s.i2cResult m ((s.i2c m).fail false false false)).mapBus2 (s.i2c m).bus fun b => { b with
      busy := none, wire := [.pulses 9, .stop], stuck := true }

/-- The bus turns to its due slots, in ascending order, until a transaction starts (R255, R257): a slot that fell due before I2C_EN was
cleared is still served. (log 148: DESIGN CHOICE) -/
def State.i2cNext (s : State) (b : Fin 2) (sda : Sda) : List Nat → State
  | [] => s
  | k :: l =>
    let s := s.mapBus2 b fun x => { x with due := l }
    match idx? 16 k with
    | some m =>
      let s := s.i2cStart m sda
      if sda = .stuck then s.i2cNext b sda l else s
    | none => s

/-- I2C_SLOT_DUE (R254, R255): the bus starts the transaction, or the slot waits its turn. One that falls due while its own transaction
runs is served once, by that transaction. (log 147: DEDUCED) -/
def State.i2cDue (s : State) (m : Fin 16) (sda : Sda) : State :=
  let x := s.i2c m
  if s.awake && s.sns.running && s.sns.i2cEn && x.used then
    match (vget s.sns.buses x.bus).busy with
    | none => s.i2cStart m sda
    | some k => if k = m.val then s else s.mapBus2 x.bus fun k => { k with due := Marks.add m.val k.due }
  else s

/-- I2C_TRANSACTION_END (R255, R258): data and status change together, and the bus turns to its next due slot. -/
def State.i2cEnd (s : State) (m : Fin 16) (e : I2cEnd) (next : Sda) : State :=
  let b := vget s.sns.buses (s.i2c m).bus
  if b.busy = some m.val then
    ((s.i2cResult m ((s.i2c m).outcome e)).mapBus2 (s.i2c m).bus fun k => { k with busy := none, wire := [] }).i2cNext
      (s.i2c m).bus next b.due
  else s

/-- The data of a slot as a reader sees it (R258). -/
def State.i2cData (s : State) (m : Fin 16) : List Byte :=
  match (s.i2c m).hold with
  | some (d, t) => if s.now ≤ t + 100 then d else (s.i2c m).data
  | none => (s.i2c m).data

def I2cSlot.stat (x : I2cSlot) : Word :=
  pack [at_ 16 x.seq, at_ 8 x.failCnt, flag 4 x.crcErr, flag 3 x.timeout, flag 2 x.nack, flag 1 x.stale, flag 0 x.valid]

/-- A read of STAT begins the hold. -/
def State.i2cHold (s : State) (m : Fin 16) : State := s.mapI2c m fun x => { x with hold := some (x.data, s.now) }

/-! ### Digital and counting inputs (R261 to R264, R267) -/

/-- A change of a DI input's debounced state (R262). -/
def State.diChange (s : State) (n : Fin 8) (high : Bool) : State :=
  if s.sns.diState.getLsbD n.val = high then s
  else
    (s.mapSns fun b => { b with
      diState := b.diState ^^^ BitVec.ofNat 8 (2 ^ n.val), diEdges := vmod b.diEdges n (satInc 0xFFFF) }).snsInt 2

/-- COUNTER_EDGE (R263). -/
def State.counterEdge (s : State) (k : Fin 2) (rising : Bool) : State :=
  let e := vget s.sns.cntEdge k
  if (e = 1 ∧ rising = true) ∨ (e = 2 ∧ rising = false) ∨ e = 3 then
    s.mapSns fun b => { b with cnt := vmod b.cnt k (satInc 0xFFFFFFFF) }
  else s

/-- CNT_CLEAR (R264). -/
def State.cntClear (s : State) (w : Word) : State :=
  s.mapSns fun b => { b with
    diEdges := Vector.ofFn fun i : Fin 8 => if bit w (8 + i.val) then 0 else vget b.diEdges i
    cnt := Vector.ofFn fun i : Fin 2 => if bit w i.val then 0 else vget b.cnt i }

/-! ### The SNS window at 0x4001_0000 -/

def UiShown.hlth (x : UiShown) : Word := pack [at_ 16 x.seq, at_ 1 x.flags.toNat, flag 0 x.valid]

def State.snsRead (s : State) (off : Nat) : Word :=
  let b := s.sns
  if 0x40 ≤ off ∧ off < 0x80 then (match idx? 16 ((off - 0x40) / 4) with
    | some n => at_ 0 (s.ui n).type
    | none => 0)
  else if 0x100 ≤ off ∧ off < 0x180 then (match idx? 16 ((off - 0x100) / 8) with
    | some n => if off % 8 = 0 then (s.ui n).shown.val else (s.ui n).shown.hlth
    | none => 0)
  else if 0x180 ≤ off ∧ off < 0x1C0 then (match idx? 16 ((off - 0x180) / 4) with
    | some n => pack [at_ 20 (s.ui n).fltCnt, at_ 0 (s.ui n).raw]
    | none => 0)
  else if 0x210 ≤ off ∧ off < 0x230 then (match idx? 8 ((off - 0x210) / 4) with
    | some n => at_ 0 (vget b.diEdges n)
    | none => 0)
  else if 0x300 ≤ off ∧ off < 0x400 then (match idx? 16 ((off - 0x300) / 0x10) with
    | some m =>
      let d := s.i2cData m
      match off % 0x10 with
      | 0x0 => (s.i2c m).stat
      | 0x4 => BitVec.ofNat 32 (fieldAt d 0 4)
      | 0x8 => at_ 0 (fieldAt d 4 2)
      | _ => 0
    | none => 0)
  else if 0x800 ≤ off ∧ off < 0x900 then (match idx? 16 ((off - 0x800) / 0x10) with
    | some n => match off % 0x10 with
      | 0x0 => (s.ui n).c0
      | 0x4 => (s.ui n).c1
      | 0x8 => (s.ui n).c2
      | _ => 0
    | none => 0)
  else match off with
    | 0x000 => pack [at_ 16 b.nightPeriod, at_ 8 b.period, flag 3 b.fast1, flag 2 b.fast0, flag 1 b.i2cEn, flag 0 b.uiEn]
    | 0x004 => pack [at_ 16 b.cycle, flag 9 (vget b.buses 1).stuck, flag 8 (vget b.buses 0).stuck, at_ 4 b.com.toNat, flag 0 b.vaLow]
    | 0x008 => at_ 0 b.int.toNat
    | 0x00C => at_ 0 b.intEn.toNat
    | 0x200 => at_ 0 b.diState.toNat
    | 0x204 => pack ((List.finRange 4).map fun i => at_ (8 * i.val) (vget b.diDeb (i.castLE (by omega))))
    | 0x208 => pack ((List.finRange 4).map fun i => at_ (8 * i.val) (vget b.diDeb ⟨i.val + 4, by omega⟩))
    | 0x240 => BitVec.ofNat 32 (vget b.cnt 0)
    | 0x244 => BitVec.ofNat 32 (vget b.cnt 1)
    | 0x248 => pack [at_ 2 (vget b.cntEdge 1), at_ 0 (vget b.cntEdge 0)]
    | _ => 0

/-- What a read of the window does besides: the holds of R241 and R258. (log 64: DEDUCED) -/
def State.snsEffect (s : State) (off : Nat) : State :=
  if off = 0x100 then s.mapSns fun b => { b with hold := some s.now }
  else if off = 0x17C then (if s.sns.hold.isSome then s.endHold else s)
  else if 0x300 ≤ off ∧ off < 0x400 then (match idx? 16 ((off - 0x300) / 0x10) with
    | some m =>
      if off % 0x10 = 0 then s.i2cHold m
      else if off % 0x10 = 8 then s.mapI2c m fun x => { x with hold := none }
      else s
    | none => s)
  else s

/-- A write of the window. -/
def State.snsWrite (s : State) (off : Nat) (w : Word) : State :=
  if 0x40 ≤ off ∧ off < 0x80 then (match idx? 16 ((off - 0x40) / 4) with
    | some n => s.uiType n (bits w 2 0)
    | none => s)
  else if 0x800 ≤ off ∧ off < 0x900 then (match idx? 16 ((off - 0x800) / 0x10) with
    | some n => s.mapUi n fun u => match off % 0x10 with
      | 0x0 => { u with c0 := w }
      | 0x4 => { u with c1 := w }
      | 0x8 => { u with c2 := w }
      | _ => u
    | none => s)
  else match off with
    | 0x000 => s.mapSns fun b => { (if bit w 0 then b else b.newCycle) with
        nightPeriod := clampNat (bits w 23 16) 5 100, period := clampNat (bits w 15 8) 5 100
        fast1 := bit w 3, fast0 := bit w 2, i2cEn := bit w 1, uiEn := bit w 0 }
    | 0x004 => s.mapSns fun b => { b with
        buses := Vector.ofFn fun i : Fin 2 =>
          let k := vget b.buses i
          { k with stuck := k.stuck && !bit w (8 + i.val) } }
    | 0x008 => s.mapSns fun b => { b with int := b.int &&& ~~~(w.setWidth 4) }
    | 0x00C => s.mapSns fun b => { b with intEn := w.setWidth 4 }
    | 0x204 => s.mapSns fun b => { b with
        diDeb := Vector.ofFn fun i : Fin 8 => if i.val < 4 then bits w (8 * i.val + 7) (8 * i.val) else vget b.diDeb i }
    | 0x208 => s.mapSns fun b => { b with
        diDeb := Vector.ofFn fun i : Fin 8 => if i.val < 4 then vget b.diDeb i else bits w (8 * (i.val - 4) + 7) (8 * (i.val - 4)) }
    | 0x248 => s.mapSns fun b => { b with cntEdge := #v[bits w 1 0, bits w 3 2] }
    | 0x24C => s.cntClear w
    | _ => s

/-! ### Commands -/

/-- UI_CONVERSION of input `n`: what the converter meets is `res` in mΩ, or `level` in µV or nA (log entry 3). -/
def execUiConversion (n : Fin 16) (res : Nat) (level : Int) (com : Bool) (raw : Nat) (s : State) : Result :=
  .next (s.uiConversion n res level com raw)

/-- SCAN_SWAP. -/
def execScanSwap (s : State) : Result := .next s.scanSwap

/-- RESULT_BLOCK_READ (R241): SNS_UI0_VAL lies at 0x4001_0100. -/
def execResultBlockRead (n : Fin 4) (user : Bool) (refused : Nat) (s : State) : Result :=
  .next (s.lodgerAccess n user refused .load 0x40010100 fun s => (s.snsEffect 0x100).answer (s.snsRead 0x100))

/-- RESULT_HOLD_TIMEOUT. -/
def execResultHoldTimeout (s : State) : Result := .next (if s.sns.hold.isSome then s.endHold else s)

/-- UI_TYPE_WRITE: SNS_UIi_CFG lies at 0x4001_0040 + i × 4. -/
def execUiTypeWrite (n : Fin 4) (user : Bool) (i : Fin 16) (type : BitVec 3) (s : State) : Result :=
  .next (s.access (.lodger n user) .store (0x40010040 + i.val * 4) fun s => (s.answer 0).uiType i type.toNat)

/-- I2C_SLOT_DUE. -/
def execI2cSlotDue (m : Fin 16) (sda : Sda) (s : State) : Result := .next (s.i2cDue m sda)

/-- I2C_TRANSACTION_END. -/
def execI2cTransactionEnd (m : Fin 16) (e : I2cEnd) (next : Sda) (s : State) : Result := .next (s.i2cEnd m e next)

/-- I2C_STAT_READ: SNS_I2Cm_STAT lies at 0x4001_0300 + m × 0x10. -/
def execI2cStatRead (n : Fin 4) (user : Bool) (m : Fin 16) (refused : Nat) (s : State) : Result :=
  .next (s.lodgerAccess n user refused .load (0x40010300 + m.val * 0x10) fun s => (s.i2cHold m).answer (s.i2c m).stat)

/-- COUNTER_EDGE (R263: in every mode except Off). -/
def execCounterEdge (k : Fin 2) (rising : Bool) (s : State) : Result :=
  .next (if s.power.phase = .off then s else s.counterEdge k rising)

/-- CNT_CLEAR: SNS_CNT_CLR lies at 0x4001_024C. -/
def execCntClear (n : Fin 4) (user : Bool) (w : Word) (s : State) : Result :=
  .next (s.access (.lodger n user) .store 0x4001024C fun s => (s.answer 0).cntClear w)

end Sys2Proof.Machine
end

