-- ==== Sys2Proof/Machine/UartPort.lean ====
section
/-! DEFINITION. The RS-485 serial ports (R554 to R577). -/

namespace Sys2Proof.Machine

def State.uart (s : State) (k : Fin 3) : Uart := vget s.uarts.ports k

def State.mapUart (s : State) (k : Fin 3) (f : Uart → Uart) : State :=
  s.mapUarts fun u => { u with ports := vmod u.ports k f }

/-- First address of port `k`'s registers. -/
def uartBase (k : Fin 3) : Nat := 0x40070000 + k.val * 0x400

/-- Bits of UARTn_INT (Table 16-4). -/
def uIdle : BitVec 8 := 1
def uRxOvr : BitVec 8 := 2
def uTxOvr : BitVec 8 := 4
def uErr : BitVec 8 := 8
def uPolFlip : BitVec 8 := 16
def uTxDone : BitVec 8 := 32
def uCfgErr : BitVec 8 := 64
def uOwnerRst : BitVec 8 := 128

def Uart.raise (u : Uart) (b : BitVec 8) : Uart := { u with int := u.int ||| b }

/-- A character may be sent. (log 102: DEDUCED) -/
def Uart.sendable (u : Uart) : Bool := u.en && u.txEn && !u.tx.isEmpty

/-- R563: DEn is asserted for a character to be sent. -/
def Uart.kick (u : Uart) : Uart := if u.sendable then { u with de := true } else u

/-- A new format (R570). -/
def Uart.newCfg (u : Uart) (c : UartCfg) : Uart := ({ u with cfg := c, pendTx := true, pendRx := true }.takeTx).takeRx

/-! ### Receive (R556 to R561, R564, R566, R573) -/

/-- Majority of three samples. -/
def majority (x : Bool × Bool × Bool) : Bool := (x.1 && x.2.1) || (x.1 && x.2.2) || (x.2.1 && x.2.2)

/-- A character read from the samples of its bits, the start bit's first, in one polarity: the entry without its GAP (R556). -/
def UartCfg.decode (c : UartCfg) (inv : Bool) (smp : List (Bool × Bool × Bool)) : UartChar :=
  let bit (i : Nat) : Bool := match smp[i + 1]? with
    | some x => majority x != inv
    | none => true
  let nd := if c.data8 then 8 else 7
  let np := if c.parity = 0 then 0 else 1
  let ns := if c.stop2 then 2 else 1
  let d := (List.range nd).map bit
  let ones := (d.filter id).length + (if bit nd then 1 else 0)
  let stops := (List.range ns).map fun i => bit (nd + np + i)
  { gap := 0
    brk := !(d.any id) && !(stops.any id)
    noise := (smp.take (1 + nd + np + ns)).any fun x => decide (¬ (x.1 = x.2.1 ∧ x.2.1 = x.2.2))
    fe := stops.any fun b => !b
    pe := decide (c.parity ≠ 0 ∧ ones % 2 ≠ (if c.parity = 1 then 0 else 1))
    data := (d.zipIdx.map fun x => if x.1 then 2 ^ x.2 else 0).foldl (· + ·) 0 }

/-- A flip (R566). (log 101: DEDUCED) -/
def Uart.flip (u : Uart) : Uart :=
  { u.raise uPolFlip with
    flips := satInc 0xFF u.flips, invVotes := 0, normVotes := 0, flipTx := !u.flipTx, flipRx := !u.flipRx }

/-- The votes of a character (R566): `bad` in the polarity in force, `badInv` inverted. (log 101: DEDUCED) -/
def Uart.vote (u : Uart) (bad badInv : Bool) : Uart :=
  if u.rxCfg.polMode ≠ 0 ∨ u.lock then u
  else if !bad then
    let n := u.normVotes + 1
    { u with invVotes := 0, normVotes := n, lock := decide (16 ≤ n) }
  else if !badInv then
    let u := { u with invVotes := u.invVotes + 1, normVotes := 0 }
    if 4 ≤ u.invVotes then u.flip else u
  else u

/-- A character is stored, or dropped when 64 are held (R558, R573). -/
def Uart.store (u : Uart) (x : UartChar) : Uart :=
  if 64 ≤ u.rx.length then { u.raise uRxOvr with ovrCnt := satInc 0xFFFF u.ovrCnt }
  else
    let u := { u with rx := u.rx ++ [x] }
    if x.pe || x.fe || x.noise || x.brk then { u.raise uErr with errCnt := satInc 0xFFFF u.errCnt } else u

/-- UART_START_BIT: `silence` is the time since the previous stop bit in UART clock cycles (R561). -/
def Uart.startBit (u : Uart) (silence : Nat) : Uart :=
  if u.rxOn && u.busy.isNone then
    let discard := (u.de && !u.rxWhileTx) || !u.rxEn
    let gap := if u.first then 4095 else min 4095 (silence / u.rxCfg.div)
    let u := { u with busy := some { gap := gap, discard := discard } }
    if discard then u else { u with idle := false, quiet := false }
  else u

/-- UART_CHARACTER_RECEIVED; `now` is UART_NOW. -/
def Uart.received (u : Uart) (smp : List (Bool × Bool × Bool)) (now : Nat) : Uart :=
  match u.busy with
  | none => u
  | some b =>
    let u := { u with busy := none }
    let u := if b.discard then u
      else
        let x := u.rxCfg.decode u.invRx smp
        let y := u.rxCfg.decode (!u.invRx) smp
        let u := u.vote (x.fe || x.pe) (y.fe || y.pe)
        { u with rxts := now, quiet := true, first := u.first && b.before }.store { x with gap := b.gap }
    u.takeRx.takeTx

/-- A character that counts is being received: not one that is discarded, which R564 keeps out of the idle timing. -/
def Uart.hearing (u : Uart) : Bool :=
  match u.busy with
  | some b => !b.discard
  | none => false

/-- UART_IDLE (R560). -/
def Uart.goIdle (u : Uart) : Uart :=
  if u.quiet && u.rxOn && !u.hearing then { u.raise uIdle with idle := true, quiet := false } else u

/-! ### Transmit (R554, R559, R563, R565, R572, R574, R575) -/

/-- The bits of a character in a format (R554): start bit, data bits from the least significant, parity bit, stop bits. -/
def UartCfg.bitsOf (c : UartCfg) (d : Nat) : List Bool :=
  let ds := (List.range (if c.data8 then 8 else 7)).map fun i => d.testBit i
  let odd := decide ((ds.filter id).length % 2 = 1)
  let parity := if c.parity = 0 then [] else [if c.parity = 1 then odd else !odd]
  [false] ++ ds ++ parity ++ List.replicate (if c.stop2 then 2 else 1) true

/-- The levels that TXn takes, one for each bit time: of the character being sent, or the idle level, which is the mark of normal
polarity until the port is enabled (R565, R575). -/
def Uart.txLine (u : Uart) : List Bool :=
  match u.shift with
  | some d => (u.txCfg.bitsOf d).map (· != u.invTx)
  | none => [!(u.invTx && u.opened)]

/-- UART_TXD_WRITE. -/
def Uart.put (u : Uart) (d : Nat) : Uart :=
  if 64 ≤ u.tx.length then u.raise uTxOvr else ({ u with tx := u.tx ++ [d % 256] } : Uart).kick

/-- The next character goes to the shift register. -/
def Uart.next (u : Uart) : Uart :=
  match u.tx with
  | d :: l => if u.sendable && u.de && u.shift.isNone then { u with shift := some d, tx := l } else u
  | [] => u

/-- UART_CHARACTER_SENT: the next character follows, or a flip that waits takes effect (R567). (log 102: DEDUCED) -/
def Uart.sent (u : Uart) : Uart := if u.shift.isSome then ({ u with shift := none } : Uart).next.takeFlip else u

/-- DE_RELEASE (R563): nothing is left in the transmit FIFO and the shift register, or the port is disabled (Table 16-2). -/
def Uart.release (u : Uart) : Uart :=
  if u.de && u.shift.isNone && (u.tx.isEmpty || !u.en) then ({ u.raise uTxDone with de := false } : Uart).takeTx else u

/-- R574: the owning Lodger is halted. -/
def Uart.ownerHalted (u : Uart) : Uart := { u.raise uOwnerRst with tx := [] }

def State.uartsOwnerHalted (s : State) (n : Fin 4) : State :=
  s.mapUarts fun u => { u with ports := u.ports.map fun p => if p.owner = some n.val then p.ownerHalted else p }

/-- R577: the wake from Standby. -/
def State.uartsWake (s : State) : State := s.mapUarts fun u => { u with ports := u.ports.map Uart.kick }

/-- EN written (R567, R572, R576). -/
def Uart.setEn (u : Uart) (en : Bool) : Uart :=
  if en && !u.en then
    ({ u with
      en := true, opened := true, rxOn := true, lock := false, first := true, invVotes := 0, normVotes := 0
      busy := u.busy.map fun b => { b with before := true } } : Uart).kick
  else if en then u
  else ({ u with en := false } : Uart).takeRx

/-! ### The UART window at 0x4007_0000 -/

def UartChar.word (x : UartChar) : Word :=
  pack [at_ 16 x.gap, flag 12 x.brk, flag 11 x.noise, flag 10 x.fe, flag 9 x.pe, at_ 0 x.data]

def Uart.cfgWord (u : Uart) : Word :=
  let c := u.cfg
  pack [at_ 24 c.deLag, at_ 20 c.deLead, flag 19 c.stop2, at_ 17 c.parity, flag 16 c.data8, at_ 0 c.div]

/-- UARTn_CTRL as it reads. -/
def Uart.ctrlWord (u : Uart) : Word :=
  pack [at_ 4 u.cfg.polMode, flag 3 u.rxWhileTx, flag 2 u.rxEn, flag 1 u.txEn, flag 0 u.en]

def Uart.statWord (u : Uart) : Word :=
  pack [flag 24 u.invTx, flag 23 u.invRx, flag 22 u.lock, flag 21 u.pendTx, flag 20 u.pendRx, flag 19 u.de, flag 18 u.idle,
    at_ 8 u.tx.length, at_ 0 u.rx.length]

def Uart.read (u : Uart) (off : Nat) : Word :=
  match off with
  | 0x00 => match u.rx with
    | x :: _ => x.word
    | [] => flag 31 true
  | 0x08 => u.cfgWord
  | 0x0C => u.ctrlWord
  | 0x10 => u.statWord
  | 0x14 => at_ 0 u.int.toNat
  | 0x18 => at_ 0 u.intEn.toNat
  | 0x1C => pack [at_ 16 u.errCnt, at_ 0 u.ovrCnt]
  | 0x20 => BitVec.ofNat 32 u.rxts
  | 0x24 => pack [at_ 8 u.txlvl, at_ 0 u.rxlvl]
  | 0x28 => at_ 0 u.flips
  | _ => 0

def State.uartRead (s : State) (off : Nat) : Word :=
  match idx? 3 (off / 0x400) with
  | some k => (s.uart k).read (off % 0x400)
  | none => if off = 0xC00 then BitVec.ofNat 32 s.uarts.clock else 0

/-- R557: a read of RXD removes the oldest entry. -/
def State.uartEffect (s : State) (off : Nat) : State :=
  match idx? 3 (off / 0x400) with
  | some k => if off % 0x400 = 0 then s.mapUart k fun u => { u with rx := u.rx.drop 1 } else s
  | none => s

/-- A write of UARTn_CFG (R570, R571). -/
def Uart.cfgWrite (u : Uart) (w : Word) : Uart :=
  if bits w 15 0 < 139 ∨ 26667 < bits w 15 0 ∨ bits w 18 17 = 3 then u.raise uCfgErr
  else u.newCfg { u.cfg with
    deLag := bits w 27 24, deLead := bits w 23 20, stop2 := bit w 19, parity := bits w 18 17, data8 := bit w 16, div := bits w 15 0 }

/-- POL_MODE written, be it the mode that stands (R567, R570). (log 101: DEDUCED) -/
def Uart.setPol (u : Uart) (m : Nat) : Uart :=
  { u with lock := false, invVotes := 0, normVotes := 0 }.newCfg { u.cfg with polMode := m }

/-- A write of UARTn_CTRL (R571, R572). -/
def Uart.ctrlWrite (u : Uart) (w : Word) : Uart :=
  if bits w 5 4 = 3 then u.raise uCfgErr
  else
    let u := if bit w 9 then { u with tx := [] } else u
    let u := if bit w 8 then { u with rx := [] } else u
    let u := u.setPol (bits w 5 4)
    (({ u with rxWhileTx := bit w 3, rxEn := bit w 2, txEn := bit w 1 } : Uart).setEn (bit w 0)).kick

def Uart.write (u : Uart) (off : Nat) (w : Word) : Uart :=
  match off with
  | 0x04 => u.put (bits w 7 0)
  | 0x08 => u.cfgWrite w
  | 0x0C => u.ctrlWrite w
  | 0x14 => { u with int := u.int &&& ~~~(w.setWidth 8) }
  | 0x18 => { u with intEn := w.setWidth 8 }
  | 0x24 =>
    if 1 ≤ bits w 14 8 ∧ bits w 14 8 ≤ 64 ∧ 1 ≤ bits w 6 0 ∧ bits w 6 0 ≤ 64 then
      { u with txlvl := bits w 14 8, rxlvl := bits w 6 0 }
    else u.raise uCfgErr
  | _ => u

/-- A write of the window. In Standby, where a Carder channel may still drain into TXD, DEn stays low (R575). -/
def State.uartWrite (s : State) (off : Nat) (w : Word) : State :=
  match idx? 3 (off / 0x400) with
  | some k => s.mapUart k fun u => let v := u.write (off % 0x400) w; { v with de := v.de && s.awake }
  | none => s

/-! ### Commands -/

/-- A step of a port while its clock runs (R163). -/
def State.uartStep (s : State) (k : Fin 3) (f : Uart → Uart) : State := if s.awake then s.mapUart k f else s

/-- UART_START_BIT. -/
def execUartStartBit (k : Fin 3) (silence : Nat) (s : State) : Result := .next (s.uartStep k fun u => u.startBit silence)

/-- UART_CHARACTER_RECEIVED, with the three samples of each bit, the start bit's first. -/
def execUartCharacterReceived (k : Fin 3) (smp : List (Bool × Bool × Bool)) (s : State) : Result :=
  .next (s.uartStep k fun u => u.received smp s.uarts.clock)

/-- UART_IDLE. -/
def execUartIdle (k : Fin 3) (s : State) : Result := .next (s.uartStep k Uart.goIdle)

/-- POLARITY_SPACING_TIMEOUT (R566). -/
def execPolaritySpacingTimeout (k : Fin 3) (s : State) : Result :=
  .next (s.uartStep k fun u => if u.rxOn && decide (u.rxCfg.polMode = 0) && !u.lock then u.flip.takeRx.takeTx else u)

/-- UART_RXD_READ. -/
def execUartRxdRead (n : Fin 4) (user : Bool) (k : Fin 3) (refused : Nat) (s : State) : Result :=
  .next (s.lodgerAccess n user refused .load (uartBase k) fun s =>
    (s.mapUart k fun u => { u with rx := u.rx.drop 1 }).answer ((s.uart k).read 0))

/-- UART_TXD_WRITE. -/
def execUartTxdWrite (n : Fin 4) (user : Bool) (k : Fin 3) (d : Byte) (s : State) : Result :=
  .next (s.access (.lodger n user) .store (uartBase k + 0x04) fun s => (s.answer 0).mapUart k fun u => u.put d.toNat)

/-- UART_TX_START. -/
def execUartTxStart (k : Fin 3) (s : State) : Result := .next (s.uartStep k Uart.next)

/-- UART_CHARACTER_SENT. -/
def execUartCharacterSent (k : Fin 3) (s : State) : Result := .next (s.uartStep k Uart.sent)

/-- DE_RELEASE. -/
def execDeRelease (k : Fin 3) (s : State) : Result := .next (s.uartStep k Uart.release)

/-- UART_CFG_WRITE. -/
def execUartCfgWrite (n : Fin 4) (user : Bool) (k : Fin 3) (w : Word) (s : State) : Result :=
  .next (s.access (.lodger n user) .store (uartBase k + 0x08) fun s => (s.answer 0).mapUart k fun u => u.cfgWrite w)

/-- A write of UARTn_CTRL with a word made of the one it reads. -/
def State.uartCtrl (s : State) (n : Fin 4) (user : Bool) (k : Fin 3) (f : Word → Word) : State :=
  s.access (.lodger n user) .store (uartBase k + 0x0C) fun s => (s.answer 0).mapUart k fun u => u.ctrlWrite (f u.ctrlWord)

/-- FLUSH_RX: UARTn_CTRL with its other fields as they stand. -/
def execFlushRx (n : Fin 4) (user : Bool) (k : Fin 3) (s : State) : Result :=
  .next (s.uartCtrl n user k fun w => w ||| 0x100)

/-- FLUSH_TX: UARTn_CTRL with its other fields as they stand. -/
def execFlushTx (n : Fin 4) (user : Bool) (k : Fin 3) (s : State) : Result :=
  .next (s.uartCtrl n user k fun w => w ||| 0x200)

/-- UART_ENABLE_WRITE: UARTn_CTRL with its other fields as they stand. -/
def execUartEnableWrite (n : Fin 4) (user : Bool) (k : Fin 3) (en : Bool) (s : State) : Result :=
  .next (s.uartCtrl n user k fun w => (w &&& 0xFFFFFFFE) ||| flag 0 en)

end Sys2Proof.Machine
end

