-- ==== Sys2Proof/Machine/Crossing.lean ====
section
/-! DEFINITION. The crossings from the SYS domain to the blocks of the LPE, FAN, SNS, CAN and UART domains (R163, R636), whose clocks
step 14 of Table 03-2 starts; the PNL domain's is in Panel. -/

namespace Sys2Proof.Machine

/-- PLL B and PLL C feed the LPE, FAN, SNS, CAN and UART domains: from step 14 of Table 03-2 on (R163). In Standby nothing reaches the
crossings. (log 116: DEDUCED) -/
def State.blocksClocked (s : State) : Bool :=
  match s.power.phase with
  | .running | .offWait => decide (s.power.mode ≠ .standby)
  | .shutdown => true
  | _ => false

/-- A write that has crossed, by window. -/
def State.domainWrite (s : State) (base off : Nat) (w : Word) : State :=
  match base with
  | 0x40010000 => s.snsWrite off w
  | 0x40020000 => s.loopWrite off w
  | 0x40030000 => s.fanWrite off w
  | 0x40060000 => s.grdWrite off w
  | 0x40070000 => s.uartWrite off w
  | _ => s

def State.domainRead (s : State) (base off : Nat) : Word :=
  match base with
  | 0x40010000 => s.snsRead off
  | 0x40020000 => s.loopRead off
  | 0x40030000 => s.fanRead off
  | 0x40060000 => s.grdRead off
  | 0x40070000 => s.uartRead off
  | _ => 0

/-- A write of a window: held while the block's clock is stopped, in place of an earlier held one to the same register (R636). (log 116: DEDUCED) -/
def State.crossingWrite (s : State) (base off : Nat) (w : Word) : State :=
  if s.blocksClocked then s.domainWrite base off w
  else s.mapPower fun p =>
    { p with crossing := (p.crossing.filter fun x => decide (¬ (x.1 = base ∧ x.2.1 = off))) ++ [(base, off, w)] }

/-- A read of a window: of a register with a held write, the value of that write. (log 116: DEDUCED) -/
def State.crossingRead (s : State) (base off : Nat) : Word :=
  match s.power.crossing.find? fun x => decide (x.1 = base ∧ x.2.1 = off) with
  | some x => (s.domainWrite base off x.2.2).domainRead base off
  | none => s.domainRead base off

/-- The clocks start: held writes take effect, in order. (log 116: DEDUCED) -/
def State.crossingStart (s : State) : State :=
  s.power.crossing.foldl (fun s x => s.domainWrite x.1 x.2.1 x.2.2) (s.mapPower fun p => { p with crossing := [] })

end Sys2Proof.Machine
end

