-- ==== Sys2Proof/Machine/Seal.lean ====
section
/-! DEFINITION. Seal slots: how they lie in the Ledger, the checks of a change, and its course (R414 to R428). -/

namespace Sys2Proof.Machine

def State.seal (s : State) (k : Fin 16) : SealSlot := vget s.seals.slots k

def State.mapSeal (s : State) (k : Fin 16) (f : SealSlot → SealSlot) : State :=
  s.mapSeals fun x => { x with slots := vmod x.slots k f }

/-- A slot as this boot found or filled it: image keys, level and node number of a change act from the next boot on. -/
def State.bootSeal (s : State) (k : Fin 16) : SealSlot := vget s.seals.boot k

/-- The slots at boot, as their lines have them. -/
def State.loadSeals (s : State) : State :=
  let v := Vector.ofFn fun k : Fin 16 => s.readSeal k.val
  s.mapSeals fun x => { x with slots := v, boot := v }

/-- Slots that are broken. -/
def Seals.brokenMask (x : Seals) : Nat :=
  (List.finRange 16).foldl (fun m k => if (vget x.slots k).broken then m + 2 ^ k.val else m) 0

def Seals.writtenMask (x : Seals) : Nat :=
  (List.finRange 16).foldl (fun m k => if (vget x.slots k).written then m + 2 ^ k.val else m) 0

/-! ### Writing (R417, R422) -/

/-- Lines that a value takes in a bank. -/
def bankLines (k bank : Nat) (v : List Byte) : List (Nat × Line) :=
  (List.range (sealLines k)).map fun i => (sealBankLine k bank + i, slice v (32 * i) 32)

/-- The header line (Table 12-5). -/
def sealHeader (k : Nat) (x : SealSlot) (logSeq : Nat) : Line :=
  let front := leBytes 1 k ++ leBytes 1 x.changes ++ leBytes 1 x.bank ++ leBytes 1 (if x.repaired then 1 else 0) ++
    leBytes 2 (sealLen k) ++ leBytes 2 0 ++ leBytes 4 x.vcrc ++ leBytes 4 x.timeS ++ leBytes 4 x.firstS ++ leBytes 4 logSeq ++ leBytes 4 0
  front ++ leBytes 4 (crc32 front)

/-- A history entry put into its half of a line (R417). -/
def State.historyLine (s : State) (k : Nat) (x : SealSlot) (actor oldCrc : Nat) : Nat × Line :=
  let e := leBytes 1 x.changes ++ leBytes 1 actor ++ leBytes 2 0 ++ leBytes 4 x.timeS ++ leBytes 4 oldCrc ++ leBytes 4 x.vcrc
  let i := (x.changes - 1) % 6
  let line := sealHeaderLine k + 1 + i / 2
  let old := padTo 32 ((s.ledger.latest line).getD [])
  (line, if i % 2 = 0 then e ++ old.drop 16 else old.take 16 ++ e)

/-- Header, history entry and log entry of a change are issued one after the other (steps 3 and 4 of Table 12-7), so that LOG_SEQ
is the log entry's. -/
def State.sealIssue (s : State) (k : Fin 16) (x : SealSlot) (actor oldCrc : Nat) : State :=
  let s := s.inkLine (sealHeaderLine k.val) (sealHeader k.val x (seqAfter (seqAfter s.wbl.nextSeq)))
  let h := s.historyLine k.val x actor oldCrc
  (s.inkLine h.1 h.2).logSoon 0x0501
    (leBytes 1 k.val ++ leBytes 1 x.changes ++ leBytes 1 actor ++ leBytes 4 oldCrc ++ leBytes 4 x.vcrc)

/-- The image copy of a slot, as the booted image gives it. -/
def State.copyOf (s : State) (k : Fin 16) : Option (List Byte) := ((s.image.getD {}).copies[k.val]?).join

/-- A slot's new value stands, and its registers are loaded anew, DIFF with them (R104). -/
def State.sealStands (s : State) (k : Fin 16) (x : SealSlot) : State :=
  s.mapSeal k fun _ => { x with diff := match s.copyOf k with
    | some v => decide (x.value ≠ v)
    | none => false }

/-- A change of a slot to a value in a bank. -/
def SealSlot.changed (x : SealSlot) (v : List Byte) (bank rtc changes : Nat) (repaired : Bool) : SealSlot :=
  { x with
    written := true, broken := false, headerOk := true, repaired := repaired, bank := bank, changes := changes, vcrc := crc32 v
    timeS := rtc, firstS := if x.headerOk then x.firstS else rtc, value := v }

/-- R103, R101: the first change of a slot, by the image fill (actor 0) or by enrolment (actor 1). -/
def State.fillSeal (s : State) (k : Fin 16) (v : List Byte) (actor : Nat) : State :=
  let s := (bankLines k.val 0 v).foldl (fun s l => s.lineSoon l.1 l.2) s
  let x := (s.seal k).changed v 0 s.power.rtc 1 false
  ((s.sealIssue k x actor 0).sealStands k x).mapSeals fun q => { q with boot := vset q.boot k x }

/-! ### Where a value takes effect (Table 12-4) -/

/-- Rest values of seal slot 6, at once: an output in Rest steps to a new value, which may end a target journaled for it (Table 11-1);
a parked one moves to it as its target (R47, R365). A value that does not change acts on nothing; a heater already in Rest takes a new one at its next period start (R357:
Table 10-4 excepts only the entry to Rest). -/
def State.loadRests (s : State) (v : List Byte) : State :=
  (List.finRange 30).foldl (fun s i =>
    let r := fieldAt v (2 * i.val) 2
    if (s.outp i).rest = r then s else
      let s := s.mapOutp i fun o => { o with rest := r }.park
      if (s.outp i).inRest then (if s.gate.blank then s else (s.applyTo i r).targetReached i).strokeCheck i else (s.settle i).strokeCheck i) s

/-- Seal slot 9: POLES, DIR, ILIM, SHUNT of a channel. -/
def FanMotor.ofBytes (v : List Byte) (c : Nat) : FanMotor :=
  { poles := fieldAt v (5 * c) 1, reverse := decide (fieldAt v (5 * c + 1) 1 % 2 = 1), ilim := fieldAt v (5 * c + 2) 2
    shunt := fieldAt v (5 * c + 4) 1 }

def State.loadMotors (s : State) (v : List Byte) : State :=
  s.mapFans fun fs => Vector.ofFn fun c : Fin 6 => { vget fs c with sealed := FanMotor.ofBytes v c.val }

/-- The value of a slot takes effect, where Table 12-4 does not leave it to a later reset, boot or session. -/
def State.applySeal (s : State) (k : Fin 16) (v : List Byte) : State :=
  match k.val with
  | 6 => s.loadRests v
  | 7 => s.mapGate fun g => { g with envNext := some v }
  | 8 => s.mapThm fun t => { t with levelNext := some v }
  | 9 => s.loadMotors v
  | 13 => s.mapPnl fun p => { p with railseq := v }
  | 14 => s.mapThm fun t => { t with boardNext := some v }
  | 15 => s.mapLodgers fun l => Vector.ofFn fun n : Fin 4 => { vget l n with timeoutNext := fieldAt v (2 * n.val) 2 }
  | _ => s

/-! ### The checks of a COMMIT (R420, R421) -/

def allZero (v : List Byte) : Bool := v.all fun b => decide (b = 0)

/-- R50 over 30 outputs, and R358 for the CLIMOK output: Rest values and envelopes as slots 6 and 7 hold them. -/
def envelopesOk (rests envs : List Byte) (climok : Option Nat) : Bool :=
  (List.range 30).all fun i =>
    let r := fieldAt rests (2 * i) 2
    let lo := fieldAt envs (8 * i) 2
    let hi := fieldAt envs (8 * i + 2) 2
    decide (lo ≤ hi ∧ lo ≤ r ∧ r ≤ hi ∧ (climok = some i → r = 0))

/-- Levels and hysteresis of slot 8 inside Table 06-1, and in order. -/
def levelsOk (v : List Byte) : Bool :=
  let w := fieldAt v 0 1
  let t := fieldAt v 1 1
  let d := fieldAt v 2 1
  decide (85 ≤ w ∧ w ≤ 140 ∧ 95 ≤ t ∧ t ≤ 145 ∧ 105 ≤ d ∧ d ≤ 150 ∧ w < t ∧ t < d) &&
    [3, 4, 5].all (fun i => decide (2 ≤ fieldAt v i 1 ∧ fieldAt v i 1 ≤ 15))

/-- Motor data of one channel inside Table 09-5; five zero bytes stand for a channel without an entry (Table 12-4a). (log 105: DEDUCED) -/
def motorOk (v : List Byte) (entries : List Nat) (c : Nat) : Bool :=
  let m := FanMotor.ofBytes v c
  (allZero (slice v (5 * c) 5) && !entries.contains c) ||
    decide (1 ≤ m.poles ∧ m.poles ≤ 8 ∧ 100 ≤ m.ilim ∧ m.ilim ≤ 40000 ∧ 1 ≤ m.shunt)

/-- R421. (log 105: DEDUCED) -/
def State.badValue (s : State) (k : Fin 16) (v : List Byte) : Bool :=
  let img := s.image.getD {}
  match k.val with
  | 0 => !(img.sections.contains (fieldAt v 0 1))
  | 1 | 2 | 3 | 4 =>
    allZero v && (decide (k.val = img.keySlot + 1) ||
      [1, 2, 3, 4].all fun j => decide (j = k.val) || match idx? 16 j with
        | some q => allZero (s.seal q).value
        | none => true)
  | 5 => decide (fieldAt v 0 1 < fieldAt (s.seal 5).value 0 1 ∨ img.level < fieldAt v 0 1)
  | 6 => !envelopesOk v (s.seal 7).value img.climok
  | 7 => !envelopesOk (s.seal 6).value v img.climok
  | 8 => !levelsOk v
  | 9 => !((List.range 6).all fun c => motorOk v img.fanChans c)
  | 15 => !((List.range 4).all fun n => decide (1 ≤ fieldAt v (2 * n) 2 ∧ fieldAt v (2 * n) 2 ≤ 10000))
  | _ => false

/-- Results of Table 12-6. -/
inductive SealResult where
  | ok | busy | denied | stale | exhausted | badValue | badCrc | thermal | ringFull
  deriving DecidableEq, Repr

def SealResult.code : SealResult → Nat
  | .ok => 0
  | .busy => 1
  | .denied => 2
  | .stale => 3
  | .exhausted => 4
  | .badValue => 5
  | .badCrc => 6
  | .thermal => 7
  | .ringFull => 8

/-- Table 12-6, first result whose condition holds: an answer at once, or nothing where the change is made. -/
def State.commitResult (s : State) (c : SealChange) (crc : Nat) : Option SealResult :=
  let x := s.seal c.slot
  if s.seals.commit.isSome then some .busy
  else if s.svc.role ≠ 2 then some .denied
  else if !x.broken && decide (c.expect + 1 = x.changes ∧ crc = x.vcrc) then some .ok
  else if (if x.broken then decide (c.expect ≠ 0xFF) else decide (c.expect ≠ x.changes)) || decide (c.len ≠ sealLen c.slot.val) then
    some .stale
  else if !x.broken && decide (15 ≤ x.changes) then some .exhausted
  else if crc32 c.bytes ≠ crc then some .badCrc
  else if s.badValue c.slot c.bytes then some .badValue
  else if !s.windowOpen then some .thermal
  else if s.wbl.freeCount ≤ 8 then some .ringFull
  else none

/-- Where a change writes its value: the bank not in force, or both banks in a repair (R422, R427). -/
def State.changeLines (s : State) (c : SealChange) : List (Nat × Line) :=
  let x := s.seal c.slot
  if x.broken then bankLines c.slot.val 0 c.bytes ++ bankLines c.slot.val 1 c.bytes
  else bankLines c.slot.val (1 - x.bank) c.bytes

/-- Step 2 of Table 12-7. -/
def State.commitStart (s : State) (c : SealChange) : State :=
  let l := s.changeLines c
  l.foldl (fun s x => s.inkLine x.1 x.2) (s.mapSeals fun x => { x with commit := some c })

/-- A line stands in the cells, and no other version of it is on its way. -/
def State.lineStands (s : State) (n : Nat) (d : Line) : Bool :=
  decide (s.ledger.cell n = some (padTo 32 d)) && (s.ledger.buf ++ s.ledger.waiting).all fun e => decide (e.line ≠ n)

/-- Every bank line is DONE. (log 104: DEDUCED) -/
def State.bankDone (s : State) (c : SealChange) : Bool := (s.changeLines c).all fun x => s.lineStands x.1 x.2

/-- Steps 3 and 4 of Table 12-7: the header is issued, with BANK switched, CHANGES + 1 and the new VALUE_CRC (R427 for a repair),
and after it the history and log entries. (log 104: DEDUCED) -/
def State.commitHeader (s : State) (c : SealChange) : State :=
  let x := s.seal c.slot
  let y :=
    if x.broken then x.changed c.bytes 0 s.power.rtc (if x.headerOk then min 15 (x.changes + 1) else 15) true
    else x.changed c.bytes (1 - x.bank) s.power.rtc (x.changes + 1) x.repaired
  let d := sealHeader c.slot.val y (seqAfter (seqAfter s.wbl.nextSeq))
  (s.mapSeals fun q => { q with commit := some { c with sent := some (y, d) } }).sealIssue c.slot y (if x.broken then 3 else 2) x.vcrc

/-- The header of a change stands in the cells: the value stands and is applied (R422). -/
def State.commitStands (s : State) (c : SealChange) (y : SealSlot) : State :=
  ((s.sealStands c.slot y).mapSeals fun q => { q with commit := none }).applySeal c.slot c.bytes

/-! ### The SEAL read view at 0x400B_0000 -/

def State.sealRead (s : State) (off : Nat) : Word :=
  if off = 0 then pack [at_ 16 s.seals.brokenMask, at_ 0 s.seals.writtenMask]
  else if 0x40 ≤ off ∧ off < 0x80 then (match idx? 16 ((off - 0x40) / 4) with
    | some k =>
      let x := s.seal k
      pack [at_ 16 (x.vcrc % 65536), flag 7 x.diff, flag 6 (decide (x.changes = 15)), flag 5 x.repaired, at_ 4 (x.bank % 2),
        at_ 0 (x.changes % 16)]
    | none => 0)
  else if 0x80 ≤ off ∧ off < 0xC0 then (match idx? 16 ((off - 0x80) / 4) with
    | some k => BitVec.ofNat 32 (s.seal k).timeS
    | none => 0)
  else 0

end Sys2Proof.Machine
end

