-- ==== Sys2Proof/Machine/SvcCore.lean ====
section
/-! DEFINITION. The service port's sessions: how a request is taken and answered, how a session opens and closes (R582 to R600,
R605). The requests themselves are in Machine/Svc.lean. -/

namespace Sys2Proof.Machine

/-- Boot is held, so that R605 limits what is served. -/
def State.bootHeld (s : State) : Bool :=
  match s.power.phase with
  | .latched | .tooHot | .nodeHold | .brokenSeal | .noImage | .ledgerWait => true
  | _ => false

/-- The SVC domain runs (R163, R605). -/
def State.svcUp (s : State) : Bool := s.inkAlive && decide (s.power.mode ≠ .standby)

/-- The detector of the wake phrase runs: in every mode except Off (R591, R605). -/
def State.detectorRuns (s : State) : Bool := decide (s.power.phase ≠ .off ∧ s.power.phase ≠ .test)

def State.svcInt (s : State) (b : Nat) : State := s.mapSvc fun x => { x with int := x.int ||| BitVec.ofNat 4 (2 ^ b) }

/-! ### The line (R580 to R582, R590) -/

/-- Bits of a value, least significant first (R581). -/
def lsbFirst (n v : Nat) : List Bool := (List.range n).map v.testBit

/-- R580: carrier in the first and in the second half of each bit. -/
def carrierOf (l : List Bool) : List Bool := l.flatMap fun b => [!b, b]

/-- A frame on air (Table 17-1): preamble, SYNC, LEN, TYPE, SEQ, SESSION, payload and CRC. -/
def Palnyx.air (f : Palnyx) : List Byte :=
  let b := leBytes 1 f.payload.length ++ leBytes 1 f.type ++ leBytes 1 f.seq ++ leBytes 1 f.session ++ f.payload
  leBytes 2 0x5555 ++ leBytes 2 0x967E ++ b ++ leBytes 2 (crc16 b)

/-- The frame sent last, as SVC_LED sends it: whether each half bit has carrier. -/
def Svc.led (x : Svc) : List Bool :=
  match x.sent with
  | some f => carrierOf (f.air.flatMap fun b => lsbFirst 8 b.toNat)
  | none => []

/-- The current of SVC_LED while the carrier is on, in mA (R579). -/
def Svc.ledMilliamps (x : Svc) : Nat := 5 * x.ledMa

/-- R590: the wake phrase. -/
def wakePhraseValue : Nat := 0xA6D23B1CE47F

/-- R591: a bit period, in ns, within 2 % of 208.33 µs (640 cycles of the SVC clock, R580). -/
def periodOk (ns : Nat) : Bool := decide (98 * 640000000 ≤ 100 * 3072 * ns ∧ 100 * 3072 * ns ≤ 102 * 640000000)

/-- The half bits of two complete consecutive copies. -/
def twoCopies : List Bool :=
  let copy := carrierOf (lsbFirst 48 wakePhraseValue)
  copy ++ copy

/-- R591: the half bits that follow the first two complete consecutive copies in a reception; none where it holds no two. -/
def afterPhrase : List Bool → Option (List Bool)
  | [] => none
  | b :: l => if twoCopies.isPrefixOf (b :: l) then some (l.drop 191) else afterPhrase l

/-- R591: the half bits received hold two complete consecutive copies. -/
def phraseAccepted (halves : List Bool) : Bool := (afterPhrase halves).isSome

/-- How often, up to a limit, a reception holds two complete consecutive copies one after the other, and what follows the last. -/
def phrasesIn : Nat → List Bool → Nat × List Bool
  | 0, l => (0, l)
  | n + 1, l => match afterPhrase l with
    | some r => ((phrasesIn n r).1 + 1, (phrasesIn n r).2)
    | none => (0, l)

/-- The last half bits of a reception, as many as two copies take. -/
def lastHalves (l : List Bool) : List Bool := l.drop (l.length - 192)

/-! ### The device's own transmission (R579, R584)

A half bit lasts 625/6 µs. -/

/-- Half bits of the frame sent last, up to the last one with carrier. -/
def Svc.carrierHalves (x : Svc) : Nat := (x.led.reverse.dropWhile (!·)).length

/-- The time, in sixths of a microsecond, a number of half bits after the last carrier cycle sent. -/
def Svc.afterCarrier (x : Svc) (n : Nat) : Nat := 6 * x.sentAt + 625 * (x.carrierHalves + n)

/-- Since when the receiver hears, in sixths of a microsecond: one bit period after the last carrier cycle that the device itself
sent (R579), and the end of the latest flood (R603). -/
def Svc.hearsFrom (x : Svc) : Option Nat :=
  match x.sent, x.floodEnd with
  | some _, some t => some (max (x.afterCarrier 2) (6 * t))
  | some _, none => some (x.afterCarrier 2)
  | none, some t => some (6 * t)
  | none, none => none

/-- R579, R603: a reception of a number of half bits that ends now began while the receiver ignored its input, or in a flood.
(log 154: DEDUCED) -/
def State.deaf (s : State) (halves : Nat) : Bool :=
  match s.svc.hearsFrom with
  | some t => decide (6 * s.now < t + 625 * halves)
  | none => false

/-- Half bits on air of a frame with a payload (Table 17-1). -/
def frameHalves (payload : Nat) : Nat := 16 * (10 + payload)

/-- R584: the device's own carrier has ended at least two bit periods ago. (log 154: DEDUCED) -/
def State.lineFree (s : State) : Bool := s.svc.sent.isNone || decide (s.svc.afterCarrier 4 ≤ 6 * s.now)

/-- What the receiver hears of the half bits that end now: those after the time in which it ignores its input (R579, R603). -/
def State.heard (s : State) (l : List Bool) : List Bool :=
  if s.deaf l.length then l.drop (l.length - (6 * s.now - s.svc.hearsFrom.getD 0) / 625) else l

/-! ### Replies (R584) -/

/-- A result code with the three reserved bytes that follow it in a reply (log entry 74). -/
def plain (code : Nat) : List Byte := leBytes 1 code ++ [0, 0, 0]

/-- The reply to the request of a TYPE and SEQ is queued. It is the previous reply of R585 while no later request has been
accepted. -/
def Svc.reply (x : Svc) (f : Palnyx) : Svc :=
  { x with out := x.out ++ [f], lastReply := if x.lastSeq = some f.seq then some f else x.lastReply }

def State.svcReply (s : State) (type seq : Nat) (payload : List Byte) : State :=
  s.mapSvc fun x => x.reply { type := (type + 0x80) % 256, seq := seq, session := x.session, payload := payload }

/-- The reply to an accepted CLOSE is queued; the first one closes the session when it has been sent (R597). -/
def Svc.replyClose (x : Svc) (f : Palnyx) : Svc :=
  { x.reply f with closing := x.closing <|> (if f.session = x.session then some f else none) }

/-! ### Opening (R593, R594) -/

/-- The number of a new session: from 1 to 255, and not the latest one. -/
def newSession (draw prev : Nat) : Nat :=
  let n := draw % 255 + 1
  if n = prev then n % 255 + 1 else n

/-- The key that a slot holds, empty where it holds none or is broken (R596). -/
def SealSlot.key (x : SealSlot) : List Byte := if x.written && !x.broken && !allZero x.value then x.value else []

/-- Table 17-3. -/
def State.helloPayload (s : State) (challenge : List Byte) : List Byte :=
  let v := (s.seal 0).value
  let stopped := decide (s.power.phase = .brokenSeal ∨ s.power.phase = .nodeHold)
  leBytes 1 (fieldAt v 0 1) ++ leBytes 1 (fieldAt v 1 1) ++
    leBytes 1 ((if (s.seal 11).key = [] then 0 else 1) + (if (s.seal 10).key = [] then 0 else 2)) ++ leBytes 1 (if stopped then 1 else 0) ++
    leBytes 4 s.boot.imgSeq ++ leBytes 4 s.power.rtc ++ challenge

/-- A session opens: OPENING, with HELLO queued. -/
def State.openSession (s : State) : State :=
  let d := s.draws
  let c := (List.range 16).map fun i => Config.challengeByte d i
  let n := newSession (Config.sessionDraw d) s.svc.prev
  let h : Palnyx := { type := 0x81, seq := Config.helloSeq d % 256, session := n, payload := s.helloPayload c }
  (s.mapDraws (· + 1)).mapSvc fun x =>
    { x with
      st := .opening, session := n, prev := n, role := 0, challenge := c, node := fieldAt (s.seal 0).value 0 1, techKey := (s.seal 11).key
      inspKey := (s.seal 10).key, lastSeq := none, lastReply := none, fails := 0
      closing := none, phraseWait := false, out := x.out ++ [h], helloAt := s.now, frameAt := s.now }

/-! ### Closing (R597, R598) -/

/-- A session closes with a cause. What waits for the end of a seal commit goes on waiting (Table 17-4). -/
def State.closeSession (s : State) (cause : Nat) : State :=
  if s.svc.st = .closed then s else
    let thr := s.panelThr
    let s := (s.mapSvc fun x =>
      { x with
        st := .closed, session := 0, role := 0, challenge := [], lastSeq := none, lastReply := none, closing := none
        fails := 0, app := none }).svcInt 1
    let s := s.mapSeals fun q => { q with collect := none }
    let s := if s.power.mode = .nightHold then s.panelClockStop thr else s
    s.logEvent 0x0803 (leBytes 1 cause)

/-- An accepted phrase while the device is awake (R593), which waits for the end of a seal commit (Table 17-4). -/
def State.phrase (s : State) : State :=
  if s.seals.commit.isSome then s.mapSvc fun x => { x with phraseWait := true }
  else (s.closeSession 3).openSession

/-- What waited for the end of a seal commit: CLOSE is answered, a phrase opens its session (Table 17-4). -/
def State.afterCommit (s : State) : State :=
  let s := s.mapSvc fun x => { x.closeWait.foldl Svc.replyClose x with closeWait := [] }
  if s.svc.phraseWait then (s.closeSession 3).openSession else s

/-! ### Results of a seal commit (R588) -/

/-- Byte 0 of the reply to SEAL_COMMIT: the code of R56 of the result's name, where R56 has one. -/
def SealResult.result : SealResult → Nat
  | .ok => 0
  | .denied => 3
  | .ringFull => 4
  | .thermal => 7
  | r => Config.commitResult r.code % 8

/-- R588: the result, and the code of Table 12-6 in byte 1. (log 74: DEDUCED) -/
def sealReply (r : SealResult) : List Byte := leBytes 1 r.result ++ leBytes 1 r.code ++ [0, 0]

/-- The reply to a request that the session's rights do not allow (R587); that to SEAL_COMMIT carries DENIED of Table 12-6 too. -/
def refusal (type : Nat) : List Byte := if type = 0x06 then sealReply .denied else plain 3

/-! ### Requests (R583, R585, R587) -/

/-- A frame whose CRC has passed, taken as a request of its TYPE: it must belong to the open session, no flood stands, and the
device was not sending itself when it began (R579), nor did a flood stand then (R603); `len` is the number of its payload bytes. `any` requests need no role
(Table 17-2); `held` requests are served while boot is held (R605). -/
def State.svcRequest (s : State) (type seq session len : Nat) (any held : Bool) (serve : State → State) : State :=
  let x := s.svc
  if !s.svcUp || decide (x.st = .closed) || x.flood || s.deaf (frameHalves len) || decide (session ≠ if type = 0x02 then 0 else x.session) then s
  else
    let s := s.mapSvc fun x => { x with frameAt := s.now }
    if x.lastSeq = some seq then
      match x.lastReply with
      | some r => s.mapSvc fun x => { x with out := x.out ++ [r] }
      | none => s
    else
      let s := s.mapSvc fun x => { x with lastSeq := some seq, lastReply := none }
      if (s.bootHeld && !held) || (x.role = 0 && !any) then s.svcReply type seq (refusal type) else serve s

/-! ### Application frames (R600) -/

/-- A pending exchange ends with a reply. -/
def State.appEnds (s : State) (payload : List Byte) : State :=
  match s.svc.app with
  | some (q, _, _) => (s.mapSvc fun x => { x with app := none }).svcReply 0x0A q payload
  | none => s

/-- Table 17-4: the owning Lodger is reset. -/
def State.appOwnerReset (s : State) (n : Fin 4) : State :=
  match s.svc.app with
  | some (_, o, _) => if o = n.val then s.appEnds (plain 5) else s
  | none => s

end Sys2Proof.Machine
end

