-- ==== Sys2Proof/Machine/Image.lean ====
section
/-! DEFINITION. The Ihley image: its layout, the checks of steps 8 to 11 of Table 03-2 with their failure codes, and the image
copies of the seal slots (R91 to R106, R115 to R121, R415, R416, and the entry rules of each chapter). -/

namespace Sys2Proof.Machine

/-- Slot failure codes (Table 03-7). -/
inductive SlotFail where
  | nor | sfdp | magic | format | length | hash | signature | keyEmpty | rollback | capacity | table | envelope | noNode | patch
  | reverted
  deriving DecidableEq, Repr

def SlotFail.code : SlotFail → Nat
  | .nor => 1
  | .sfdp => 2
  | .magic => 3
  | .format => 4
  | .length => 5
  | .hash => 6
  | .signature => 7
  | .keyEmpty => 8
  | .rollback => 9
  | .capacity => 10
  | .table => 11
  | .envelope => 12
  | .noNode => 13
  | .patch => 14
  | .reverted => 15

/-- What a check answers. -/
abbrev Check (α : Type) := Except SlotFail α

/-- A condition of a check, with the code of its failure. -/
def need (b : Bool) (c : SlotFail) : Check Unit := if b then .ok () else .error c

/-! ### Parts and table directories (R96, R97, R115, R116, R118, R119) -/

/-- Tables by identifier, each with its entries. -/
abbrev Tabs := List (Nat × List (List Byte))

/-- The entries of a table; an absent table has none (R97). -/
def Tabs.get (t : Tabs) (id : Nat) : List (List Byte) := ((t.find? fun x => decide (x.1 = id)).map (·.2)).getD []

/-- Table 03-6: identifier, entry size and capacity of the tables of the group part, or of a node section. -/
def tableSpec (group : Bool) : List (Nat × Nat × Nat) :=
  if group then [(0x01, 8, 256), (0x02, 8, 1024), (0x03, 32, 1), (0x04, 16, 64), (0x05, 68, 2)]
  else
    [(0x10, 12, 64), (0x11, 16, 30), (0x12, 16, 16), (0x13, 8, 16), (0x14, 8, 10), (0x15, 64, 48), (0x16, 48, 192), (0x17, 8, 768),
      (0x18, 32, 6), (0x19, 8, 24)] ++
    [(0x1A, 8, 24), (0x1B, 32, 1), (0x1C, 4, 8), (0x1D, 16, 3), (0x1E, 32, 24), (0x1F, 32, 1), (0x20, 1, 1024), (0x21, 8, 32),
      (0x30, 16, 16)]

/-- `n` entries of a size. (log 35: DEDUCED) -/
def entriesOf (size : Nat) : Nat → List Byte → List (List Byte)
  | 0, _ => []
  | n + 1, bs => padTo size bs :: entriesOf size n (bs.drop size)

/-- One entry of a table directory, with the table's entries. Its offset counts from the start of the part that it belongs to
(R96), and needs no multiple of 16. (log 35: DEDUCED; log 160: DESIGN CHOICE) -/
def readTable (part : List Byte) (group : Bool) (first : Nat) (d : List Byte) : Check (Nat × List (List Byte)) :=
  let id := fieldAt d 0 2
  let size := fieldAt d 2 2
  let count := fieldAt d 4 4
  let ofs := fieldAt d 8 4
  match (tableSpec group).find? fun x => decide (x.1 = id) with
  | none => .error .table
  | some x =>
    if size ≠ x.2.1 then .error .table
    else if x.2.2 < count then .error .capacity
    else if count ≠ 0 ∧ (ofs < first ∨ part.length < ofs + count * size) then .error .table
    else .ok (id, entriesOf size count (part.drop ofs))

/-- R96: the tables of a part that begins with a table directory: the group part, or the table part of a node section, which
begins after the preamble (R95). -/
def readTables (part : List Byte) (group : Bool) : Check Tabs :=
  let n := fieldAt part 0 4
  let first := 4 + 16 * n
  if part.length < first then .error .table
  else do
    let t ← (entriesOf 16 n (part.drop 4)).mapM (readTable part group first)
    need (decide (t.map (·.1)).Nodup) .table
    return t

/-! ### The header (Table 03-3) -/

structure Header where
  length : Nat
  seq : Nat
  level : Nat
  keySlot : Nat
  version : Nat
  count : Nat
  confirm : Nat
  groupOfs : Nat
  groupLen : Nat
  dirOfs : Nat
  patchOfs : Nat
  patchLen : Nat
  enrol : List Byte
  deriving DecidableEq, Repr

/-- Step 8 of Table 03-2. A header field outside the range of Table 03-3 counts as one that the FORMAT does not support. LENGTH may
be any value of its range, and so the signature block, which lies in the last 64 bytes, may stand at any offset: the multiples
of 16 of R91 are asked of the offsets that the image carries. (log 32: DESIGN CHOICE) -/
def readHeader (b : List Byte) : Check Header :=
  let h : Header :=
    { length := fieldAt b 8 4, seq := fieldAt b 0xC 4, level := fieldAt b 0x10 1, keySlot := fieldAt b 0x11 1
      version := fieldAt b 0x14 2, count := fieldAt b 0x16 2, confirm := fieldAt b 0x18 2, groupOfs := fieldAt b 0x1C 4
      groupLen := fieldAt b 0x20 4, dirOfs := fieldAt b 0x24 4, patchOfs := fieldAt b 0x28 4, patchLen := fieldAt b 0x2C 4
      enrol := slice b 0x80 64 }
  if fieldAt b 0 4 ≠ 0x594C4849 then .error .magic
  else if fieldAt b 4 2 ≠ 1 ∨ fieldAt b 6 2 ≠ 256 ∨ fieldAt b 0x12 2 ≠ 0 ∨ fieldAt b 0x1A 2 ≠ 0 then .error .format
  else if !allZero (slice b 0x34 76) || !allZero (slice b 0xC0 64) then .error .format
  else if 3 < h.keySlot ∨ h.count = 0 ∨ h.confirm < 60 ∨ 3600 < h.confirm then .error .format
  else if 256 < h.count then .error .capacity
  else if h.length < 1024 ∨ 4194304 < h.length then .error .length
  else .ok h

/-! ### Keys and signature (R93, R100 to R102) -/

/-- All four image key slots are empty (R101). A broken slot is not. (log 33: DEDUCED) -/
def State.keysEmpty (s : State) : Bool :=
  [1, 2, 3, 4].all fun k => match idx? 16 k with
    | some q => !(s.bootSeal q).broken && decide ((s.bootSeal q).key = [])
    | none => true

/-- The key that verifies an image: the one of KEY_SLOT, or its own ENROL_KEY while enrolment is allowed. (log 33: DEDUCED) -/
def State.imageKey (s : State) (h : Header) : List Byte :=
  if s.keysEmpty then (if allZero h.enrol then [] else h.enrol)
  else match idx? 16 (h.keySlot + 1) with
    | some q => (s.bootSeal q).key
    | none => []

/-- One reading of an image under a key (R93): whether its digest matches its signature values, which lie inside the curve order. -/
def signedBy (key : List Byte) (length : Nat) (img : List Byte) : Check Bool :=
  let r := leNat (slice img (length - 64) 32)
  let v := leNat (slice img (length - 32) 32)
  if !p256InOrder r v then .error .signature else .ok (ecdsaOk key (sha256 (img.take (length - 64))) r v)

/-- A reading of an image: what stands in the NOR, with the bytes that this reading finds in their place. -/
def overlay (img : List Byte) (l : List (Nat × Byte)) : List Byte := l.foldl (fun b p => b.set p.1 p.2) img

/-- Steps 9 and 10: the image as the reading that verifies finds it. A digest that does not match is read and hashed once more,
and the code is HASH where it fails twice (R121). (log 32: DESIGN CHOICE) -/
def State.verify (s : State) (h : Header) (img : List Byte) (e : NorEnv) : Check (List Byte) :=
  let key := s.imageKey h
  let level (b : List Byte) : Check (List Byte) :=
    if h.level < fieldAt (s.bootSeal 5).value 0 1 then .error .rollback else .ok b
  if key = [] then .error .keyEmpty
  else do
    let a := overlay img e.first
    if (← signedBy key h.length a) then level a
    else
      let b := overlay img e.second
      if (← signedBy key h.length b) then level b else .error .hash

/-! ### The group part (R469, R503, R505, R506, R416) -/

def nodeOf (e : List Byte) : NodeEntry :=
  { node := fieldAt e 0 1, seg := fieldAt e 1 1, bridge := decide (128 ≤ fieldAt e 2 1), bseg := fieldAt e 2 1 % 8
    cabinet := fieldAt e 3 1 }

/-- R26: a field whose value 0 stands for its default, else inside its range. -/
def defaulted (v lo hi : Nat) : Bool := decide (v = 0 ∨ (lo ≤ v ∧ v ≤ hi))

/-- R503: the GROUPTIME entry, or its defaults. R466 gives no default of NSJW and DSJW (log entry 7). -/
def groupTime (g : Tabs) : List Byte :=
  match g.get 0x03 with
  | e :: _ => e
  | [] =>
    padTo 32 (leBytes 4 0 ++ leBytes 1 0 ++ leBytes 1 1 ++ leBytes 2 10 ++ leBytes 1 1 ++ leBytes 1 62 ++ leBytes 1 15 ++
      leBytes 1 (Config.openSjw false % 16) ++ leBytes 1 0 ++ leBytes 1 30 ++ leBytes 1 7 ++ leBytes 1 (Config.openSjw true % 8) ++
      leBytes 1 1 ++ leBytes 1 0 ++ leBytes 2 3000 ++ leBytes 2 1000 ++ leBytes 2 3600)

/-- A field of GROUPTIME whose 0 means a default. -/
def groupTimeOr (g : Tabs) (o dflt : Nat) : Nat := let v := fieldAt (groupTime g) o 2; if v = 0 then dflt else v

def keyEntryOf (g : Tabs) (e : List Byte) : KeyEntry :=
  let l := fieldAt e 4 2
  { key := fieldAt e 0 2, host := fieldAt e 2 1, resource := fieldAt e 3 1, lease := if l = 0 then groupTimeOr g 0x12 3000 else l }

def bookClassOf (e : List Byte) : BookClass :=
  { bkind := fieldAt e 0 1, needsKey := decide (fieldAt e 1 1 % 2 = 1), maxDur := fieldAt e 2 2, unit := fieldAt e 4 1 }

/-- The rules over the group part alone. -/
def groupOk (g : Tabs) : Bool :=
  let nodes := (g.get 0x01).map nodeOf
  let keys := (g.get 0x02).map (keyEntryOf g)
  let books := (g.get 0x04).map bookClassOf
  let auth := g.get 0x05
  decide (nodes.map (·.node)).Nodup && (nodes.all fun n => decide (n.seg ≤ 7 ∧ ¬ (n.bridge ∧ n.bseg = n.seg))) &&
    decide (keys.map (·.key)).Nodup && decide (keys.map fun k => (k.host, k.resource)).Nodup &&
    (keys.all fun k => decide (k.key ≤ 1023 ∧ k.resource ≤ 29 ∧ 500 ≤ k.lease ∧ k.lease ≤ 30000) &&
      nodes.any fun n => decide (n.node = k.host)) &&
    ((g.get 0x03).all fun e => defaulted (fieldAt e 6 2) 1 600 && defaulted (fieldAt e 0x12 2) 500 30000 &&
      defaulted (fieldAt e 0x14 2) 100 5000 && defaulted (fieldAt e 0x16 2) 60 65535) &&
    decide (books.map (·.bkind)).Nodup && (books.all fun b => decide (b.bkind ≤ 63 ∧ b.unit ≤ 4)) &&
    decide (auth.map fun e => fieldAt e 0 1).Nodup &&
    auth.all fun e => decide (fieldAt e 0 1 = 1 ∨ fieldAt e 0 1 = 2) && !allZero (slice e 4 64)

/-! ### Loading a node section's tables (step 12 reads them; some checks of step 11 need them loaded) -/

/-- A node section: its number, its bytes and its tables. -/
structure Section where
  node : Nat
  bytes : List Byte
  tabs : Tabs
  deriving DecidableEq, Repr

/-- R74: protection regions. A region without an entry permits nothing. -/
def Section.regions (x : Section) (n : Fin 4) : Vector Region 16 :=
  (x.tabs.get 0x10).foldl (fun v e => match idx? 16 (fieldAt e 1 1) with
    | some r =>
      if fieldAt e 0 1 = n.val then
        let p := fieldAt e 2 1
        vset v r { base := fieldAt e 4 4, limit := fieldAt e 8 4, r := decide (p % 2 = 1), w := decide (p / 2 % 2 = 1)
                   x := decide (p / 4 % 2 = 1), ua := decide (p / 8 % 2 = 1) }
      else v
    | none => v) (Vector.replicate 16 {})

/-- Table 08-7. -/
def slotOfEntry (e : List Byte) : LoopSlot :=
  let w (o : Nat) : Word := BitVec.ofNat 32 (fieldAt e o 4)
  let f := fieldAt e 1 1
  { en := decide (f % 2 = 1), direct := decide (f / 2 % 2 = 1), fallback := f / 4 % 4, regions := f / 16 % 4
    destKind := fieldAt e 2 1, destId := fieldAt e 3 1, div := fieldAt e 4 2, ndiv := fieldAt e 6 2, fbAddr := fieldAt e 8 4
    sp := w 0xC, regAddr := fieldAt e 0x10 4, t := #v[w 0x14, w 0x18, w 0x1C], hys := w 0x20, destAddr := fieldAt e 0x24 4
    schedAddr := fieldAt e 0x28 4, staleN := fieldAt e 0x2C 1, goodK := fieldAt e 0x2D 1, frzTime := fieldAt e 0x2E 2
    frzBand := w 0x30, frzDu := w 0x34, fbFirst := fieldAt e 0x38 2, fbCount := fieldAt e 0x3A 1 }

/-- The nine words of a COEF entry. -/
def bankOfEntry (e : List Byte) : Bank := Vector.ofFn fun k : Fin 9 => BitVec.ofNat 32 (fieldAt e (4 + 4 * k.val) 4)

/-- The FALLBACK points. -/
def Section.points (x : Section) : List (Word × Word) :=
  (x.tabs.get 0x17).map fun e => (BitVec.ofNat 32 (fieldAt e 0 4), BitVec.ofNat 32 (fieldAt e 4 4))

/-- R306: the loop engine as the LOOP, COEF and FALLBACK tables set it up. -/
def Section.loops (x : Section) : Loops :=
  let s0 := (x.tabs.get 0x15).foldl (fun v e => match idx? 48 (fieldAt e 0 1) with
    | some n => vset v n (slotOfEntry e)
    | none => v) (Vector.replicate 48 ({} : LoopSlot))
  let s1 := (x.tabs.get 0x16).foldl (fun v e => match idx? 48 (fieldAt e 0 1), idx? 4 (fieldAt e 1 1) with
    | some n, some b => vmod v n fun y => { y with banks := vset y.banks b (bankOfEntry e) }
    | _, _ => v) s0
  { slots := s1.map fun y => let y := { y with stg := vget y.banks 0 }; if y.en then y.enable else y, points := x.points }

/-- The fan set-up of a channel: its FAN entry, if any, and its SKIP entries. -/
def Section.fanEntry (x : Section) (c : Nat) : Option (List Byte) :=
  (x.tabs.get 0x18).reverse.find? fun e => decide (fieldAt e 0 1 = c)

/-- Table 09-4. -/
def fanCfgOfEntry (e : List Byte) : FanCfg :=
  { pwmKhz := fieldAt e 3 1, dead := fieldAt e 6 1, align := fieldAt e 7 1, handover := fieldAt e 8 2, minRpm := fieldAt e 0xA 2
    rampUp := fieldAt e 0xC 2, rampDn := fieldAt e 0xE 2, stallRpm := fieldAt e 0x10 2, stallTime := fieldAt e 0x12 1
    alignDuty := fieldAt e 0x13 1, rstWait := fieldAt e 0x14 1, rstWin := fieldAt e 0x15 1, skipRate := fieldAt e 0x16 1
    kp := BitVec.ofNat 32 (fieldAt e 0x18 4), ki := BitVec.ofNat 32 (fieldAt e 0x1C 4) }

/-- A fan set-up with the band of a SKIP entry (Table 09-6). -/
def FanCfg.withSkip (g : FanCfg) (e : List Byte) : FanCfg :=
  match idx? 4 (fieldAt e 1 1) with
  | some b => { g with skips := vset g.skips b (fieldAt e 4 2, fieldAt e 6 2) }
  | none => g

/-- A fan set-up with the SKIP entries of its channel. -/
def Section.withSkips (x : Section) (c : Nat) (g : FanCfg) : FanCfg :=
  (x.tabs.get 0x19).foldl (fun g e => if fieldAt e 0 1 = c then g.withSkip e else g) g

def Section.fanCfg (x : Section) (c : Nat) : FanCfg := x.withSkips c (((x.fanEntry c).map fanCfgOfEntry).getD {})

/-- Table 13-7. -/
def chanOfEntry (e : List Byte) : Chan :=
  let f := fieldAt e 2 1
  { owner := idx? 4 (fieldAt e 1 1), autostart := decide (f % 2 = 1), resume := decide (f / 2 % 2 = 1)
    srcInc := decide (f / 4 % 2 = 1), dstInc := decide (f / 8 % 2 = 1), se := decide (f / 16 % 2 = 1), prio := fieldAt e 3 1
    retry := fieldAt e 4 1, burst := fieldAt e 5 1 - 1, trig := fieldAt e 6 1, reqBlk := fieldAt e 8 2 - 1
    beats := fieldAt e 0xA 2, src := fieldAt e 0xC 4, dst := fieldAt e 0x10 4, desc := fieldAt e 0x14 4 }

/-- R461: the channels as the DMAPRESET table sets them up. -/
def Section.chans (x : Section) : Vector Chan 24 :=
  (x.tabs.get 0x1E).foldl (fun v e => match idx? 24 (fieldAt e 0 1) with
    | some c => vset v c (chanOfEntry e)
    | none => v) (Vector.replicate 24 ({} : Chan))

/-- R74 and R461 in force. -/
def State.loadFences (s : State) (x : Section) : State :=
  s.mapLodgers fun l => Vector.ofFn fun n : Fin 4 => { vget l n with regions := x.regions n }

def State.loadDma (s : State) (x : Section) : State := s.mapCarder fun d => { d with chans := x.chans }

/-! ### Image copies of the seal slots (R415, Table 12-4a) -/

/-- The ENVELOPE entry of an output. -/
def Section.envelope (x : Section) (i : Nat) : Option (List Byte) := (x.tabs.get 0x11).find? fun e => decide (fieldAt e 0 1 = i)

def Section.rests (x : Section) : List Byte :=
  (List.range 30).flatMap fun i => match x.envelope i with
    | some e => slice e 0xA 2
    | none => [0, 0]

def Section.envelopes (x : Section) : List Byte :=
  (List.range 30).flatMap fun i => match x.envelope i with
    | some e => slice e 4 6 ++ leBytes 2 (fieldAt e 1 1 * 2 ^ 14 + fieldAt e 2 2 % 2 ^ 10)
    | none => List.replicate 8 0

/-- The DO output that CLIMOK drives (R358), as its gate index. -/
def Section.climok (x : Section) : Option Nat :=
  ((x.tabs.get 0x1A).find? fun e => decide (8 ≤ fieldAt e 0 1 ∧ fieldAt e 0 1 < 20 ∧ fieldAt e 1 1 / 2 % 2 = 1)).map fun e =>
    fieldAt e 0 1

/-- WDT of the preamble, each 0 replaced by 100. -/
def Section.wdt (x : Section) : List Byte :=
  (List.range 4).flatMap fun n => let t := fieldAt x.bytes (0x18 + 2 * n) 2; leBytes 2 (if t = 0 then 100 else t)

/-- The image copy of a seal slot, where it has one. -/
def imageCopy (g : Tabs) (sec : Option Section) (k : Nat) : Option (List Byte) :=
  let auth (role : Nat) : Option (List Byte) := ((g.get 0x05).find? fun e => decide (fieldAt e 0 1 = role)).map fun e => slice e 4 64
  match k with
  | 10 => auth 2
  | 11 => auth 1
  | 12 => some ((groupTime g).take 6 ++ [0, 0])
  | _ => match sec with
    | none => none
    | some x => match k with
      | 0 => ((g.get 0x01).find? fun e => decide (fieldAt e 0 1 = x.node)).map fun e =>
        leBytes 1 x.node ++ leBytes 1 (fieldAt e 1 1 % 8) ++ [0, 0] ++ slice (groupTime g) 8 10 ++ [0, 0]
      | 6 => some x.rests
      | 7 => some x.envelopes
      | 8 => (x.tabs.get 0x1B).head?.map fun e => slice e 0 3 ++ slice e 4 4
      | 9 => some ((List.range 6).flatMap fun c => match x.fanEntry c with
        | some e => slice e 2 1 ++ leBytes 1 (fieldAt e 1 1 / 32 % 2) ++ slice e 4 2 ++ slice e 0x17 1
        | none => List.replicate 5 0)
      | 13 => (x.tabs.get 0x1F).head?.map fun e => slice e 0x10 16
      | 14 => (x.tabs.get 0x1B).head?.map fun e =>
        let ui := fieldAt e 0xA 1
        (if ui ≤ 15 then [1, BitVec.ofNat 8 ui] else [0, 0]) ++ slice e 0xC 2
      | 15 => some x.wdt
      | _ => none

/-! ### The rules over a node section (step 11) -/

/-- R74. -/
def fencesOk (x : Section) : Bool :=
  let t := x.tabs.get 0x10
  decide (t.map fun e => (fieldAt e 0 1, fieldAt e 1 1)).Nodup &&
    t.all fun e =>
      decide (fieldAt e 0 1 ≤ 3 ∧ fieldAt e 1 1 ≤ 15 ∧ fieldAt e 2 1 < 16 ∧ fieldAt e 3 1 = 0 ∧ fieldAt e 4 4 % 256 = 0 ∧
        fieldAt e 8 4 % 256 = 0 ∧ fieldAt e 4 4 < fieldAt e 8 4)

/-- R75, its TABLE part. -/
def ownersOk (x : Section) : Bool :=
  let t := x.tabs.get 0x11
  decide (t.map fun e => fieldAt e 0 1).Nodup &&
    t.all fun e => decide (fieldAt e 0 1 ≤ 29) && match fieldAt e 1 1 with
      | 0 => true
      | 1 => decide (fieldAt e 2 2 ≤ 3)
      | 2 => decide (fieldAt e 2 2 ≤ 47)
      | 3 => decide (fieldAt e 2 2 ≤ 1023)
      | _ => false

/-- R50, R75 and R117, with code ENVELOPE. -/
def envelopeEntriesOk (x : Section) : Bool :=
  (x.tabs.get 0x11).all fun e =>
    decide (fieldAt e 4 2 ≤ fieldAt e 0xA 2 ∧ fieldAt e 0xA 2 ≤ fieldAt e 6 2 ∧ fieldAt e 6 2 ≤ outTop (fieldAt e 0 1))

/-- R505 on the booting node: OWNER of the envelopes in force, eight bytes each, against KEYMAP. -/
def keyOwnersOk (g : Tabs) (x : Section) (envs : List Byte) : Bool :=
  let keys := (g.get 0x02).map (keyEntryOf g)
  let owner (i : Nat) : Nat × Nat := let w := fieldAt envs (8 * i + 6) 2; (w / 2 ^ 14, w % 2 ^ 10)
  ((List.range 30).all fun i => decide ((owner i).1 ≠ 3) ||
      keys.any fun k => decide (k.key = (owner i).2 ∧ k.host = x.node ∧ k.resource = i)) &&
    keys.all fun k => decide (k.host ≠ x.node ∨ owner k.resource = (3, k.key))

/-- R252. -/
def senseOk (x : Section) : Bool :=
  let t := x.tabs.get 0x12
  decide (t.map fun e => fieldAt e 0 1).Nodup && (t.all fun e => decide (fieldAt e 0 1 ≤ 15 ∧ fieldAt e 1 1 ≤ 5)) &&
    ((x.tabs.get 0x13).all fun e =>
      let f := fieldAt e 3 1
      decide (f % 4 ≤ 2 ∧ 1 ≤ f / 16 % 8 ∧ f / 16 % 8 ≤ 6 ∧ 1 ≤ fieldAt e 5 1)) &&
    (x.tabs.get 0x14).all fun e => decide (fieldAt e 0 1 ≤ 9 ∧ (8 ≤ fieldAt e 0 1 → 1 ≤ fieldAt e 2 1 ∧ fieldAt e 2 1 ≤ 3))

/-- R274, R283, R294. -/
def loopsOk (x : Section) : Bool :=
  let l := x.loops
  let coef := x.tabs.get 0x16
  ((x.tabs.get 0x15).all fun e =>
    let y := slotOfEntry e
    decide (fieldAt e 0 1 ≤ 47 ∧ 1 ≤ y.div ∧ y.div ≤ 400 ∧ 1 ≤ y.ndiv ∧ y.ndiv ≤ 400 ∧ 1 ≤ y.staleN ∧ 1 ≤ y.goodK ∧
        y.destKind ≤ 3) &&
      y.setupOk x.points && y.addrOk &&
      (!y.en || ((List.range (y.regions + 1)).all fun b =>
        decide ((coef.filter fun c => decide (fieldAt c 0 1 = fieldAt e 0 1 ∧ fieldAt c 1 1 = b)).length = 1)))) &&
    (coef.all fun c => decide (fieldAt c 0 1 ≤ 47 ∧ fieldAt c 1 1 ≤ 3)) &&
    (l.slots.toList.all fun y => !y.en || y.banksOk) && cascadesOk l.slots.toList

/-- R336. A SKIP entry is judged with its band in force, be it the channel's last for that band or not. -/
def fansOk (x : Section) : Bool :=
  let regs := [0x04, 0x0C, 0x10, 0x14, 0x18, 0x1C, 0x20, 0x24, 0x34]
  ((x.tabs.get 0x18).all fun e =>
    let c := fieldAt e 0 1
    let g := x.withSkips c (fanCfgOfEntry e)
    let poles := fieldAt e 2 1
    decide (c ≤ 5 ∧ 1 ≤ poles ∧ poles ≤ 8 ∧ 100 ≤ fieldAt e 4 2 ∧ fieldAt e 4 2 ≤ 40000 ∧ 1 ≤ fieldAt e 0x17 1) &&
      decide (c < 2 ∨ fieldAt e 1 1 / 4 % 2 = 0) && regs.all (g.ok poles)) &&
    (x.tabs.get 0x19).all fun e =>
      let c := fieldAt e 0 1
      let poles := ((x.fanEntry c).map fun e => fieldAt e 2 1).getD 0
      let g := (x.fanCfg c).withSkip e
      decide (c ≤ 5 ∧ fieldAt e 1 1 ≤ 3) && (g.skips.toList.all (g.bandOk poles)) && g.bandsApart

/-- R358, R368. -/
def outCfgOk (x : Section) : Bool :=
  let t := x.tabs.get 0x1A
  let clim := (t.filter fun e => decide (8 ≤ fieldAt e 0 1 ∧ fieldAt e 0 1 < 20 ∧ fieldAt e 1 1 / 2 % 2 = 1)).map fun e => fieldAt e 0 1
  decide (t.map fun e => fieldAt e 0 1).Nodup &&
    (t.all fun e =>
      let o := fieldAt e 0 1
      decide (o ≤ 23 ∧
        (fieldAt e 1 1 % 2 = 1 → o < 8 ∧ fieldAt e 2 1 ≤ 15 ∧ fieldAt e 4 1 ≠ 0) ∧
        (20 ≤ o → fieldAt e 2 1 ≠ 0) ∧ (o < 8 → fieldAt e 3 1 ≠ 0))) &&
    decide (clim.length ≤ 1) && clim.all fun o => decide (fieldAt x.rests (2 * o) 2 = 0)

/-- R571, Table 16-3. -/
def uartsOk (x : Section) : Bool :=
  let t := x.tabs.get 0x1D
  decide (t.map fun e => fieldAt e 0 1).Nodup &&
    t.all fun e =>
      decide (fieldAt e 0 1 ≤ 2 ∧ fieldAt e 1 1 ≤ 3 ∧ fieldAt e 2 1 / 8 % 4 ≤ 2 ∧ fieldAt e 3 1 ≤ 2 ∧ 1200 ≤ fieldAt e 4 4 ∧
        fieldAt e 4 4 ≤ 230400) &&
      decide (fieldAt e 8 1 ≤ 15 ∧ fieldAt e 9 1 ≤ 15 ∧ 1 ≤ fieldAt e 0xA 1 ∧ fieldAt e 0xA 1 ≤ 64 ∧ 1 ≤ fieldAt e 0xB 1 ∧
        fieldAt e 0xB 1 ≤ 64)

/-- R619 over a rail sequence. -/
def railsOk (v : List Byte) : Bool :=
  let used := ([0, 1, 2].map fun k => fieldAt v k 1).filter fun r => decide (r ≠ 0xFF)
  decide (used ≠ [] ∧ used.Nodup) && (used.all fun r => decide (r ≤ 2)) &&
    decide (1 ≤ fieldAt v 7 1 ∧ 1 ≤ fieldAt v 8 2 ∧ fieldAt v 8 2 ≤ 1000 ∧ fieldAt v 0xA 2 ≤ 1000 ∧ 1 ≤ fieldAt v 0xC 1)

/-- R619. -/
def panelOk (x : Section) : Bool :=
  (x.tabs.get 0x1F).all fun e =>
    let t (k : Nat) : Int := signed 8 (fieldAt e (0xC + k) 1)
    decide (40 ≤ fieldAt e 0 1 ∧ fieldAt e 0 1 ≤ 80 ∧ 1 ≤ fieldAt e 1 1 ∧ fieldAt e 1 1 ≤ 40 ∧ 1 ≤ fieldAt e 2 1 ∧
        fieldAt e 2 1 ≤ 240 ∧ fieldAt e 0xA 1 ≤ 15 ∧ fieldAt e 0xB 1 ≤ 3 ∧ t 0 < t 1 ∧ t 1 < t 2 ∧ fieldAt e 0xF 1 ≤ 200) &&
      ([3, 4, 5, 6, 7, 8].all fun o => decide (1 ≤ fieldAt e o 1)) && railsOk (slice e 0x10 16)

/-- R398: a WEAR entry with its default WINDOW. -/
def wearOf (e : List Byte) : WearEntry :=
  let w := fieldAt e 3 1
  { kind := fieldAt e 0 1, source := fieldAt e 1 1, flags := fieldAt e 2 1, window := if w = 0 then 26 else w, limit := fieldAt e 4 4 }

/-- R399. -/
def wearOk (x : Section) : Bool :=
  let t := x.tabs.get 0x21
  decide (t.map fun e => (fieldAt e 0 1, fieldAt e 1 1, fieldAt e 2 1)).Nodup &&
    t.all fun e =>
      let k := fieldAt e 0 1
      let w := fieldAt e 3 1
      decide (1 ≤ k ∧ k ≤ 10 ∧ fieldAt e 1 1 ≤ ([0, 5, 5, 5, 11, 7, 0, 0, 0, 0, 0].getD k 0)) &&
        decide (w = 0 ∨ (4 ≤ w ∧ w ≤ 52)) && decide (fieldAt e 4 4 ≠ 0 ∨ k = 1 ∨ 6 ≤ k)

/-- R98, R116: LOAD targets and data. The data may lie at any offset of the section, over its preamble and tables too, and an empty
target counts as a place. (log 160: DESIGN CHOICE; log 161: DESIGN CHOICE; log 162: DESIGN CHOICE) -/
def loadsOk (x : Section) : Bool :=
  let t := x.tabs.get 0x30
  let stage := fieldAt x.bytes 4 4
  let spans := t.map fun e => (fieldAt e 0 4, fieldAt e 4 4)
  let all := (spans ++ [(stage, 4096)]).zipIdx
  inSram stage && decide (stage % 4096 = 0) &&
    (t.all fun e =>
      let a := fieldAt e 0 4
      let n := fieldAt e 4 4
      decide (0x20000000 ≤ a ∧ a + n ≤ 0x20080000 ∧ a % 64 = 0 ∧ fieldAt e 8 4 + n ≤ x.bytes.length)) &&
    all.all fun p => all.all fun q => decide (p.2 = q.2 ∨ p.1.1 + p.1.2 ≤ q.1.1 ∨ q.1.1 + q.1.2 ≤ p.1.1)

/-- R463, with the protection regions of the image in place of those in force. -/
def State.dmaOk (s : State) (x : Section) : Bool :=
  let t := x.tabs.get 0x1E
  let s := (s.loadFences x).loadDma x
  decide (t.map fun e => fieldAt e 0 1).Nodup &&
    t.all fun e =>
      decide (fieldAt e 0 1 ≤ 23 ∧ fieldAt e 1 1 ≤ 3 ∧ fieldAt e 3 1 ≤ 3 ∧ fieldAt e 4 1 ≤ 7 ∧ 1 ≤ fieldAt e 5 1 ∧
          fieldAt e 5 1 ≤ 16 ∧ fieldAt e 6 1 ≤ 11 ∧ 1 ≤ fieldAt e 8 2 ∧ fieldAt e 8 2 ≤ 256) &&
        (decide (fieldAt e 2 1 % 2 = 0) || match idx? 24 (fieldAt e 0 1) with
          | some c => !s.startRefused c
          | none => true)

/-- R95, R230, R415: preamble and THERMAL entry. (log 35: DEDUCED) -/
def preambleOk (x : Section) : Bool :=
  ([0, 1, 2, 3].all fun n => decide (fieldAt x.bytes (0x18 + 2 * n) 2 ≤ 10000)) &&
    (x.tabs.get 0x1B).all fun e => decide (fieldAt e 0xA 1 ≤ 15 ∨ fieldAt e 0xA 1 = 0xFF)

/-- The TABLE rules over a node section, whichever device it is for. -/
def State.sectionOk (s : State) (x : Section) : Bool :=
  preambleOk x && fencesOk x && ownersOk x && senseOk x && loopsOk x && fansOk x && outCfgOk x && uartsOk x && s.dmaOk x &&
    panelOk x && wearOk x && loadsOk x

/-! ### A slot as a whole -/

/-- An image that passed the checks that do not depend on the node. -/
structure Head where
  hdr : Header
  group : Tabs
  digest : Nat
  secs : List Section
  deriving DecidableEq, Repr

/-- The NOR bytes from an address on. (log 44: DEDUCED) -/
def State.norBytes (s : State) (a n : Nat) : List Byte := Memory.getMany 0xFF s.boot.nor a n

/-- Base of slot A (0) or B (1) (R80). -/
def slotBase2 (k : Nat) : Nat := k * 0x400000

/-- R94, R95: a node section from its directory entry. -/
def readSection (img : List Byte) (lo hi : Nat) (d : List Byte) : Check (Nat × Nat × Section) :=
  let node := fieldAt d 0 1
  let ofs := fieldAt d 4 4
  let len := fieldAt d 8 4
  if ofs % 16 ≠ 0 ∨ ofs < lo ∨ hi < ofs + len ∨ len < 36 then .error .table
  else
    let b := slice img ofs len
    if fieldAt b 0 1 ≠ node then .error .table
    else do
      let t ← readTables (b.drop 32) false
      return (ofs, len, { node := node, bytes := b, tabs := t })

/-- R91, R94, R116: where the parts lie. Table 03-7 names no code for a directory with the same node number twice; it is TABLE.
(log 35: DEDUCED) -/
def readParts (h : Header) (img : List Byte) : Check (Tabs × List Section) :=
  let fin := h.length - 64
  let dirEnd := h.dirOfs + 16 * h.count
  let hi := if h.patchOfs = 0 then fin else min fin h.patchOfs
  if h.groupOfs % 16 ≠ 0 ∨ h.dirOfs % 16 ≠ 0 ∨ h.patchOfs % 16 ≠ 0 ∨ h.groupOfs < 256 ∨ h.dirOfs < h.groupOfs + h.groupLen ∨
      fin < dirEnd ∨ (h.patchOfs = 0 ∧ h.patchLen ≠ 0) ∨ (h.patchOfs ≠ 0 ∧ (h.patchOfs < dirEnd ∨ fin < h.patchOfs + h.patchLen)) then
    .error .table
  else do
    let g ← readTables (slice img h.groupOfs h.groupLen) true
    let l ← (entriesOf 16 h.count (img.drop h.dirOfs)).mapM (readSection img dirEnd hi)
    need (decide (l.map fun x => x.2.2.node).Nodup) .table
    need (l.zipIdx.all fun p => l.zipIdx.all fun q =>
      decide (p.2 = q.2 ∨ p.1.1 + p.1.2.1 ≤ q.1.1 ∨ q.1.1 + q.1.2.1 ≤ p.1.1)) .table
    return (g, l.map (·.2.2))

/-- Steps 8 to 10, and the part of step 11 that every device checks alike, over the group part and every node section (R116,
R117): the TABLE rules, then ENVELOPE, then PATCH. The spec gives these codes no order. (log 32: DESIGN CHOICE) -/
def State.checkImage (s : State) (k : Nat) (e : NorEnv) : Check Head := do
  let h ← readHeader (s.norBytes (slotBase2 k) 256)
  let img ← s.verify h (s.norBytes (slotBase2 k) h.length) e
  let p ← readParts h img
  need (groupOk p.1 && p.2.all s.sectionOk) .table
  need (p.2.all envelopeEntriesOk) .envelope
  need (decide (h.patchOfs = 0) || e.patch) .patch
  return { hdr := h, group := p.1, digest := beNat ((sha256 (slice img h.groupOfs h.groupLen)).take 8), secs := p.2 }

/-- Steps 5 to 10, and the checks of step 11 that every device makes alike. `nor` and `sfdp` say whether the NOR answered. With
BOOTSEL high the read mode does not rest on SFDP (R661), and its absence does not fail the slot. (log 44: DEDUCED) -/
def State.checkHead (s : State) (k : Nat) (nor sfdp : Bool) (e : NorEnv) : Check Head :=
  if !nor then .error .nor else if !sfdp && !s.power.bootsel then .error .sfdp else s.checkImage k e

/-- R105, R106: the node section that is used; none where boot is held for a node number. -/
def State.chooseSection (s : State) (h : Head) : Check (Option Section) :=
  if (s.bootSeal 0).written then
    match h.secs.find? fun x => decide (x.node = fieldAt (s.bootSeal 0).value 0 1) with
    | some x => .ok (some x)
    | none => .error .noNode
  else match h.secs with
    | [x] => if (h.group.get 0x01).any fun e => decide (fieldAt e 0 1 = x.node) then .ok (some x) else .error .table
    | _ => .ok none

/-- Step 11 with the node's own section: R505 over the envelopes in force, which are those of seal slot 7 once it is written. -/
def State.checkNode (s : State) (h : Head) : Check (Option Section) := do
  let x ← s.chooseSection h
  match x with
  | some y => do
    need (keyOwnersOk h.group y (if (s.seal 7).written then (s.seal 7).value else y.envelopes)) .table
    return x
  | none => return none

/-- Steps 8 to 11 over a slot, as a commit of a staged image makes them (R110). -/
def State.checkSlot (s : State) (k : Nat) (e : NorEnv) : Check Unit := do
  let h ← s.checkImage k e
  let _ ← s.checkNode h
  return ()

end Sys2Proof.Machine
end

