-- ==== Sys2Proof/Machine/Lodger.lean ====
section
/-! DEFINITION. Lodgers: their watchdogs, the fault sequence of R68, the hold of R69 and the restart (R57 to R60, R68, R69, R88,
R89). -/

namespace Sys2Proof.Machine

/-- The next content of the boot record's line: its layout is open (log entry 9). -/
def State.bootRecord (s : State) : Line := (List.range 32).map fun i => Config.openByte 0 s.draws i

/-- The boot record is written. -/
def State.bootLine (s : State) : State := (s.mapDraws (· + 1)).lineSoon 0 s.bootRecord

/-- R89, R90: the slot that was booted as TRIAL is REJECTED with code REVERTED. (log 29: DEDUCED) -/
def State.trialReverted (s : State) : State :=
  let rej (r : SlotRec) : SlotRec := if r.state = .trial then { state := .rejected, attempts := 0, code := 15 } else r
  (s.mapBoot fun b => { b with slotA := rej b.slotA, slotB := rej b.slotB }).bootLine

/-- The Lodger runs from its entry point (R68 step 8, step 15 of Table 03-2). (log 110: DESIGN CHOICE) -/
def State.startLodger (s : State) (n : Fin 4) : State :=
  s.mapLodger n fun l =>
    { l with run := .running, startedAt := s.now, lastKick := s.now, trap := none, wakeIrq := false, holding := false }

/-- The outputs whose sealed owner is Lodger `n`. -/
def ownedBy (n : Fin 4) (o : Output) : Bool := decide (o.owner = .lodger ∧ o.ownerId = n.val)

/-- R501, Table 14-8: a request of the Lodger's transmit mailbox is discarded unless its record was written; queued frames are
sent. (log 60: DEDUCED) -/
def State.txmReset (s : State) (n : Fin 4) : State :=
  let w := (vget s.grd.txm n).waiting
  let s := s.mapTxm n fun _ => {}
  match w with
  | some (t, ctrl) =>
    if t.journal = 0 then s
    else s.placeMust (ctrlList ctrl) { t with lodger := none }
  | none => s

/-- Step 6 of R68: the Lodger is reset, its protection regions unchanged; with it go its mailboxes, its watchdog's TOKEN, its
compliance (R213) and its staging session (R112). EXPIRY_CNT is kept (Table 02-9). (log 27: DEDUCED) -/
def State.resetLodger (s : State) (n : Fin 4) : State :=
  let s := s.mapLodger n fun l =>
    { l with token := 0x5A3C, fenceCnt := 0, faultAddr := 0, trap := none, wakeIrq := false, mbx := {} }
  let s := s.mapThm fun t => { t with comply := t.comply &&& ~~~(BitVec.ofNat 4 (2 ^ n.val)) }
  let s := s.mapBoot fun b => { b with stager := if b.stager = some n then none else b.stager }
  (s.txmReset n).appOwnerReset n

/-- LODGER_RESTART requests that waited for this Lodger complete. (log 28: DEDUCED) -/
def State.restartsDone (s : State) (n : Fin 4) : State :=
  (List.finRange 4).foldl (fun s m => if (s.mbx m).job = .restart n then s.mbxDone m 0 else s) s

/-- Steps 7 and 8 of R68, or the hold of R69 in place of step 8. Cause LODGER ends on the outputs that the Lodger owns by then: on one
to which a change of seal slot 7 has given another owner since the cause was set, it stays. (log 115: DEDUCED; log 157: DESIGN CHOICE) -/
def State.endFault (s : State) (n : Fin 4) : State :=
  let s := s.releaseOrphans n
  if (s.lodger n).holding then
    ((s.mapLodger n fun l => { l with run := .held, holding := false }).logEvent 0x0111 (leBytes 1 n.val)).restartsDone n
  else ((s.startLodger n).clearCauses .lodger (ownedBy n)).restartsDone n

/-- ORPHAN_RESOLVE (R456): once the drains that step 7 waits for have ended. (log 82: DEDUCED; log 115: DEDUCED) -/
def State.orphanResolve (s : State) (n : Fin 4) : State :=
  if decide ((s.lodger n).run = .halted) && s.orphansDrained n then s.endFault n else s

/-- Steps 1 to 5 of R68. `restart` is 0 after an expiry and 1 for LODGER_RESTART. -/
def State.faultSteps (s : State) (n : Fin 4) (restart : Nat) : State :=
  let s := s.mapLodger n fun l => { l with run := .halted }
  let s := s.uartsOwnerHalted n
  let s := s.setCauses .lodger (ownedBy n)
  let s := (s.orphanChannels n).faultKeys n
  s.logEvent 0x0110 (leBytes 1 n.val ++ leBytes 1 restart ++ leBytes 1 (s.lodger n).expiryCnt)

/-- Steps 1 to 6 of R68, and the rest at once where no channel has to drain. (log 115: DEDUCED) -/
def State.lodgerFault (s : State) (n : Fin 4) (restart : Nat) : State := ((s.faultSteps n restart).resetLodger n).orphanResolve n

/-- Expiries of the last 60 min (R69). (log 30: DEDUCED) -/
def recentExpiries (now : Nat) (l : List Nat) : List Nat := l.filter fun t => decide (now < t + 3600000000)

/-- A watchdog expiry: counted, the fault sequence, and the hold after the third (R69). In a trial the reset of R89 follows step 5 of
the sequence and takes the place of the steps after it. (log 29: DEDUCED; log 30: DEDUCED) -/
def State.expiry (s : State) (n : Fin 4) : State :=
  let ex := s.now :: recentExpiries s.now (s.lodger n).expiries
  let s := s.mapLodger n fun l =>
    { l with expiryCnt := satInc 15 l.expiryCnt, expiries := ex, holding := decide (3 ≤ ex.length) }
  let s := s.mapPower fun p => { p with ldgWdog := p.ldgWdog ||| BitVec.ofNat 4 (2 ^ n.val) }
  if s.boot.trial then (s.faultSteps n 0).trialReverted.inkReset else s.lodgerFault n 0

/-- R59, R60: a write to INK_LDGn_KICK. It counts for a Lodger that runs. (log 30: DEDUCED; log 52: DEDUCED) -/
def State.kick (s : State) (n : Fin 4) (v : BitVec 16) : State :=
  let l := s.lodger n
  if l.run ≠ .running then s
  else if v ≠ ~~~l.token ∨ 4 * (s.now - l.lastKick) < 1000 * l.timeout then s.expiry n
  else (s.mapDraws (· + 1)).mapLodger n fun l =>
    { l with token := Config.freshToken s.draws, lastKick := s.now, timeout := l.timeoutNext }

/-- LODGER_RESTART (Table 02-2): another Lodger goes through the fault sequence, and the request completes at its end. One whose
sequence is under way is waited for, and is then started. (log 28: DEDUCED) -/
def State.serveRestart (s : State) (n : Fin 4) : State :=
  match idx? 4 (s.mbxArg n 0) with
  | none => s.mbxDone n 2
  | some t =>
    if t = n then s.mbxDone n 2
    else match (s.lodger t).run with
      | .stopped => s.mbxDone n 3
      | .halted => (s.mapMbx n fun m => { m with job := .restart t }).mapLodger t fun l => { l with holding := false }
      | _ => (s.mapMbx n fun m => { m with job := .restart t }).lodgerFault t 1

/-- Every started Lodger has run for the image's confirmation time: a Lodger in START_MASK, and any other that was started since
(R68 step 8), runs and did so throughout. Time in Standby counts. (log 158: DESIGN CHOICE) -/
def State.confirmed (s : State) : Bool :=
  let img := s.image.getD {}
  (List.finRange 4).all fun n =>
    let l := s.lodger n
    if img.startMask.testBit n.val || decide (l.run ≠ .stopped) then
      decide (l.run = .running ∧ l.startedAt + 1000000 * img.confirm ≤ s.now)
    else true

/-- TRIAL_CONFIRM (R88). -/
def State.trialConfirm (s : State) : State :=
  if s.live && s.boot.trial && s.confirmed then
    let conf (r : SlotRec) : SlotRec :=
      match r.state with
      | .trial => { r with state := .active, attempts := 0 }
      | .active => { r with state := .inactive }
      | _ => r
    (s.mapBoot fun b => { b with slotA := conf b.slotA, slotB := conf b.slotB, trial := false, trialLeft := 0 }).bootLine
  else s

/-! ### Commands -/

/-- INK_LDG_KICK: a Lodger's write to the KICK register of a block. -/
def execInkLdgKick (n : Fin 4) (user : Bool) (block : Fin 4) (v : BitVec 16) (s : State) : Result :=
  .next (s.access (.lodger n user) .store (blockBase block + 0x84) fun s => (s.answer 0).kick block v)

/-- LODGER_WDOG_EXPIRY: TIMEOUT has passed since the last accepted kick. -/
def execLodgerWdogExpiry (n : Fin 4) (s : State) : Result :=
  .next (if s.awake && decide ((s.lodger n).run = .running) then s.expiry n else s)

/-- ORPHAN_RESOLVE. -/
def execOrphanResolve (n : Fin 4) (s : State) : Result := .next (s.orphanResolve n)

/-- LODGER_RESTART. -/
def execLodgerRestart (n : Fin 4) (user : Bool) (seq : Byte) (target : Nat) (s : State) : Result :=
  .next (s.mbxCommand n user seq.toNat 0x09 [target] fun s => s.serveRestart n)

/-- TRIAL_CONFIRM. -/
def execTrialConfirm (s : State) : Result := .next s.trialConfirm

end Sys2Proof.Machine
end

