-- ==== Sys2Proof/Machine/Svc.lean ====
section
/-! DEFINITION. The service port's requests and its registers (R587 to R605), and the seal changes that sessions carry
(R420, R422). READ is in Machine/Inspect.lean, the wake phrase in Machine/Mode.lean. -/

namespace Sys2Proof.Machine

/-! ### AUTH (R595, R596, R599) -/

/-- The seal slot whose key a role is verified against. -/
def roleSlot (role : Nat) : Nat := if role = 1 then 11 else 10

/-- Whether the signature in an AUTH payload verifies. (log 103: DEDUCED) -/
def State.authOk (s : State) (p : List Byte) : Bool :=
  let role := fieldAt p 0 1
  let key := if role = 1 then s.svc.techKey else s.svc.inspKey
  decide (key ≠ []) &&
    ecdsaOk key (sha256 (s.svc.challenge ++ leBytes 1 s.svc.node ++ leBytes 1 role)) (fieldAt p 4 32) (fieldAt p 36 32)

/-- An AUTH that does not verify; the third of a session closes it and starts the lockout. -/
def State.authFailed (s : State) (seq role : Nat) : State :=
  let s := s.mapSvc fun x => { x with authFail := satInc 0xFF x.authFail, fails := x.fails + 1 }
  let s := (s.logEvent 0x0802 (leBytes 1 role)).svcReply 0x02 seq (plain 3)
  if 3 ≤ s.svc.fails then (s.closeSession 4).mapSvc fun x => { x with lockout := true, lockAt := s.now } else s

def State.auth (s : State) (seq : Nat) (p : List Byte) : State :=
  let role := fieldAt p 0 1
  if p.length ≠ 68 ∨ (role ≠ 1 ∧ role ≠ 2) then s.svcReply 0x02 seq (plain 2)
  else if s.authOk p then
    let s := ((s.mapSvc fun x => { x with st := .open_, role := role }).svcInt 0).logEvent 0x0801
      (leBytes 1 role ++ leBytes 1 s.svc.session ++ leBytes 1 (roleSlot role))
    s.panelClockStart.svcReply 0x02 seq (plain 0)
  else s.authFailed seq role

/-! ### Seal changes (R420, R422, R427) -/

/-- Bytes put at an offset of a list. -/
def putAt (l : List Byte) (o : Nat) (bs : List Byte) : List Byte := l.take o ++ bs ++ l.drop (o + bs.length)

def State.sealBegin (s : State) (seq : Nat) (p : List Byte) : State :=
  match p.length, idx? 16 (fieldAt p 0 1) with
  | 4, some k =>
    let len := fieldAt p 2 2
    let c : SealChange :=
      { slot := k, expect := fieldAt p 1 1, len := len, bytes := (List.range len).map fun i => Config.collectByte s.draws i }
    ((s.mapDraws (· + 1)).mapSeals fun q => { q with collect := some c }).svcReply 0x04 seq (plain 0)
  | _, _ => s.svcReply 0x04 seq (plain 2)

def State.sealPart (s : State) (seq : Nat) (p : List Byte) : State :=
  let o := fieldAt p 0 2
  let n := fieldAt p 2 1
  match s.seals.collect with
  | some c =>
    if n = 0 ∨ 64 < n ∨ p.length ≠ 4 + n ∨ c.len < o + n then s.svcReply 0x05 seq (plain 2)
    else (s.mapSeals fun q => { q with collect := some { c with bytes := putAt c.bytes o (p.drop 4) } }).svcReply 0x05 seq (plain 0)
  | none => s.svcReply 0x05 seq (plain 2)

/-- SEAL_COMMIT (R420). What BEGIN and PART collected is kept until the session closes or another BEGIN, so that a COMMIT which is
sent again finds it. Where there was no BEGIN, EXPECT and LEN match nothing. Table 12-6 has no code for a payload that breaks the
layout; byte 1 of its BAD_ARG is free. (log 105: DEDUCED) -/
def State.sealCommit (s : State) (seq : Nat) (p : List Byte) : State :=
  if p.length ≠ 4 then s.svcReply 0x06 seq (leBytes 1 2 ++ leBytes 1 Config.badCommitCode ++ [0, 0])
  else match s.seals.collect with
    | none => s.svcReply 0x06 seq (sealReply (if s.seals.commit.isSome then .busy else if s.svc.role ≠ 2 then .denied else .stale))
    | some c =>
      match s.commitResult c (fieldAt p 0 4) with
      | some r => s.svcReply 0x06 seq (sealReply r)
      | none => s.commitStart { c with reqSeq := seq }

/-- The header of the change under way has reached the cells: the value stands and is applied, and OK is replied (R422, step 5 of
Table 12-7). A repair that leaves no slot broken, and a change of slot 0 in the node hold, end in an INK_REQUEST reset once the
reply is sent (R427, R106). (log 104: DEDUCED) -/
def State.sealHeaderDone (s : State) : State :=
  match s.seals.commit with
  | none => s
  | some c =>
    match c.sent with
    | none => s
    | some (y, d) =>
      if s.inkAlive && s.lineStands (sealHeaderLine c.slot.val) d then
        let repair := (s.seal c.slot).broken
        let s := ((s.commitStands c y).svcReply 0x06 c.reqSeq (sealReply .ok)).afterCommit
        if (repair && decide (s.seals.brokenMask = 0)) || decide (s.power.phase = .nodeHold ∧ c.slot = 0) then
          s.mapSeals fun q => { q with resetDue := true }
        else s
      else s

/-- R422: the header line that has reached the cells, which a change before the latest reset left to the write buffer or to the replay:
its slot's value stands and is applied from then on. -/
def State.headerStood (s : State) (line : Nat) : State :=
  match idx? 16 ((line - 64) / 4) with
  | some k =>
    let x := s.readSeal k.val
    if line = sealHeaderLine k.val ∧ x.headerOk = true ∧ x.broken = false ∧ { s.seal k with diff := false } ≠ x then
      (s.sealStands k x).applySeal k x.value
    else s
  | none => s

/-- The oldest line of the write buffer reaches the cells; it may be the header that a seal change waits for, or one of an earlier
change (R422). -/
def State.lineDrained (s : State) : State :=
  match s.ledger.buf with
  | e :: _ => if s.inkAlive && s.windowOpen then s.ledgerLineWritten.sealHeaderDone.headerStood e.line else s.sealHeaderDone
  | [] => s.sealHeaderDone

/-- SEAL_BANK_DONE: steps 3 and 4 of Table 12-7 once every bank line is DONE, and step 5 where the header reaches the cells at
once. (log 104: DEDUCED) -/
def State.sealBankDone (s : State) : State :=
  match s.seals.commit with
  | none => s
  | some c => (if s.inkAlive && decide (c.sent = none) && s.bankDone c then s.commitHeader c else s).sealHeaderDone

/-! ### Other requests -/

/-- FAN_CLEAR (R589). -/
def State.svcFanClear (s : State) (seq : Nat) (p : List Byte) : State :=
  match p.length, idx? 6 (fieldAt p 0 1) with
  | 1, some c => (s.fanClear c).svcReply 0x07 seq (plain 0)
  | _, _ => s.svcReply 0x07 seq (plain 2)

/-- LODGER_START (R589): a held Lodger is started, and cause LODGER ends (Table 02-3). -/
def State.svcLodgerStart (s : State) (seq : Nat) (p : List Byte) : State :=
  match p.length, idx? 4 (fieldAt p 0 1) with
  | 1, some n =>
    if (s.lodger n).run = .held then
      (((s.startLodger n).clearCauses .lodger (ownedBy n)).logEvent 0x0805 (leBytes 1 n.val)).svcReply 0x08 seq (plain 0)
    else s.svcReply 0x08 seq (plain 2)
  | _, _ => s.svcReply 0x08 seq (plain 2)

/-- R601: a wake from Off is set up: an RTC alarm, or an edge on a DI. -/
def Power.offWakeSet (p : Power) : Bool := (bit p.wakeEn 0 && decide (p.alarm ≠ 0)) || decide (bits p.wakeEn 15 8 ≠ 0)

/-- OFF (R601, Table 17-4). -/
def State.svcOff (s : State) (seq : Nat) (p : List Byte) : State :=
  if p.length ≠ 4 ∨ fieldAt p 0 4 ≠ 0x00000FF5 then s.svcReply 0x09 seq (plain 2)
  else if s.seals.commit.isSome then s.svcReply 0x09 seq (plain 3)
  else if !s.windowOpen then s.svcReply 0x09 seq (plain 7)
  else if !s.power.holdOk || !s.power.offWakeSet then s.svcReply 0x09 seq (plain 3)
  else
    let s := ((s.svcReply 0x09 seq (plain 0)).logEvent 0x0804 []).leaving 4
    (s.mapPower fun p => { p with phase := .offWait }).mapSvc fun x => { x with offAt := s.now }

/-- APP (R600), while no exchange is pending. -/
def State.svcApp (s : State) (seq : Nat) (p : List Byte) : State :=
  match idx? 4 s.svc.owner with
  | none => s
  | some n =>
    if p.length > 96 then s.svcReply 0x0A seq (plain 2)
    else match (s.lodger n).run with
      | .stopped | .held => s.svcReply 0x0A seq (plain 3)
      | _ => (s.mapSvc fun x =>
          { x with app := some (seq, n.val, s.now), appRxLen := p.length, appRx := p ++ x.appRx.drop p.length }).svcInt 2

/-- The bytes of SVC_APP_TX. -/
def Svc.txBytes (x : Svc) : List Byte := x.appTx.toList.flatMap fun w => leBytes 4 w.toNat

/-- APP_SEND: the owning Lodger's answer. -/
def State.appSend (s : State) (n : Fin 4) (w : Word) : State :=
  match s.svc.app with
  | some (_, o, _) =>
    let len := bits w 6 0
    if o = n.val ∧ bit w 8 = true ∧ len ≤ 95 then s.appEnds (leBytes 1 0 ++ s.svc.txBytes.take len) else s
  | none => s

/-- The reply to a CLOSE that is accepted in this session. -/
def Svc.closeReply (x : Svc) (seq : Nat) : Palnyx := { type := 0x8B, seq := seq, session := x.session, payload := plain 0 }

/-- CLOSE (R597), which waits for a seal commit (Table 17-4). (log 103: DEDUCED) -/
def State.svcClose (s : State) (seq : Nat) (p : List Byte) : State :=
  if p ≠ [] then s.svcReply 0x0B seq (plain 2)
  else if s.seals.commit.isSome then s.mapSvc fun x => { x with closeWait := x.closeWait ++ [x.closeReply seq] }
  else s.mapSvc fun x => x.replyClose (x.closeReply seq)

/-- REPLY_SEND (R584): the oldest waiting frame is sent once the device's own carrier has ended long enough; the reply to the
accepted CLOSE closes the session (R597), and that to the last SEAL_COMMIT of a repair or of the node hold lets the reset follow
(R427, R106). A phrase that was being received is interrupted (R579). -/
def State.replySend (s : State) : State :=
  match s.svc.out with
  | [] => s
  | f :: fs =>
    if s.svcUp && s.lineFree then
      let s := s.mapSvc fun x => { x with out := fs, sent := some f, sentAt := s.now, halves := [] }
      let s := if s.svc.closing = some f then s.closeSession 0 else s
      if s.seals.resetDue && fs.all fun g => decide (g.type ≠ 0x86) then s.inkReset else s
    else s

/-! ### Floods (R603) -/

/-- R578: the servo current in 2 µA, which saturates at 2 mA. -/
def servo (ambient : Nat) : Nat := min ambient 1000

/-- R603: the servo is saturated, or the in-band noise, in nA, exceeds SVC_CFG.NOISE. -/
def Svc.flooded (x : Svc) (ambient noise : Nat) : Bool := decide (servo ambient = 1000 ∨ x.noise < noise)

/-- FLOOD_START, with the ambient current and the in-band noise that the front end has seen for more than two bit periods: where
they make a flood it begins, and the detector's partial phrase is discarded. AMBIENT follows the servo in any case. (log 144:
DESIGN CHOICE) -/
def State.floodStart (s : State) (ambient noise : Nat) : State :=
  if s.detectorRuns then
    let s := s.mapSvc fun x => { x with ambient := servo ambient }
    if !s.svc.flood && s.svc.flooded ambient noise then
      (s.mapSvc fun x => { x with flood := true, floodAt := s.now, floodCnt := satInc 0xFF x.floodCnt, halves := [] }).svcInt 3
    else s
  else s

/-- FLOOD_END, with the ambient current and the in-band noise of the last two bit periods: where they make no flood, the one that stood
ends. (log 144: DESIGN CHOICE) -/
def State.floodEnd (s : State) (ambient noise : Nat) : State :=
  if s.detectorRuns then
    s.mapSvc fun x =>
      let on := x.flood && x.flooded ambient noise
      { x with ambient := servo ambient, flood := on, floodEnd := if x.flood && !on then some s.now else x.floodEnd }
  else s

/-! ### The SVC window at 0x4008_0000 -/

def SvcSt.code : SvcSt → Nat
  | .closed => 0
  | .opening => 1
  | .open_ => 2

def State.svcRegRead (s : State) (off : Nat) : Word :=
  let x := s.svc
  if 0x100 ≤ off ∧ off < 0x160 then BitVec.ofNat 32 (fieldAt x.appRx (off - 0x100) 4)
  else if 0x200 ≤ off ∧ off < 0x260 then (match idx? 24 ((off - 0x200) / 4) with
    | some k => vget x.appTx k
    | none => 0)
  else match off with
    | 0x00 => pack [at_ 24 x.session, at_ 12 x.ambient, flag 6 x.lockout, flag 5 x.flood, at_ 2 x.role, at_ 0 x.st.code]
    | 0x04 => pack [at_ 16 x.idleS, at_ 8 x.noise, at_ 4 x.ledMa, at_ 0 x.owner]
    | 0x08 => at_ 0 x.int.toNat
    | 0x0C => at_ 0 x.intEn.toNat
    | 0x10 => pack [at_ 24 x.floodCnt, at_ 16 x.phrases]
    | 0x14 => pack [at_ 16 x.crcErr, at_ 8 x.lenErr, at_ 0 x.authFail]
    | 0x20 => at_ 0 x.appRxLen
    | _ => 0

def State.svcRegWrite (s : State) (who : Requester) (off : Nat) (w : Word) : State :=
  if 0x200 ≤ off ∧ off < 0x260 then (match idx? 24 ((off - 0x200) / 4) with
    | some k => s.mapSvc fun x => { x with appTx := vset x.appTx k w }
    | none => s)
  else match off with
    | 0x04 => s.mapSvc fun x =>
      let i := bits w 25 16
      let l := bits w 7 4
      { x with
        idleS := if 10 ≤ i ∧ i ≤ 600 then i else x.idleS
        noise := bits w 15 8
        ledMa := if 1 ≤ l ∧ l ≤ 10 then l else x.ledMa
        owner := bits w 1 0 }
    | 0x08 => s.mapSvc fun x => { x with int := x.int &&& ~~~(w.setWidth 4) }
    | 0x0C => s.mapSvc fun x => { x with intEn := w.setWidth 4 }
    | 0x24 => match who with
      | .lodger n _ | .debug n => s.appSend n w
      | _ => s
    | _ => s

/-! ### Commands -/

/-- AUTH. -/
def execSvcAuth (seq session : Nat) (p : List Byte) (s : State) : Result :=
  .next (s.svcRequest 0x02 seq session p.length true true fun s => s.auth seq p)

/-- SEAL_BEGIN. -/
def execSealBegin (seq session : Nat) (p : List Byte) (s : State) : Result :=
  .next (s.svcRequest 0x04 seq session p.length false true fun s => s.sealBegin seq p)

/-- SEAL_PART. -/
def execSealPart (seq session : Nat) (p : List Byte) (s : State) : Result :=
  .next (s.svcRequest 0x05 seq session p.length false true fun s => s.sealPart seq p)

/-- SEAL_COMMIT. -/
def execSealCommit (seq session : Nat) (p : List Byte) (s : State) : Result :=
  .next (s.svcRequest 0x06 seq session p.length false true fun s => s.sealCommit seq p)

/-- LEDGER_LINE_WRITTEN. -/
def execLedgerLineWritten (s : State) : Result := .next s.lineDrained

/-- SEAL_BANK_DONE. -/
def execSealBankDone (s : State) : Result := .next s.sealBankDone

/-- FAN_CLEAR. -/
def execFanClear (seq session : Nat) (p : List Byte) (s : State) : Result :=
  .next (s.svcRequest 0x07 seq session p.length false false fun s => s.svcFanClear seq p)

/-- LODGER_START. -/
def execLodgerStart (seq session : Nat) (p : List Byte) (s : State) : Result :=
  .next (s.svcRequest 0x08 seq session p.length false false fun s => s.svcLodgerStart seq p)

/-- OFF. -/
def execSvcOff (seq session : Nat) (p : List Byte) (s : State) : Result :=
  .next (s.svcRequest 0x09 seq session p.length false false fun s => s.svcOff seq p)

/-- APP. A new request while an exchange is pending is discarded without reply (R600). -/
def execSvcApp (seq session : Nat) (p : List Byte) (s : State) : Result :=
  .next (if s.svc.app.isSome then s else s.svcRequest 0x0A seq session p.length false false fun s => s.svcApp seq p)

/-- APP_SEND: SVC_APP_CMD lies at 0x4008_0024. -/
def execAppSend (n : Fin 4) (user : Bool) (w : Word) (s : State) : Result :=
  .next (s.access (.lodger n user) .store 0x40080024 fun s => (s.answer 0).appSend n w)

/-- APP_TIMEOUT. -/
def execAppTimeout (s : State) : Result := .next (if s.svcUp then s.appEnds (plain 5) else s)

/-- CLOSE. -/
def execSvcClose (seq session : Nat) (p : List Byte) (s : State) : Result :=
  .next (s.svcRequest 0x0B seq session p.length true true fun s => s.svcClose seq p)

/-- PALNYX_BAD_TYPE (R587). Its payload, which has no layout, is no operand; it is taken as empty (R579). -/
def execPalnyxBadType (type seq session : Nat) (s : State) : Result :=
  .next (if 0x02 ≤ type ∧ type ≤ 0x0B then s
    else s.svcRequest type seq session 0 true false fun s => s.svcReply type seq (plain 1))

/-- PALNYX_FRAME_ERROR (R583): a LEN above 96, at which the receiver stops, or a CRC that failed. -/
def execPalnyxFrameError (len : Bool) (s : State) : Result :=
  .next (if s.svcUp && !s.svc.flood && !s.deaf (if len then 16 * 5 else frameHalves 0) then s.mapSvc fun x =>
      if len then { x with lenErr := satInc 0xFF x.lenErr } else { x with crcErr := satInc 0xFFFF x.crcErr }
    else s)

/-- REPLY_SEND. -/
def execReplySend (s : State) : Result := .next s.replySend

/-- SESSION_IDLE_TIMEOUT (R597). -/
def execSessionIdleTimeout (s : State) : Result := .next (if s.inkAlive then s.closeSession 1 else s)

/-- AUTH_TIMEOUT (R597). -/
def execAuthTimeout (s : State) : Result := .next (if s.inkAlive && decide (s.svc.st = .opening) then s.closeSession 4 else s)

/-- LOCKOUT_END (R599). -/
def execLockoutEnd (s : State) : Result := .next (s.mapSvc fun x => { x with lockout := false })

/-- FLOOD_START. -/
def execFloodStart (ambient noise : Nat) (s : State) : Result := .next (s.floodStart ambient noise)

/-- FLOOD_END. -/
def execFloodEnd (ambient noise : Nat) (s : State) : Result := .next (s.floodEnd ambient noise)

/-- FLOOD_SESSION_TIMEOUT (R597). -/
def execFloodSessionTimeout (s : State) : Result := .next (if s.inkAlive && s.svc.flood then s.closeSession 2 else s)

end Sys2Proof.Machine
end

