-- ==== Sys2Proof/Machine/Mode.lean ====
section
/-! DEFINITION. Power modes: MODE_REQUEST, the entry to Standby, the wakes and the real-time clock (R168 to R179, R184 to R186,
R592, R593). -/

namespace Sys2Proof.Machine

/-! ### Modes (R169 to R173) -/

def Mode.ofCode : Nat → Option Mode
  | 1 => some .run
  | 2 => some .nightHold
  | 3 => some .standby
  | _ => none

/-- A mode takes the place of the present one. -/
def Power.enter (p : Power) (m : Mode) : Power := { p with mode := m, prev := p.mode.code }

/-- What refuses Standby (R171), as PWR_MODE.DENY. -/
def State.standbyDeny (s : State) : BitVec 4 :=
  (if s.keys.held = [] then 0 else 1) ||| (if s.wbl.openCount = 0 then 0 else 2) ||| (if s.svc.st = .open_ then 4 else 0) |||
    (if [24, 25, 26, 27, 28, 29].any fun i => match idx? 30 i with
        | some o => decide (0 < (s.outp o).rest)
        | none => false
      then 8 else 0)

/-- Steps 1 to 4 of R172, with what the blocks do on the entry (R628, R552, R373, R501, R577, R266, R352). The Lodgers and the loop
engine stop through the mode: their rows act only outside Standby. -/
def State.standbySteps (s : State) : State :=
  let s := (s.mapPnl fun p => { p with thrSeen := s.panelThr }.downToEnd).freeAllHosted 3
  let s := s.snsStandby.mapFans fun f => f.map Fan.blank
  let s := (s.setCauses .mode fun _ => true).carderMode true
  (s.outStandby.mapGrd Grd.halt).mapPower fun p => p.enter .standby

/-- Step 5 of R172: the crystal and the PLLs stop, and with the clock the serial ports (Table 16-2, R575). -/
def State.stopClocks (s : State) : State :=
  (s.mapUarts fun u => { u with ports := u.ports.map Uart.cut }).mapPower fun p => { p with pllLock := 0 }

/-- R172. -/
def State.enterStandby (s : State) : State := s.standbySteps.stopClocks

/-- The mode to which a wake returns. (log 18: DEDUCED) -/
def Power.wakeMode (p : Power) : Mode := if p.prev = 2 then .nightHold else .run

/-- R173, and what the blocks do at the wake (R308, R373, R501, R552, R577, R234). Source bits are those of PWR_WAKE_EN. (log 18: DEDUCED) -/
def State.wake (s : State) (src : Nat) : State :=
  let s := s.mapPower fun p => { p.enter p.wakeMode with pllLock := 7, wakeSrc := BitVec.ofNat 16 (2 ^ src) }
  let s := (s.mapGrd Grd.resume).loopsWake.outWake.uartsWake.snsWake
  let s := (s.carderMode false).clearCauses .mode fun _ => true
  let s := s.mapLodgers fun l => l.map fun x => { x with wakeIrq := x.wakeIrq || decide (x.run = .running) }
  (if s.grd.started then s.enterJoining else s).throttleResume.panelClockStart

/-- In Standby, where wake sources act (R176); a set shutdown latch stops them (R223). -/
def State.asleep (s : State) : Bool := decide (s.power.phase = .running ∧ s.power.mode = .standby)

/-- Whether a wake source is enabled (Table 05-4); the wake phrase always is. (log 20: DESIGN CHOICE) -/
def Power.wakeOn (p : Power) (src : Nat) : Bool := decide (src = 1) || bit p.wakeEn src

/-- A wake source acts in Standby. (log 20: DESIGN CHOICE) -/
def State.wakeBy (s : State) (src : Nat) : State := if s.asleep && s.power.wakeOn src then s.wake src else s

/-- A change between Run and Night Hold (Table 05-3). -/
def State.changeMode (s : State) (m : Mode) : State :=
  let thr := s.panelThr
  let s := s.mapPower fun p => p.enter m
  if m = .nightHold ∧ s.svc.st ≠ .open_ then s.panelClockStop thr else s.panelClockStart

/-- MODE_REQUEST (R169, R171). A wake source that latches while Standby is being entered wakes the device before the clocks stop (R186). (log 18: DEDUCED; log 19: DEDUCED) -/
def State.serveMode (s : State) (n : Fin 4) (latched : Option Nat) : State :=
  match Mode.ofCode (s.mbxArg n 0) with
  | none => s.mbxDone n 2
  | some m =>
    if m = s.power.mode then s.mbxDone n 0
    else if m = .standby then
      let d := s.standbyDeny
      if d = 0 then
        let s := (s.mbxDone n 0).standbySteps
        match latched with
        | some src => if s.asleep && s.power.wakeOn src then s.wake src else s.stopClocks
        | none => s.stopClocks
      else (s.mapPower fun p => { p with deny := d }).mbxDone n 3
    else (s.changeMode m).mbxDone n 0

/-! ### Wakes from Off (R176, R198, R199, R602) -/

/-- A wake from Off: a POR, and OFF_WAKE while the Night Porter has kept its state. -/
def State.wakeOff (s : State) (src : Nat) : State :=
  (s.mapPower fun p => { p with npWakeSrc := BitVec.ofNat 16 (2 ^ src), offCmd := false }).deviceReset .por

/-- RTC and DI wakes from Off act while VIO supplies the device. (log 17: DEDUCED) -/
def State.wakeOffBy (s : State) (src : Nat) : State :=
  if decide (s.power.phase = .off) && s.power.vioOk && !s.power.thmLatch && s.power.wakeOn src then s.wakeOff src else s

/-! ### Real-time clock (R184, R185) -/

/-- The alarm fires once, at an RTC update that reaches it. (log 16: DEDUCED) -/
def State.rtcAlarm (s : State) : State :=
  let p := s.power
  if p.alarmArmed && decide (p.alarm ≠ 0 ∧ p.alarm ≤ p.rtc) then
    let s := s.mapPower fun p => { p with alarmArmed := false }
    if s.asleep then s.wakeBy 0
    else if p.phase = .off then s.wakeOffBy 0
    else if s.inkAlive then s.mapInk fun k => { k with rtcFlag := true }
    else s
  else s

/-- A write to PWR_RTC_ALARM arms the alarm only for a later time. (log 16: DEDUCED) -/
def State.setAlarm (s : State) (w : Word) : State :=
  s.mapPower fun p => { p with alarm := w.toNat, alarmArmed := decide (p.rtc < w.toNat) }

/-- RTC_SECOND: the RTC counts on, and with it the seconds of RUN (R351) and of the backlight (R402). (log 16: DEDUCED) -/
def State.rtcSecond (s : State) : State :=
  let s := s.mapPower fun p => { p with rtc := satInc 0xFFFFFFFF p.rtc, rtcAt := s.now }
  let s := if s.awake then
      let s := s.mapFans fun fs => fs.map fun f => if f.st = .run then { f with runs := satInc 0xFFFFFFFF f.runs } else f
      if s.pnl.lit && decide (0 < s.blApplied) then s.mapWear fun w => { w with blSeconds := satInc 0xFFFFFFFF w.blSeconds } else s
    else s
  s.rtcAlarm

/-! ### CAN, DI and the wake phrase (R177 to R179, R591 to R593) -/

/-- R177: an enabled filter matches. -/
def Power.filterMatch (p : Power) (id : Nat) : Bool :=
  p.filters.toList.any fun f => bit f.1 31 && decide (BitVec.ofNat 29 id &&& f.2.setWidth 29 = f.1.setWidth 29 &&& f.2.setWidth 29)

/-- CAN_WAKE_FRAME: what the wake receiver of a controller decoded; nothing for an 11-bit or undecodable identifier (R178). -/
def State.canWake (s : State) (c : Fin 2) (id : Option Nat) : State :=
  match id with
  | some i => if s.power.filterMatch i then s.wakeBy (2 + c.val) else s
  | none => s

/-- DI_DEBOUNCE_CHANGE (R179, R261, R262): in Off the edge only wakes. (log 17: DEDUCED) -/
def State.diDebounced (s : State) (n : Fin 8) (high : Bool) : State :=
  if s.sns.diState.getLsbD n.val = high then s
  else if s.power.phase = .off then s.wakeOffBy (8 + n.val)
  else (s.diChange n high).wakeBy (8 + n.val)

/-- A number of half bits that end now follow the partial phrase without a pause of a half bit. (log 153: DEDUCED) -/
def State.joins (s : State) (halves periodNs : Nat) : Bool := decide (2000 * (s.now - s.svc.halvesAt) ≤ (halves + 1) * periodNs)

/-- The half bits that the detector has received without a break once it has heard more, which a bit period outside R591 discards. -/
def State.halvesAfter (s : State) (halves : List Bool) (periodNs : Nat) : List Bool :=
  if !periodOk periodNs then []
  else if s.deaf halves.length then s.heard halves
  else if s.joins halves.length periodNs then s.svc.halves ++ halves
  else halves

/-- The wake phrase is accepted and counted; a lockout ignores it (R591, R593, R599). -/
def State.acceptPhrase (s : State) : State :=
  let s := s.mapSvc fun x => { x with phrases := satInc 0xFF x.phrases }
  if s.svc.lockout || !s.inkAlive then s else (s.wakeBy 1).phrase

/-- WAKE_PHRASE (R591, R593): the half bits received up to now join the partial phrase. Each two complete consecutive copies are
accepted and forgotten; what follows them is the new partial phrase. A flood lets nothing be received (R603). (log 153: DEDUCED) -/
def State.wakePhrase (s : State) (halves : List Bool) (periodNs : Nat) : State :=
  if s.detectorRuns && !s.svc.flood then
    let l := s.halvesAfter halves periodNs
    let r := phrasesIn (l.length / 192) l
    let s := s.mapSvc fun x => { x with halves := lastHalves r.2, halvesAt := s.now }
    (List.range r.1).foldl (fun s _ => s.acceptPhrase) s
  else s

/-! ### Commands -/

/-- MODE_REQUEST by Lodger `n`. (log 19: DEDUCED) -/
def execModeRequest (n : Fin 4) (user : Bool) (seq : Byte) (mode : Nat) (latched : Option Nat) (s : State) : Result :=
  .next (s.mbxCommand n user seq.toNat 0x07 [mode] fun s => s.serveMode n latched)

/-- RTC_ALARM. -/
def execRtcAlarm (s : State) : Result := .next s.rtcAlarm

/-- RTC_ALARM_WRITE: the register lies at 0x4000_1020. (log 117: DEDUCED) -/
def execRtcAlarmWrite (n : Fin 4) (user : Bool) (w : Word) (s : State) : Result :=
  .next (s.access (.lodger n user) .store 0x40001020 fun s => (s.answer 0).setAlarm w)

/-- RTC_SECOND. -/
def execRtcSecond (s : State) : Result := .next s.rtcSecond

/-- CAN_WAKE_FRAME. -/
def execCanWakeFrame (c : Fin 2) (id : Option Nat) (s : State) : Result := .next (s.canWake c id)

/-- DI_DEBOUNCE_CHANGE. -/
def execDiDebounceChange (n : Fin 8) (high : Bool) (s : State) : Result := .next (s.diDebounced n high)

/-- WAKE_PHRASE: what the detector has received. -/
def execWakePhrase (halves : List Bool) (periodNs : Nat) (s : State) : Result := .next (s.wakePhrase halves periodNs)

end Sys2Proof.Machine
end

