-- ==== Sys2Proof/Machine/Replay.lean ====
section
/-! DEFINITION. What a boot does with retention SRAM and the journal: the next sequence number, the marker and the replay (R84,
R161, R162, R381, R386 to R395). -/

namespace Sys2Proof.Machine

/-! ### The next sequence number (R381) -/

/-- The later of two sequence numbers; 0 is none. -/
def laterSeq (a b : Nat) : Nat := if a = 0 ∨ seqBefore a b then b else a

/-- The record in the flush area at place `k`. -/
def State.flushRec (s : State) (k : Nat) : Rec :=
  match s.ledger.cell (128 + 2 * k), s.ledger.cell (129 + 2 * k) with
  | some a, some b => Rec.ofBytes (a ++ b)
  | _, _ => { crcOk := false }

/-- The inspection log entry at a position, where its CRC is good. -/
def State.logAt (s : State) (k : Nat) : Option (List Byte) :=
  match s.ledger.cell (logLine k), s.ledger.cell (logLine k + 1) with
  | some a, some b => if fieldAt (a ++ b) 60 4 = crc32 ((a ++ b).take 60) then some (a ++ b) else none
  | _, _ => none

/-- SEQ and log position (none for a record of another kind) of what the ring, the flush area and the log hold. -/
def State.seqsFound (s : State) : List (Nat × Option Nat) :=
  let ofRec (r : Rec) : Option (Nat × Option Nat) :=
    if r.crcOk then some (r.seq, match r.body with
      | .logEntry slot .. => some slot
      | _ => none)
    else none
  s.wbl.ring.toList.filterMap ofRec ++ (List.range 128).filterMap (fun k => ofRec (s.flushRec k)) ++
    (List.range 512).filterMap fun k => (s.logAt k).map fun e => (fieldAt e 0 4, some k)

/-- The latest of them whose test holds. -/
def latestOf (l : List (Nat × Option Nat)) : Nat × Option Nat :=
  l.foldl (fun m x => if x.1 ≠ 0 ∧ laterSeq m.1 x.1 = x.1 then x else m) (0, none)

/-- R381 and R423 at boot. -/
def State.findSeq (s : State) : State :=
  let l := s.seqsFound
  let next := match (latestOf l).1 with
    | 0 => 1
    | q => seqAfter q
  let pos := match (latestOf (l.filter fun x => x.2.isSome)).2 with
    | some k => (k + 1) % 512
    | none => 0
  s.mapWbl fun w => { w with nextSeq := next, bootSeq := next, logPos := pos }

/-- R162: valid write buffer entries reach the cells, where the window lets them. (log 31: DEDUCED) -/
def State.drainBuffer (s : State) : State :=
  if s.windowOpen then
    s.ledger.buf.foldl (fun s e =>
      let s := (s.mapLedger fun l => { l with buf := l.buf.drop 1 }).writeCells e.line e.data
      match e.done with
      | some q => s.recDone q 0
      | none => s) s
  else s

/-! ### The marker (R386, R387, R390) -/

/-- What a boot finds in the marker line. -/
inductive Marker where
  | none | flushed | retained
  deriving DecidableEq, Repr

/-- R387; `por` says that the primary cause is POR. -/
def State.marker (s : State) (por : Bool) : Marker :=
  match s.ledger.cell 31 with
  | none => .none
  | some d =>
    if fieldAt d 28 4 ≠ crc32 (d.take 28) then .none
    else match fieldAt d 0 1 with
      | 1 => .flushed
      | 2 => if por then .none else .retained
      | _ => .none

/-- The marker line (Table 11-6). -/
def markerLine (form count first last time : Nat) : Line :=
  let front := leBytes 1 form ++ leBytes 1 count ++ [0, 0] ++ leBytes 4 first ++ leBytes 4 last ++ leBytes 4 time ++
    List.replicate 12 0
  front ++ leBytes 4 (crc32 front)

/-- The line of the marker. -/
def markerAt : Nat := 31

/-- R390: a RETAINED marker is written. -/
def State.writeRetained (s : State) : State := s.lineSoon markerAt (markerLine 2 0 0 0 s.power.rtc)

/-- R388: the flush records become the ring. (log 41: DEDUCED) -/
def State.copyFlush (s : State) : State :=
  let n := match s.ledger.cell 31 with
    | some d => min 128 (fieldAt d 1 1)
    | none => 0
  s.mapWbl fun w => { w with
    ring := Vector.ofFn fun k : Fin 128 => if k.val < n then s.flushRec k.val else {}, last := (n + 127) % 128 }

/-! ### Replay (R391, R392, Table 11-7) -/

/-- R392, in NP cycles. -/
def State.beyond (s : State) (r : Rec) : Bool :=
  decide (s.power.rtc < r.timeS ∨ (r.timeS + s.wbl.horizon) * 32768 + r.timeF < s.power.rtc * 32768 + s.timeF)

/-- A KEY_STEP record of key `k` is not yet done. (log 59: DEDUCED) -/
def State.keyStepOpen (s : State) (k : Nat) : Bool :=
  s.wbl.ring.toList.any fun r => r.notDone && match r.body with
    | .keyStep j .. => decide (j = k)
    | _ => false

/-- OUT_TARGET: a Lodger's write acts as the release of R72; a key's target waits for the key's KEY_STEP records. With none
kept the key is held by nobody, so that the gate rejects the write. (log 59: DEDUCED) -/
def State.replayTarget (s : State) (r : Rec) (i target : Nat) (kind owner : Nat) : State :=
  match idx? 30 i with
  | none => s.recAbandon r.seq 5
  | some i =>
    let o := s.outp i
    if r.img ≠ s.boot.imgSeq % 65536 then s.recAbandon r.seq 4
    else if s.beyond r then s.recAbandon r.seq 3
    else if o.owner.code ≠ kind ∨ (kind ≠ 0 ∧ o.ownerId ≠ owner) then s.recAbandon r.seq 5
    else if kind = 3 then (if s.keyStepOpen owner then s else s.recAbandon r.seq 5)
    else match idx? 4 r.origin with
      | none => s.recAbandon r.seq 5
      | some n =>
        if s.gateAccepts i (.lodger n) then
          (((s.gateTarget i (.lodger n) target r.seq).releaseOut i false).issued r.seq).targetReached i
        else s.recAbandon r.seq 5

/-- A line on its way into the cells for this record. -/
def State.underway (s : State) (q : Nat) : Bool := (s.ledger.buf ++ s.ledger.waiting).any fun e => decide (e.done = some q)

/-- Table 11-7 for one record. KEY_STEP, GRD_MSG inside the horizon and targets of keys are kept. -/
def State.replayRec (s : State) (r : Rec) : State :=
  match r.body with
  | .outTarget i t _ k o => s.replayTarget r i t k o
  | .ledgerLine l d => if s.ledger.cell l = some (padTo 32 d) then s.recDone r.seq 0 else if s.underway r.seq then s else s.issueLines r.seq
  | .logEntry slot _ _ =>
    match s.logAt slot with
    | some e => if fieldAt e 0 4 = r.seq then s.recDone r.seq 0 else if s.underway r.seq then s else s.issueLines r.seq
    | none => if s.underway r.seq then s else s.issueLines r.seq
  | .grdMsg .. => if s.beyond r then s.recAbandon r.seq 3 else s
  | .keyStep .. => s
  | .none => s

/-- Records of the source, in ascending SEQ order: those that this boot did not write itself. -/
def State.sourceRecs (s : State) : List Rec :=
  sortRecs (s.wbl.ring.toList.filter fun r => r.notDone && seqBefore r.seq s.wbl.bootSeq)

/-- The replay of step 13, and what it counts in WBL_REPLAY. (log 41: DEDUCED) -/
def State.replay (s : State) (source : Nat) : State :=
  let rs := s.sourceRecs
  let s := rs.foldl State.replayRec s
  let gone := (rs.filter fun r => s.wbl.ring.toList.any fun x => decide (x.seq = r.seq ∧ x.state = .abandoned)).length
  s.mapWbl fun w => { w with replaySource := source, replayed := rs.length - gone, abandoned := gone }

/-- R395, R73: the ring is discarded, and every output carries JOURNAL_LOST. -/
def State.discardJournal (s : State) : State :=
  let n := s.sourceRecs.length
  let s := s.mapWbl fun w => { w with
    replaySource := 0, replayed := 0, abandoned := 0, lost := n
    ring := w.ring.map fun r => if r.notDone && !seqBefore r.seq w.bootSeq then r else {} }
  s.setCauses .journalLost fun _ => true

/-- Step 13 of Table 03-2, once it does not wait. -/
def State.journalStep (s : State) : State :=
  match s.marker (decide (s.power.primary = 1)) with
  | .flushed => (s.copyFlush.replay 2).writeRetained
  | .retained => s.replay 1
  | .none => s.discardJournal.writeRetained

/-- R389. -/
def State.ledgerHeld (s : State) : Bool :=
  decide (s.marker (decide (s.power.primary = 1)) = .flushed) && !s.windowOpen

/-! ### What was kept is issued (R393, R549) -/

/-- A record that the replay keeps for the start of Gridis. -/
def Rec.isKept (r : Rec) : Bool :=
  match r.body with
  | .keyStep .. => true
  | .grdMsg .. => true
  | _ => false

/-- R393: kept KEY_STEP and GRD_MSG records, in ascending SEQ order; each Reclaim to another host is answered before the next
record is issued. (log 60: DEDUCED) -/
def State.issueKept (s : State) : State :=
  State.reclaimNext 129 (s.mapKeys fun k => { k with reclaims := (s.sourceRecs.filter Rec.isKept).map (·.seq) })

end Sys2Proof.Machine
end

