-- ==== Sys2Proof/Machine/Supply.lean ====
section
/-! DEFINITION. Supplies, clocks and reset sources: power-on, supply monitors, the HOLD capacitor, the power-fail sequence with
its flush, crystals and PLLs (R67, R76, R180 to R183, R189 to R198, R396, R601, R602, R662, R663). -/

namespace Sys2Proof.Machine

/-! ### Resets (R67, R76, R662, R663) -/

/-- The Innkeeper runs, so that a fault of it can arise: not in Off, under TEST, or once a thermal shutdown has halted it
(Table 06-3 step 5). -/
def State.inkRuns (s : State) : Bool :=
  match s.power.phase with
  | .off | .test | .halted => false
  | _ => true

/-- A fault of the Innkeeper or its supply: Blank at once, then the reset (R67). Every reset leaves every output Blank (R70). -/
def State.inkFault (s : State) (c : ResetCause) : State := if s.inkRuns then s.deviceReset c else s

/-- A PLL or the crystal feeds a running domain (R163, R195): the service port's from step 2 of Table 03-2 on (R605), outside Standby,
until the power-fail sequence or the end of a thermal shutdown stops it. -/
def State.clocked (s : State) : Bool :=
  match s.power.phase with
  | .running | .offWait => decide (s.power.mode ≠ .standby)
  | .latched | .tooHot | .nodeHold | .brokenSeal | .noImage | .ledgerWait | .shutdown => true
  | _ => false

/-- The supply monitors are shown: from step 1 of Table 03-2 on (Table 05-12). -/
def State.monitored (s : State) : Bool :=
  match s.power.phase with
  | .off | .test | .reset | .halted => false
  | _ => true

/-- A POR without OFF_WAKE: the RTC reads from 0 and retention SRAM is invalid, with what is kept there (R161, R198, R267). -/
def State.dropRetention (s : State) : State :=
  let s := s.mapPower fun p => { p with npWakeSrc := 0, rtc := 0, rtcSet := false }
  let s := (s.mapWbl fun _ => {}).mapLedger fun l => { l with buf := [] }
  let s := s.mapGrp fun g => { g with clock := 0 }
  let s := s.mapKeys fun _ => {}
  let s := s.mapBook fun _ => {}
  let s := s.mapSns fun b => { b with diState := 0, diEdges := Vector.replicate 8 0, cnt := Vector.replicate 2 0 }
  let s := s.mapWear Wear.forget
  s.mapSvc fun x => { x with prev := 0 }

/-- The Night Porter's own supply fails: OFF_WAKE and the thermal latch are lost too (R198, R224). -/
def State.loseRetention (s : State) : State :=
  s.dropRetention.mapPower fun p => { p with offWake := false, thmLatch := false, thmLast := 0 }

/-- EXTERNAL_RESET (R663): NRST has been low for 1 µs, or is high again. (log 24: DEDUCED) -/
def State.nrst (s : State) (low : Bool) : State :=
  let s := s.mapPower fun p => { p with nrstLow := low }
  if low then
    match s.power.phase with
    | .off | .test | .flushing => s
    | _ => s.deviceReset .external
  else s

/-- TEST_MODE (R662): TEST high holds the device in reset; boot follows once it is low. (log 24: DEDUCED) -/
def State.testPin (s : State) (high : Bool) : State :=
  let s := s.mapPower fun p => { p with testHigh := high }
  if s.power.phase = .off then s
  else if high then (s.resetWith 0).mapPower fun p => { p with phase := .test }
  else if s.power.phase = .test then s.mapPower fun p => { p with phase := .reset }
  else s

/-! ### Supply monitors (Table 05-5, Table 05-12) -/

/-- A supply bit falls: LOW keeps it. -/
def Power.fell (p : Power) (k : Nat) : Power := { p with low := p.low ||| BitVec.ofNat 6 (2 ^ k) }

/-- VGD_TRIP (R65, R66). -/
def State.vgdTrip (s : State) : State :=
  ((s.mapPower fun p => { p.fell 3 with vgdOk := false }).mapGate fun g => { g with vgdLow := true }).vgdDoubt

/-- VGD_RISE (R191). (log 45: DEDUCED) -/
def State.vgdRise (s : State) : State :=
  ((s.mapPower fun p => { p with vgdOk := true }).mapGate fun g => { g with vgdLow := false }).fansVgd

/-- VGD_RECOVERED: VGD has been in range for 1 s (Table 02-3). -/
def State.vgdRecovered (s : State) : State :=
  if s.power.vgdOk && s.gate.blank && decide (s.gate.blankCause = 2) then s.gateUnblank else s

/-- VA_RETURN (R251): conversions are discarded until two complete cycles have swapped. (log 25: DESIGN CHOICE) -/
def State.vaReturn (s : State) : State :=
  if s.power.vaOk then s
  else (s.mapPower fun p => { p with vaOk := true }).mapSns fun b => { b with vaWin := if s.scanning then 3 else 2 }

/-! ### HOLD (R180 to R183) -/

/-- The charge target in mV (Table 05-13). -/
def Power.chargeTarget (p : Power) : Nat := 2200 + 50 * min p.vtarget 10

/-- CHG after a measurement: off, also without VIO (R180, R657), charging, at target or inhibited by a window. (log 21: DEDUCED) -/
def State.charge (s : State) (mv : Nat) : Nat :=
  if !s.power.chargerEn || !s.power.vioOk || s.wear.testing then 0
  else if !s.thm.chgWin then 3
  else if s.power.chargeTarget ≤ mv then 2
  else 1

/-- The output of the HOLD monitor (Table 05-5, Table 05-12). -/
def State.holdMonitor (s : State) (ok : Bool) : State :=
  if s.monitored then
    s.mapPower fun p => { (if p.holdOk && !ok then p.fell 4 else p) with holdOk := ok }
  else s

/-- HOLD_WIRE_DETECT (R183): whether HOLD and HOLD_SNS have differed by more than 100 mV for 1 s. (log 21: DEDUCED) -/
def State.holdWire (s : State) (differ : Bool) : State :=
  if s.monitored && decide (s.power.chg ≠ 1) then
    s.mapPower fun p =>
      let p := if p.holdWire && !differ then p.fell 5 else p
      { p with holdWire := differ }
  else s

/-! ### The power-fail sequence (Table 05-6) and the flush (Table 11-9) -/

/-- Step 7: the Innkeeper stops and the device is in Off: main SRAM is not powered (R160), and retention SRAM keeps what a reset
keeps (R161). While VIO is present it then wakes at once (R190), except after an Off command (R602) or with the shutdown latch
set (R223). (log 13: DESIGN CHOICE) -/
def State.enterOff (s : State) : State :=
  let s := s.mapPower fun p => { p with phase := .off, offWake := true, flushRuns := false, pllLock := 0 }
  let s := { s.resetWith 0 with power := s.power, sram := {}, svc := { prev := s.svc.prev } }
  if s.power.vioOk && !s.power.offCmd && !s.power.thmLatch then s.wakeOff 4 else s

/-- Records not yet done, in ascending SEQ order. -/
def Waybill.pendingRecs (w : Waybill) : List Rec := sortRecs (w.ring.toList.filter Rec.notDone)

/-- First line of the flush area (Table 04-3). -/
def flushLine0 : Nat := 128

/-- Step 1 of the flush for one entry of the write buffer: its line is written, and its record is DONE. -/
def State.flushEntry (s : State) (e : BufEntry) : State :=
  let s := (s.mapLedger fun l => { l with buf := l.buf.drop 1 }).writeCells e.line e.data
  (match e.done with
    | some q => s.recDone q 0
    | none => s).mbxOnLine e.line e.data

/-- Step 1, for the oldest entries up to a limit. -/
def State.flushBuffer (s : State) (limit : Nat) : State := (s.ledger.buf.take limit).foldl State.flushEntry s

/-- The lines of step 2: every record not yet done takes two lines. -/
def State.flushRecLines (s : State) : List (Nat × Line) :=
  (s.wbl.pendingRecs.zipIdx).flatMap fun p =>
    [(flushLine0 + 2 * p.2, p.1.bytes.take 32), (flushLine0 + 2 * p.2 + 1, p.1.bytes.drop 32)]

/-- A line of the flush goes to the cells through the write buffer, which step 1 has emptied (R143). -/
def State.flushLine (s : State) (line : Nat) (data : Line) : State :=
  let e : BufEntry := { line := line, data := data }
  (s.mapLedger fun l => { l with buf := l.buf ++ [e] }).flushEntry e

def State.writeLines (s : State) (l : List (Nat × Line)) : State := l.foldl (fun s x => s.flushLine x.1 x.2) s

/-- WBL_FLUSH as retention SRAM keeps it. (log 22: DEDUCED) -/
def State.flushResult (s : State) (result count : Nat) : State :=
  s.mapWbl fun w => { w with
    flushResult := result, flushCount := count, flushTime := satTo 16 (openQuot (s.now - s.power.failedAt) 10) }

/-- HOLD_LOW_IN_FLUSH (R197): the flush has written `k` lines and stops; no marker is written. A write window that closed in it lets
no line in after that (R148). (log 22: DEDUCED; log 149: DEDUCED) -/
def State.flushCut (s : State) (k : Nat) : State :=
  if s.power.phase = .flushing then
    let k := min k (s.power.flushCap.getD k)
    let dirty := min k s.ledger.buf.length
    let s := s.flushBuffer dirty
    let lines := (s.flushRecLines ++ s.changedLines).take (k - dirty)
    let recs := min s.wbl.pendingRecs.length ((k - dirty) / 2)
    (((s.writeLines lines).flushResult 4 recs).holdMonitor false).enterOff
  else s

/-- A HOLD monitor that goes low in a flush stops it; it has then written a free number of lines (R197). (log 149: DEDUCED) -/
def State.holdLost (s : State) : State := (s.mapDraws (· + 1)).flushCut (Config.flushedLines s.draws)

/-- POWER_ON (R76, R198): VIO rises through the power-on threshold, with the other supplies as they stand. In Off the Night
Porter records the source; a power-fail sequence under way runs to its end first, and the device then wakes at once, also where an
Off command began it (R190, R602). With TEST high the POR is recorded and the device stays in reset (R662). (log 120: DEDUCED) -/
def State.powerOn (s : State) (va vao vgd hold : Bool) : State :=
  if s.power.vioOk then s
  else
    let s := s.mapPower fun p => { p with vioOk := true, vaOk := va, vaoOk := vao, vgdOk := vgd, holdOk := hold }
    match s.power.phase with
    | .off => s.wakeOff 4
    | .flushing =>
      let s := s.mapPower fun p => { p with offCmd := false }
      if hold then s else s.holdLost
    | _ => s.deviceReset .por

/-- HOLD_MEASURE, with the voltage at HOLD_SNS and the HOLD monitor's output. One that is low stops a flush under way, which has
then written some of its lines (R197). (log 21: DEDUCED; log 149: DEDUCED) -/
def State.holdMeasure (s : State) (mv : Nat) (ok : Bool) : State :=
  if s.power.phase = .flushing ∧ ok = false then s.holdLost
  else
    let s := s.holdMonitor ok
    if s.inkAlive then
      let c := s.charge mv
      s.mapPower fun p => { p with holdMv := satTo 12 mv, chg := c }
    else s

/-- FLUSH_COMPLETE: steps 1 to 6 of Table 11-9. A write window that has closed in the sequence keeps the lines from the cells (R148),
and a low HOLD has stopped the flush (R197), so that it is not complete. (log 22: DEDUCED; log 149: DEDUCED) -/
def State.flushDone (s : State) : State :=
  if s.power.phase = .flushing ∧ s.windowOpen = true ∧ s.power.holdOk = true then
    let s := s.flushBuffer 16
    let rs := s.wbl.pendingRecs
    let s := s.writeLines (s.flushRecLines ++ s.changedLines)
    let q (r : Option Rec) : Nat := (r.map (·.seq)).getD 0
    let s := s.flushLine markerAt (markerLine 1 rs.length (q rs.head?) (q rs.getLast?) s.power.rtc)
    (s.flushResult 1 rs.length).enterOff
  else s

/-- The sequence from step 2 (R196). A trip before step 13 of boot goes straight to step 7 (R124); so does one that finds HOLD
low or the Ledger window closed, without a marker. (log 23: DEDUCED) -/
def State.failFrom2 (s : State) : State :=
  let booted := s.live
  let s := ((s.gateBlank 4).haltBlocks.holdTestFails).mapGrd Grd.halt
  let s := s.mapPower fun p => { p with failedAt := s.now }
  if !booted then s.enterOff
  else if !s.power.holdOk then (s.flushResult 2 0).enterOff
  else if !s.windowOpen then (s.flushResult 3 0).enterOff
  else s.mapPower fun p => { p with phase := .flushing, flushRuns := true, pllLock := 0 }

/-- POWER_FAIL: PFAIL, or the VIO power-fail trip. It has no effect in Off, in the sequence itself (R189), or while the
shutdown latch is set (R223). (log 23: DEDUCED) -/
def State.powerFail (s : State) (vio : Bool) : State :=
  let s := if vio && s.power.vioOk then s.mapPower fun p => { p.fell 0 with vioOk := false } else s
  if s.power.thmLatch then s
  else match s.power.phase with
    | .off | .flushing | .test => s
    | _ => s.failFrom2

/-- OFF_WAIT_END (R601). -/
def State.offWaitEnd (s : State) : State :=
  if s.power.phase = .offWait then
    let s := s.mapPower fun p => { p with offCmd := true }
    s.failFrom2
  else s

/-! ### Crystals and PLLs (R192 to R195) -/

/-- CRYSTAL_LOSS (R192). -/
def State.crystalLoss (s : State) : State :=
  if s.clocked && !s.power.xtalRc then
    (s.mapPower fun p => { p with xtalRc := true, xtalLossCnt := satInc 0xFF p.xtalLossCnt }).logEvent 0x0103 (leBytes 1 0)
  else s

/-- PLL_LOCK_LOSS (R195): A, B or C, in every phase in which it feeds a domain. -/
def State.pllLoss (s : State) (k : Fin 3) : State :=
  if s.clocked && s.power.pllLock.getLsbD k.val then (s.logEvent 0x0103 (leBytes 1 (k.val + 1))).inkReset else s

/-! ### Commands -/

/-- POWER_ON. (log 17: DEDUCED) -/
def execPowerOn (va vao vgd hold : Bool) (s : State) : Result := .next (s.powerOn va vao vgd hold)

/-- BROWNOUT: of VCORE, or of VIO, which the power-fail sequence excepts (Table 05-5). -/
def execBrownout (vcore : Bool) (s : State) : Result :=
  .next (match s.power.phase with
    | .off | .test => s
    | .flushing => if vcore then s.deviceReset .brownout else s
    | _ => s.deviceReset .brownout)

/-- EXTERNAL_RESET. -/
def execExternalReset (low : Bool) (s : State) : Result := .next (s.nrst low)

/-- LOCKSTEP_MISMATCH. -/
def execLockstepMismatch (s : State) : Result := .next (s.inkFault .lockstep)

/-- INK_WATCHDOG_EXPIRY (R57): a thermal shutdown holds the watchdog stopped (Table 06-3 step 3). -/
def execInkWatchdogExpiry (s : State) : Result :=
  .next (if s.power.phase = .shutdown then s else s.inkFault .hwWatchdog)

/-- INK_SRAM_ECC_ERROR. -/
def execInkSramEccError (s : State) : Result := .next (s.inkFault .inkRequest)

/-- TEST_MODE. -/
def execTestMode (high : Bool) (s : State) : Result := .next (s.testPin high)

/-- VGD_TRIP. -/
def execVgdTrip (s : State) : Result := .next (if s.power.vgdOk then s.vgdTrip else s)

/-- VGD_RISE. -/
def execVgdRise (s : State) : Result := .next (if s.power.vgdOk then s else s.vgdRise)

/-- VGD_RECOVERED. -/
def execVgdRecovered (s : State) : Result := .next s.vgdRecovered

/-- HOLD_MEASURE. (log 3: DESIGN CHOICE) -/
def execHoldMeasure (mv : Nat) (ok : Bool) (s : State) : Result := .next (s.holdMeasure mv ok)

/-- HOLD_WIRE_DETECT. -/
def execHoldWireDetect (differ : Bool) (s : State) : Result := .next (s.holdWire differ)

/-- POWER_FAIL. -/
def execPowerFail (vio : Bool) (s : State) : Result := .next (s.powerFail vio)

/-- HOLD_LOW_IN_FLUSH. -/
def execHoldLowInFlush (k : Nat) (s : State) : Result := .next (s.flushCut k)

/-- FLUSH_COMPLETE. -/
def execFlushComplete (s : State) : Result := .next s.flushDone

/-- OFF_WAIT_END. -/
def execOffWaitEnd (s : State) : Result := .next s.offWaitEnd

/-- CRYSTAL_LOSS. (log 26: DEDUCED) -/
def execCrystalLoss (s : State) : Result := .next s.crystalLoss

/-- CRYSTAL_RECOVERY (R193). -/
def execCrystalRecovery (s : State) : Result := .next (if s.clocked then s.mapPower fun p => { p with xtalRc := false } else s)

/-- NP_CRYSTAL_LOSS (R194). (log 26: DEDUCED) -/
def execNpCrystalLoss (s : State) : Result := .next (s.mapPower fun p => { p with npRc := true })

/-- NP_CRYSTAL_RECOVERY (R194). -/
def execNpCrystalRecovery (s : State) : Result := .next (s.mapPower fun p => { p with npRc := false })

/-- PLL_LOCK_LOSS. -/
def execPllLockLoss (k : Fin 3) (s : State) : Result := .next (s.pllLoss k)

/-- VA_LOW_TRIP. -/
def execVaLowTrip (s : State) : Result :=
  .next (if s.power.vaOk then s.mapPower fun p => { p.fell 1 with vaOk := false } else s)

/-- VA_RETURN. -/
def execVaReturn (s : State) : Result := .next s.vaReturn

/-- VAO_LOW_TRIP (R370): VAO_LOW shows on every AO output, and a newly set flag sets OUT_INT.FAULT (R371). -/
def execVaoLowTrip (s : State) : Result :=
  .next (if s.power.vaoOk then
      let s := s.mapPower fun p => { p.fell 2 with vaoOk := false }
      if s.cutOffs then s.outInt outFault else s
    else s)

/-- VAO_RETURN: each AO pin is driven to APPLIED, which follows from VAO_OK. -/
def execVaoReturn (s : State) : Result := .next (s.mapPower fun p => { p with vaoOk := true })

/-- NIGHT_PORTER_RETENTION_LOSS (R198): only while VIO is absent, with no supply left for main SRAM either (R160). What the latch
held in Off is lost with it (R224). -/
def execNightPorterRetentionLoss (s : State) : Result :=
  .next (if s.power.vioOk then s else (s.loseRetention.mapSram fun _ => {}).mapPower fun p => { p with phase := .off })

end Sys2Proof.Machine
end

