-- ==== Sys2Proof/Machine/Boot.lean ====
section
/-! DEFINITION. Start-up: slot choice, seals at boot, loading, the start of the blocks and of the Lodgers (Table 03-2, R77 to R90,
R98 to R106, R121 to R125, R199, R231 to R234, R306, R351, R372, R389, R461, R467, R500, R576, R625), and the staging of the next
image (R109 to R114). -/

namespace Sys2Proof.Machine

/-! ### Steps 1 to 4 -/

/-- R77: the primary cause as a bit number plus 1; 0 where no cause is latched. -/
def primaryCause (c : BitVec 7) : Nat := (([0, 1, 2, 4, 3, 5, 6].find? fun b => c.getLsbD b).map (· + 1)).getD 0

/-- Whether retention SRAM holds an entry. -/
def State.holdsEntry (s : State) : RetEntry → Bool
  | .buffer k => decide (k < s.ledger.buf.length)
  | .epoch key => s.keys.epochs.any fun e => decide (e.1 = key)
  | .hosted key => s.keys.hosted.any fun e => decide (e.key = key)
  | .booking k => decide (vget s.book.own k ≠ {})
  | .ring _ | .clock | .session | .wear => true

/-- R138: an entry of retention SRAM whose CRC fails is treated as absent; entries of the write buffer, which keep their order, go
together (`State.tearBuffer`). How the Innkeeper's retained state divides into entries, and that an absent clock or session counts as
0, is the model's choice. (log 141: DESIGN CHOICE) -/
def State.tear (s : State) : RetEntry → State
  | .ring k => s.mapWbl fun w => { w with ring := vmod w.ring k fun r => { r with crcOk := false } }
  | .buffer _ => s
  | .epoch key => s.mapKeys fun q => { q with epochs := q.epochs.filter fun e => decide (e.1 ≠ key) }
  | .hosted key => s.mapKeys fun q => { q with hosted := q.hosted.filter fun e => decide (e.key ≠ key) }
  | .booking k => s.mapBook fun b => { b with own := vset b.own k {} }
  | .clock => s.mapGrp fun g => { g with clock := 0 }
  | .session => s.mapSvc fun x => { x with prev := 0 }
  | .wear => s.mapWear Wear.forget

/-- The second line of the log entry whose first line an entry of the write buffer carries. -/
def BufEntry.firstOf (a b : BufEntry) : Bool :=
  decide (384 ≤ a.line ∧ a.line < 1408 ∧ a.line % 2 = 0 ∧ a.done = none ∧ b.line = a.line + 1)

/-- The entries of the write buffer whose CRC fails. A log entry whose first line is lost can no longer be completed by its second,
which goes with it, so that the replay issues both anew (R391). (log 141: DESIGN CHOICE) -/
def State.tearBuffer (s : State) (torn : List RetEntry) : State :=
  s.mapLedger fun l =>
    let lost (k : Nat) : Bool := torn.contains (.buffer k)
    let gone := (l.buf.zipIdx.filter fun p => lost p.2).map (·.1)
    { l with buf := (l.buf.zipIdx.filter fun p => !lost p.2 && !gone.any fun g => g.firstOf p.1).map (·.1) }

/-- Retention SRAM accepted or not (R161, Table 04-14), with the entries of it whose CRC fails (R138, R385), and the next sequence
number. (log 31: DEDUCED) -/
def State.bootRetention (s : State) (torn : List RetEntry) : State :=
  let lost := s.power.latchedCauses.getLsbD 0 && !s.power.offWake
  let other := ((torn.eraseDups.filter s.holdsEntry).filter fun t => match t with
    | .ring _ => false
    | _ => true).length
  let s := if lost then s.dropRetention else (torn.foldl State.tear s).tearBuffer torn
  let bad := (s.wbl.ring.toList.filter fun r => !r.crcOk).length
  (s.mapMem fun m => { m with retValid := !lost, retCrcFail := satTo 16 (bad + if lost then 0 else other) }).findSeq

/-- R231: until step 12 the levels are the sealed ones, and the mode is too-hot. -/
def State.bootLevels (s : State) : State :=
  let x := s.seal 8
  if x.written && !x.broken then s.mapThm fun t => { t.load x.value with crossCheck := false } else s

/-- R232: boot waits at step 2. -/
def State.bootTooHot (s : State) : Bool :=
  decide (8 * ((s.thm.levels.2.2.1 : Int) - hysOf s.thm.shutdownHys) ≤ s.thm.tj)

/-- Step 3: causes (R125), the wake source, and the sweep of the written-tags (R159). The check bits of an unwritten word are
computed anew when it is written (R128), so what they showed is forgotten. -/
def State.bootCauses (s : State) (sweepUs : Nat) : State :=
  let s := s.mapPower fun p =>
    { p with
      cause := p.latchedCauses, primary := primaryCause p.latchedCauses, offWakeShown := p.offWake
      wakeSrc := if p.offWake then p.npWakeSrc else 0, latchedCauses := 0, offWake := false, pllLock := 1 }
  (s.mapSram fun m => { m with tags := [], singles := [], doubles := [] }).mapMem fun m => { m with sweepUs := satTo 16 sweepUs }

/-- R199, R233: the wake source and the last shutdown's cause are journaled. (log 41: DEDUCED) -/
def State.bootLogs (s : State) : State :=
  let s := if s.power.offWakeShown then s.logSoon 0x0101 (leBytes 2 s.power.wakeSrc.toNat) else s
  if s.power.thmLast = 0 then s
  else (s.logSoon 0x0204 (leBytes 1 s.power.thmLast)).mapPower fun p => { p with thmLast := 0 }

/-! ### Slot choice (R85 to R90) -/

def Boot.slotRec (b : Boot) (k : Nat) : SlotRec := if k = 0 then b.slotA else b.slotB

def Boot.mapSlotRec (b : Boot) (k : Nat) (f : SlotRec → SlotRec) : Boot :=
  if k = 0 then { b with slotA := f b.slotA } else { b with slotB := f b.slotB }

/-- R90, the code of an EMPTY slot (Table 03-7), and codes of earlier boots, which only a REJECTED slot keeps. The boot record's line
follows at the next change of a slot. (log 11: DEDUCED; log 36: DEDUCED; log 159: DESIGN CHOICE) -/
def SlotRec.atBoot (r : SlotRec) : SlotRec :=
  match r.state with
  | .trial => if r.attempts = 0 then { state := .rejected, attempts := 0, code := 15 } else { r with code := 0 }
  | .rejected => r
  | .empty => { r with code := 3 }
  | _ => { r with code := 0 }

/-- R85 over the slots not tried yet in this boot. (log 11: DEDUCED; log 36: DEDUCED) -/
def State.pickSlot (s : State) (tried : List Nat) : Option Nat :=
  let left := [0, 1].filter fun k => !tried.contains k
  let st (k : Nat) : SlotRec := s.boot.slotRec k
  ((left.find? fun k => decide ((st k).state = .trial ∧ 0 < (st k).attempts) && s.windowOpen).or
    (left.find? fun k => decide ((st k).state = .active))).or
    (left.find? fun k => decide ((st k).state ≠ .empty ∧ (st k).state ≠ .rejected))

/-- What slot choice ends with. -/
inductive Chosen where
  | none
  /-- A verified image in this slot, while a seal slot is broken (R426). -/
  | broken (k : Nat) (h : Head)
  /-- An image in this slot that holds boot for a node number (R106). -/
  | held (k : Nat) (h : Head)
  | image (k : Nat) (h : Head) (x : Section)

/-- A slot's check comes out. -/
def State.slotCheck (s : State) (k : Nat) (e : BootEnv) : Check Chosen := do
  let h ← s.checkHead k e.nor e.sfdp (if k = 0 then e.slotA else e.slotB)
  if s.seals.brokenMask ≠ 0 then return .broken k h
  else do
    let x ← s.checkNode h
    match x with
    | some y => return .image k h y
    | none => return .held k h

/-- R86, R87: slots are tried until one passes. (log 36: DEDUCED) -/
def State.trySlots (e : BootEnv) : Nat → List Nat → State → Chosen × State
  | 0, _, s => (.none, s)
  | n + 1, tried, s =>
    match s.pickSlot tried with
    | none => (.none, s)
    | some k =>
      let s :=
        if (s.boot.slotRec k).state = .trial then
          (s.mapBoot fun b => b.mapSlotRec k fun r => { r with attempts := r.attempts - 1 }).bootLine
        else s
      match s.slotCheck k e with
      | .ok c => (c, s)
      | .error f => State.trySlots e n (k :: tried) (s.mapBoot fun b => b.mapSlotRec k fun r => { r with code := f.code }).bootLine

/-- R78: a reset record in the crash area, whose layout is open (log entry 9). It holds the slot booted, so that a boot which the
thermal latch stops at step 2, before slot choice, appends none. (log 135: DESIGN CHOICE) -/
def State.crashRecord (s : State) (slot : Nat) : State :=
  let r : ResetRec :=
    { cause := s.power.cause, primary := s.power.primary, time := s.power.rtc, slot := slot, failA := s.boot.failA
      failB := s.boot.failB }
  let d := s.draws
  let at_ := 32 + 2 * s.boot.crashPos
  let s := s.mapBoot fun b => { b with crash := (r :: b.crash).take 16, crashPos := (b.crashPos + 1) % 16 }
  let s := (s.mapDraws (· + 1)).lineSoon at_ ((List.range 32).map fun i => Config.openByte at_ d i)
  s.lineSoon (at_ + 1) ((List.range 32).map fun i => Config.openByte (at_ + 1) d i)

/-! ### Seals at boot (R101, R103, R104) -/

/-- A never-written slot is filled from the image copy. (log 39: DEDUCED) -/
def State.fillSeals (s : State) (g : Tabs) (x : Option Section) : State :=
  (List.finRange 16).foldl (fun s k => match imageCopy g x k.val with
    | some v => if (s.seal k).written then s else s.fillSeal k v 0
    | none => s) s

/-- Slots that differ from their copies. -/
def State.diffMask (s : State) (g : Tabs) (x : Option Section) : Nat :=
  (List.finRange 16).foldl (fun m k => match imageCopy g x k.val with
    | some v => if (s.seal k).written ∧ (s.seal k).value ≠ v then m + 2 ^ k.val else m
    | none => m) 0

/-- R103, R104. (log 39: DEDUCED) -/
def State.compareSeals (s : State) (g : Tabs) (x : Option Section) : State :=
  let d := s.diffMask g x
  let s := s.fillSeals g x
  if d = 0 then s
  else
    let s := s.mapSeals fun q =>
      { q with slots := Vector.ofFn fun k : Fin 16 => { vget q.slots k with diff := d.testBit k.val } }
    (s.mapBoot fun b => { b with sealDiff := true }).logSoon 0x0102 (leBytes 2 d)

/-- R101: enrolment, once every other check has passed. (log 33: DEDUCED; log 39: DEDUCED) -/
def State.enrol (s : State) (h : Head) : State :=
  if s.keysEmpty then (s.fillSeal 1 h.hdr.enrol 1).mapBoot fun b => { b with enrolled := true } else s

/-! ### Step 12: loading -/

/-- The image as the running device keeps it. -/
def imageOf (h : Head) (x : Option Section) : Image where
  seq := h.hdr.seq
  level := h.hdr.level
  keySlot := h.hdr.keySlot
  version := h.hdr.version
  confirm := h.hdr.confirm
  startMask := match x with
    | some y => fieldAt y.bytes 1 1 % 16
    | none => 0
  stageBuf := match x with
    | some y => fieldAt y.bytes 4 4
    | none => 0
  digest := h.digest
  sections := h.secs.map (·.node)
  nodes := (h.group.get 0x01).map nodeOf
  keymap := (h.group.get 0x02).map (keyEntryOf h.group)
  bookclass := (h.group.get 0x04).map bookClassOf
  wear := match x with
    | some y => (y.tabs.get 0x21).map wearOf
    | none => []
  neighbours := match x with
    | some y => (y.tabs.get 0x1C).map fun e => { kind := fieldAt e 0 1, id := fieldAt e 1 1, offset := signed 16 (fieldAt e 2 2) }
    | none => []
  copies := (List.range 16).map (imageCopy h.group x)
  fanChans := match x with
    | some y => (y.tabs.get 0x18).map fun e => fieldAt e 0 1
    | none => []
  climok := match x with
    | some y => y.climok
    | none => none
  system := fieldAt (groupTime h.group) 0 4
  slewPpm := groupTimeOr h.group 0x14 1000
  extValid := groupTimeOr h.group 0x16 3600

/-- The slot in use, in the SYS registers. -/
def State.inSlot (s : State) (k : Nat) (h : Head) (x : Option Section) : State :=
  let r := s.boot.slotRec k
  (s.mapImage fun _ => some (imageOf h x)).mapBoot fun b =>
    { b with slot := k, trial := decide (r.state = .trial), imgSeq := h.hdr.seq, imgLevel := h.hdr.level }

/-- R98, R99: a LOAD entry's data, with the written-tag of every word that it fills. (log 42: DEDUCED) -/
def State.loadData (s : State) (a : Nat) (d : List Byte) : State :=
  let words := (d.length + 7) / 8
  let off := a - sramBase
  s.mapSram fun m => { m with
    cells := Memory.setMany 0 m.cells off (padTo (8 * words) d)
    tags := (List.range words).foldl (fun t k => Marks.add (off / 8 + k) t) m.tags
    singles := m.singles.filter fun w => decide (w < off / 8 ∨ off / 8 + words ≤ w) }

def State.loadCode (s : State) (x : Section) : State :=
  (x.tabs.get 0x30).foldl (fun s e => s.loadData (fieldAt e 0 4) (slice x.bytes (fieldAt e 8 4) (fieldAt e 4 4))) s

/-- The value of a seal slot in force, where it has one. -/
def State.sealValue (s : State) (k : Fin 16) : Option (List Byte) :=
  if (s.seal k).written && !(s.seal k).broken then some (s.seal k).value else none

/-- Lodgers: fences, entry points and watchdog timeouts. -/
def State.loadLodgers (s : State) (x : Section) : State :=
  let t := (s.sealValue 15).getD x.wdt
  (s.loadFences x).mapLodgers fun l => Vector.ofFn fun n : Fin 4 =>
    { vget l n with
      entry := BitVec.ofNat 32 (fieldAt x.bytes (8 + 4 * n.val) 4), timeout := fieldAt t (2 * n.val) 2
      timeoutNext := fieldAt t (2 * n.val) 2 }

/-- Rest values and envelopes (R51). -/
def State.loadGate (s : State) : State :=
  s.mapGate fun g =>
    let g := match s.sealValue 7 with
      | some v => g.loadEnvelopes v
      | none => g
    match s.sealValue 6 with
    | some v => { g with outs := Vector.ofFn fun i : Fin 30 => { vget g.outs i with rest := fieldAt v (2 * i.val) 2 }.park }
    | none => g

/-- Tables 07-4 to 07-6. -/
def State.loadSense (s : State) (x : Section) : State :=
  s.mapSns fun b =>
    let uis := (x.tabs.get 0x12).foldl (fun v e => match idx? 16 (fieldAt e 0 1) with
      | some n => vmod v n fun u => { u with
          type := fieldAt e 1 1, c0 := BitVec.ofNat 32 (fieldAt e 4 4), c1 := BitVec.ofNat 32 (fieldAt e 8 4)
          c2 := BitVec.ofNat 32 (fieldAt e 0xC 4) }
      | none => v) b.uis
    let i2c := ((x.tabs.get 0x13).zipIdx).foldl (fun v p => match idx? 16 p.2 with
      | some m => vmod v m fun q => { q with
          used := true, addr := fieldAt p.1 0 1, cmd := fieldAt p.1 1 2, form := fieldAt p.1 3 1, wait := fieldAt p.1 4 1
          period := fieldAt p.1 5 1 }
      | none => v) b.i2c
    (x.tabs.get 0x14).foldl (fun b e =>
      match idx? 8 (fieldAt e 0 1), idx? 2 (fieldAt e 0 1 - 8) with
      | some d, _ => { b with diDeb := vset b.diDeb d (fieldAt e 1 1) }
      | none, some c => { b with cntEdge := vset b.cntEdge c (fieldAt e 2 1) }
      | none, none => b) { b with uis := uis, i2c := i2c }

/-- R351: a channel's baseline from the wear history, where its CRC is good. -/
def State.baseOf (s : State) (c : Nat) : Vector BasePoint 8 :=
  match s.ledger.cell (1416 + 2 * c), s.ledger.cell (1417 + 2 * c) with
  | some a, some b =>
    let d := a ++ b
    if fieldAt d 60 4 = crc32 (d.take 60) then
      Vector.ofFn fun k : Fin 8 =>
        { rpm := fieldAt d (6 * k.val) 2, cur := fieldAt d (6 * k.val + 2) 2, duty := fieldAt d (6 * k.val + 4) 2 % 1024 }
    else Vector.replicate 8 {}
  | _, _ => Vector.replicate 8 {}

/-- R351. -/
def State.loadFans (s : State) (x : Section) : State :=
  let m := (s.sealValue 9).getD []
  s.mapFans fun fs => Vector.ofFn fun c : Fin 6 =>
    let f := match x.fanEntry c.val with
      | some e => fieldAt e 1 1
      | none => 0
    let motor := FanMotor.ofBytes m c.val
    { vget fs c with
      en := decide (f % 2 = 1), direct := decide (f / 2 % 2 = 1), hall := decide (f / 4 % 2 = 1), hallFb := decide (f / 8 % 2 = 1)
      revFix := decide (f / 16 % 2 = 1), shadow := x.fanCfg c.val, cfg := x.fanCfg c.val, sealed := motor, motor := motor
      base := s.baseOf c.val }

/-- R372, Table 10-6. -/
def State.loadOutCfg (s : State) (x : Section) : State :=
  (x.tabs.get 0x1A).foldl (fun s e =>
    let o := fieldAt e 0 1
    match idx? 8 o, idx? 12 (o - 8), idx? 4 (o - 20) with
    | some n, _, _ => s.mapOut fun b => { b with ao := vmod b.ao n fun a => { a with
        strokeEn := decide (fieldAt e 1 1 % 2 = 1), strokeUi := fieldAt e 2 1 % 16, rbTol := fieldAt e 3 1, strokeMax := fieldAt e 4 1 } }
    | none, some k, _ => s.mapOut fun b => { b with dos := vmod b.dos k fun d => { d with climok := decide (fieldAt e 1 1 / 2 % 2 = 1) } }
    | none, none, some k => s.mapOut fun b => { b with hts := vmod b.hts k fun h => { h with period := fieldAt e 2 1 } }
    | none, none, none => s) s

/-- Thermal levels, the board window and GRACE; a charging window that changes with them raises THM_INT.WIN (R217). -/
def State.loadThermal (s : State) (x : Section) : State :=
  s.mapWindows fun t =>
    let t := match s.sealValue 8 with
      | some v => t.load v
      | none => t
    let t := match s.sealValue 14 with
      | some v => t.loadBoard v
      | none => t
    match x.tabs.get 0x1B with
    | e :: _ => { t with grace := clampNat (fieldAt e 8 2) 10 10000 }
    | [] => t

/-- R576: a port's set-up; it is enabled at step 14. (log 43: DEDUCED) -/
def uartOfEntry (e : List Byte) : Uart :=
  let f := fieldAt e 2 1
  let baud := fieldAt e 4 4
  let c : UartCfg :=
    { deLag := fieldAt e 9 1, deLead := fieldAt e 8 1, stop2 := decide (f / 32 % 2 = 1), parity := f / 8 % 4
      data8 := decide (f / 4 % 2 = 1), div := nearest 32000000 baud, polMode := fieldAt e 3 1 }
  { cfg := c, txCfg := c, rxCfg := c, invTx := fixedPol c.polMode false, invRx := fixedPol c.polMode false
    rxWhileTx := decide (f / 2 % 2 = 1), rxEn := decide (f % 2 = 1), txEn := decide (f % 2 = 1), rxlvl := fieldAt e 0xA 1
    txlvl := fieldAt e 0xB 1, owner := some (fieldAt e 1 1) }

def State.loadUarts (s : State) (x : Section) : State :=
  let set (v : Vector Uart 3) (e : List Byte) : Vector Uart 3 := match idx? 3 (fieldAt e 0 1) with
    | some k => vset v k (uartOfEntry e)
    | none => v
  s.mapUarts fun u => { u with ports := (x.tabs.get 0x1D).foldl set u.ports }

/-- R625, Table 18-2, R615. -/
def State.loadPanel (s : State) (x : Section) : State :=
  s.mapPnl fun p =>
    let p := match s.sealValue 13 with
      | some v => { p with railseq := v }
      | none => p
    let p := { p with od := ((x.tabs.get 0x20).map fun e => (e.headD 0 &&& 15)) ++ p.od.drop (x.tabs.get 0x20).length }
    match x.tabs.get 0x1F with
    | [] => p
    | e :: _ =>
      let f := fieldAt e 9 1
      let t : PnlTiming :=
        { pclk := fieldAt e 0 1, hact := 8 * fieldAt e 1 1, vact := fieldAt e 2 1, hfp := fieldAt e 3 1, hsw := fieldAt e 4 1
          hbp := fieldAt e 5 1, vfp := fieldAt e 6 1, vsw := fieldAt e 7 1, vbp := fieldAt e 8 1, odEn := decide (f / 2 % 2 = 1)
          black15 := decide (f / 16 % 2 = 1), hsPol := decide (f / 4 % 2 = 1), vsPol := decide (f / 8 % 2 = 1) }
      { p with
        shadow := t, cfg := t, tempEn := decide (f / 32 % 2 = 1), tempUi := fieldAt e 0xA 1, owner := fieldAt e 0xB 1
        temps := #v[signed 8 (fieldAt e 0xC 1), signed 8 (fieldAt e 0xD 1), signed 8 (fieldAt e 0xE 1)], lim := fieldAt e 0xF 1 }

/-- R466, R467: the sealed timing lies inside Tables 14-2 and 14-1. Fields are held minus 1. (log 88: DEDUCED) -/
def timingOk (v : List Byte) : Bool :=
  let b (o : Nat) : Nat := fieldAt v o 1 + 1
  let nq := b 4 * (1 + b 5 + b 6)
  let dq := b 8 * (1 + b 9 + b 10)
  decide (fieldAt v 1 1 < 8 ∧ fieldAt v 2 2 = 0 ∧ fieldAt v 14 2 = 0 ∧ fieldAt v 12 1 < 4 ∧ b 4 ≤ 32 ∧ 2 ≤ b 5 ∧ b 6 ≤ 128 ∧
      b 7 ≤ b 6 ∧ b 8 ≤ 32 ∧ b 9 ≤ 32 ∧ b 10 ≤ 16 ∧ b 11 ≤ b 10) &&
    decide (125000 * nq ≤ 80000000 ∧ 80000000 ≤ 1000000 * nq ∧ dq ≤ nq ∧ 80000000 ≤ 5000000 * dq)

/-- Node number, segment, bridge role and bit timing (R465, R467, R469), and the sealed scope (R504). (log 88: DEDUCED) -/
def State.loadGridis (s : State) : State :=
  let v := (s.sealValue 0).getD []
  let node := fieldAt v 0 1
  let e := (s.image.getD {}).nodes.find? fun e => decide (e.node = node)
  let w := (s.sealValue 12).getD []
  let s := s.mapGrd fun g => { g with
    node := node, seg := fieldAt v 1 1 % 8, bridge := (e.map (·.bridge)).getD false, bseg := (e.map (·.bseg)).getD 0
    brs := decide (fieldAt v 12 1 % 2 = 1), timingBad := !timingOk v }
  let s := s.mapGrp fun g => { g with
    system := fieldAt w 0 4, segmask := fieldAt w 4 1, quorum := if fieldAt w 5 1 = 0 then 1 else fieldAt w 5 1 }
  if s.grd.timingBad then s.logSoon 0x0701 [] else s

/-- Step 12. Every output goes to Rest with cause BOOT. -/
def State.bootLoad (s : State) (h : Head) (x : Section) : State :=
  let s := (s.loadCode x).loadLodgers x
  let s := ((s.loadGate.loadSense x).loadFans x).loadOutCfg x
  let s := (((s.loadThermal x).loadUarts x).loadPanel x).loadDma x
  let s := s.mapLoops fun _ => x.loops
  let s := s.mapWbl fun w => { w with horizon := groupTimeOr h.group 6 10 }
  let s := (s.loadGridis.restoreCounters).checkHistories
  (s.mapGate fun g => { g with vgdLow := !s.power.vgdOk }).gateUnblank

/-! ### Steps 14 and 15 -/

/-- R500, R549, R551: Gridis starts; kept records go out first; holders are told that their keys are free. (log 43: DEDUCED) -/
def State.startGridis (s : State) : State :=
  let s := s.mapGrd fun g =>
    { g with started := true, cans := if g.timingBad then g.cans else g.cans.map fun k => { k with st := .active } }
  let s := (s.issueKept.freeAllHosted 1).enterJoining
  s.mapBook fun b => { b with restore := true }

/-- Step 14: PLL B and PLL C, the blocks, and the writes that their crossings hold (R636). -/
def State.startBlocks (s : State) (x : List Nat) (panelOn : Bool) : State :=
  let s := s.mapPower fun p => { p with pllLock := 7 }
  let s := s.mapSns fun b => { b with running := true }
  let s := s.mapLoops fun b => { b with running := true }
  let s := s.mapOut fun b => { b with running := true, int := b.int ||| if s.power.vaoOk then 0 else outFault }
  let enable (u : Uarts) (k : Fin 3) : Uart := if x.contains k.val then (vget u.ports k).setEn true else vget u.ports k
  let s := s.mapUarts fun u => { u with ports := Vector.ofFn (enable u) }
  let s := s.startGridis.crossingStart.panelClockStart
  let s := (List.finRange 24).foldl (fun s c => if (s.chan c).autostart then s.dmaStart c else s) s
  if panelOn then s.panelOn else s

/-- Step 15: Lodgers start; BOOT is cleared on parked outputs (R47); a throttle level that stands raises its request (R234). -/
def State.startLodgers (s : State) (ms : Nat) : State :=
  let mask := (s.image.getD {}).startMask
  let s := (List.finRange 4).foldl (fun s n => if mask.testBit n.val then s.startLodger n else s) s
  let s := s.clearCauses .boot fun o => decide (o.owner = .none)
  (s.mapBoot fun b => { b with bootMs := satTo 16 ms }).throttleResume

/-- Step 13, unless it waits (R389), and the steps after it. -/
def State.bootJournal (s : State) (ms : Nat) : State :=
  if s.ledgerHeld then s.mapPower fun p => { p with phase := .ledgerWait }
  else
    let b := s.boot
    ((s.journalStep.mapPower fun p => { p with phase := .running }).startBlocks b.uartsOn b.panelOn).startLodgers ms

/-! ### The sequence as a whole -/

/-- Steps 11 to 15 for the slot that was chosen. -/
def State.bootChosen (s : State) (c : Chosen) (ms : Nat) : State :=
  match c with
  | .none => (s.mapGate fun g => { g with blankCause := 1 }).mapPower fun p => { p with phase := .noImage }
  | .broken k h =>
    let x := match s.chooseSection h with
      | .ok y => if (s.seal 0).broken then none else y
      | .error _ => none
    ((s.inSlot k h x).logSoon 0x0502 (leBytes 2 s.seals.brokenMask)).mapPower fun p => { p with phase := .brokenSeal }
  | .held k h =>
    (((s.inSlot k h none).compareSeals h.group none).mapBoot fun b => { b with nodeHold := true }).mapPower fun p =>
      { p with phase := .nodeHold }
  | .image k h x =>
    let s := ((s.inSlot k h (some x)).enrol h).compareSeals h.group (some x)
    let s := s.mapBoot fun b =>
      { b with
        uartsOn := ((x.tabs.get 0x1D).filter fun e => decide (fieldAt e 2 1 % 2 = 1)).map fun e => fieldAt e 0 1
        panelOn := (x.tabs.get 0x1F).any fun e => decide (fieldAt e 9 1 % 2 = 1) }
    (s.bootLoad h x).bootJournal ms

/-- Step 6: the fastest read mode that SFDP reports, up to quad at 66 MHz, or single-line reads at 20 MHz with BOOTSEL high (R661). -/
def State.readMode (s : State) (e : BootEnv) : ReadMode :=
  if s.power.bootsel then { lines := 1, mhz := 20 } else { lines := min e.read.lines 4, mhz := min e.read.mhz 66 }

/-- Steps 3 to 6: causes, sweep, the buffered lines, the seals and the NOR, with the boot record of step 7: one whose line has an
uncorrectable error counts as never written (R147), its slots then INACTIVE. (log 11: DEDUCED; log 45: DEDUCED; log 120: DEDUCED) -/
def State.bootSlots (s : State) (e : BootEnv) : State :=
  let s := (s.bootCauses e.sweepUs).bootLogs
  let s := (if s.mem.retValid then s.drainBuffer else s).loadSeals
  let read (r : SlotRec) : SlotRec := (if 0 ∈ s.ledger.bad then {} else r).atBoot
  s.mapBoot fun b =>
    { b with slotA := read b.slotA, slotB := read b.slotB, norErase := e.erase, norRead := s.readMode e, norCmds := [[0x66], [0x99]] }

/-- From step 3 on. The copies that step 9 makes in main SRAM show nowhere: the spec gives them no address, and R99 keeps every
word that LOAD does not fill unwritten. (log 127: DESIGN CHOICE) -/
def State.bootOn (s : State) (e : BootEnv) : State :=
  let r := State.trySlots e 2 [] (s.bootSlots e)
  let left (q : SlotRec) : Nat := if q.state = .trial then q.attempts else 0
  let s := r.2.mapBoot fun b =>
    { b with failA := b.slotA.code, failB := b.slotB.code, trialLeft := max (left b.slotA) (left b.slotB) }
  let s := s.crashRecord (match r.1 with
    | .none => 3
    | .broken k _ => k
    | .held k _ => k
    | .image k _ _ => k)
  s.bootChosen r.1 e.ms

/-- Step 2 with Tj known: boot waits (R232) or goes on. -/
def State.bootHeat (s : State) (e : BootEnv) : State :=
  if s.power.phase = .tooHot ∧ ¬ s.bootTooHot then s.bootOn e else s

/-- Step 2 up to the first conversion: retention SRAM, the seals and the sealed levels. With the latch set boot stops there, and the
service port starts as in any boot (R605). (log 40: DEDUCED; log 168: DEDUCED) -/
def State.bootFirst (s : State) (e : BootEnv) : State :=
  let s := ((s.bootRetention e.torn).loadSeals).bootLevels
  let s := if s.power.thmLatch then s.mapGate fun g => { g with blankCause := 3 } else s
  (s.mapPower fun p => { p with phase := if p.thmLatch then .latched else .tooHot }).conversion e.tj

/-- BOOT_SEQUENCE: from the end of a reset. It waits for NRST (R663), and samples BOOTSEL at step 1 (R661). (log 40: DEDUCED; log
44: DEDUCED; log 119: DESIGN CHOICE) -/
def State.bootSequence (s : State) (e : BootEnv) : State :=
  if s.power.phase = .reset ∧ ¬ s.power.nrstLow then
    ((s.mapPower fun p => { p with vioOk := true, bootsel := e.bootsel }).bootFirst e).bootHeat e
  else s

/-- BOOT_LEDGER_WAIT_END. -/
def State.ledgerWaitEnd (s : State) (ms : Nat) : State :=
  if s.power.phase = .ledgerWait then s.bootJournal ms else s

/-! ### Staging the next image (R109 to R114) -/

/-- The slot that is not booted. -/
def Boot.otherSlot (b : Boot) : Nat := if b.slot = 0 then 1 else 0

/-- R112: the first Lodger that issues IMAGE_STAGE after boot takes the staging session, and once a commit or that Lodger's reset
has ended it, the next one that issues IMAGE_STAGE. (log 38: DESIGN CHOICE) -/
def State.stageOpen (s : State) (n : Fin 4) : State := s.mapBoot fun b => { b with stager := some (b.stager.getD n) }

/-- R111: what denies a request of Lodger `n`. (log 37: DEDUCED) -/
def State.stageDenied (s : State) (n : Fin 4) (a : Nat) : Bool :=
  decide (slotBase2 s.boot.slot ≤ a ∧ a < slotBase2 s.boot.slot + 0x400000) || s.boot.trial ||
    match s.boot.stager with
    | some m => decide (m ≠ n)
    | none => false

/-- The staging buffer's first bytes; none where a word is unwritten or uncorrectable (Table 04-5). (log 37: DEDUCED) -/
def State.stageRead (s : State) (base : Nat) : Nat → Option (List Byte) × State
  | 0 => (some [], s)
  | k + 1 =>
    match s.stageRead base k with
    | (none, t) => (none, t)
    | (some bs, t) =>
      let r := t.sramRead .innkeeper (base + 8 * k) 8
      (r.1.map (bs ++ ·), r.2)

/-- R113: the commands that erase a sector and program its first bytes, page by page, each operation after a write enable and
polled for its end. (log 129: PRESUMED) -/
def norProgram (erase : Byte) (a : Nat) (d : List Byte) : List (List Byte) :=
  let addr (x : Nat) : List Byte := (leBytes 3 x).reverse
  [[0x06], erase :: addr a, [0x05]] ++
    (List.range ((d.length + 255) / 256)).flatMap fun p =>
      [[0x06], 0x02 :: (addr (a + 256 * p) ++ slice d (256 * p) (min 256 (d.length - 256 * p))), [0x05]]

/-- IMAGE_STAGE with a length (R109): erase, program, and compare the sector that reads back. (log 37: DEDUCED; log 129: PRESUMED) -/
def State.serveStage (s : State) (n : Fin 4) (e : NorEnv) : State :=
  let a := s.mbxArg n 0
  let len := s.mbxArg n 1
  let s := s.stageOpen n
  if s.stageDenied n a then s.mbxDone n 3
  else if 4096 < len ∨ a % 4096 ≠ 0 ∨ 0x800000 ≤ a then s.mbxDone n 2
  else
    let r := s.stageRead ((s.image.getD {}).stageBuf) ((len + 7) / 8)
    match r.1 with
    | none => r.2.mbxDone n 2
    | some bs =>
      let d := bs.take len
      let sector := d ++ List.replicate (4096 - len) 0xFF
      let cells := overlay sector e.back
      let s := r.2.mapBoot fun b =>
        { b with nor := Memory.setMany 0xFF b.nor a cells, norCmds := norProgram b.norErase a d }
      if s.norBytes a 4096 = sector then s.mbxDone n 0
      else (s.mapDraws (· + 1)).mbxDone n (1 + Config.stageResult s.draws % 7)

/-- A request whose boot record is on its way completes when that line stands in the cells (R143): at once where the write buffer and
the ring let it through. -/
def State.doneWith (s : State) (n : Fin 4) (line : Line) (result : Nat) (res0 : Option Word) : State :=
  let s := s.mapMbx n fun m => { m with job := .onLine 0 line result res0 }
  if s.lineStands 0 line then s.mbxOnLine 0 line else s

/-- IMAGE_STAGE with length 0 (R110, R114). Where R111 and R114 both apply, DENIED is answered. SYS_BOOT_STAT keeps the codes of
the boot. (log 38: DESIGN CHOICE; log 163: DESIGN CHOICE) -/
def State.serveCommit (s : State) (n : Fin 4) (e : NorEnv) : State :=
  let a := s.mbxArg n 0
  let k := s.boot.otherSlot
  let s := s.stageOpen n
  if s.stageDenied n a then s.mbxDone n 3
  else if a ≠ slotBase2 k then s.mbxDone n 2
  else if !s.windowOpen then s.mbxDone n 7
  else
    let s := s.mapBoot fun b => { b with stager := none }
    let put (r : SlotRec) (left : Nat) : State := (s.mapBoot fun b => { b.mapSlotRec k (fun _ => r) with trialLeft := left }).bootLine
    match s.checkSlot k e with
    | .ok _ => (put { state := .trial, attempts := 3, code := 0 } 3).doneWith n s.bootRecord 0 none
    | .error f =>
      (put { state := .rejected, attempts := 0, code := f.code } 0).doneWith n s.bootRecord 2 (some (BitVec.ofNat 32 f.code))

/-- IMAGE_STAGE as MAILBOX_SERVE finds it. -/
def State.serveImage (s : State) (n : Fin 4) (e : NorEnv) : State :=
  if s.mbxArg n 1 = 0 then s.serveCommit n e else s.serveStage n e

/-! ### Commands -/

/-- BOOT_SEQUENCE. (log 24: DEDUCED; log 119: DESIGN CHOICE) -/
def execBootSequence (e : BootEnv) (s : State) : Result := .next (s.bootSequence e)

/-- BOOT_THERMAL_WAIT_END. -/
def execBootThermalWaitEnd (e : BootEnv) (s : State) : Result := .next (s.bootHeat e)

/-- BOOT_LEDGER_WAIT_END. -/
def execBootLedgerWaitEnd (ms : Nat) (s : State) : Result := .next (s.ledgerWaitEnd ms)

/-- IMAGE_FAIL_RETRY. -/
def execImageFailRetry (s : State) : Result := .next (if s.power.phase = .noImage then s.deviceReset .imageFail else s)

/-- IMAGE_STAGE. -/
def execImageStage (n : Fin 4) (user : Bool) (seq : Byte) (addr len : Nat) (nor : NorEnv) (s : State) : Result :=
  .next (s.mbxCommand n user seq.toNat 0x08 [addr, len] fun s => s.serveImage n nor)

/-- IMAGE_COMMIT. -/
def execImageCommit (n : Fin 4) (user : Bool) (seq : Byte) (addr : Nat) (nor : NorEnv) (s : State) : Result :=
  .next (s.mbxCommand n user seq.toNat 0x08 [addr, 0] fun s => s.serveCommit n nor)

end Sys2Proof.Machine
end

