-- ==== Sys2Proof/Machine/Serve.lean ====
section
/-! DEFINITION. The mailbox services that need no block of their own, and the Innkeeper's turn (R54, R55, R142, R209, R374,
R379). -/

namespace Sys2Proof.Machine

/-- As whom Lodger `n` writes an output: under the output's key where it holds that key, else for itself (R40). -/
def State.journalSource (s : State) (n : Fin 4) (i : Fin 30) : GateSource :=
  let o := s.outp i
  if o.owner = .key ∧ (s.keyOf n o.ownerId).isSome then .key o.ownerId else .lodger n

/-- OUT_JOURNAL (R379): what the gate would reject is DENIED without a record; else the record is written, then the target. (log 55: DEDUCED) -/
def State.serveOutJournal (s : State) (n : Fin 4) : State :=
  match idx? 30 (s.mbxArg n 0) with
  | none => s.mbxDone n 2
  | some i =>
    let src := s.journalSource n i
    let o := s.outp i
    if s.gateAccepts i src then
      let r := s.lodgerRec n.val (.outTarget i.val (o.clamp (s.mbxArg n 1)) o.applied o.owner.code o.ownerId)
      match r.1 with
      | none => r.2.mbxDone n 4
      | some q => (((r.2.gateTarget i src (s.mbxArg n 1) q).issued q).targetReached i).mbxDone n 0
    else s.mbxDone n 3

/-- The bytes of arguments `k` to 5. -/
def State.argBytes (s : State) (n : Fin 4) (k : Nat) : List Byte :=
  ((s.mbx n).args.toList.drop k).flatMap fun w => leBytes 4 w.toNat

/-- A request that completes when its record is DONE (R143): the record's lines go to the write buffer. -/
def State.onLines (s : State) (n : Fin 4) (q : Nat) : State :=
  (s.mapMbx n fun m => { m with job := .onRecord q s.now }).issueLines q

/-- LOG_APPEND (R149, R374, R423): EVENT is 0 and the entry is ARG0 to ARG5. (log 50: DEDUCED) -/
def State.serveLogAppend (s : State) (n : Fin 4) : State :=
  if s.windowOpen then
    let r := s.lodgerRec n.val (.logEntry s.wbl.logPos 0 (s.argBytes n 0))
    match r.1 with
    | none => r.2.mbxDone n 4
    | some q => (r.2.mapWbl fun w => { w with logPos := (w.logPos + 1) % 512 }).onLines n q
  else s.mbxDone n 7

/-- Table 04-4: a Lodger line. -/
def lodgerLineBytes (data : List Byte) (time writes lodger : Nat) : Line :=
  let front := padTo 20 data ++ leBytes 4 time ++ leBytes 2 writes ++ leBytes 1 lodger ++ leBytes 1 0
  front ++ leBytes 4 (crc32 front)

/-- Writes to a line so far (Table 04-4 at 0x18). -/
def State.lineWrites (s : State) (line : Nat) : Nat :=
  match s.ledger.latest line with
  | some d => fieldAt d 0x18 2
  | none => 0

/-- LEDGER_WRITE (R142, R149). The RTC time of the write is that of its service, when the line is issued. (log 50: DEDUCED;
log 126: DESIGN CHOICE) -/
def State.serveLedgerWrite (s : State) (n : Fin 4) : State :=
  let k := s.mbxArg n 0
  if 2047 < k then s.mbxDone n 2
  else if s.windowOpen then
    let line := lodgerLine0 + k
    let r := s.lodgerRec n.val
      (.ledgerLine line (lodgerLineBytes (s.argBytes n 1) s.power.rtc (satInc 0xFFFF (s.lineWrites line)) n.val))
    match r.1 with
    | none => r.2.mbxDone n 4
    | some q => r.2.onLines n q
  else s.mbxDone n 7

/-- THROTTLE_COMPLY (R209): without a request it has no effect. -/
def State.serveComply (s : State) (n : Fin 4) : State :=
  let s := if s.thm.thrReq then s.mapThm fun t => { t with comply := t.comply ||| BitVec.ofNat 4 (2 ^ n.val) } else s
  s.mbxDone n 0

/-- DEVICE_RESET (R55): with the confirmation word, an INK_REQUEST reset. -/
def State.serveReset (s : State) (n : Fin 4) : State := if s.mbxArg n 0 = 0xD1E5 then s.inkReset else s.mbxDone n 2

/-- The commands of Table 02-2; any other code completes with BAD_CMD (R55). `latched` and `nor` are what MODE_REQUEST and
IMAGE_STAGE meet outside the block. -/
def State.serveCode (s : State) (n : Fin 4) (code : Nat) (latched : Option Nat) (nor : NorEnv) : State :=
  match code with
  | 0x01 => s.serveKeyAcquire n
  | 0x02 => s.serveKeyRelease n
  | 0x03 => s.serveOutJournal n
  | 0x04 => s.serveLogAppend n
  | 0x05 => s.serveLedgerWrite n
  | 0x06 => s.serveComply n
  | 0x07 => s.serveMode n latched
  | 0x08 => s.serveImage n nor
  | 0x09 => s.serveRestart n
  | 0x0A => s.serveReset n
  | _ => s.mbxDone n 1

/-- MAILBOX_SERVE (R54): the next posted request in round robin order. -/
def State.mailboxServe (s : State) (latched : Option Nat) (nor : NorEnv) : State :=
  if s.awake then
    match s.nextPosted s.ink.mbxNext with
    | some n => (s.takeTurn n).serveCode n (s.mbx n).cmdCode latched nor
    | none => s
  else s

/-! ### Commands -/

/-- MAILBOX_SERVE. (log 119: DESIGN CHOICE) -/
def execMailboxServe (latched : Option Nat) (nor : NorEnv) (s : State) : Result := .next (s.mailboxServe latched nor)

/-- OUT_JOURNAL. -/
def execOutJournal (n : Fin 4) (user : Bool) (seq : Byte) (index target : Nat) (s : State) : Result :=
  .next (s.mbxCommand n user seq.toNat 0x03 [index, target] fun s => s.serveOutJournal n)

/-- LOG_APPEND. -/
def execLogAppend (n : Fin 4) (user : Bool) (seq : Byte) (args : Vector Word 6) (s : State) : Result :=
  .next (s.mbxCommand n user seq.toNat 0x04 (args.toList.map (·.toNat)) fun s => s.serveLogAppend n)

/-- LEDGER_WRITE. -/
def execLedgerWrite (n : Fin 4) (user : Bool) (seq : Byte) (line : Nat) (data : Vector Word 5) (s : State) : Result :=
  .next (s.mbxCommand n user seq.toNat 0x05 (line :: data.toList.map (·.toNat)) fun s => s.serveLedgerWrite n)

/-- THROTTLE_COMPLY. -/
def execThrottleComply (n : Fin 4) (user : Bool) (seq : Byte) (s : State) : Result :=
  .next (s.mbxCommand n user seq.toNat 0x06 [] fun s => s.serveComply n)

/-- DEVICE_RESET. -/
def execDeviceReset (n : Fin 4) (user : Bool) (seq : Byte) (word : Nat) (s : State) : Result :=
  .next (s.mbxCommand n user seq.toNat 0x0A [word] fun s => s.serveReset n)

/-- MAILBOX_BAD_CMD: a code outside Table 02-2; a code of the table has a row of its own. (log 54: DEDUCED) -/
def execMailboxBadCmd (n : Fin 4) (user : Bool) (seq code : Byte) (s : State) : Result :=
  .next (if 1 ≤ code.toNat ∧ code.toNat ≤ 0x0A then s
    else s.mbxCommand n user seq.toNat code.toNat [] fun s => s.mbxDone n 1)

end Sys2Proof.Machine
end

