-- ==== Sys2Proof/Machine/Regs.lean ====
section
/-! DEFINITION. The bus: every window of Table 19-1, what a read or a write of an address does, and REGISTER_WRITE (R13 to R17,
R166, R630 to R636). -/

namespace Sys2Proof.Machine

/-! ### SYS at 0x4000_0000 (Tables 03-9 to 03-14) -/

def State.sysRead (s : State) (off : Nat) : Word :=
  let p := s.power
  let b := s.boot
  match off with
  | 0x00 => 0x4800B001
  | 0x04 => pack [at_ 16 p.primary, at_ 8 p.ldgWdog.toNat, flag 7 p.offWakeShown, at_ 0 p.cause.toNat]
  | 0x08 => pack [at_ 16 b.trialLeft, at_ 12 b.failB, at_ 8 b.failA, flag 5 b.nodeHold, flag 4 b.enrolled, flag 3 b.sealDiff,
      flag 2 b.trial, at_ 0 b.slot]
  | 0x0C => BitVec.ofNat 32 b.imgSeq
  | 0x10 => pack [at_ 8 (fieldAt (s.seal 5).value 0 1), at_ 0 b.imgLevel]
  | 0x14 => at_ 0 b.bootMs
  | _ => 0

/-- LDG_WDOG is the one field of SYS that a write changes (R125). -/
def State.sysWrite (s : State) (off : Nat) (w : Word) : State :=
  if off = 0x04 then s.mapPower fun p => { p with ldgWdog := p.ldgWdog &&& ~~~(BitVec.ofNat 4 (bits w 11 8)) } else s

/-! ### CLK and PWR at 0x4000_1000 (Tables 05-7 to 05-17) -/

/-- Bits [5:0] of PWR_SUPPLY. -/
def Power.monitors (p : Power) : Word :=
  pack [flag 5 p.holdWire, flag 4 p.holdOk, flag 3 p.vgdOk, flag 2 p.vaoOk, flag 1 p.vaOk, flag 0 p.vioOk]

def State.pwrRead (s : State) (off : Nat) : Word :=
  let p := s.power
  if 0x40 ≤ off ∧ off < 0x60 then (match idx? 4 ((off - 0x40) / 8) with
    | some n => if off % 8 = 0 then (vget p.filters n).1 else (vget p.filters n).2
    | none => 0)
  else match off with
    | 0x00 => pack [at_ 8 p.xtalLossCnt, flag 7 p.npRc, flag 6 p.xtalRc, at_ 3 p.pllLock.toNat]
    | 0x04 => pack [at_ 8 p.deny.toNat, at_ 2 p.prev, at_ 0 p.mode.code]
    | 0x08 => at_ 0 p.ldgDiv
    | 0x0C => p.wakeEn
    | 0x10 => at_ 0 p.wakeSrc.toNat
    | 0x14 => pack [at_ 8 p.low.toNat, p.monitors]
    | 0x18 => pack [at_ 16 p.vtarget, at_ 14 p.chg, flag 13 p.chargerEn, at_ 0 p.holdMv]
    | 0x1C => BitVec.ofNat 32 p.rtc
    | 0x20 => BitVec.ofNat 32 p.alarm
    | _ => 0

def State.pwrWrite (s : State) (off : Nat) (w : Word) : State :=
  if 0x40 ≤ off ∧ off < 0x60 then (match idx? 4 ((off - 0x40) / 8) with
    | some n => s.mapPower fun p => { p with
        filters := vmod p.filters n fun f => if off % 8 = 0 then (w &&& 0x9FFFFFFF#32, f.2) else (f.1, w &&& 0x1FFFFFFF#32) }
    | none => s)
  else match off with
    | 0x08 => s.mapPower fun p => { p with ldgDiv := bits w 1 0 }
    | 0x0C => s.mapPower fun p => { p with wakeEn := (w &&& 0x0000FF0D#32) ||| 2#32 }
    | 0x10 => s.mapPower fun p => { p with wakeSrc := p.wakeSrc &&& ~~~(BitVec.ofNat 16 (bits w 15 0)) }
    | 0x14 => s.mapPower fun p => { p with low := p.low &&& ~~~(BitVec.ofNat 6 (bits w 13 8)) }
    | 0x18 => s.mapPower fun p => { p with vtarget := bits w 19 16, chargerEn := bit w 13 }
    | 0x20 => s.setAlarm w
    | _ => s

/-! ### MEM at 0x4000_3000 (Tables 04-6 to 04-16) -/

def State.memRead (s : State) (off : Nat) : Word :=
  let m := s.mem
  match off with
  | 0x00 => pack [at_ 16 m.ceCnt, at_ 8 m.ueCnt, at_ 4 m.ueKind, flag 1 m.ue, flag 0 m.ce]
  | 0x04 => BitVec.ofNat 32 m.eccAddr
  | 0x08 => pack [at_ 16 m.unwCnt, at_ 4 m.unwId, at_ 0 m.unwKind]
  | 0x0C => BitVec.ofNat 32 m.unwAddr
  | 0x10 => pack [flag 16 m.scrubEn, at_ 0 m.scrubInterval]
  | 0x18 => pack [at_ 16 m.ledgerCe, at_ 8 (if s.retentionTaken then s.ledger.buf.length else 0), flag 3 s.windowOpen, flag 2 m.uncorr, flag 0 m.poison]
  | 0x1C => at_ 0 m.poisonLine
  | 0x20 => pack [at_ 16 m.retCrcFail, flag 0 m.retValid]
  | 0x24 => BitVec.ofNat 32 m.promote
  | 0x28 => at_ 0 m.sweepUs
  | _ => 0

/-- The Lodger for whom a requester acts, and whether in user mode: itself, the owner of a channel, or the one debugged. (log 51: DEDUCED) -/
def State.actor (s : State) : Requester → Option (Fin 4 × Bool)
  | .lodger n user => some (n, user)
  | .carder c => (s.chan c).owner.map fun n => (n, false)
  | .debug n => some (n, false)
  | .loop _ | .innkeeper => none

def State.memWrite (s : State) (who : Requester) (off : Nat) (w : Word) : State :=
  match off with
  | 0x00 => s.mapMem fun m => { m with ue := m.ue && !bit w 1, ce := m.ce && !bit w 0 }
  | 0x10 => s.mapMem fun m => { m with scrubEn := bit w 16, scrubInterval := bits w 15 0 }
  | 0x14 => match s.actor who with
    | some (n, user) => s.memClear n user w.toNat
    | none => s
  | 0x18 => s.mapMem fun m => { m with uncorr := m.uncorr && !bit w 2, poison := m.poison && !bit w 0 }
  | _ => s

/-! ### WBL at 0x400C_0000 (Tables 11-10 to 11-15) -/

/-- The view: what the ring has kept through a reset counts from the boot that takes it over (R18). -/
def State.wblRead (s : State) (off : Nat) : Word :=
  let w := s.wbl
  let seen : Waybill := if s.retentionTaken then w else {}
  if 0x1000 ≤ off then (match idx? 128 ((off - 0x1000) / 0x40) with
    | some k => BitVec.ofNat 32 (fieldAt (vget w.ring k).bytes (off % 0x40) 4)
    | none => 0)
  else match off with
    | 0x00 => pack [at_ 16 seen.openCount, at_ 8 seen.freeCount, flag 1 (decide (seen.freeCount ≤ 8)), flag 0 (decide (w.waiting ≠ []))]
    | 0x04 => BitVec.ofNat 32 seen.nextSeq
    | 0x08 => at_ 0 w.horizon
    | 0x0C => pack [at_ 16 w.refused, at_ 8 w.unjrnl]
    | 0x10 => pack [at_ 30 w.replaySource, at_ 16 w.replayed, at_ 8 w.abandoned, at_ 0 w.lost]
    | 0x14 => pack [at_ 24 w.flushResult, at_ 16 w.flushCount, at_ 0 w.flushTime]
    | _ => 0

/-! ### INK at 0x400F_0000 (Tables 02-5 to 02-16) -/

def Mailbox.statWord (m : Mailbox) : Word :=
  pack [at_ 8 m.seq, at_ 5 m.result, flag 2 m.overrun, flag 1 m.done, flag 0 m.busy]

/-- Lodger `n`'s block: its mailbox and its watchdog. (log 52: DEDUCED) -/
def Lodger.read (l : Lodger) (off : Nat) : Word :=
  if 0x04 ≤ off ∧ off ≤ 0x18 then (match idx? 6 ((off - 4) / 4) with
    | some i => vget l.mbx.args i
    | none => 0)
  else if 0x20 ≤ off ∧ off ≤ 0x2C then (match idx? 4 ((off - 0x20) / 4) with
    | some i => vget l.mbx.res i
    | none => 0)
  else match off with
    | 0x1C => l.mbx.statWord
    | 0x80 => pack [at_ 16 l.token.toNat, at_ 0 l.timeoutNext]
    | 0x88 => pack [at_ 16 l.fenceCnt, at_ 4 l.expiryCnt, flag 3 (decide (l.run = .held))]
    | 0x8C => BitVec.ofNat 32 l.faultAddr
    | _ => 0

/-- Output `i`'s envelope (Table 02-15). -/
def Output.envelopeWord (o : Output) (off : Nat) : Word :=
  match off with
  | 0x0 => pack [at_ 16 o.max, at_ 0 o.min]
  | 0x4 => at_ 0 o.slew
  | 0x8 => pack [at_ 16 o.owner.code, at_ 0 o.ownerId]
  | 0xC => at_ 0 o.rest
  | _ => 0

def State.outStatWord (s : State) (i : Fin 30) : Word :=
  pack [at_ 20 (s.outp i).causes.toNat, at_ 16 (s.outState i), at_ 0 (s.outp i).applied]

def State.inkRead (s : State) (off : Nat) : Word :=
  let g := s.gate
  if off < 0x400 then (match idx? 4 (off / 0x100) with
    | some n => (s.lodger n).read (off % 0x100)
    | none => 0)
  else if 0x500 ≤ off ∧ off < 0x578 then (match idx? 30 ((off - 0x500) / 4) with
    | some i => s.outStatWord i
    | none => 0)
  else if 0x800 ≤ off ∧ off < 0x9E0 then (match idx? 30 ((off - 0x800) / 0x10) with
    | some i => (s.outp i).envelopeWord (off % 0x10)
    | none => 0)
  else match off with
    | 0x400 => pack [flag 7 g.vgdLow, at_ 4 g.blankCause, flag 0 g.blank]
    | 0x408 => pack [at_ 16 g.rejIndex, at_ 14 g.rejKind, at_ 0 g.rejId]
    | 0x40C => pack [at_ 16 g.clampCnt, at_ 0 g.rejectCnt]
    | 0x600 => pack [flag 25 s.ink.rtcFlag, flag 24 s.ink.rtcEn, at_ 0 s.ink.route]
    | _ => 0

/-- A write to Lodger `n`'s block. A command written here waits for the Innkeeper's turn (R52, R54). (log 117: DEDUCED; log 123: DESIGN CHOICE) -/
def State.blockWrite (s : State) (n : Fin 4) (off : Nat) (w : Word) : State :=
  if 0x04 ≤ off ∧ off ≤ 0x18 then (match idx? 6 ((off - 4) / 4) with
    | some i => s.mapMbx n fun m => { m with args := vset m.args i w }
    | none => s)
  else match off with
    | 0x00 => s.mbxPost n (bits w 15 8) (bits w 7 0)
    | 0x1C => s.mapMbx n fun m => { m with overrun := m.overrun && !bit w 2, done := m.done && !bit w 1 }
    | 0x84 => s.kick n (BitVec.ofNat 16 (bits w 15 0))
    | _ => s

def State.inkWrite (s : State) (who : Requester) (off : Nat) (w : Word) : State :=
  if off < 0x400 then (match idx? 4 (off / 0x100) with
    | some n => s.blockWrite n (off % 0x100) w
    | none => s)
  else match off with
    | 0x404 => match s.actor who with
      | some (n, _) => s.gateRelease n w
      | none => s
    | 0x600 => s.mapInk fun k =>
      { k with route := bits w 19 0, rtcEn := bit w 24, rtcFlag := k.rtcFlag && !bit w 25 }
    | _ => s

/-! ### The windows together -/

/-- The window that an address of 0x4000_0000 and up lies in: its base. -/
def windowOf (addr : Nat) : Option Nat :=
  (windows.find? fun w => decide (0x40000000 ≤ w.1 ∧ w.1 ≤ addr ∧ addr < w.1 + w.2)).map (·.1)

/-- What a read of a peripheral word answers; an offset that is not listed reads as zero (R633). -/
def State.regRead (s : State) (addr : Nat) : Word :=
  match windowOf addr with
  | none => 0
  | some b =>
    let off := addr - b
    match b with
    | 0x40000000 => s.sysRead off
    | 0x40001000 => s.pwrRead off
    | 0x40002000 => s.thmRead off
    | 0x40003000 => s.memRead off
    | 0x40010000 | 0x40020000 | 0x40030000 | 0x40060000 | 0x40070000 => s.crossingRead b off
    | 0x40040000 => s.outRead off
    | 0x40050000 => s.carderRead off
    | 0x40068000 => s.groupRead off
    | 0x40080000 => s.svcRegRead off
    | 0x40090000 => s.panelBusRead off
    | 0x400A0000 => s.wearRead off
    | 0x400B0000 => s.sealRead off
    | 0x400C0000 => s.wblRead off
    | 0x400F0000 => s.inkRead off
    | _ => 0

/-- What a read of a peripheral word does besides (R241, R258, R494, R553, R557, GRP_TIME_S), in a block whose clock runs. -/
def State.regEffect (s : State) (addr : Nat) : State :=
  let clocked (f : State → State) : State := if s.blocksClocked then f s else s
  match windowOf addr with
  | some 0x40010000 => clocked fun s => s.snsEffect (addr - 0x40010000)
  | some 0x40060000 => clocked fun s => s.grdEffect (addr - 0x40060000)
  | some 0x40068000 => s.groupEffect (addr - 0x40068000)
  | some 0x40070000 => clocked fun s => s.uartEffect (addr - 0x40070000)
  | _ => s

/-- KEY_WRm as a Lodger writes it: the record's origin is that Lodger (R535). -/
def State.groupBusWrite (s : State) (who : Requester) (off : Nat) (w : Word) : State :=
  match s.actor who, idx? 4 ((off - 0x120) / 8) with
  | some (n, _), some m => if 0x120 ≤ off ∧ off % 8 = 0 ∧ off < 0x140 then s.keyWrite n m w else s.groupWrite off w
  | _, _ => s.groupWrite off w

/-- What a write of a peripheral word does. Windows that are only a view take none. (log 116: DEDUCED) -/
def State.regWrite (s : State) (who : Requester) (addr : Nat) (w : Word) : State :=
  match windowOf addr with
  | none => s
  | some b =>
    let off := addr - b
    match b with
    | 0x40000000 => s.sysWrite off w
    | 0x40001000 => s.pwrWrite off w
    | 0x40002000 => s.thmWrite off w
    | 0x40003000 => s.memWrite who off w
    | 0x40010000 | 0x40020000 | 0x40030000 | 0x40060000 | 0x40070000 => s.crossingWrite b off w
    | 0x40040000 => s.outWrite off w
    | 0x40050000 => s.carderWrite who off w
    | 0x40068000 => s.groupBusWrite who off w
    | 0x40080000 => s.svcRegWrite who off w
    | 0x40090000 => s.panelBusWrite off w
    | 0x400A0000 => s.wearWrite off w
    | 0x400F0000 => s.inkWrite who off w
    | _ => s

/-! ### One 32-bit beat on the bus, as the Carder makes it -/

/-- How a beat ended. -/
inductive BeatEnd where
  | ok
  /-- An error response: reserved, or a write to the Ledger read view (R634, R141). -/
  | error
  /-- Main SRAM: the word is unwritten (R155). -/
  | unwritten
  /-- Main SRAM: the word is uncorrectable (R152, R153). -/
  | ecc
  deriving DecidableEq, Repr

/-- A read of one word. A misaligned one reaches nothing and ends in a bus error (R14). (log 51: DEDUCED) -/
def State.busRead (s : State) (who : Requester) (addr : Nat) : BeatEnd × Word × State :=
  if addr % 4 ≠ 0 then (.error, 0, s)
  else if inSram addr then
    let c := s.sram.state (wordOf addr)
    let r := s.sramWord who addr
    match r.1 with
    | some w => (.ok, w, r.2)
    | none => (if c = .unwritten then .unwritten else .ecc, 0, r.2)
  else if inLedger addr then let r := s.ledgerWord addr; (.ok, r.1, r.2)
  else if mapped addr then (.ok, s.regRead addr, s.regEffect addr)
  else (.error, 0, s)

/-- A write of one word; a misaligned one as in busRead. (log 51: DEDUCED) -/
def State.busWrite (s : State) (who : Requester) (addr : Nat) (w : Word) : BeatEnd × State :=
  if addr % 4 ≠ 0 then (.error, s)
  else if inSram addr then
    let r := s.sramWrite who addr (leBytes 4 w.toNat)
    (if r.1 then .ok else .ecc, r.2)
  else if inLedger addr then (.error, s)
  else if mapped addr then (.ok, s.regWrite who addr w)
  else (.error, s)

/-! ### Command -/

/-- REGISTER_WRITE of `size` bytes at an address of a peripheral window: a narrower or misaligned one does not reach the
register and takes an access fault (R14). (log 110: DESIGN CHOICE; log 117: DEDUCED) -/
def execRegisterWrite (a : Access) (addr size : Nat) (w : Word) (s : State) : Result :=
  .next (if (windowOf addr).isNone then s
    else s.arbitrated a .store addr fun s =>
      if size = 4 ∧ addr % 4 = 0 then (s.answer 0).regWrite a.who addr w else s.answerError a.who .store addr)

end Sys2Proof.Machine
end

