-- ==== Sys2Proof/Machine/Dma.lean ====
section
/-! DEFINITION. The Carder's engines: read transactions, write bursts, descriptors, retries and halts (R433 to R446, R450 to
R454). -/

namespace Sys2Proof.Machine

/-! ### Errors (R450, R453) -/

/-- Beats given up: those read from a side-effect source are counted as lost. -/
def State.discard (s : State) (c : Fin 24) (rs : List DmaRead) : State :=
  let n := (rs.map fun r => if r.se then r.got.length else 0).foldl (· + ·) 0
  (s.mapChan c fun h => { h with lost := satAdd 0xFFFF h.lost n }).mapCarder fun d => { d with lost := satAdd 0xFFFFFFFF d.lost n }

/-- DMA_HALT (R453): HALTED, with tags and buffer space free. -/
def State.dmaHalt (s : State) (c : Fin 24) (kind addr : Nat) : State :=
  (s.discard c (s.chan c).reads).mapChan c fun h =>
    { h with st := .halted, errKind := kind, errAddr := addr, haltEv := true, reads := [], next := none, backoff := .none
             stopping := false, blockLeft := 0 }

/-- The channel halts once the beats before the failed one are written. (log 84: DEDUCED) -/
def State.haltIfDue (s : State) (c : Fin 24) : State :=
  match (s.chan c).reads with
  | r :: _ => match r.got, r.err with
    | [], some e => s.dmaHalt c e.1 e.2
    | _, _ => s
  | [] => s

/-- An error that is not retried, in the first transaction that passes a test: later ones are given up. (log 84: DEDUCED) -/
def State.readError (s : State) (c : Fin 24) (p : DmaRead → Bool) (kind addr : Nat) : State :=
  match (s.chan c).reads.dropWhile fun r => !p r with
  | [] => s
  | r :: later =>
    ((s.discard c later).mapChan c fun h =>
      { h with
        backoff := if h.backoff = .read then .none else h.backoff
        reads := (h.reads.takeWhile fun r => !p r) ++ [{ r with left := 0, tag := none, failed := false, err := some (kind, addr) }] }).haltIfDue c

/-! ### Requests (R435, R436) -/

/-- Whether a channel's level request stands (R494, R568). -/
def State.levelStands (s : State) (h : Chan) : Bool :=
  if 2 ≤ h.trig ∧ h.trig ≤ 7 then
    match idx? 3 ((h.trig - 2) / 2) with
    | some k =>
      let u := s.uart k
      if h.trig % 2 = 0 then decide (u.rxlvl ≤ u.rx.length) || (decide (1 ≤ u.rx.length) && u.idle)
      else decide (u.txlvl ≤ 64 - u.tx.length)
    | none => false
  else match h.trig with
    | 9 => !(s.can 0).rx.isEmpty
    | 10 => !(s.can 1).rx.isEmpty
    | 11 => match h.owner with
      | some n => !(vget s.grd.txm n).busy
      | none => false
    | _ => false

/-- A block boundary: the request is sampled, or a held one is served. (log 85: DEDUCED) -/
def State.reqSample (s : State) (c : Fin 24) : State :=
  let level := s.levelStands (s.chan c)
  s.mapChan c fun h => h.startBlock level

/-! ### Reads (R433, R440 to R445) -/

/-- R440: the source is a side-effect source. -/
def Chan.sideEffect (h : Chan) : Bool :=
  h.se || !(inSram h.src || inLedger h.src || decide (0x40010000 ≤ h.src ∧ h.src < 0x40011000))

/-- Beats that may still be issued: of the block, or of the whole transfer without a request source (R435). -/
def Chan.toIssue (h : Chan) : Nat := if h.trig = 0 then h.readLeft else min h.blockLeft h.readLeft

/-- Address of the next beat to issue. -/
def Chan.issueAddr (h : Chan) : Nat := if h.srcInc then (h.src + 4 * (h.beats - h.readLeft)) % 2 ^ 32 else h.src

/-- Beats from an address up to the next 1 KB boundary; a misaligned address close below one still makes its access, which
reaches nothing (R14). -/
def toBoundary (addr : Nat) (inc : Bool) : Nat := if inc then (1027 - addr % 1024) / 4 else 16

/-- Beats of the next read transaction (R433). (log 83: DEDUCED) -/
def Chan.issueBeats (h : Chan) : Nat := min (min (h.burst + 1) h.toIssue) (toBoundary h.issueAddr h.srcInc)

/-- Beats that a channel uses beyond its own 16 (R444). -/
def beyond16 (n : Nat) : Nat := n - 16

/-- Whether `n` beats more can be reserved for a channel (R443, R444): 2 048 beats in all, 16 for each active or pausing
channel, the rest shared; a channel's own 16 are always its own. -/
def Carder.hasSpace (d : Carder) (h : Chan) (n : Nat) : Bool :=
  let busy := (d.chans.toList.filter fun k => decide (k.st = .active ∨ k.st = .pausing)).length
  let shared := (d.chans.toList.map fun k => beyond16 k.used).foldl (· + ·) 0
  let extra := beyond16 (h.used + n) - beyond16 h.used
  decide (h.used + n ≤ 256) && decide (extra = 0 ∨ shared + extra ≤ 2048 - 16 * busy)

/-- The lowest free tag (R442). -/
def Carder.freeTag (d : Carder) : Option Nat := (List.range 64).find? fun t => !d.tagsUsed.contains t

/-- Whether the read engine can issue for a channel. (log 83: DEDUCED) -/
def State.canIssue (s : State) (c : Fin 24) : Bool :=
  let h := s.chan c
  let tags := (h.reads.filter fun r => r.tag.isSome).length
  decide (h.st = .active ∧ h.backoff = .none ∧ 0 < h.issueBeats ∧ tags < 16) && (h.reads.all fun r => r.err.isNone) &&
    (!h.sideEffect || h.reads.isEmpty) && s.carder.hasSpace h h.issueBeats

/-- The channel that an engine serves (R445): PRIO first, then the order of its list. (log 83: DEDUCED) -/
def State.pick (s : State) (order : List Nat) (p : Fin 24 → Bool) : Option (Fin 24) :=
  let cs := (order.filterMap (idx? 24)).filter p
  [0, 1, 2, 3].findSome? fun q => cs.find? fun c => decide ((s.chan c).prio = q)

/-- A channel goes to the end of its level. -/
def toEnd (order : List Nat) (c : Nat) : List Nat := (order.filter fun k => decide (k ≠ c)) ++ [c]

/-- DMA_READ_ISSUE, granted after so many refusals (R134). -/
def State.readIssue (s : State) (refused : Nat) : State :=
  match s.pick s.carder.readOrder s.canIssue, s.carder.freeTag with
  | some c, some t =>
    let h := s.chan c
    let n := h.issueBeats
    let r : DmaRead := { tag := some t, addr := h.issueAddr, left := n, inc := h.srcInc, se := h.sideEffect }
    ((s.granted refused).mapChan c fun h => { h with reads := h.reads ++ [r], readLeft := h.readLeft - n, blockLeft := h.blockLeft - n }).mapCarder
      fun d => { d with readOrder := toEnd d.readOrder c.val }
  | _, _ => s

/-- The beats of a transaction read one after the other, up to the first that fails (R452): the words, the beats left, the
address reached and how it ended. -/
def State.readBeats (who : Requester) (inc : Bool) : Nat → Nat → List Word → State → List Word × Nat × Nat × BeatEnd × State
  | 0, a, got, s => (got, 0, a, .ok, s)
  | k + 1, a, got, s =>
    match s.busRead who a with
    | (.ok, w, t) => State.readBeats who inc k (if inc then (a + 4) % 2 ^ 32 else a) (got ++ [w]) t
    | (e, _, t) => (got, k + 1, a, e, t)

/-- ERR_KIND of a beat that was read or written (Table 13-4). -/
def BeatEnd.kind (e : BeatEnd) (write : Bool) : Nat :=
  match e with
  | .ok => 0
  | .error => if write then 2 else 1
  | .unwritten => 3
  | .ecc => 4

/-- A transaction's remaining beats are read. `again` is a retry (R451); while another error of the channel waits for its retry,
a new error response leaves the beat to be read later. -/
def State.readOn (s : State) (c : Fin 24) (r : DmaRead) (again : Bool) : State :=
  let me (x : DmaRead) : Bool := decide (x.tag = r.tag)
  let o := s.readBeats (.carder c) r.inc r.left r.addr r.got
  match o with
  | (got, left, a, e, s) =>
    let set (s : State) (f : DmaRead → DmaRead) : State :=
      s.mapChan c fun h => { h with reads := h.reads.map fun x => if me x then f { x with got := got, left := left, addr := a } else x }
    match e with
    | .ok =>
      let s := set s fun x => { x with tag := none, failed := false }
      if again then s.mapChan c fun h => { h with backoff := .none, retries := 0 } else s
    | .error =>
      let h := s.chan c
      if h.backoff ≠ .none ∧ again = false then set s id
      else
        let n := if again then h.retries else 0
        if n < h.retry then (set s fun x => { x with failed := true }).mapChan c fun h => { h with backoff := .read, retries := n }
        else (set s id).readError c me 1 a
    | e => (set s id).readError c me (e.kind false) a

/-- The transaction that holds a tag, and its channel. -/
def State.tagged (s : State) (t : Nat) : Option (Fin 24 × DmaRead) :=
  (List.finRange 24).findSome? fun c => ((s.chan c).reads.find? fun r => decide (r.tag = some t)).map fun r => (c, r)

/-- An upset that the next access meets in a word of main SRAM (log entry 3). -/
def State.sramUpset (s : State) (addr : Nat) (u : Upset) : State :=
  if inSram addr then s.mapSram fun m => m.upset (wordOf addr) u else s

/-- DMA_READ_COMPLETE. -/
def State.readComplete (s : State) (t : Nat) (u : Upset) : State :=
  match s.tagged t with
  | some (c, r) => if r.failed then s else (s.sramUpset r.addr u).readOn c r false
  | none => s

/-! ### Descriptors (R437 to R439) -/

/-- The four words of a descriptor; the kind and address of the first error instead. -/
def State.descWords (who : Requester) : Nat → Nat → List Nat → State → (Option (Nat × Nat) × List Nat) × State
  | 0, _, ws, s => ((none, ws), s)
  | k + 1, a, ws, s =>
    match s.busRead who a with
    | (.ok, w, t) => State.descWords who k (a + 4) (ws ++ [w.toNat]) t
    | (e, _, t) => ((some (e.kind false, a), ws), t)

/-- Whether a descriptor's content is one that can be loaded: kind 6 or 5 of Table 13-4, or 0. -/
def State.descKind (s : State) (n : Fin 4) (d : DmaDesc) : Nat :=
  if d.flags % 65536 = 0 ∨ d.flags / 2 ^ 20 ≠ 0 ∨ d.src % 4 ≠ 0 ∨ d.dst % 4 ≠ 0 then 6
  else if s.transferOk n d.src d.dst (d.flags % 65536) (d.flags.testBit 16) (d.flags.testBit 17) then 0 else 5

/-- An error at a descriptor: the beats before it are written first. -/
def State.descError (s : State) (c : Fin 24) (kind addr : Nat) : State :=
  (s.mapChan c fun h => { h with
    reads := h.reads ++ [{ tag := none, addr := addr, left := 0, inc := true, se := false, err := some (kind, addr) }] }).haltIfDue c

/-- DMA_DESCRIPTOR_LOAD (R437, R438); the fetch is granted after so many refusals (R134). -/
def State.descriptorLoad (s : State) (c : Fin 24) (refused : Nat) (u : Upset) : State :=
  let h := s.chan c
  match h.owner with
  | some n =>
    if h.st = .active ∧ h.readLeft = 0 ∧ h.desc ≠ 0 ∧ h.descs < 256 ∧ h.next = none ∧ h.backoff ≠ .read ∧
        (h.reads.all fun r => r.err.isNone) = true then
      if !inSram h.desc || decide (h.desc % 16 ≠ 0) then s.descError c 6 h.desc
      else if !s.rangeOk n .load h.desc 4 true then s.descError c 5 h.desc
      else
        match ((s.granted refused).sramUpset h.desc u).descWords (.carder c) 4 h.desc [] with
        | ((some e, _), s) => s.descError c e.1 e.2
        | ((none, ws), s) =>
          let d : DmaDesc := { src := ws.getD 0 0, dst := ws.getD 1 0, next := ws.getD 2 0, flags := ws.getD 3 0 }
          let k := s.descKind n d
          if k = 0 then (s.mapChan c fun h => { h with next := some d }.endTransfer).reqSample c else s.descError c k h.desc
    else s
  | none => s

/-! ### Writes (R434, R446) -/

/-- Beats that can be written in issue order. -/
def readyBeats : List DmaRead → List Word
  | [] => []
  | r :: rs => if r.left = 0 ∧ r.err = none then r.got ++ readyBeats rs else r.got

/-- Beats taken from the front of the transactions. -/
def dropBeats : Nat → List DmaRead → List DmaRead
  | _, [] => []
  | k, r :: rs => { r with got := r.got.drop k } :: dropBeats (k - r.got.length) rs

/-- A transaction that is read and written whole. -/
def DmaRead.spent (r : DmaRead) : Bool := decide (r.left = 0 ∧ r.got = [] ∧ r.err = none)

/-- `k` beats have been written (R434); with the last beat of a descriptor that has IRQ set, DESC_EV is (Table 13-2). -/
def Chan.advance (h : Chan) (k : Nat) : Chan :=
  let last := decide (h.beats ≤ k)
  { h with
    descEv := h.descEv || (last && h.irq)
    irq := h.irq && !last
    src := if h.srcInc then (h.src + 4 * k) % 2 ^ 32 else h.src
    dst := if h.dstInc then (h.dst + 4 * k) % 2 ^ 32 else h.dst
    beats := h.beats - k
    reads := (dropBeats k h.reads).filter fun r => !r.spent }

/-- The beats of a burst written one after the other, up to the first that fails; two that fill both halves of a word of main
SRAM are merged (R129). -/
def State.writeBeats (who : Requester) (inc : Bool) : List Word → Nat → Nat → State → Nat × Nat × BeatEnd × State
  | [], a, k, s => (k, a, .ok, s)
  | [w], a, k, s =>
    match s.busWrite who a w with
    | (.ok, t) => (k + 1, if inc then (a + 4) % 2 ^ 32 else a, .ok, t)
    | (e, t) => (k, a, e, t)
  | w :: v :: ws, a, k, s =>
    if inc && decide (a % 8 = 0) && inSram a then
      State.writeBeats who inc ws ((a + 8) % 2 ^ 32) (k + 2) (s.sramWrite who a (leBytes 4 w.toNat ++ leBytes 4 v.toNat)).2
    else match s.busWrite who a w with
      | (.ok, t) => State.writeBeats who inc (v :: ws) (if inc then (a + 4) % 2 ^ 32 else a) (k + 1) t
      | (e, t) => (k, a, e, t)

/-- The next write burst of a channel (R446). -/
def Chan.burstWords (h : Chan) : List Word := ((readyBeats h.reads).take (h.burst + 1)).take (toBoundary h.dst h.dstInc)

/-- Whether the write engine has a burst for a channel. -/
def State.canWriteOut (s : State) (c : Fin 24) : Bool :=
  let h := s.chan c
  decide ((h.st = .active ∨ h.st = .pausing) ∧ h.backoff ≠ .write) && !h.burstWords.isEmpty

/-- A channel's burst is written. An error response meets a burst at its first beat, since no range of Table 19-1 ends inside a
1 KB block, so that a retry writes the whole burst again. Where the Carder is reset or halted after `cut` beats, the beats that
remain have their strobes cleared and touch no word (R157). (log 83: DEDUCED) -/
def State.writeOut (s : State) (c : Fin 24) (again : Bool) (cut : Option Nat) : State :=
  let h := s.chan c
  let ws := match cut with
    | some k => h.burstWords.take k
    | none => h.burstWords
  match s.writeBeats (.carder c) h.dstInc ws h.dst 0 with
  | (k, a, e, s) =>
    let s := s.mapChan c fun h => h.advance k
    match e with
    | .ok =>
      let s := if again then s.mapChan c fun h => { h with backoff := .none, retries := 0 } else s
      ((s.haltIfDue c).mapChan c Chan.endTransfer).reqSample c
    | .error =>
      let n := if again then h.retries else 0
      if n < h.retry then s.mapChan c fun h => { h with backoff := .write, retries := n } else s.dmaHalt c 2 a
    | e => s.dmaHalt c (e.kind true) a

/-- DMA_WRITE_BURST, granted after so many refusals (R134). -/
def State.writeBurst (s : State) (refused : Nat) (u : Upset) (cut : Option Nat) : State :=
  match s.pick s.carder.writeOrder s.canWriteOut with
  | some c =>
    let s := (s.granted refused).mapCarder fun d => { d with writeOrder := toEnd d.writeOrder c.val }
    (s.sramUpset (s.chan c).dst u).writeOut c false cut
  | none => s

/-- The access at an address that a channel's engine makes next: the first unread beat of a transaction, or the front of its
write burst. -/
def State.chanAccess (s : State) (c : Fin 24) (kind : AccessKind) (addr : Nat) : State :=
  let h := s.chan c
  match kind with
  | .load => match h.reads.find? fun r => r.tag.isSome && !r.failed && decide (r.addr = addr) with
    | some r => s.readOn c r false
    | none => s
  | .store => if s.canWriteOut c && decide (h.dst = addr) then s.writeOut c false none else s
  | .fetch => s

/-! ### Retries (R451) -/

/-- DMA_RETRY: the backoff of a channel has passed, and its access is granted after so many refusals (R134). (log 84: DEDUCED) -/
def State.dmaRetry (s : State) (c : Fin 24) (refused : Nat) : State :=
  let h := s.chan c
  let s' := (s.granted refused).mapChan c fun h => { h with retries := satInc 7 h.retries }
  match h.backoff with
  | .none => s
  | .read => match h.reads.find? fun r => r.failed with
    | some r => s'.readOn c r true
    | none => s
  | .write => s'.writeOut c true none

/-! ### Commands -/

/-- RESERVED_ACCESS: an access of `size` bytes that is answered with an error (R14, R634, R635). A Carder channel makes the access
that stands next, which takes R450's course. -/
def execReservedAccess (who : Requester) (kind : AccessKind) (addr size : Nat) (s : State) : Result :=
  .next (s.access who kind addr fun s =>
    if unreachable kind addr size then
      let s := s.reserved who kind addr
      match who with
      | .carder c => s.chanAccess c kind addr
      | _ => s
    else s)

/-- DMA_REQUEST: the request of channel `c` is sampled, or its held edge served. The edges themselves are raised by their
sources, SCAN_SWAP and LINE_START. (log 85: DEDUCED) -/
def execDmaRequest (c : Fin 24) (s : State) : Result := .next (if s.live then s.reqSample c else s)

/-- DMA_READ_ISSUE, granted after so many refusals (R134). -/
def execDmaReadIssue (refused : Nat) (s : State) : Result := .next (if s.live then s.readIssue refused else s)

/-- DMA_READ_COMPLETE of the transaction that holds a tag. -/
def execDmaReadComplete (t : Fin 64) (u : Upset) (s : State) : Result := .next (if s.live then s.readComplete t.val u else s)

/-- DMA_WRITE_BURST, granted after so many refusals; a reset or halt of the Carder that the next command brings may fall inside
the burst (R157). -/
def execDmaWriteBurst (refused : Nat) (u : Upset) (cut : Option Nat) (s : State) : Result :=
  .next (if s.live then s.writeBurst refused u cut else s)

/-- DMA_DESCRIPTOR_LOAD, granted after so many refusals. -/
def execDmaDescriptorLoad (c : Fin 24) (refused : Nat) (u : Upset) (s : State) : Result :=
  .next (if s.live then s.descriptorLoad c refused u else s)

/-- DMA_RETRY. -/
def execDmaRetry (c : Fin 24) (refused : Nat) (s : State) : Result := .next (if s.live then s.dmaRetry c refused else s)

end Sys2Proof.Machine
end

