-- ==== Sys2Proof/Machine/Inspect.lean ====
section
/-! DEFINITION. READ of the service port (R587, R588, R605). -/

namespace Sys2Proof.Machine

/-- Whether a register READ may reach an address (R588). -/
def readable (addr : Nat) : Bool :=
  decide (0x40000000 ≤ addr ∧ addr ≤ 0x400FFFFF ∧ ¬ (0x40070000 ≤ addr ∧ addr < 0x40071000) ∧
    ¬ (0x40060000 ≤ addr ∧ addr < 0x40068000) ∧ ¬ (0x400F0000 ≤ addr ∧ addr < 0x400F0400))

/-- Aligned words read one after the other by the Innkeeper; none where one answers with an error (R634). -/
def State.inkWords : Nat → Nat → List Byte → State → Option (List Byte) × State
  | 0, _, bs, s => (some bs, s)
  | k + 1, a, bs, s =>
    match s.busRead .innkeeper a with
    | (.ok, w, t) => State.inkWords k (a + 4) (bs ++ leBytes 4 w.toNat) t
    | (_, _, t) => (none, t)

/-- The `len` bytes at an address, from the aligned words that cover them. -/
def State.inkBytes (s : State) (addr len : Nat) : Option (List Byte) × State :=
  let a := addr / 4 * 4
  let r := State.inkWords ((addr + len + 3) / 4 - addr / 4) a [] s
  (r.1.map fun bs => slice bs (addr - a) len, r.2)

/-- READ. (log 51: DEDUCED) -/
def State.svcRead (s : State) (seq : Nat) (p : List Byte) : State :=
  let space := fieldAt p 0 1
  let len := fieldAt p 1 1
  let addr := fieldAt p 4 4
  let inside := if space = 0 then inLedger addr && inLedger (addr + len - 1)
    else (List.range len).all fun i => readable (addr + i)
  if s.bootHeld && decide (space ≠ 0) then s.svcReply 0x03 seq (plain 3)
  else if p.length ≠ 8 ∨ 1 < space ∨ len < 4 ∨ 88 < len ∨ len % 4 ≠ 0 ∨ inside = false then s.svcReply 0x03 seq (plain 2)
  else
    match s.inkBytes addr len with
    | (some bs, s) => s.svcReply 0x03 seq (plain 0 ++ leBytes 4 addr ++ bs)
    | (none, s) => s.svcReply 0x03 seq (plain 2)

/-! ### Command -/

/-- READ. -/
def execSvcRead (seq session : Nat) (p : List Byte) (s : State) : Result :=
  .next (s.svcRequest 0x03 seq session p.length false true fun s => s.svcRead seq p)

end Sys2Proof.Machine
end

