-- ==== Sys2Proof/Machine/Dispatch.lean ====
section
/-! DEFINITION. The meaning of each command, one arm each. -/

namespace Sys2Proof.Machine

def exec (i : Instr) (s : State) : Host.Outcome State Fault Refusal :=
  match i with
  | .powerOn va vao vgd hold => Sys2Proof.Machine.execPowerOn va vao vgd hold s
  | .brownout vcore => Sys2Proof.Machine.execBrownout vcore s
  | .externalReset low => Sys2Proof.Machine.execExternalReset low s
  | .lockstepMismatch => Sys2Proof.Machine.execLockstepMismatch s
  | .inkWatchdogExpiry => Sys2Proof.Machine.execInkWatchdogExpiry s
  | .inkSramEccError => Sys2Proof.Machine.execInkSramEccError s
  | .testMode high => Sys2Proof.Machine.execTestMode high s
  | .bootSequence e => Sys2Proof.Machine.execBootSequence e s
  | .bootThermalWaitEnd e => Sys2Proof.Machine.execBootThermalWaitEnd e s
  | .bootLedgerWaitEnd ms => Sys2Proof.Machine.execBootLedgerWaitEnd ms s
  | .imageFailRetry => Sys2Proof.Machine.execImageFailRetry s
  | .trialConfirm => Sys2Proof.Machine.execTrialConfirm s
  | .fenceFault n user kind addr => Sys2Proof.Machine.execFenceFault n user kind addr s
  | .gateWrite src idx v => Sys2Proof.Machine.execGateWrite src idx v s
  | .gateRampInterval => Sys2Proof.Machine.execGateRampInterval s
  | .doChangeInterval k => Sys2Proof.Machine.execDoChangeInterval k s
  | .gateRelease n user rel => Sys2Proof.Machine.execGateRelease n user rel s
  | .mailboxServe latched nor => Sys2Proof.Machine.execMailboxServe latched nor s
  | .keyAcquire n user seq count keys => Sys2Proof.Machine.execKeyAcquire n user seq count keys s
  | .keyRelease n user seq key => Sys2Proof.Machine.execKeyRelease n user seq key s
  | .outJournal n user seq index target => Sys2Proof.Machine.execOutJournal n user seq index target s
  | .logAppend n user seq args => Sys2Proof.Machine.execLogAppend n user seq args s
  | .ledgerWrite n user seq line data => Sys2Proof.Machine.execLedgerWrite n user seq line data s
  | .throttleComply n user seq => Sys2Proof.Machine.execThrottleComply n user seq s
  | .modeRequest n user seq mode latched => Sys2Proof.Machine.execModeRequest n user seq mode latched s
  | .imageStage n user seq addr len nor => Sys2Proof.Machine.execImageStage n user seq addr len nor s
  | .imageCommit n user seq addr nor => Sys2Proof.Machine.execImageCommit n user seq addr nor s
  | .lodgerRestart n user seq target => Sys2Proof.Machine.execLodgerRestart n user seq target s
  | .deviceReset n user seq word => Sys2Proof.Machine.execDeviceReset n user seq word s
  | .mailboxBadCmd n user seq code => Sys2Proof.Machine.execMailboxBadCmd n user seq code s
  | .inkLdgKick n user block v => Sys2Proof.Machine.execInkLdgKick n user block v s
  | .lodgerWdogExpiry n => Sys2Proof.Machine.execLodgerWdogExpiry n s
  | .orphanResolve n => Sys2Proof.Machine.execOrphanResolve n s
  | .vgdTrip => Sys2Proof.Machine.execVgdTrip s
  | .vgdRise => Sys2Proof.Machine.execVgdRise s
  | .vgdRecovered => Sys2Proof.Machine.execVgdRecovered s
  | .mainSramRead a fetch addr n u => Sys2Proof.Machine.execMainSramRead a fetch addr n u s
  | .mainSramWrite a addr bs u => Sys2Proof.Machine.execMainSramWrite a addr bs u s
  | .scrubStep refused u => Sys2Proof.Machine.execScrubStep refused u s
  | .memClear n user addr refused => Sys2Proof.Machine.execMemClear n user addr refused s
  | .ledgerRead a addr u => Sys2Proof.Machine.execLedgerRead a addr u s
  | .ledgerViewWrite a addr => Sys2Proof.Machine.execLedgerViewWrite a addr s
  | .ledgerLineWritten => Sys2Proof.Machine.execLedgerLineWritten s
  | .ledgerBufferTimeout n => Sys2Proof.Machine.execLedgerBufferTimeout n s
  | .rtcAlarm => Sys2Proof.Machine.execRtcAlarm s
  | .rtcAlarmWrite n user w => Sys2Proof.Machine.execRtcAlarmWrite n user w s
  | .canWakeFrame c id => Sys2Proof.Machine.execCanWakeFrame c id s
  | .holdMeasure mv ok => Sys2Proof.Machine.execHoldMeasure mv ok s
  | .holdWireDetect differ => Sys2Proof.Machine.execHoldWireDetect differ s
  | .powerFail vio => Sys2Proof.Machine.execPowerFail vio s
  | .holdLowInFlush k => Sys2Proof.Machine.execHoldLowInFlush k s
  | .flushComplete => Sys2Proof.Machine.execFlushComplete s
  | .crystalLoss => Sys2Proof.Machine.execCrystalLoss s
  | .crystalRecovery => Sys2Proof.Machine.execCrystalRecovery s
  | .npCrystalLoss => Sys2Proof.Machine.execNpCrystalLoss s
  | .npCrystalRecovery => Sys2Proof.Machine.execNpCrystalRecovery s
  | .pllLockLoss k => Sys2Proof.Machine.execPllLockLoss k s
  | .vaLowTrip => Sys2Proof.Machine.execVaLowTrip s
  | .vaReturn => Sys2Proof.Machine.execVaReturn s
  | .vaoLowTrip => Sys2Proof.Machine.execVaoLowTrip s
  | .vaoReturn => Sys2Proof.Machine.execVaoReturn s
  | .tjConversion reading => Sys2Proof.Machine.execTjConversion reading s
  | .fixedShutdownTrip => Sys2Proof.Machine.execFixedShutdownTrip s
  | .shutdownHalt => Sys2Proof.Machine.execShutdownHalt s
  | .thermalLatchClear => Sys2Proof.Machine.execThermalLatchClear s
  | .selftestStep low high low2 high2 => Sys2Proof.Machine.execSelftestStep low high low2 high2 s
  | .neighbourCheck => Sys2Proof.Machine.execNeighbourCheck s
  | .sensorFaultClear => Sys2Proof.Machine.execSensorFaultClear s
  | .tooHotTimeout => Sys2Proof.Machine.execTooHotTimeout s
  | .graceExpiry => Sys2Proof.Machine.execGraceExpiry s
  | .uiConversion n res level com raw => Sys2Proof.Machine.execUiConversion n res level com raw s
  | .scanSwap => Sys2Proof.Machine.execScanSwap s
  | .resultBlockRead n user refused => Sys2Proof.Machine.execResultBlockRead n user refused s
  | .resultHoldTimeout => Sys2Proof.Machine.execResultHoldTimeout s
  | .uiTypeWrite n user idx type => Sys2Proof.Machine.execUiTypeWrite n user idx type s
  | .i2cSlotDue m sda => Sys2Proof.Machine.execI2cSlotDue m sda s
  | .i2cTransactionEnd m e next => Sys2Proof.Machine.execI2cTransactionEnd m e next s
  | .i2cStatRead n user m refused => Sys2Proof.Machine.execI2cStatRead n user m refused s
  | .diDebounceChange n high => Sys2Proof.Machine.execDiDebounceChange n high s
  | .counterEdge k rising => Sys2Proof.Machine.execCounterEdge k rising s
  | .cntClear n user w => Sys2Proof.Machine.execCntClear n user w s
  | .loopTick refused late => Sys2Proof.Machine.execLoopTick refused late s
  | .commitGo n user slot bank => Sys2Proof.Machine.execCommitGo n user slot bank s
  | .directCoefWrite n user slot k w => Sys2Proof.Machine.execDirectCoefWrite n user slot k w s
  | .directGroupWrite n user slot count => Sys2Proof.Machine.execDirectGroupWrite n user slot count s
  | .slotEnable n user slot => Sys2Proof.Machine.execSlotEnable n user slot s
  | .slotDisable n user slot => Sys2Proof.Machine.execSlotDisable n user slot s
  | .setpointWrite n user slot w => Sys2Proof.Machine.execSetpointWrite n user slot w s
  | .loopOutWrite n user slot w => Sys2Proof.Machine.execLoopOutWrite n user slot w s
  | .pwmPeriodBoundary c => Sys2Proof.Machine.execPwmPeriodBoundary c s
  | .fanControlTick c shunts => Sys2Proof.Machine.execFanControlTick c shunts s
  | .bemfZeroCrossing c ns => Sys2Proof.Machine.execBemfZeroCrossing c ns s
  | .lockLoss c => Sys2Proof.Machine.execLockLoss c s
  | .hallChange c code ns => Sys2Proof.Machine.execHallChange c code ns s
  | .currentLimit c => Sys2Proof.Machine.execCurrentLimit c s
  | .phaseShort c => Sys2Proof.Machine.execPhaseShort c s
  | .openPhase c => Sys2Proof.Machine.execOpenPhase c s
  | .stallTimeout c => Sys2Proof.Machine.execStallTimeout c s
  | .restartWaitEnd c => Sys2Proof.Machine.execRestartWaitEnd c s
  | .restartSuccess c => Sys2Proof.Machine.execRestartSuccess c s
  | .restartWindowEnd c => Sys2Proof.Machine.execRestartWindowEnd c s
  | .attemptClear c => Sys2Proof.Machine.execAttemptClear c s
  | .fanCmdClear n user c => Sys2Proof.Machine.execFanCmdClear n user c s
  | .baselineCapture n user c => Sys2Proof.Machine.execBaselineCapture n user c s
  | .baselinePointDone c => Sys2Proof.Machine.execBaselinePointDone c s
  | .resonanceSweep n user c => Sys2Proof.Machine.execResonanceSweep n user c s
  | .sweepEnd c => Sys2Proof.Machine.execSweepEnd c s
  | .taskAbort n user c => Sys2Proof.Machine.execTaskAbort n user c s
  | .dmiUpdate c k => Sys2Proof.Machine.execDmiUpdate c k s
  | .fanStart c => Sys2Proof.Machine.execFanStart c s
  | .catchEnd c reverse rpm duty => Sys2Proof.Machine.execCatchEnd c reverse rpm duty s
  | .brakeEnd c => Sys2Proof.Machine.execBrakeEnd c s
  | .prechargeEnd c => Sys2Proof.Machine.execPrechargeEnd c s
  | .alignEnd c cur => Sys2Proof.Machine.execAlignEnd c cur s
  | .handoverReached c => Sys2Proof.Machine.execHandoverReached c s
  | .fanStop c => Sys2Proof.Machine.execFanStop c s
  | .aoReadback n mv => Sys2Proof.Machine.execAoReadback n mv s
  | .aoOverload n => Sys2Proof.Machine.execAoOverload n s
  | .aoOvervolt n => Sys2Proof.Machine.execAoOvervolt n s
  | .aoReconnectTry n ok => Sys2Proof.Machine.execAoReconnectTry n ok s
  | .strokeTimeout n => Sys2Proof.Machine.execStrokeTimeout n s
  | .doOvercurrent k => Sys2Proof.Machine.execDoOvercurrent k s
  | .doRetry k => Sys2Proof.Machine.execDoRetry k s
  | .doOpenLoad k => Sys2Proof.Machine.execDoOpenLoad k s
  | .doClear n user w => Sys2Proof.Machine.execDoClear n user w s
  | .heaterPeriodStart k => Sys2Proof.Machine.execHeaterPeriodStart k s
  | .innkeeperRecordResume => Sys2Proof.Machine.execInnkeeperRecordResume s
  | .hourlyCounterWrite => Sys2Proof.Machine.execHourlyCounterWrite s
  | .counterRefresh => Sys2Proof.Machine.execCounterRefresh s
  | .nightlyUpdate fRef fRun => Sys2Proof.Machine.execNightlyUpdate fRef fRun s
  | .holdUpTestEnd v1 v2 v3 v4 => Sys2Proof.Machine.execHoldUpTestEnd v1 v2 v3 v4 s
  | .holdTestAbort => Sys2Proof.Machine.execHoldTestAbort s
  | .sealBegin seq session p => Sys2Proof.Machine.execSealBegin seq session p s
  | .sealPart seq session p => Sys2Proof.Machine.execSealPart seq session p s
  | .sealCommit seq session p => Sys2Proof.Machine.execSealCommit seq session p s
  | .sealBankDone => Sys2Proof.Machine.execSealBankDone s
  | .dmaStart n user c => Sys2Proof.Machine.execDmaStart n user c s
  | .dmaStop n user c => Sys2Proof.Machine.execDmaStop n user c s
  | .dmaPause n user c => Sys2Proof.Machine.execDmaPause n user c s
  | .dmaResume n user c => Sys2Proof.Machine.execDmaResume n user c s
  | .dmaRequest c => Sys2Proof.Machine.execDmaRequest c s
  | .dmaReadIssue refused => Sys2Proof.Machine.execDmaReadIssue refused s
  | .dmaReadComplete t u => Sys2Proof.Machine.execDmaReadComplete t u s
  | .dmaWriteBurst refused u cut => Sys2Proof.Machine.execDmaWriteBurst refused u cut s
  | .dmaDescriptorLoad c refused u => Sys2Proof.Machine.execDmaDescriptorLoad c refused u s
  | .dmaRetry c refused => Sys2Proof.Machine.execDmaRetry c refused s
  | .dmaDrainComplete c => Sys2Proof.Machine.execDmaDrainComplete c s
  | .canFrameReceived c std id fd brs payload ticks => Sys2Proof.Machine.execCanFrameReceived c std id fd brs payload ticks s
  | .canFrameTransmitted c ticks => Sys2Proof.Machine.execCanFrameTransmitted c ticks s
  | .heartbeatSend => Sys2Proof.Machine.execHeartbeatSend s
  | .heartbeat src origin digest version tj flags => Sys2Proof.Machine.execHeartbeat src origin digest version tj flags s
  | .nodeAbsent node => Sys2Proof.Machine.execNodeAbsent node s
  | .leaving src => Sys2Proof.Machine.execLeaving src s
  | .throttleNotice src seq => Sys2Proof.Machine.execThrottleNotice src seq s
  | .tripRaise n user reason => Sys2Proof.Machine.execTripRaise n user reason s
  | .tripClear n user => Sys2Proof.Machine.execTripClear n user s
  | .tripForget n user node => Sys2Proof.Machine.execTripForget n user node s
  | .tripFrame src raise => Sys2Proof.Machine.execTripFrame src raise s
  | .tripLineChange low => Sys2Proof.Machine.execTripLineChange low s
  | .grdTxGo n user => Sys2Proof.Machine.execGrdTxGo n user s
  | .txRequestResume n => Sys2Proof.Machine.execTxRequestResume n s
  | .rxFifoPop n user c refused => Sys2Proof.Machine.execRxFifoPop n user c refused s
  | .busOff c => Sys2Proof.Machine.execBusOff c s
  | .busoffRecoveryComplete c => Sys2Proof.Machine.execBusoffRecoveryComplete c s
  | .holdoffEnd c => Sys2Proof.Machine.execHoldoffEnd c s
  | .reen n user c => Sys2Proof.Machine.execReen n user c s
  | .voteEvaluation => Sys2Proof.Machine.execVoteEvaluation s
  | .joiningEnd => Sys2Proof.Machine.execJoiningEnd s
  | .apartReturn => Sys2Proof.Machine.execApartReturn s
  | .extTimeSet n user => Sys2Proof.Machine.execExtTimeSet n user s
  | .extTimeClear n user => Sys2Proof.Machine.execExtTimeClear n user s
  | .extValidExpiry => Sys2Proof.Machine.execExtValidExpiry s
  | .syncSend => Sys2Proof.Machine.execSyncSend s
  | .sync src seq hops ticks => Sys2Proof.Machine.execSync src seq hops ticks s
  | .follow src syncSeq hops flags secs micros => Sys2Proof.Machine.execFollow src syncSeq hops flags secs micros s
  | .groupTimeLost => Sys2Proof.Machine.execGroupTimeLost s
  | .acquire src key => Sys2Proof.Machine.execAcquire src key s
  | .grant src key epoch lease => Sys2Proof.Machine.execGrant src key epoch lease s
  | .deny src key cause => Sys2Proof.Machine.execDeny src key cause s
  | .renew src key epoch => Sys2Proof.Machine.execRenew src key epoch s
  | .renewed src key epoch => Sys2Proof.Machine.execRenewed src key epoch s
  | .release src key cause => Sys2Proof.Machine.execRelease src key cause s
  | .released src key => Sys2Proof.Machine.execReleased src key s
  | .reclaim src key epoch rop => Sys2Proof.Machine.execReclaim src key epoch rop s
  | .keyWriteFrame src key epoch value => Sys2Proof.Machine.execKeyWriteFrame src key epoch value s
  | .expired src key => Sys2Proof.Machine.execExpired src key s
  | .keyAnswerTimeout key => Sys2Proof.Machine.execKeyAnswerTimeout key s
  | .renewDue key => Sys2Proof.Machine.execRenewDue key s
  | .holderLeaseExpiry key => Sys2Proof.Machine.execHolderLeaseExpiry key s
  | .hostLeaseExpiry key => Sys2Proof.Machine.execHostLeaseExpiry key s
  | .keyWriteCmd n user m w => Sys2Proof.Machine.execKeyWriteCmd n user m w s
  | .keyQuery n user w => Sys2Proof.Machine.execKeyQuery n user w s
  | .grpTimeRead n user refused => Sys2Proof.Machine.execGrpTimeRead n user refused s
  | .bookMake n user m => Sys2Proof.Machine.execBookMake n user m s
  | .bookWithdraw n user m slot => Sys2Proof.Machine.execBookWithdraw n user m slot s
  | .bookEnd n user m slot => Sys2Proof.Machine.execBookEnd n user m slot s
  | .announceRepeat k => Sys2Proof.Machine.execAnnounceRepeat k s
  | .bookingStartDue k => Sys2Proof.Machine.execBookingStartDue k s
  | .bookingDurationEnd k => Sys2Proof.Machine.execBookingDurationEnd k s
  | .announce src slot data => Sys2Proof.Machine.execAnnounce src slot data s
  | .confirm src slot data => Sys2Proof.Machine.execConfirm src slot data s
  | .withdraw src slot data => Sys2Proof.Machine.execWithdraw src slot data s
  | .bookFrameEnd src slot data => Sys2Proof.Machine.execBookFrameEnd src slot data s
  | .trackedLapse idx => Sys2Proof.Machine.execTrackedLapse idx s
  | .trackedDurationEnd idx => Sys2Proof.Machine.execTrackedDurationEnd idx s
  | .bookingRecordRead n user own idx refused => Sys2Proof.Machine.execBookingRecordRead n user own idx refused s
  | .uartCharacterReceived k smp => Sys2Proof.Machine.execUartCharacterReceived k smp s
  | .polaritySpacingTimeout k => Sys2Proof.Machine.execPolaritySpacingTimeout k s
  | .uartIdle k => Sys2Proof.Machine.execUartIdle k s
  | .uartRxdRead n user k refused => Sys2Proof.Machine.execUartRxdRead n user k refused s
  | .uartTxdWrite n user k d => Sys2Proof.Machine.execUartTxdWrite n user k d s
  | .uartTxStart k => Sys2Proof.Machine.execUartTxStart k s
  | .uartCharacterSent k => Sys2Proof.Machine.execUartCharacterSent k s
  | .deRelease k => Sys2Proof.Machine.execDeRelease k s
  | .uartCfgWrite n user k w => Sys2Proof.Machine.execUartCfgWrite n user k w s
  | .flushRx n user k => Sys2Proof.Machine.execFlushRx n user k s
  | .flushTx n user k => Sys2Proof.Machine.execFlushTx n user k s
  | .uartEnableWrite n user k en => Sys2Proof.Machine.execUartEnableWrite n user k en s
  | .wakePhrase halves periodNs => Sys2Proof.Machine.execWakePhrase halves periodNs s
  | .svcAuth seq session p => Sys2Proof.Machine.execSvcAuth seq session p s
  | .svcRead seq session p => Sys2Proof.Machine.execSvcRead seq session p s
  | .fanClear seq session p => Sys2Proof.Machine.execFanClear seq session p s
  | .lodgerStart seq session p => Sys2Proof.Machine.execLodgerStart seq session p s
  | .svcOff seq session p => Sys2Proof.Machine.execSvcOff seq session p s
  | .offWaitEnd => Sys2Proof.Machine.execOffWaitEnd s
  | .svcApp seq session p => Sys2Proof.Machine.execSvcApp seq session p s
  | .appSend n user w => Sys2Proof.Machine.execAppSend n user w s
  | .appTimeout => Sys2Proof.Machine.execAppTimeout s
  | .svcClose seq session p => Sys2Proof.Machine.execSvcClose seq session p s
  | .palnyxBadType type seq session => Sys2Proof.Machine.execPalnyxBadType type seq session s
  | .palnyxFrameError len => Sys2Proof.Machine.execPalnyxFrameError len s
  | .replySend => Sys2Proof.Machine.execReplySend s
  | .sessionIdleTimeout => Sys2Proof.Machine.execSessionIdleTimeout s
  | .authTimeout => Sys2Proof.Machine.execAuthTimeout s
  | .lockoutEnd => Sys2Proof.Machine.execLockoutEnd s
  | .floodStart ambient noise => Sys2Proof.Machine.execFloodStart ambient noise s
  | .floodEnd ambient noise => Sys2Proof.Machine.execFloodEnd ambient noise s
  | .floodSessionTimeout => Sys2Proof.Machine.execFloodSessionTimeout s
  | .panelOn n user => Sys2Proof.Machine.execPanelOn n user s
  | .panelOff n user => Sys2Proof.Machine.execPanelOff n user s
  | .railStepDelay => Sys2Proof.Machine.execRailStepDelay s
  | .railGood r => Sys2Proof.Machine.execRailGood r s
  | .railTimeout => Sys2Proof.Machine.execRailTimeout s
  | .railLost r => Sys2Proof.Machine.execRailLost r s
  | .panelResetRelease => Sys2Proof.Machine.execPanelResetRelease s
  | .frameStart => Sys2Proof.Machine.execFrameStart s
  | .lineStart => Sys2Proof.Machine.execLineStart s
  | .resync n user => Sys2Proof.Machine.execResync n user s
  | .pixelWrite n user w => Sys2Proof.Machine.execPixelWrite n user w s
  | .backlightStart => Sys2Proof.Machine.execBacklightStart s
  | .railOffStep => Sys2Proof.Machine.execRailOffStep s
  | .crackMeasure ohms => Sys2Proof.Machine.execCrackMeasure ohms s
  | .crkClr n user => Sys2Proof.Machine.execCrkClr n user s
  | .registerWrite a addr size w => Sys2Proof.Machine.execRegisterWrite a addr size w s
  | .reservedAccess who kind addr size => Sys2Proof.Machine.execReservedAccess who kind addr size s
  | .nightPorterRetentionLoss => Sys2Proof.Machine.execNightPorterRetentionLoss s
  | .rtcSecond => Sys2Proof.Machine.execRtcSecond s
  | .canBusError c transmitter rx => Sys2Proof.Machine.execCanBusError c transmitter rx s
  | .uartStartBit k silence => Sys2Proof.Machine.execUartStartBit k silence s
  | .aoOverloadClear n => Sys2Proof.Machine.execAoOverloadClear n s
  | .doOpenLoadClear k => Sys2Proof.Machine.execDoOpenLoadClear k s
  | .doOvercurrentClear k => Sys2Proof.Machine.execDoOvercurrentClear k s

end Sys2Proof.Machine
end

