-- ==== Sys2Proof/Machine/Tick.lean ====
section
/-! DEFINITION. What passes by itself: one microsecond on an empty queue (R516, R521, R562; log entry 1). -/

namespace Sys2Proof.Machine

/-- One microsecond of the coaching clock: it runs ahead or waits while an offset is slewed away, at SLEW_PPM (R516, R521). (log 13: DESIGN CHOICE) -/
def Grp.tick (g : Grp) (ppm : Nat) : Grp :=
  if g.slewLeft = 0 then { g with clock := g.clock + 1 }
  else
    let acc := g.slewAcc + ppm
    if acc < 1000000 then { g with clock := g.clock + 1, slewAcc := acc }
    else if 0 < g.slewLeft then { g with clock := g.clock + 2, slewAcc := acc - 1000000, slewLeft := g.slewLeft - 1 }
    else { g with slewAcc := acc - 1000000, slewLeft := g.slewLeft + 1 }

/-- One microsecond of UART_NOW (R562), which wraps. -/
def Uarts.tick (u : Uarts) : Uarts := { u with clock := (u.clock + 1) % 2 ^ 32 }

/-- Ten cycles of GRD_TS (R495), which wraps. -/
def Grd.tick (g : Grd) : Grd := { g with clock := (g.clock + 10) % 2 ^ 32 }

/-- One microsecond passes. The coaching clock stands still in Off, UART_NOW and GRD_TS while their domains are stopped. (log 1: DESIGN CHOICE; log 2: DESIGN CHOICE) -/
def State.tick (s : State) : State :=
  let s := s.mapNow (· + 1)
  let s := if s.power.phase = .off then s else s.mapGrp fun g => g.tick (s.image.getD {}).slewPpm
  if s.awake then (s.mapUarts Uarts.tick).mapGrd Grd.tick else s

end Sys2Proof.Machine
end

