-- ==== Sys2Proof/Machine/Step.lean ====
section
/-! DEFINITION. One step: the command at the front of the queue, or, on an empty queue, one microsecond (log entry 1). -/

namespace Sys2Proof.Machine

/-- The state without the first of its waiting commands. (log 1: DESIGN CHOICE) -/
def State.rest (s : State) : State := { s with pending := s.pending.tail }

/-- The command at the front takes its effect; the block idles on an empty queue. (log 1: DESIGN CHOICE; log 12: DESIGN CHOICE; log 108: DESIGN CHOICE) -/
def step (s : State) : Host.Outcome State Fault Refusal :=
  match s.pending with
  | [] => .next s.tick
  | c :: _ => exec c s.rest

/-- The command that a word of the opcode table spells, at the front of the queue: no word spells one. (log 12: DESIGN CHOICE) -/
def State.withFetchWord (s : State) (nbits w : Nat) : State :=
  match Sys2Proof.decodeTableWord nbits w with
  | some c => { s with pending := c :: s.pending }
  | none => s

end Sys2Proof.Machine
end

