-- ==== Sys2Proof/Safety.lean ====
section
/-! DEFINITION. What claims are stated in: the outcomes of a step, the canonical form of the memories, and the harmless output
states of R30, R48 and R49. -/

namespace Sys2Proof.Machine

/-- A result is a next state with a property; a fault or a refusal is not. -/
def Result.Is (r : Result) (p : State → Prop) : Prop := ∃ t, r = .next t ∧ p t

/-- The memories hold their canonical form: main SRAM, its written-tags and the words with errors (R126, R127), the NOR (log
entry 5) and the Ledger, whose lines are 32 bytes long (R139). -/
def State.MemWf (s : State) : Prop :=
  Memory.wf 0 s.sram.cells = true ∧ Marks.wfFrom 0 s.sram.tags = true ∧ Marks.wfFrom 0 s.sram.singles = true ∧
    Marks.wfFrom 0 s.sram.doubles = true ∧ Memory.wf 0xFF s.boot.nor = true ∧ Lines.wfFrom 0 s.ledger.lines = true ∧
    Marks.wfFrom 0 s.ledger.bad = true

/-- R30, R48: while the device is Blank, no output applies anything. -/
def State.BlankSafe (s : State) : Prop := s.gate.blank = true → ∀ i : Fin 30, (s.outp i).applied = 0

/-- R45, R49: an output in Rest, while the device is not Blank, applies its Rest value. -/
def State.RestHolds (s : State) (i : Fin 30) : Prop :=
  s.gate.blank = false → (s.outp i).inRest = true → (s.outp i).applied = (s.outp i).rest

/-- Lodger `n` executes (R163, R168) and one of its regions permits the access (R34). -/
def State.may (s : State) (n : Fin 4) (user : Bool) (kind : AccessKind) (addr : Nat) : Prop :=
  s.lodgerActs n = true ∧ (s.lodger n).permits user kind addr = true

/-- Lodger `n` may write its mailbox, and the Innkeeper is free to serve the request at once (R52, R53, R54). -/
def State.ready (s : State) (n : Fin 4) (user : Bool) : Prop :=
  s.may n user .store (blockBase n) ∧ (s.mbx n).busy = false ∧ s.nextPosted 0 = none

/-- R52: the request of Lodger `n` has completed with a result. -/
def State.served (t : State) (n : Fin 4) (seq : Byte) (result : Nat) : Prop :=
  (t.mbx n).busy = false ∧ (t.mbx n).done = true ∧ (t.mbx n).result = result ∧ (t.mbx n).seq = seq.toNat

/-- Of the Lodgers, only the mailbox of `n` may have changed. -/
def onlyMbx (s t : State) (n : Fin 4) : Prop :=
  (∀ m, m ≠ n → t.lodger m = s.lodger m) ∧ t.lodger n = { s.lodger n with mbx := t.mbx n }

/-- Main SRAM keeps its contents, its written-tags and its uncorrectable words (R160); a burst that is fetched to its end may
correct single-bit errors (R130, R158). -/
def sramKept (s t : State) : Prop :=
  t.sram.cells = s.sram.cells ∧ t.sram.tags = s.sram.tags ∧ t.sram.doubles = s.sram.doubles ∧
    ∀ w, w ∈ t.sram.singles → w ∈ s.sram.singles

/-- What a whole-device reset leaves: the causes latched, every register at its reset value, and memory, the Ledger, the NOR,
the ring, the RTC and the waiting commands kept. Kept too are the coaching clock, the keys' epochs and hosted keys, the own
bookings, what the DI and counter inputs hold, the Hall codes at the pins, the retained copies of the wear counters, the samples since
the last nightly update, and the number of the latest service session. -/
def resetTo (s : State) (c : BitVec 7) (t : State) : Prop :=
  t.power.phase = (if s.power.testHigh then .test else .reset) ∧ t.power.latchedCauses = s.power.latchedCauses ||| c ∧
  t.gate = {} ∧ t.lodgers = Vector.replicate 4 {} ∧ t.image = none ∧ t.mem = {} ∧ t.thm = {} ∧ t.out = {} ∧ t.carder = {} ∧
  t.grd = {} ∧ t.loops = {} ∧ t.fans = (s.fans.map fun f => { hallCode := f.hallCode }) ∧ t.seals = {} ∧ t.uarts = {} ∧
  t.pnl = {} ∧ t.ink = {} ∧ t.sns = { diState := s.sns.diState, diEdges := s.sns.diEdges, cnt := s.sns.cnt } ∧
  t.grp = { clock := s.grp.clock } ∧ t.keys = { epochs := s.keys.epochs, hosted := s.keys.hosted } ∧
  t.book = { own := s.book.own } ∧
  t.wear =
    { headers := s.wear.headers, copies := s.wear.copies, blockCopies := s.wear.blockCopies
      inds := s.wear.inds.map fun i => { sum := i.sum, samples := i.samples } } ∧
  t.svc = { prev := s.svc.prev, halves := if c &&& 3 = 0 then s.svc.halves else [], halvesAt := s.svc.halvesAt } ∧
  sramKept s t ∧ t.ledger.lines = s.ledger.lines ∧ t.ledger.bad = s.ledger.bad ∧ t.ledger.blocks = Vector.replicate 128 0 ∧
  t.boot.nor = s.boot.nor ∧
  t.wbl.ring = s.wbl.ring ∧ t.power.rtc = s.power.rtc ∧ t.pending = s.pending ∧ t.now = s.now

/-- R374, R384: the Innkeeper has journaled an inspection log entry, or keeps it until a ring slot is free. -/
def logs (s : State) (event : Nat) (body : List Byte) (t : State) : Prop :=
  match s.wbl.nextFree with
  | some k =>
    (vget t.wbl.ring k).body = .logEntry s.wbl.logPos event (padTo 24 body) ∧ (vget t.wbl.ring k).seq = s.wbl.nextSeq ∧
    (vget t.wbl.ring k).origin = 4 ∧ t.wbl.nextSeq = seqAfter s.wbl.nextSeq ∧ t.wbl.logPos = (s.wbl.logPos + 1) % 512
  | none => t.wbl.waiting = s.wbl.waiting ++ [⟨4, .logEntry 0 event (padTo 24 body)⟩] ∧ t.wbl.ring = s.wbl.ring

/-- The service port takes a request with a new SEQ and `len` payload bytes in an authenticated session (R579, R583, R585, R587,
R605). -/
def State.hears (s : State) (seq session len : Nat) : Prop :=
  s.svcUp = true ∧ s.svc.st = .open_ ∧ s.svc.role ≠ 0 ∧ s.svc.flood = false ∧ s.svc.session = session ∧
    s.svc.lastSeq ≠ some seq ∧ s.bootHeld = false ∧ s.deaf (frameHalves len) = false

/-- R584: the reply to a request of a TYPE and SEQ has been queued. -/
def replied (s t : State) (type seq : Nat) (payload : List Byte) : Prop :=
  t.svc.out = s.svc.out ++ [{ type := type + 0x80, seq := seq, session := s.svc.session, payload := payload }]

/-- A state from which a run makes only harmless steps: its memories are canonical, and Blank is Blank. -/
def State.Safe (s : State) : Prop := s.MemWf ∧ s.BlankSafe

end Sys2Proof.Machine
end

