-- ==== Sys2Proof/WellFormed.lean ====
section
/-! DEFINITION. Well-formed commands: every operand lies in the width that the manual gives the quantity it stands for. What an
operand stands for physically and has no width of its own (a resistance, a time, a voltage) is not limited here. -/

namespace Sys2Proof

/-- A number that `w` bits hold. -/
def below (w n : Nat) : Bool := decide (n < 2 ^ w)

/-- `n` bytes at an address of main SRAM, inside one 64-bit word (R126, R127). -/
def inWord32 (addr n : Nat) : Bool := decide (0x20000000 ≤ addr ∧ addr < 0x20080000 ∧ 1 ≤ n ∧ addr % 8 + n ≤ 8)

/-- An address of the Ledger read view (R140). -/
def inView (addr : Nat) : Bool := decide (0x30000000 ≤ addr ∧ addr < 0x30020000)

/-- Whether a command's operands are in range. -/
def Instr.wf : Instr → Bool
  | .bootLedgerWaitEnd ms => below 32 ms
  | .fenceFault _ _ _ addr => below 32 addr
  | .gateWrite _ _ v => below 16 v
  | .mailboxServe latched _ => latched.all fun k => decide (k < 16)
  | .keyAcquire _ _ _ count keys => below 32 count && decide (keys.length ≤ 4) && keys.all (below 32)
  | .keyRelease _ _ _ key => below 32 key
  | .outJournal _ _ _ index target => below 32 index && below 32 target
  | .ledgerWrite _ _ _ line _ => below 32 line
  | .modeRequest _ _ _ mode latched => below 32 mode && latched.all fun k => decide (k < 16)
  | .imageStage _ _ _ addr len _ => below 32 addr && below 32 len
  | .imageCommit _ _ _ addr _ => below 32 addr
  | .lodgerRestart _ _ _ target => below 32 target
  | .deviceReset _ _ _ word => below 32 word
  | .mainSramRead _ _ addr n _ => inWord32 addr n
  | .mainSramWrite _ addr bs _ => inWord32 addr bs.length
  | .ledgerRead _ addr _ => inView addr
  | .ledgerViewWrite _ addr => inView addr
  | .canWakeFrame _ id => id.all (below 29)
  | .holdMeasure mv _ => below 16 mv
  | .tjConversion reading => decide (-1024 ≤ reading ∧ reading < 2048)
  | .catchEnd _ _ rpm _ => below 16 rpm
  | .alignEnd _ cur => below 16 cur
  | .aoReadback _ mv => below 16 mv
  | .sealBegin seq session p => below 8 seq && below 8 session && decide (p.length ≤ 96)
  | .sealPart seq session p => below 8 seq && below 8 session && decide (p.length ≤ 96)
  | .sealCommit seq session p => below 8 seq && below 8 session && decide (p.length ≤ 96)
  | .canFrameReceived _ std id _ _ payload _ => below (if std then 11 else 29) id && decide (payload.length ≤ 64)
  | .heartbeat src origin digest version tj flags =>
    below 8 src && below 8 origin && below 64 digest && below 16 version && below 16 tj && below 8 flags
  | .nodeAbsent node => below 8 node
  | .leaving src => below 8 src
  | .throttleNotice src seq => below 8 src && below 8 seq
  | .tripFrame src _ => below 8 src
  | .sync src seq hops _ => below 8 src && below 8 seq && below 8 hops
  | .follow src syncSeq hops flags secs micros =>
    below 8 src && below 8 syncSeq && below 8 hops && below 8 flags && below 32 secs && below 32 micros
  | .acquire src key => below 8 src && below 10 key
  | .grant src key epoch lease => below 8 src && below 10 key && below 32 epoch && below 16 lease
  | .deny src key cause => below 8 src && below 10 key && below 8 cause
  | .renew src key epoch => below 8 src && below 10 key && below 32 epoch
  | .renewed src key epoch => below 8 src && below 10 key && below 32 epoch
  | .release src key cause => below 8 src && below 10 key && below 8 cause
  | .released src key => below 8 src && below 10 key
  | .reclaim src key epoch rop => below 8 src && below 10 key && below 32 epoch && below 8 rop
  | .keyWriteFrame src key epoch value => below 8 src && below 10 key && below 32 epoch && below 16 value
  | .expired src key => below 8 src && below 10 key
  | .keyAnswerTimeout key => below 10 key
  | .renewDue key => below 10 key
  | .holderLeaseExpiry key => below 10 key
  | .hostLeaseExpiry key => below 10 key
  | .announce src slot data => below 8 src && below 5 slot && decide (data.length ≤ 60)
  | .confirm src slot data => below 8 src && below 5 slot && decide (data.length ≤ 60)
  | .withdraw src slot data => below 8 src && below 5 slot && decide (data.length ≤ 60)
  | .bookFrameEnd src slot data => below 8 src && below 5 slot && decide (data.length ≤ 60)
  | .trackedLapse idx => decide (idx < 256)
  | .trackedDurationEnd idx => decide (idx < 256)
  | .bookingRecordRead _ _ own idx _ => decide (idx < if own then 32 else 256)
  | .uartCharacterReceived _ smp => decide (1 ≤ smp.length ∧ smp.length ≤ 12)
  | .svcAuth seq session p => below 8 seq && below 8 session && decide (p.length ≤ 96)
  | .svcRead seq session p => below 8 seq && below 8 session && decide (p.length ≤ 96)
  | .fanClear seq session p => below 8 seq && below 8 session && decide (p.length ≤ 96)
  | .lodgerStart seq session p => below 8 seq && below 8 session && decide (p.length ≤ 96)
  | .svcOff seq session p => below 8 seq && below 8 session && decide (p.length ≤ 96)
  | .svcApp seq session p => below 8 seq && below 8 session && decide (p.length ≤ 96)
  | .svcClose seq session p => below 8 seq && below 8 session && decide (p.length ≤ 96)
  | .palnyxBadType type seq session => below 8 type && below 8 seq && below 8 session
  | .floodStart ambient _ => below 10 ambient
  | .floodEnd ambient _ => below 10 ambient
  | .registerWrite _ addr size _ => below 32 addr && decide (size = 1 ∨ size = 2 ∨ size = 4)
  | .reservedAccess _ _ addr size => below 32 addr && decide (size = 1 ∨ size = 2 ∨ size = 4)
  | .canBusError _ _ rx => below 8 rx
  | .powerOn _ _ _ _ | .brownout _ | .externalReset _ | .lockstepMismatch | .inkWatchdogExpiry | .inkSramEccError
  | .testMode _ | .bootSequence _ | .bootThermalWaitEnd _ | .imageFailRetry | .trialConfirm | .gateRampInterval
  | .doChangeInterval _ | .gateRelease _ _ _ | .logAppend _ _ _ _ | .throttleComply _ _ _ | .mailboxBadCmd _ _ _ _
  | .inkLdgKick _ _ _ _ | .lodgerWdogExpiry _ | .orphanResolve _ | .vgdTrip | .vgdRise | .vgdRecovered | .scrubStep _ _
  | .memClear _ _ _ _ | .ledgerLineWritten | .ledgerBufferTimeout _ | .rtcAlarm | .rtcAlarmWrite _ _ _ | .holdWireDetect _
  | .powerFail _ | .holdLowInFlush _ | .flushComplete | .crystalLoss | .crystalRecovery | .npCrystalLoss
  | .npCrystalRecovery | .pllLockLoss _ | .vaLowTrip | .vaReturn | .vaoLowTrip | .vaoReturn | .fixedShutdownTrip
  | .shutdownHalt | .thermalLatchClear | .selftestStep _ _ _ _ | .neighbourCheck | .sensorFaultClear | .tooHotTimeout
  | .graceExpiry | .uiConversion _ _ _ _ _ | .scanSwap | .resultBlockRead _ _ _ | .resultHoldTimeout | .uiTypeWrite _ _ _ _
  | .i2cSlotDue _ _ | .i2cTransactionEnd _ _ _ | .i2cStatRead _ _ _ _ | .diDebounceChange _ _ | .counterEdge _ _ | .cntClear _ _ _
  | .loopTick _ _ | .commitGo _ _ _ _ | .directCoefWrite _ _ _ _ _ | .directGroupWrite _ _ _ _ | .slotEnable _ _ _
  | .slotDisable _ _ _ | .setpointWrite _ _ _ _ | .loopOutWrite _ _ _ _ | .pwmPeriodBoundary _ | .fanControlTick _ _
  | .baselinePointDone _ | .sweepEnd _ | .dmiUpdate _ _ | .bemfZeroCrossing _ _
  | .lockLoss _ | .hallChange _ _ _ | .currentLimit _ | .phaseShort _ | .openPhase _ | .stallTimeout _ | .restartWaitEnd _
  | .restartSuccess _ | .restartWindowEnd _ | .attemptClear _ | .fanCmdClear _ _ _ | .baselineCapture _ _ _
  | .resonanceSweep _ _ _ | .taskAbort _ _ _ | .fanStart _ | .brakeEnd _ | .prechargeEnd _ | .handoverReached _ | .fanStop _
  | .aoOverload _ | .aoOvervolt _ | .aoReconnectTry _ _ | .strokeTimeout _ | .doOvercurrent _ | .doRetry _ | .doOpenLoad _
  | .doClear _ _ _ | .heaterPeriodStart _ | .innkeeperRecordResume | .hourlyCounterWrite | .counterRefresh
  | .nightlyUpdate _ _ | .holdUpTestEnd _ _ _ _ | .holdTestAbort | .sealBankDone | .dmaStart _ _ _ | .dmaStop _ _ _
  | .dmaPause _ _ _ | .dmaResume _ _ _ | .dmaRequest _ | .dmaReadIssue _ | .dmaReadComplete _ _ | .dmaWriteBurst _ _ _
  | .dmaDescriptorLoad _ _ _ | .dmaRetry _ _ | .dmaDrainComplete _ | .canFrameTransmitted _ _ | .heartbeatSend | .tripRaise _ _ _
  | .tripClear _ _ | .tripForget _ _ _ | .tripLineChange _ | .grdTxGo _ _ | .txRequestResume _ | .rxFifoPop _ _ _ _
  | .busOff _ | .busoffRecoveryComplete _ | .holdoffEnd _ | .reen _ _ _ | .voteEvaluation | .joiningEnd | .apartReturn
  | .extTimeSet _ _ | .extTimeClear _ _ | .extValidExpiry | .syncSend | .groupTimeLost | .keyWriteCmd _ _ _ _
  | .keyQuery _ _ _ | .grpTimeRead _ _ _ | .bookMake _ _ _ | .bookWithdraw _ _ _ _ | .bookEnd _ _ _ _ | .announceRepeat _
  | .bookingStartDue _ | .bookingDurationEnd _ | .polaritySpacingTimeout _ | .uartIdle _ | .uartRxdRead _ _ _ _
  | .uartTxdWrite _ _ _ _ | .uartTxStart _ | .uartCharacterSent _ | .deRelease _ | .uartCfgWrite _ _ _ _ | .flushRx _ _ _
  | .flushTx _ _ _ | .uartEnableWrite _ _ _ _ | .wakePhrase _ _ | .offWaitEnd | .appSend _ _ _ | .appTimeout
  | .palnyxFrameError _ | .replySend | .sessionIdleTimeout | .authTimeout | .lockoutEnd | .floodSessionTimeout
  | .panelOn _ _ | .panelOff _ _ | .railStepDelay | .railGood _ | .railTimeout | .railLost _ | .panelResetRelease
  | .frameStart | .lineStart | .resync _ _ | .pixelWrite _ _ _ | .backlightStart | .railOffStep | .crackMeasure _
  | .crkClr _ _ | .nightPorterRetentionLoss | .rtcSecond | .uartStartBit _ _ | .aoOverloadClear _ | .doOpenLoadClear _
  | .doOvercurrentClear _ => true

end Sys2Proof
end

