-- ==== Sys2Proof/Certificates/Slice0/Obligations.lean ====
section
/-! DEFINITION. The statements for the provers. -/

open Sys2Proof Sys2Proof.Machine

/-- O1. A step takes the command at the front of the queue, with the rest of the queue behind it (95_what_each_step_holds). -/
def Obligations.StepTakesFront : Prop :=
  ∀ (s : State) (c : Instr) (q : List Instr), step { s with pending := c :: q } = exec c { s with pending := q }

/-- O2. On an empty queue a step lets one microsecond pass (the model's choice, log entry 1) (14_gridis_bus,
15_group_agreement, 16_serial_ports). -/
def Obligations.EmptyQueueTicks : Prop :=
  ∀ s : State, s.pending = [] → Result.Is (step s) fun t =>
    t.now = s.now + 1 ∧ t = { s with now := t.now, grp := t.grp, uarts := t.uarts, grd := t.grd } ∧
    (s.power.phase = .off → t.grp = s.grp) ∧
    (s.power.phase ≠ .off → s.grp.slewLeft = 0 → t.grp = { s.grp with clock := s.grp.clock + 1 }) ∧
    t.uarts = (if s.awake then { s.uarts with clock := (s.uarts.clock + 1) % 2 ^ 32 } else s.uarts) ∧
    t.grd = (if s.awake then { s.grd with clock := (s.grd.clock + 10) % 2 ^ 32 } else s.grd)

/-- O3. What the registers hold right after power is applied (02_trust_and_rest, 04_memory, 05_clocks_and_modes,
06_die_temperature). Where the spec is silent this states the model's own choice: log entries 4, 5. -/
def Obligations.ResetValues : Prop :=
  State.reset.pending = [] ∧ State.reset.power.phase = .reset ∧ State.reset.power.latchedCauses = 1 ∧
  State.reset.gate.blank = true ∧ (∀ i, (State.reset.outp i).applied = 0) ∧ State.reset.image = none ∧
  (∀ n, (State.reset.lodger n).token = 0x5A3C ∧ (State.reset.lodger n).timeout = 100 ∧ (State.reset.lodger n).run = .stopped) ∧
  State.reset.mem.scrubEn = true ∧ State.reset.mem.scrubInterval = 16 ∧ State.reset.power.chargerEn = true ∧
  State.reset.power.vtarget = 6 ∧ State.reset.power.wakeEn = 3 ∧ State.reset.power.ldgDiv = 1 ∧
  State.reset.thm.warnLevel = 125 ∧ State.reset.thm.throttleLevel = 135 ∧ State.reset.thm.shutdownLevel = 145 ∧
  State.reset.thm.warnHys = 5 ∧ State.reset.sram.cells = [] ∧ State.reset.sram.tags = [] ∧ State.reset.boot.nor = [] ∧
  State.reset.ledger.lines = [] ∧ State.reset.wbl.openCount = 0

/-- O4. The reset state has canonical memories, and Blank is Blank (02_trust_and_rest, 04_memory). Where the spec is silent
this states the model's own choice: log entry 5. -/
def Obligations.ResetSafe : Prop :=
  State.reset.Safe

/-- O5. Every step keeps the canonical form of SRAM, written-tags, NOR and Ledger (04_memory). Where the spec is silent this
states the model's own choice: log entry 5. -/
def Obligations.StepKeepsMemory : Prop :=
  ∀ s t : State, s.MemWf → step s = .next t → t.MemWf

/-- O6. Blank is Blank and Rest is Rest: no step applies an output in Blank, nor another value than its Rest value in Rest
(R30, R45, R48, R49, R70). -/
def Obligations.StepKeepsBlank : Prop :=
  (∀ s t : State, s.BlankSafe → step s = .next t → t.BlankSafe) ∧
  ∀ s t : State, (∀ i, s.RestHolds i) → step s = .next t → ∀ i, t.RestHolds i

/-- O7. Every command, in every state, answers a next state: no fault and no refusal (95_what_each_step_holds). Where the
spec is silent this states the model's own choice: log entry 2. -/
def Obligations.NoCommandStops : Prop :=
  (∀ (c : Instr) (s : State), ∃ t, exec c s = .next t) ∧ ∀ s : State, ∃ t, step s = .next t

/-- O8. Each whole-device reset source latches its cause and leaves the reset state, keeping memory, the Ledger and the RTC
(03_start_up_and_image, 05_clocks_and_modes, R77). Where the spec is silent this states the model's own choice: log entries
13, 24, 26, 41, 70, 139, 153, 156, 167. -/
def Obligations.ResetSources : Prop :=
  (∀ s : State, s.inkRuns = true →
    Result.Is (exec .lockstepMismatch s) (resetTo s 16) ∧ Result.Is (exec .inkSramEccError s) (resetTo s 32) ∧
    (s.power.phase ≠ .shutdown → Result.Is (exec .inkWatchdogExpiry s) (resetTo s 8)) ∧
    (s.power.phase = .shutdown → exec .inkWatchdogExpiry s = .next s)) ∧
  (∀ (s : State) (vcore : Bool), s.power.phase ≠ .off → s.power.phase ≠ .test → (s.power.phase = .flushing → vcore = true) →
    Result.Is (exec (.brownout vcore) s) (resetTo s 2)) ∧
  (∀ s : State, s.power.phase ≠ .off → s.power.phase ≠ .test → s.power.phase ≠ .flushing →
    Result.Is (exec (.externalReset true) s) fun t => resetTo s 4 t ∧ t.power.nrstLow = true) ∧
  (∀ s : State, exec (.externalReset false) s = .next { s with power := { s.power with nrstLow := false } } ∧
    (s.power.phase = .off ∨ s.power.phase = .test ∨ s.power.phase = .flushing →
      exec (.externalReset true) s = .next { s with power := { s.power with nrstLow := true } })) ∧
  (∀ (s : State) (va vao vgd hold : Bool), s.power.vioOk = false →
    Result.Is (exec (.powerOn va vao vgd hold) s) fun t => t.power.vioOk = true ∧ t.power.vaOk = va ∧
      t.power.vaoOk = vao ∧ t.power.vgdOk = vgd ∧ t.power.holdOk = hold ∧ (s.power.phase ≠ .flushing → resetTo s 1 t) ∧
      (s.power.phase = .flushing → hold = true → t = { s with power := t.power } ∧ t.power.phase = .flushing) ∧
      (s.power.phase = .flushing → hold = false → t.wbl.flushResult = 4 ∧ t.sram = {} ∧
        (s.power.thmLatch = false → t.power.npWakeSrc = 16 ∧
          t.power.phase = if s.power.testHigh then .test else .reset)) ∧
      (s.power.phase = .off → t.power.npWakeSrc = 16 ∧ t.power.offWake = s.power.offWake)) ∧
  (∀ s : State, s.power.phase ≠ .off → Result.Is (exec (.testMode true) s) fun t =>
    t.power.phase = .test ∧ t.power.testHigh = true ∧ t.gate = {} ∧ sramKept s t ∧ t.ledger.lines = s.ledger.lines) ∧
  (∀ s : State, s.power.phase = .test →
    exec (.testMode false) s = .next { s with power := { s.power with testHigh := false, phase := .reset } }) ∧
  (∀ (s : State) (n : Fin 4) (user : Bool) (seq : Byte), s.ready n user →
    Result.Is (exec (.deviceReset n user seq 0xD1E5) s) (resetTo s 32) ∧
    ∀ w, w < 2 ^ 32 → w ≠ 0xD1E5 → Result.Is (exec (.deviceReset n user seq w) s) fun t =>
      t.served n seq 2 ∧ onlyMbx s t n ∧ t = { s with bus := t.bus, ink := t.ink, lodgers := t.lodgers })

/-- O9. The supply monitors: VA, VAO and VGD trips and returns, and Blank for a switching fan (05_clocks_and_modes, R65,
R66, R76, R251, R370). Where the spec is silent this states the model's own choice: log entries 25, 45, 79. -/
def Obligations.SupplyMonitors : Prop :=
  (∀ s : State, s.power.vgdOk = true → s.gate.blank = false → s.fanSwitches = true → Result.Is (exec .vgdTrip s) fun t =>
    t.gate.blank = true ∧ t.gate.blankCause = 2 ∧ t.gate.vgdLow = true ∧ (∀ i, (t.outp i).applied = 0) ∧
    t.power = { s.power with vgdOk := false, low := s.power.low ||| 8 } ∧
    t = { s with power := t.power, gate := t.gate, fans := t.fans, out := t.out }) ∧
  (∀ s : State, s.power.vgdOk = true → s.fanSwitches = false ∨ s.gate.blank = true → exec .vgdTrip s =
    .next { s with power := { s.power with vgdOk := false, low := s.power.low ||| 8 }, gate := { s.gate with vgdLow := true } }) ∧
  (∀ s : State, s.power.vgdOk = false → Result.Is (exec .vgdRise s) fun t =>
    t.power = { s.power with vgdOk := true } ∧ t.gate = { s.gate with vgdLow := false } ∧
    t = { s with power := t.power, gate := t.gate, fans := t.fans }) ∧
  (∀ s : State, s.power.vgdOk = true → s.gate.blank = true → s.gate.blankCause = 2 → Result.Is (exec .vgdRecovered s) fun t =>
    t.gate.blank = false ∧ (∀ i, (t.outp i).inRest = true ∧ (t.outp i).causes.getLsbD 5 = true ∧
      (t.outp i).applied = (s.outp i).rest) ∧ t = { s with gate := t.gate, fans := t.fans, out := t.out }) ∧
  (∀ s : State, s.power.vaOk = true →
    exec .vaLowTrip s = .next { s with power := { s.power with vaOk := false, low := s.power.low ||| 2 } }) ∧
  (∀ s : State, s.power.vaOk = false → Result.Is (exec .vaReturn s) fun t =>
    t.power = { s.power with vaOk := true } ∧ t.sns = { s.sns with vaWin := if s.scanning then 3 else 2 } ∧
    t = { s with power := t.power, sns := t.sns }) ∧
  (∀ s : State, s.power.vaoOk = true → Result.Is (exec .vaoLowTrip s) fun t =>
    t.power = { s.power with vaoOk := false, low := s.power.low ||| 4 } ∧
    t.out.int = (if s.cutOffs then s.out.int ||| 1 else s.out.int) ∧ t = { s with power := t.power, out := t.out }) ∧
  (∀ s : State, exec .vaoReturn s = .next { s with power := { s.power with vaoOk := true } }) ∧
  (∀ (s : State) (vcore : Bool), s.power.phase = .running → Result.Is (exec (.brownout vcore) s) fun t =>
    t.power.phase = (if s.power.testHigh then .test else .reset) ∧ t.power.latchedCauses = s.power.latchedCauses ||| 2 ∧ t.gate = {}) ∧
  ∀ (s : State) (va vao vgd hold : Bool), s.power.phase = .off → s.power.vioOk = false →
    Result.Is (exec (.powerOn va vao vgd hold) s) fun t =>
      t.power.phase = (if s.power.testHigh then .test else .reset) ∧ t.power.latchedCauses = s.power.latchedCauses ||| 1 ∧
        t.power.vioOk = true

/-- O10. A lost 32.768 kHz crystal puts the NP domain on its RC, and its return switches back; the main crystal and the PLLs
beside (R76, R192, R193, R194, R195, R662). Where the spec is silent this states the model's own choice: log entry 26. -/
def Obligations.CrystalsAndPlls : Prop :=
  (∀ s : State, exec .npCrystalLoss s = .next { s with power := { s.power with npRc := true } }) ∧
  (∀ s : State, exec .npCrystalRecovery s = .next { s with power := { s.power with npRc := false } }) ∧
  (∀ s : State, s.awake = true → s.clocked = true) ∧
  (∀ s : State, s.clocked = true → s.power.xtalRc = false → Result.Is (exec .crystalLoss s) fun t =>
    t.power = { s.power with xtalRc := true, xtalLossCnt := satInc 0xFF s.power.xtalLossCnt } ∧
    logs s 0x0103 [0] t ∧ t = { s with power := t.power, wbl := t.wbl, ledger := t.ledger }) ∧
  (∀ s : State, s.clocked = true → exec .crystalRecovery s = .next { s with power := { s.power with xtalRc := false } }) ∧
  (∀ (s : State) (i : Instr) (c : BitVec 7), s.power.phase = .running →
    (i, c) ∈ [(Instr.lockstepMismatch, 16), (.inkWatchdogExpiry, 8), (.inkSramEccError, 32), (.externalReset true, 4)] →
    Result.Is (exec i s) fun t =>
      t.power.phase = (if s.power.testHigh then .test else .reset) ∧ t.power.latchedCauses = s.power.latchedCauses ||| c ∧
        t.gate = {} ∧ t.pending = s.pending) ∧
  (∀ s : State, s.power.phase = .running → Result.Is (exec (.testMode true) s) fun t => t.power.phase = .test ∧ t.gate = {}) ∧
  ∀ (s : State) (k : Fin 3), s.clocked = true → s.power.pllLock.getLsbD k.val = true →
    Result.Is (exec (.pllLockLoss k) s) fun t =>
      t.power.phase = (if s.power.testHigh then .test else .reset) ∧ t.power.latchedCauses = s.power.latchedCauses ||| 32 ∧
        t.gate = {} ∧ sramKept s t ∧
      (∀ j, s.wbl.nextFree = some j →
        (vget t.wbl.ring j).body = .logEntry s.wbl.logPos 0x0103 (padTo 24 [BitVec.ofNat 8 (k.val + 1)]))

/-- O11. HOLD measurement, the power-fail sequence with its checks, its flush and its end in Off (R124, R180, R181, R183,
R189, R190, R196, R197, R198, R223, R224, R601). Where the spec is silent this states the model's own choice: log entries
21, 22, 23, 149. -/
def Obligations.HoldAndPowerFail : Prop :=
  (∀ (s : State) (mv : Nat) (ok : Bool), s.inkAlive = true → mv < 4096 → Result.Is (exec (.holdMeasure mv ok) s) fun t =>
    t.power = { s.power with
      holdMv := mv, holdOk := ok, chg := t.power.chg, low := if s.power.holdOk && !ok then s.power.low ||| 16 else s.power.low } ∧
    (s.power.chargerEn = false ∨ s.power.vioOk = false ∨ s.wear.testing = true → t.power.chg = 0) ∧
    (s.power.chargerEn = true → s.power.vioOk = true → s.wear.testing = false →
      t.power.chg = if s.thm.chgWin = false then 3 else if s.power.chargeTarget ≤ mv then 2 else 1) ∧
    t = { s with power := t.power }) ∧
  (∀ (s : State) (differ : Bool), s.inkAlive = true → s.power.chg ≠ 1 → exec (.holdWireDetect differ) s = .next { s with
    power := { s.power with
      holdWire := differ, low := if s.power.holdWire && !differ then s.power.low ||| 32 else s.power.low } }) ∧
  (∀ s : State, s.live = true → s.power.thmLatch = false → Result.Is (exec (.powerFail false) s) fun t =>
    t.ledger.lines = s.ledger.lines ∧ t.boot.nor = s.boot.nor ∧
    (∀ i, (t.outp i).applied = 0) ∧ t.gate.blank = true ∧ (∀ n, (t.lodger n).run = .stopped) ∧
    (s.power.holdOk = true → s.windowOpen = true → t.power.phase = .flushing ∧ t.gate.blankCause = 4 ∧ t.wbl = s.wbl ∧
      t.power.failedAt = s.now ∧ sramKept s t) ∧
    (s.power.vioOk = false → s.power.holdOk = false → t.power.phase = .off ∧ t.wbl.flushResult = 2 ∧ t.sram = {}) ∧
    (s.power.vioOk = false → s.power.holdOk = true → s.windowOpen = false →
      t.power.phase = .off ∧ t.wbl.flushResult = 3 ∧ t.sram = {})) ∧
  (∀ s : State, s.live = true → s.power.thmLatch = false → Result.Is (exec (.powerFail true) s) fun t =>
    t.power.vioOk = false ∧ t.ledger.lines = s.ledger.lines ∧ t.boot.nor = s.boot.nor ∧
    (∀ i, (t.outp i).applied = 0) ∧ t.gate.blank = true ∧ (∀ n, (t.lodger n).run = .stopped) ∧
    (s.power.holdOk = true → s.windowOpen = true → t.power.phase = .flushing ∧ t.gate.blankCause = 4 ∧ t.wbl = s.wbl ∧
      t.power.failedAt = s.now ∧ sramKept s t ∧
      t.power.low = (if s.power.vioOk then s.power.low ||| 1 else s.power.low)) ∧
    (s.power.holdOk = false → t.power.phase = .off ∧ t.wbl.flushResult = 2 ∧ t.sram = {}) ∧
    (s.power.holdOk = true → s.windowOpen = false → t.power.phase = .off ∧ t.wbl.flushResult = 3 ∧ t.sram = {})) ∧
  (∀ s : State, s.inkAlive = true → s.live = false → s.power.thmLatch = false → Result.Is (exec (.powerFail true) s) fun t =>
    t.power.phase = .off ∧ t.power.vioOk = false ∧ t.sram = {} ∧ t.wbl.flushResult = s.wbl.flushResult) ∧
  (∀ (s : State) (vio : Bool), s.power.thmLatch = true ∨ s.power.phase = .off ∨ s.power.phase = .flushing ∨ s.power.phase = .test →
    exec (.powerFail vio) s = .next { s with power :=
      if vio && s.power.vioOk then { s.power with low := s.power.low ||| 1, vioOk := false } else s.power }) ∧
  (∀ s : State, s.power.phase = .flushing → s.windowOpen = false ∨ s.power.holdOk = false → exec .flushComplete s = .next s) ∧
  (∀ (s : State) (k c : Nat), s.power.flushCap = some c → exec (.holdLowInFlush k) s = exec (.holdLowInFlush (min k c)) s) ∧
  (∀ (s : State) (mv : Nat), s.power.phase = .flushing → s.power.vioOk = false → Result.Is (exec (.holdMeasure mv false) s) fun t =>
    t.power.phase = .off ∧ t.wbl.flushResult = 4 ∧ t.power.holdOk = false ∧ t.sram = {}) ∧
  (∀ s : State, s.power.phase = .flushing → s.windowOpen = true → s.power.holdOk = true → Result.Is (exec .flushComplete s) fun t =>
    t.wbl.flushResult = 1 ∧ t.power.offWake = true ∧ t.sram = {} ∧
    (s.power.vioOk = false → t.power.phase = .off) ∧
    (s.power.vioOk = true → s.power.offCmd = false → s.power.thmLatch = false →
      t.power.phase = (if s.power.testHigh then .test else .reset) ∧ t.power.latchedCauses.getLsbD 0 = true ∧ t.power.npWakeSrc = 16) ∧
    (s.ledger.buf = [] → t.wbl.flushCount = s.wbl.pendingRecs.length ∧
      ∃ first last, Lines.get t.ledger.lines 31 = some (padTo 32 (markerLine 1 s.wbl.pendingRecs.length first last s.power.rtc)))) ∧
  (∀ (s : State) (k : Nat), s.power.phase = .flushing → s.power.vioOk = false → Result.Is (exec (.holdLowInFlush k) s) fun t =>
    t.power.phase = .off ∧ t.wbl.flushResult = 4 ∧ t.sram = {} ∧ (k = 0 → t.ledger.lines = s.ledger.lines)) ∧
  (∀ s : State, s.power.phase = .offWait → s.power.holdOk = true → s.windowOpen = true → Result.Is (exec .offWaitEnd s) fun t =>
    t.power.phase = .flushing ∧ t.power.offCmd = true ∧ t.gate.blank = true ∧ sramKept s t ∧ t.ledger = s.ledger) ∧
  ∀ s : State, s.power.vioOk = false → Result.Is (exec .nightPorterRetentionLoss s) fun t =>
    t.power.phase = .off ∧ t.power.rtc = 0 ∧ t.power.offWake = false ∧ t.power.thmLatch = false ∧ t.wbl = {} ∧
    t.sram = {} ∧ t.ledger.lines = s.ledger.lines ∧ t.gate = s.gate

/-- O12. Power modes, Standby with its denials, the wakes from it, and the real-time clock with its alarm (R169, R171, R172,
R173, R176, R177, R184, R185). Where the spec is silent this states the model's own choice: log entries 16, 17, 18, 19, 20. -/
def Obligations.ModesAndRtc : Prop :=
  (∀ (s : State) (n : Fin 4) (user : Bool) (seq : Byte) (mode : Nat), s.ready n user → mode < 2 ^ 32 →
    Result.Is (exec (.modeRequest n user seq mode none) s) fun t =>
      t.sram = s.sram ∧ t.ledger.lines = s.ledger.lines ∧ (t.mbx n).busy = false ∧ (t.mbx n).done = true ∧
      (Mode.ofCode mode = none → t.served n seq 2 ∧ onlyMbx s t n ∧
        t = { s with bus := t.bus, ink := t.ink, lodgers := t.lodgers }) ∧
      (Mode.ofCode mode = some s.power.mode → t.served n seq 0 ∧ t.power = s.power ∧ t.gate = s.gate) ∧
      (∀ m, Mode.ofCode mode = some m → m ≠ s.power.mode → m ≠ .standby →
        t.served n seq 0 ∧ t.power.mode = m ∧ t.power.prev = s.power.mode.code ∧ t.gate = s.gate ∧ t.keys = s.keys) ∧
      (mode = 3 → s.power.mode ≠ .standby → s.standbyDeny ≠ 0 →
        t.served n seq 3 ∧ t.power = { s.power with deny := s.standbyDeny } ∧ t.gate = s.gate) ∧
      (mode = 3 → s.power.mode ≠ .standby → s.standbyDeny = 0 →
        t.served n seq 0 ∧ t.power.mode = .standby ∧ t.power.pllLock = 0 ∧
        ∀ i, (t.outp i).inRest = true ∧ (t.outp i).causes.getLsbD 4 = true)) ∧
  (∀ s : State, s.standbyDeny = 0 ↔ s.keys.held = [] ∧ s.wbl.openCount = 0 ∧ s.svc.st ≠ .open_ ∧
    ∀ c : Fin 6, (s.outp (fanOut c)).rest = 0) ∧
  (∀ (s : State) (c : Fin 2) (id : Nat), s.asleep = true → s.power.filterMatch id = true → s.power.wakeOn (2 + c.val) = true →
    Result.Is (exec (.canWakeFrame c (some id)) s) fun t =>
      t.power.mode = (if s.power.prev = 2 then .nightHold else .run) ∧ t.power.wakeSrc = BitVec.ofNat 16 (2 ^ (2 + c.val)) ∧
      (∀ i, (t.outp i).causes.getLsbD 4 = false) ∧ (∀ n, (s.lodger n).run = .running → (t.lodger n).wakeIrq = true) ∧
      t.sram = s.sram) ∧
  (∀ (s : State) (c : Fin 2), exec (.canWakeFrame c none) s = .next s) ∧
  (∀ s : State, s.awake = true → Result.Is (exec .rtcSecond s) fun t =>
    t.power.rtc = satInc 0xFFFFFFFF s.power.rtc ∧ t.power.rtcAt = s.now ∧
    t = { s with power := t.power, fans := t.fans, wear := t.wear, ink := t.ink } ∧
    t.power = { s.power with rtc := t.power.rtc, rtcAt := t.power.rtcAt, alarmArmed := t.power.alarmArmed } ∧
    (∀ c, t.fan c = { s.fan c with
      runs := if (s.fan c).st = .run then satInc 0xFFFFFFFF (s.fan c).runs else (s.fan c).runs }) ∧
    (s.power.alarmArmed = true → s.power.alarm ≠ 0 → s.power.alarm ≤ t.power.rtc →
      t.ink.rtcFlag = true ∧ t.power.alarmArmed = false) ∧
    (s.power.alarmArmed = false ∨ s.power.alarm = 0 ∨ t.power.rtc < s.power.alarm → t.ink = s.ink)) ∧
  (∀ s : State, s.power.alarmArmed = true → s.power.alarm ≠ 0 → s.power.alarm ≤ s.power.rtc →
    (s.awake = true → exec .rtcAlarm s =
      .next { s with power := { s.power with alarmArmed := false }, ink := { s.ink with rtcFlag := true } }) ∧
    (s.asleep = true → s.power.wakeOn 0 = true → Result.Is (exec .rtcAlarm s) fun t =>
      t.power.mode = s.power.wakeMode ∧ t.power.wakeSrc = 1 ∧ t.power.alarmArmed = false)) ∧
  ∀ (s : State) (n : Fin 4) (user : Bool) (w : Word), s.may n user .store 0x40001020 →
    exec (.rtcAlarmWrite n user w) s = .next { s with
      bus := {}, power := { s.power with alarm := w.toNat, alarmArmed := decide (s.power.rtc < w.toNat) } }

/-- O13. An accepted gate write sets the target clamped to MIN and MAX, and a clamp is counted (R42). Where the spec is
silent this states the model's own choice: log entry 56. -/
def Obligations.GateClamps : Prop :=
  ∀ (s : State) (src : GateSource) (i : Fin 30) (v : Nat), s.sourceActs src = true → s.gateAccepts i src = true →
    Result.Is (exec (.gateWrite src i v) s) fun t =>
      (t.outp i).target =
        (if v < (s.outp i).min then (s.outp i).min else if (s.outp i).max < v then (s.outp i).max else v) ∧
      t.gate.clampCnt = (if (t.outp i).target = v then s.gate.clampCnt else satInc 0xFFFF s.gate.clampCnt) ∧
      t.gate.rejectCnt = s.gate.rejectCnt ∧ (∀ j, j ≠ i → t.outp j = s.outp j) ∧
      t = { s with gate := t.gate, out := t.out, wbl := t.wbl } ∧
      (s.isLive i = true → (s.outp i).slew = 0 → isDo i.val = false → (s.outp i).owner ≠ .none →
        (t.outp i).applied = (t.outp i).target) ∧
      (s.gate.blank = true → (t.outp i).applied = (s.outp i).applied)

/-- O14. A write from any source but the permitted owner is rejected, recorded and counted; a parked output rejects every
write (R40, R41, R47, R168). -/
def Obligations.GateRejects : Prop :=
  (∀ (s : State) (src : GateSource) (i : Fin 30) (v : Nat), s.sourceActs src = true → s.gateAccepts i src = false →
    exec (.gateWrite src i v) s = .next { s with gate := { s.gate with
      rejIndex := i.val
      rejKind := (match src with | .lodger _ => 0 | .slot _ => 1 | .key _ => 2)
      rejId := (match src with | .lodger n => n.val | .slot n => n.val | .key k => k)
      rejectCnt := satInc 0xFFFF s.gate.rejectCnt } }) ∧
  (∀ (s : State) (i : Fin 30) (src : GateSource), (s.outp i).owner = .none → s.gateAccepts i src = false) ∧
  (∀ (s : State) (src : GateSource) (i : Fin 30) (v : Nat), s.sourceActs src = false → exec (.gateWrite src i v) s = .next s) ∧
  (∀ (s : State) (n : Fin 4), s.sourceActs (.lodger n) = true ↔ (s.lodger n).run = .running ∧ s.power.mode ≠ .standby) ∧
  (∀ (s : State) (k : Fin 48), s.sourceActs (.slot k) = true ↔ s.loops.running = true ∧ s.awake = true) ∧
  (∀ (s : State) (i : Fin 30) (n : Fin 4),
    s.gateAccepts i (.lodger n) = true ↔ (s.outp i).owner = .lodger ∧ (s.outp i).ownerId = n.val) ∧
  (∀ (s : State) (i : Fin 30) (k : Fin 48),
    s.gateAccepts i (.slot k) = true ↔ (s.outp i).owner = .slot ∧ (s.outp i).ownerId = k.val) ∧
  ∀ (s : State) (i : Fin 30) (k : Nat),
    s.gateAccepts i (.key k) = true ↔ (s.outp i).owner = .key ∧ (s.outp i).ownerId = k ∧ ∃ h ∈ s.keys.hosted, h.key = k

/-- O15. A release ends Rest only when it finds the cause mask empty; a foreign release is counted, except for JOURNAL_LOST
(R46, R63, R64, R73). Where the spec is silent this states the model's own choice: log entries 45, 57. -/
def Obligations.GateReleases : Prop :=
  (∀ (s : State) (n : Fin 4) (user : Bool) (w : Word), s.may n user .store 0x400F0404 →
    Result.Is (exec (.gateRelease n user w) s) fun t =>
      t.bus = {} ∧ t = { s with bus := t.bus, gate := t.gate, out := t.out, wbl := t.wbl } ∧
      t.gate = { s.gate with outs := t.gate.outs, rejectCnt := t.gate.rejectCnt } ∧
      t.gate.rejectCnt = Nat.repeat (satInc 0xFFFF) ((List.finRange 30).filter fun i => w.getLsbD i.val &&
        !decide ((s.outp i).owner = .lodger ∧ (s.outp i).ownerId = n.val) && !(s.outp i).causes.getLsbD 6).length s.gate.rejectCnt ∧
      ∀ i : Fin 30,
        (w.getLsbD i.val = false → t.outp i = s.outp i) ∧
        (w.getLsbD i.val = true → (s.outp i).owner = .lodger → (s.outp i).ownerId = n.val →
          ((s.outp i).causes &&& 0x1F = 0 → (t.outp i).causes = 0 ∧ (t.outp i).inRest = false) ∧
          ((s.outp i).causes &&& 0x1F ≠ 0 → (t.outp i).causes = (s.outp i).causes &&& 0x1F ∧
            (t.outp i).inRest = (s.outp i).inRest ∧ (t.outp i).applied = (s.outp i).applied)) ∧
        (w.getLsbD i.val = true → ¬((s.outp i).owner = .lodger ∧ (s.outp i).ownerId = n.val) →
          (t.outp i).causes = (s.outp i).causes &&& 0x3F ∧ (t.outp i).applied = (s.outp i).applied ∧
          ((s.outp i).owner ≠ .none ∨ (s.outp i).causes.getLsbD 6 = false → (t.outp i).inRest = (s.outp i).inRest))) ∧
  ∀ (s : State) (n : Fin 4) (user : Bool) (i : Fin 30), s.may n user .store 0x400F0404 →
    Result.Is (exec (.gateRelease n user (BitVec.ofNat 32 (2 ^ i.val))) s) fun t =>
      (∀ j, j ≠ i → t.outp j = s.outp j) ∧ t.bus = {} ∧ t = { s with bus := t.bus, gate := t.gate, out := t.out, wbl := t.wbl } ∧
      ((s.outp i).owner = .lodger → (s.outp i).ownerId = n.val →
        t.gate.rejectCnt = s.gate.rejectCnt ∧
        ((s.outp i).causes &&& 0x1F = 0 → (t.outp i).causes = 0 ∧ (t.outp i).inRest = false) ∧
        ((s.outp i).causes &&& 0x1F ≠ 0 → (t.outp i).causes = (s.outp i).causes &&& 0x1F ∧
          (t.outp i).inRest = (s.outp i).inRest ∧ (t.outp i).applied = (s.outp i).applied)) ∧
      (¬((s.outp i).owner = .lodger ∧ (s.outp i).ownerId = n.val) →
        ((s.outp i).owner ≠ .none → (t.outp i).inRest = (s.outp i).inRest) ∧ (t.outp i).applied = (s.outp i).applied ∧
        ((s.outp i).causes.getLsbD 6 = true → (t.outp i).causes = (s.outp i).causes &&& 0x3F ∧ t.gate.rejectCnt = s.gate.rejectCnt) ∧
        ((s.outp i).causes.getLsbD 6 = false →
          exec (.gateRelease n user (BitVec.ofNat 32 (2 ^ i.val))) s = .next { s with
            bus := {}, gate := { s.gate with rejectCnt := satInc 0xFFFF s.gate.rejectCnt } }))

/-- O16. A ramp interval moves each Live output towards its goal by no more than SLEW allows; a DO output waits for its
interval (R43, R44, R356). Where the spec is silent this states the model's own choice: log entries 56, 78. -/
def Obligations.GateRamps : Prop :=
  (∀ s : State, s.inkAlive = true → s.gate.envNext = none → Result.Is (exec .gateRampInterval s) fun t =>
    t = { s with gate := t.gate, out := t.out, wbl := t.wbl } ∧
    (∀ i : Fin 30, s.isLive i = false ∨ isDo i.val = true → (t.outp i).applied = (s.outp i).applied) ∧
    ∀ i : Fin 30, s.isLive i = true → isDo i.val = false →
      (t.outp i).goal = (s.outp i).goal ∧
      ((s.outp i).slew = 0 → (t.outp i).applied = (s.outp i).goal) ∧
      ((s.outp i).slew ≠ 0 → (s.outp i).applied ≤ (s.outp i).goal →
        (t.outp i).applied = min (s.outp i).goal ((s.outp i).applied + ((s.outp i).carry + (s.outp i).slew) / 1000)) ∧
      ((s.outp i).slew ≠ 0 → (s.outp i).goal < (s.outp i).applied →
        (t.outp i).applied = max (s.outp i).goal ((s.outp i).applied - ((s.outp i).carry + (s.outp i).slew) / 1000))) ∧
  ∀ (s : State) (k : Fin 12), s.isLive (doGate k) = true → Result.Is (exec (.doChangeInterval k) s) fun t =>
    (t.outp (doGate k)).applied = (s.outp (doGate k)).goal ∧ (∀ j, j ≠ doGate k → t.outp j = s.outp j) ∧
    ((s.outp (doGate k)).applied ≠ (s.outp (doGate k)).goal → (t.outp (doGate k)).changedAt = some s.now) ∧
    (t.dout k).cyc = (if (s.outp (doGate k)).applied = 0 ∧ (s.outp (doGate k)).goal = 1 ∧
        (s.dout k).driverOff = false ∧ (s.dout k).latched = false
      then satInc 0xFFFFFFFF (s.dout k).cyc else (s.dout k).cyc) ∧
    t = { s with gate := t.gate, out := t.out, wbl := t.wbl }

/-- O17. Analog output readback, overload, overvoltage with its reconnection, and a stroke that times out (R355, R366, R370,
R371). Where the spec is silent this states the model's own choice: log entries 79, 80. -/
def Obligations.AnalogOutputs : Prop :=
  (∀ (s : State) (n : Fin 8) (mv : Nat), s.outRuns = true → mv < 65536 → Result.Is (exec (.aoReadback n mv) s) fun t =>
    let a := s.ao n
    let v := (s.outp (aoGate n)).applied
    let off : Bool := decide (10 * a.rbTol < (mv - v) + (v - mv))
    t.ao n = { a with
      rb := mv, rbMiss := if off then satInc 20 a.rbMiss else 0, rbHit := if off then 0 else satInc 20 a.rbHit
      rbErr := if off && decide (satInc 20 a.rbMiss = 20) then true
        else if !off && decide (satInc 20 a.rbHit = 20) then false else a.rbErr } ∧
    (∀ m, m ≠ n → t.ao m = s.ao m) ∧
    t.out.int = (if (t.ao n).rbErr && !a.rbErr then s.out.int ||| 1 else s.out.int) ∧
    t = { s with out := { s.out with ao := t.out.ao, int := t.out.int } }) ∧
  (∀ (s : State) (n : Fin 8), s.cutOffs = true → s.aoHiz n = false → Result.Is (exec (.aoOverload n) s) fun t =>
    t.out.ao = vset s.out.ao n { s.ao n with overload := true } ∧
    t.out.int = (if (s.ao n).overload then s.out.int else s.out.int ||| 1) ∧
    t = { s with out := { s.out with ao := t.out.ao, int := t.out.int } }) ∧
  (∀ s : State, s.outRuns = true → s.cutOffs = true) ∧
  (∀ (s : State) (n : Fin 8), s.cutOffs = true →
    exec (.aoOverloadClear n) s = .next { s with out := { s.out with ao := vset s.out.ao n { s.ao n with overload := false } } }) ∧
  (∀ (s : State) (n : Fin 8), s.cutOffs = true → s.aoHiz n = false → Result.Is (exec (.aoOvervolt n) s) fun t =>
    t.out = { s.out with ao := vset s.out.ao n { s.ao n with overvolt := true }, int := s.out.int ||| 1 } ∧
    (s.live = true ∨ s.power.phase = .flushing ∨ s.power.phase = .shutdown → logs s 0x0401 [BitVec.ofNat 8 n.val, 1] t) ∧
    (s.live = false → s.power.phase ≠ .flushing → s.power.phase ≠ .shutdown → t = { s with out := t.out }) ∧
    t = { s with out := t.out, wbl := t.wbl, ledger := t.ledger }) ∧
  (∀ (s : State) (n : Fin 8), s.cutOffs = true →
    exec (.aoReconnectTry n true) s = .next { s with out := { s.out with ao := vset s.out.ao n { s.ao n with overvolt := false } } } ∧
    exec (.aoReconnectTry n false) s = .next s) ∧
  ∀ (s : State) (n : Fin 8), s.outRuns = true → (s.ao n).stroke.isSome = true → Result.Is (exec (.strokeTimeout n) s) fun t =>
    t.out = { s.out with
      ao := vset s.out.ao n { s.ao n with stroke := none, strFlt := true }
      int := s.out.int ||| (if (s.ao n).strFlt then 4 else 5) } ∧
    logs s 0x0401 [BitVec.ofNat 8 n.val, 3] t ∧ t = { s with out := t.out, wbl := t.wbl, ledger := t.ledger }

/-- O18. Relay drivers: overcurrent with its retries and latch, open load and their clearing; and a heater's period start
(R356, R357, R370, R371). Where the spec is silent this states the model's own choice: log entries 78, 79, 80. -/
def Obligations.RelayAndHeaterOutputs : Prop :=
  (∀ (s : State) (k : Fin 12), s.cutOffs = true → s.doConducted k = true → Result.Is (exec (.doOvercurrent k) s) fun t =>
    let n := if (s.dout k).overcur then satInc 255 (s.dout k).retry else (s.dout k).retry
    t.out.dos = vset s.out.dos k { s.dout k with
      overcur := true, driverOff := true, retry := n, latched := decide (3 ≤ n) } ∧
    t.out.int = (if (s.dout k).overcur && decide (n < 3) then s.out.int else s.out.int ||| 1) ∧
    (3 ≤ n → s.live = true ∨ s.power.phase = .flushing ∨ s.power.phase = .shutdown →
      logs s 0x0401 [BitVec.ofNat 8 (8 + k.val), 2] t) ∧
    (n < 3 ∨ (s.live = false ∧ s.power.phase ≠ .flushing ∧ s.power.phase ≠ .shutdown) → t.wbl = s.wbl ∧ t.ledger = s.ledger) ∧
    t = { s with out := { s.out with dos := t.out.dos, int := t.out.int }, wbl := t.wbl, ledger := t.ledger }) ∧
  (∀ (s : State) (k : Fin 12), s.doOn k = true → s.doConducted k = true) ∧
  (∀ (s : State) (k : Fin 12), s.outRuns = true →
    (s.doOn k = true → exec (.doOvercurrentClear k) s =
      .next { s with out := { s.out with dos := vset s.out.dos k { s.dout k with overcur := false, retry := 0 } } }) ∧
    ((s.outp (doGate k)).applied = 1 → (s.dout k).latched = false → exec (.doRetry k) s =
      .next { s with out := { s.out with dos := vset s.out.dos k { s.dout k with
        driverOff := false
        cyc := if (s.dout k).driverOff then satInc 0xFFFFFFFF (s.dout k).cyc else (s.dout k).cyc } } }) ∧
    ((s.dout k).latched = true → exec (.doRetry k) s = .next s) ∧
    (s.doOn k = false → exec (.doOpenLoad k) s = .next { s with out := { s.out with
      dos := vset s.out.dos k { s.dout k with openLoad := true }
      int := if (s.dout k).openLoad then s.out.int else s.out.int ||| 1 } }) ∧
    exec (.doOpenLoadClear k) s =
      .next { s with out := { s.out with dos := vset s.out.dos k { s.dout k with openLoad := false } } }) ∧
  (∀ (s : State) (n : Fin 4) (user : Bool) (w : Word), s.may n user .store 0x4004030C →
    Result.Is (exec (.doClear n user w) s) fun t =>
      (∀ k, t.dout k = if w.getLsbD k.val then
        { s.dout k with
          latched := false, overcur := false, retry := 0, driverOff := false
          cyc := if ((s.dout k).latched || (s.dout k).driverOff) && decide ((s.outp (doGate k)).applied = 1)
            then satInc 0xFFFFFFFF (s.dout k).cyc else (s.dout k).cyc } else s.dout k) ∧
      t.bus = {} ∧ t = { s with bus := t.bus, out := { s.out with dos := t.out.dos } }) ∧
  ∀ (s : State) (k : Fin 4), s.inkAlive = true → Result.Is (exec (.heaterPeriodStart k) s) fun t =>
    let period := (vget s.out.hts k).period
    let x := (s.outp ⟨20 + k.val, by omega⟩).applied * (period * 3277)
    vget t.out.hts k = { vget s.out.hts k with
      inForce := period, startedAt := s.now
      onCycles := if 2 * (x % 1000) < 1000 then x / 1000 else if 1000 < 2 * (x % 1000) then x / 1000 + 1
        else if x / 1000 % 2 = 0 then x / 1000 else x / 1000 + 1 } ∧
    (∀ j, j ≠ k → vget t.out.hts j = vget s.out.hts j) ∧ t = { s with out := { s.out with hts := t.out.hts } }

/-- O19. A fan channel's PWM boundary, control tick, commutation, current limit and loss of lock (R311, R315, R316, R317,
R318, R325, R326, R328, R337, R338). Where the spec is silent this states the model's own choice: log entries 8, 69, 70,
128, 134. -/
def Obligations.FanMotion : Prop :=
  (∀ (s : State) (c : Fin 6), s.awake = true → Result.Is (exec (.pwmPeriodBoundary c) s) fun t =>
    (∀ d, d ≠ c → t.fan d = s.fan d) ∧ t = { s with fans := t.fans } ∧
    t.fan c = { s.fan c with
      ilimLast := (s.fan c).ilimNow, ilimNow := false, faultNow := false
      cfg := if (s.fan c).shadowHold then (s.fan c).cfg else (s.fan c).shadow
      motor := if (s.fan c).st = .off then (s.fan c).sealed
        else { (s.fan c).motor with ilim := (s.fan c).sealed.ilim, shunt := (s.fan c).sealed.shunt } }) ∧
  (∀ (s : State) (c : Fin 6) (shunts : List (Int × Int)), s.awake = true →
    Result.Is (exec (.fanControlTick c shunts) s) fun t =>
    (∀ d, d ≠ c → t.fan d = s.fan d) ∧ t = { s with fans := t.fans } ∧ (t.fan c).st = (s.fan c).st ∧
    (t.fan c).squares = ((shunts.map fun p =>
        let iu := (s.fan c).motor.current p.1
        let iv := (s.fan c).motor.current p.2
        let iw := -(iu + iv)
        (iu * iu + iv * iv + iw * iw).natAbs).foldl (· + ·) 0, shunts.length) :: (s.fan c).squares.take 99 ∧
    (t.fan c).cur = satTo 16 (rmsOf (t.fan c).squares) ∧
    (t.fan c).clamped = decide (topRpm (s.fan c).motor.poles < s.fanTarget c) ∧
    ((s.fan c).switching = false → t.fan c = { s.fan c with
      cur := (t.fan c).cur, clamped := (t.fan c).clamped, squares := (t.fan c).squares, steady := (t.fan c).steady
      taskMs := (t.fan c).taskMs, accCur := (t.fan c).accCur, accDuty := (t.fan c).accDuty, angle := (t.fan c).angle
      spec := (t.fan c).spec }) ∧
    ((s.fan c).st = .run → (s.fan c).task = .none → 0 < s.fanTarget c →
      let f := s.fan c
      let goal := effective f.bands (f.clampTarget (s.fanTarget c)) f.nref
      let inside := f.bands.any fun b => decide (1000 * b.1 < f.nref ∧ f.nref < 1000 * b.2)
      (t.fan c).nref = towards f.nref (1000 * goal)
        (if inside then 100 * f.cfg.skipRate else if f.nref < 1000 * goal then f.cfg.rampUp else f.cfg.rampDn))) ∧
  (∀ (s : State) (c : Fin 6) (ns : Nat), (s.fan c).onHall = false → (s.fan c).turning = true →
    Result.Is (exec (.bemfZeroCrossing c ns) s) fun t =>
      (t.fan c).crossings = satInc 6 (s.fan c).crossings ∧ (t.fan c).intervals = (ns :: (s.fan c).intervals).take 6 ∧
      (t.fan c).lock = ((s.fan c).lock || decide (satInc 6 (s.fan c).crossings = 6)) ∧
      t = { s with fans := vset s.fans c { s.fan c with
        crossings := (t.fan c).crossings, intervals := (t.fan c).intervals, lock := (t.fan c).lock, meas := (t.fan c).meas } }) ∧
  (∀ (s : State) (c : Fin 6), (s.fan c).onHall = false → (s.fan c).turning = true → exec (.lockLoss c) s =
    .next { s with fans := vset s.fans c { s.fan c with lock := false, meas := 0, crossings := 0, intervals := [] } }) ∧
  (∀ (reverse : Bool) (old : BitVec 3), hallStep reverse old 0 = .invalid ∧ hallStep reverse old 7 = .invalid) ∧
  (∀ (s : State) (c : Fin 2) (code : BitVec 3) (ns : Nat),
    let f := s.fan ⟨c.val, by omega⟩
    let k := hallStep f.motor.reverse f.hallCode code
    let bad := k = .invalid ∨ k = .outOfSequence
    (k = .position ∨ (¬ bad ∧ (f.onHall = false ∨ f.turning = false)) ∨ (bad ∧ (f.hall = false ∨ s.awake = false)) →
      exec (.hallChange c code ns) s = .next { s with fans := vset s.fans ⟨c.val, by omega⟩ { f with hallCode := code } }) ∧
    (bad → f.hall = true → s.awake = true → Result.Is (exec (.hallChange c code ns) s) fun t =>
      let g := t.fan ⟨c.val, by omega⟩
      (∀ d, d.val ≠ c.val → t.fan d = s.fan d) ∧ t = { s with fans := t.fans } ∧ g.kinds = f.kinds ||| 16 ∧ g.task = .none ∧
      g.hallCode = code ∧ g.st = f.st ∧
      (if f.onHall = true ∧ f.turning = true then
        if f.hallFb = true ∧ f.cfg.handover ≤ f.meas then g.hallLost = true ∧ g.lock = f.lock ∧ g.meas = f.meas
        else g.lock = false ∧ g.meas = 0
      else g.lock = f.lock ∧ g.meas = f.meas ∧ g.hallLost = f.hallLost)) ∧
    (¬ bad → f.onHall = true → f.turning = true → Result.Is (exec (.hallChange c code ns) s) fun t =>
      let g := t.fan ⟨c.val, by omega⟩
      (∀ d, d.val ≠ c.val → t.fan d = s.fan d) ∧ (k ≠ .against ∨ f.against < 7 → t = { s with fans := t.fans }) ∧
      (k = .along → g.crossings = satInc 6 f.crossings ∧ g.against = 0 ∧ g.kinds = f.kinds ∧ g.hallCode = code) ∧
      (k = .against → f.against < 7 → g.crossings = satInc 6 f.crossings ∧ g.against = f.against + 1 ∧ g.kinds = f.kinds))) ∧
  ∀ (s : State) (c : Fin 6), (s.fan c).switching = true →
    exec (.currentLimit c) s = .next { s with
      fans := vset s.fans c { s.fan c with ilimNow := true, steady := Vector.replicate 8 (0, 0) } }

/-- O20. The start sequence of a fan channel, from FAN_START to RUN, and its stop (R322, R333, R347, R349, R350, R351).
Where the spec is silent this states the model's own choice: log entries 70, 73. -/
def Obligations.FanStarts : Prop :=
  (∀ (s : State) (c : Fin 6), s.awake = true → s.gate.blank = false → (s.fan c).st = .off → 0 < s.fanTarget c →
    Result.Is (exec (.fanStart c) s) fun t =>
      (∀ d, d ≠ c → t.fan d = s.fan d) ∧ t = { s with fans := t.fans } ∧
      (s.power.vgdOk = true → (t.fan c).st = .catch_ ∧ (t.fan c).starts = satInc 0xFFFFFFFF (s.fan c).starts ∧
        (t.fan c).attempting = (s.fan c).nextAttempt ∧ (t.fan c).nref = 0 ∧ (t.fan c).duty = 0 ∧ (t.fan c).vgdWait = false) ∧
      (s.power.vgdOk = false → t.fan c = { s.fan c with vgdWait := true })) ∧
  (∀ (s : State) (c : Fin 6) (reverse : Bool) (rpm : Nat) (duty : Word), (s.fan c).st = .catch_ → s.power.vgdOk = false →
    s.gate.blank = false → Result.Is (exec (.catchEnd c reverse rpm duty) s) fun t =>
      t.gate.blank = true ∧ t.gate.blankCause = 2 ∧ (∀ d, (t.fan d).switching = false) ∧ (t.fan c).st = .off ∧
      (∀ i, (t.outp i).applied = 0) ∧ t = { s with gate := t.gate, fans := t.fans, out := t.out }) ∧
  (∀ (s : State) (c : Fin 6) (reverse : Bool) (rpm : Nat) (duty : Word), (s.fan c).st = .catch_ → rpm < 65536 →
    s.power.vgdOk = true → Result.Is (exec (.catchEnd c reverse rpm duty) s) fun t =>
      (∀ d, d ≠ c → t.fan d = s.fan d) ∧ t = { s with fans := t.fans } ∧
      (rpm < (s.fan c).cfg.handover → t.fan c = { s.fan c with st := .precharge }) ∧
      ((s.fan c).cfg.handover ≤ rpm → reverse = true → t.fan c = { s.fan c with st := .brake }) ∧
      ((s.fan c).cfg.handover ≤ rpm → reverse = false → (s.fan c).onHall = true →
        (s.fan c).hallCode = 0 ∨ (s.fan c).hallCode = 7 → (t.fan c).st = .run ∧ (t.fan c).kinds = (s.fan c).kinds ||| 16) ∧
      ((s.fan c).cfg.handover ≤ rpm → reverse = false →
        (s.fan c).onHall = false ∨ ((s.fan c).hallCode ≠ 0 ∧ (s.fan c).hallCode ≠ 7) →
        (t.fan c).st = .run ∧ (t.fan c).meas = rpm ∧ (t.fan c).lock = true ∧
        (t.fan c).nref = 1000 * rpm ∧ (t.fan c).duty = (s.fan c).limitDuty (f32 duty))) ∧
  (∀ (s : State) (c : Fin 6), (s.fan c).st = .brake →
    exec (.brakeEnd c) s = .next { s with fans := vset s.fans c { s.fan c with st := .catch_ } }) ∧
  (∀ (s : State) (c : Fin 6), (s.fan c).st = .precharge → Result.Is (exec (.prechargeEnd c) s) fun t =>
    (∀ d, d ≠ c → t.fan d = s.fan d) ∧ t = { s with fans := t.fans } ∧
    ((s.fan c).hall = false → t.fan c = { s.fan c with st := .align, duty := (s.fan c).alignDuty.toBits }) ∧
    ((s.fan c).hall = true → (t.fan c).st = .run ∧ (t.fan c).nref = 0 ∧ (t.fan c).duty = 0)) ∧
  (∀ (s : State) (c : Fin 6) (cur : Nat), (s.fan c).st = .align →
    ((s.fan c).motor.ilim ≤ 10 * cur → exec (.alignEnd c cur) s =
      .next { s with fans := vset s.fans c { s.fan c with st := .openloop, nref := 0 } }) ∧
    (10 * cur < (s.fan c).motor.ilim → Result.Is (exec (.alignEnd c cur) s) fun t =>
      (∀ d, d ≠ c → t.fan d = s.fan d) ∧ (t.fan c).st = .latched ∧ (t.fan c).cause = 3 ∧ (t.fan c).duty = 0 ∧
      (t.fan c).kinds = (s.fan c).kinds ||| 4 ∧ logs s 0x0302 [BitVec.ofNat 8 c.val, 3] t ∧
      t = { s with fans := t.fans, wbl := t.wbl, ledger := t.ledger })) ∧
  (∀ (s : State) (c : Fin 6), (s.fan c).st = .openloop → Result.Is (exec (.handoverReached c) s) fun t =>
    (t.fan c).st = .run ∧ (t.fan c).nref = 1000 * (s.fan c).cfg.handover ∧
    (t.fan c).duty = (s.fan c).limitDuty (f32 (s.fan c).duty) ∧
    t = { s with fans := vset s.fans c { s.fan c with
      st := (t.fan c).st, nref := (t.fan c).nref, duty := (t.fan c).duty, integ := (t.fan c).integ } }) ∧
  ∀ (s : State) (c : Fin 6), s.fanTarget c = 0 → (∀ k, (s.fan c).task ≠ .sweep k) ∨ (s.fan c).en = false → (s.fan c).st ≠ .off →
    (s.fan c).st ≠ .latched → Result.Is (exec (.fanStop c) s) fun t =>
      (t.fan c).st = .off ∧ (t.fan c).nref = 0 ∧ (t.fan c).duty = 0 ∧ (t.fan c).switching = false ∧ (t.fan c).meas = 0 ∧
      (t.fan c).task = .none ∧ (∀ k got, (s.fan c).task = .base k got → (t.fan c).baseErr = true) ∧
      (∀ k, (s.fan c).task = .sweep k → (t.fan c).mapErr = true) ∧ (∀ d, d ≠ c → t.fan d = s.fan d) ∧ t = { s with fans := t.fans }

/-- O21. Fan faults: stall, restart attempts, phase short, open phase and their latches, and how a latch is cleared (R340,
R341, R342, R343, R344, R345, R346, R347). Where the spec is silent this states the model's own choice: log entry 73. -/
def Obligations.FanFaults : Prop :=
  (∀ (s : State) (c : Fin 6), (s.fan c).st = .run → (s.fan c).attempting = false → 0 < s.fanTarget c →
    (s.fan c).meas < (s.fan c).cfg.stallRpm → Result.Is (exec (.stallTimeout c) s) fun t =>
      (t.fan c).kinds = (s.fan c).kinds ||| 1 ∧ (t.fan c).task = .none ∧ (t.fan c).duty = 0 ∧
      ((s.fan c).attempt = 3 → (t.fan c).st = .latched ∧ (t.fan c).cause = 1 ∧ (t.fan c).attempt = 3) ∧
      ((s.fan c).attempt ≠ 3 → (t.fan c).st = .wait ∧ (t.fan c).attempt = (s.fan c).attempt + 1) ∧
      logs s 0x0301 [BitVec.ofNat 8 c.val, BitVec.ofNat 8 (t.fan c).attempt] t ∧
      (∀ d, d ≠ c → t.fan d = s.fan d) ∧ t = { s with fans := t.fans, wbl := t.wbl, ledger := t.ledger }) ∧
  (∀ (s : State) (c : Fin 6), s.awake = true → s.power.vgdOk = true → (s.fan c).st = .wait → 0 < s.fanTarget c →
    Result.Is (exec (.restartWaitEnd c) s) fun t =>
      (t.fan c).st = .catch_ ∧ (t.fan c).attempting = true ∧ (t.fan c).starts = satInc 0xFFFFFFFF (s.fan c).starts ∧
      (t.fan c).attempt = (s.fan c).attempt ∧ (∀ d, d ≠ c → t.fan d = s.fan d) ∧ t = { s with fans := t.fans }) ∧
  (∀ (s : State) (c : Fin 6), (s.fan c).attempting = true → (s.fan c).st = .run → (s.fan c).lock = true →
    (s.fan c).cfg.stallRpm ≤ (s.fan c).meas →
    exec (.restartSuccess c) s = .next { s with fans := vset s.fans c { s.fan c with attempting := false } }) ∧
  (∀ (s : State) (c : Fin 6), (s.fan c).attempting = true → Result.Is (exec (.restartWindowEnd c) s) fun t =>
    (t.fan c).attempting = false ∧ (t.fan c).duty = 0 ∧ (∀ d, d ≠ c → t.fan d = s.fan d) ∧
    t = { s with fans := t.fans, wbl := t.wbl, ledger := t.ledger } ∧
    ((s.fan c).attempt < 3 → (t.fan c).st = .wait ∧ (t.fan c).attempt = (s.fan c).attempt + 1 ∧ t = { s with fans := t.fans }) ∧
    (3 ≤ (s.fan c).attempt → (t.fan c).st = .latched ∧ (t.fan c).cause = 1 ∧ logs s 0x0302 [BitVec.ofNat 8 c.val, 1] t)) ∧
  (∀ (s : State) (c : Fin 6), (s.fan c).st = .run → (s.fan c).lock = true → (s.fan c).cfg.stallRpm ≤ (s.fan c).meas →
    exec (.attemptClear c) s = .next { s with fans := vset s.fans c { s.fan c with attempt := 0 } }) ∧
  (∀ (s : State) (c : Fin 6), (s.fan c).switching = true → Result.Is (exec (.phaseShort c) s) fun t =>
    (t.fan c).st = .latched ∧ (t.fan c).cause = 2 ∧ (t.fan c).switching = false ∧ (t.fan c).duty = 0 ∧
    (t.fan c).kinds = (s.fan c).kinds ||| 2 ∧ logs s 0x0302 [BitVec.ofNat 8 c.val, 2] t ∧
    (∀ d, d ≠ c → t.fan d = s.fan d) ∧ t = { s with fans := t.fans, wbl := t.wbl, ledger := t.ledger }) ∧
  (∀ (s : State) (c : Fin 6), (s.fan c).switching = false → (s.fan c).faultNow = false → exec (.phaseShort c) s = .next s) ∧
  (∀ (s : State) (c : Fin 6), (s.fan c).st = .run → Result.Is (exec (.openPhase c) s) fun t =>
    (t.fan c).st = .latched ∧ (t.fan c).cause = 3 ∧ (t.fan c).kinds = (s.fan c).kinds ||| 4 ∧
    logs s 0x0302 [BitVec.ofNat 8 c.val, 3] t ∧
    (∀ d, d ≠ c → t.fan d = s.fan d) ∧ t = { s with fans := t.fans, wbl := t.wbl, ledger := t.ledger }) ∧
  ∀ (s : State) (n : Fin 4) (user : Bool) (c : Fin 6), s.may n user .store (fanBase c + 0x48) → (s.fan c).st = .latched →
    (s.sessionOpen = true → Result.Is (exec (.fanCmdClear n user c) s) fun t =>
      (t.fan c).st = .off ∧ (t.fan c).kinds = 0 ∧ (t.fan c).attempt = 0 ∧ (t.fan c).cause = 0 ∧ t.bus = {} ∧
      logs s 0x0304 [BitVec.ofNat 8 c.val, 0] t ∧ (∀ d, d ≠ c → t.fan d = s.fan d) ∧
      t = { s with bus := t.bus, fans := t.fans, wbl := t.wbl, ledger := t.ledger }) ∧
    (s.sessionOpen = false → exec (.fanCmdClear n user c) s = .next { s with bus := {} })

/-- O22. Baseline captures, resonance sweeps, their abort, and the drive margin index (R329, R330, R331, R332, R335, R348).
Where the spec is silent this states the model's own choice: log entries 69, 72. -/
def Obligations.FanTasks : Prop :=
  (∀ (s : State) (n : Fin 4) (user : Bool) (c : Fin 6), s.may n user .store (fanBase c + 0x48) →
    (∀ p rest, s.captureOk c = true → (s.fan c).used = p :: rest → exec (.baselineCapture n user c) s =
      .next { s with bus := {}, fans := vset s.fans c { s.fan c with task := .base p.1 [], taskMs := 0, accCur := 0, accDuty := 0 } }) ∧
    (s.captureOk c = false → exec (.baselineCapture n user c) s =
      .next { s with bus := {}, fans := vset s.fans c { s.fan c with baseErr := true } }) ∧
    (s.sweepOk c = true → exec (.resonanceSweep n user c) s =
      .next { s with bus := {}, fans := vset s.fans c { s.fan c with task := .sweep 1, bin := 0 } }) ∧
    (s.sweepOk c = false → exec (.resonanceSweep n user c) s =
      .next { s with bus := {}, fans := vset s.fans c { s.fan c with mapErr := true } }) ∧
    Result.Is (exec (.taskAbort n user c) s) fun t =>
      t.bus = {} ∧ (t.fan c).task = .none ∧ (t.fan c).st = (s.fan c).st ∧ (∀ d, d ≠ c → t.fan d = s.fan d) ∧
      t = { s with bus := t.bus, fans := t.fans } ∧
      (∀ k got, (s.fan c).task = .base k got → (t.fan c).baseErr = true) ∧
      (∀ k, (s.fan c).task = .sweep k → (t.fan c).mapErr = true) ∧ (t.fan c).base = (s.fan c).base) ∧
  (∀ (s : State) (c : Fin 6) (k : Nat) (got : List (Nat × Nat × Nat)), (s.fan c).task = .base k got →
    let cur := openQuot (s.fan c).accCur 10000
    let duty := openQuot ((s.fan c).accDuty * 1000) (2 ^ 149 * 10000)
    ((s.fan c).taskMs < 30000 → exec (.baselinePointDone c) s = .next s) ∧
    (∀ p, 30000 ≤ (s.fan c).taskMs → ((s.fan c).used.find? fun p => decide (k < p.1)) = some p →
      exec (.baselinePointDone c) s = .next { s with fans := vset s.fans c { s.fan c with
        task := .base p.1 (got ++ [(k, cur, duty)]), taskMs := 0, accCur := 0, accDuty := 0 } }) ∧
    (30000 ≤ (s.fan c).taskMs → ((s.fan c).used.find? fun p => decide (k < p.1)) = none →
      Result.Is (exec (.baselinePointDone c) s) fun t =>
      (t.fan c).task = .none ∧ (t.fan c).dmiValid = false ∧ (t.fan c).dmiAged = false ∧
      (∀ j : Fin 8, j.val = k →
        vget (t.fan c).base j = { rpm := (vget (s.fan c).base j).rpm, cur := satTo 16 cur, duty := duty % 1024 }) ∧
      (3 ≤ s.wbl.freeCount → ∃ j, (vget t.wbl.ring j).seq = seqAfter (seqAfter s.wbl.nextSeq) ∧ (vget t.wbl.ring j).origin = 4 ∧
        (vget t.wbl.ring j).body =
          .logEntry s.wbl.logPos 0x0305 (padTo 24 [BitVec.ofNat 8 c.val, BitVec.ofNat 8 (got.length + 1)])) ∧
      (s.wbl.nextFree = none →
        ⟨4, .logEntry 0 0x0305 (padTo 24 [BitVec.ofNat 8 c.val, BitVec.ofNat 8 (got.length + 1)])⟩ ∈ t.wbl.waiting) ∧
      (∀ d, d ≠ c → t.fan d = s.fan d) ∧ t.gate = s.gate ∧ t.sram = s.sram ∧ t.ledger.lines = s.ledger.lines)) ∧
  (∀ (s : State) (c : Fin 6), (s.fan c).task = .sweep 3 → (s.fan c).nref = 1000 * ((s.fan c).course (s.fanTarget c)).1 →
    Result.Is (exec (.sweepEnd c) s) fun t =>
      let bins := (s.fan c).spec.map Spectral.amplitude
      t.fan c = { s.fan c with
        task := .none, mapDone := true, map_ := bins.map (satTo 16)
        props := proposals (s.fan c).thr (s.fan c).mapLo (s.fan c).mapHi bins } ∧
      logs s 0x0306 [BitVec.ofNat 8 c.val, BitVec.ofNat 8 (t.fan c).props.length] t ∧
      (∀ d, d ≠ c → t.fan d = s.fan d) ∧ t = { s with fans := t.fans, wbl := t.wbl, ledger := t.ledger }) ∧
  ∀ (s : State) (c : Fin 6) (k : Fin 8), s.dmiOk c k = true →
    let w := vget (s.fan c).steady k
    let v := satTo 16 (nearest (1000 * w.2) (w.1 * (vget (s.fan c).base k).cur))
    ((s.fan c).onHall = false → v < 700 → Result.Is (exec (.dmiUpdate c k) s) fun t =>
      (t.fan c).dmiValue = v ∧ (t.fan c).dmiPoint = k.val ∧ (t.fan c).dmiValid = true ∧
      (t.fan c).kinds = (s.fan c).kinds ||| 8 ∧ (t.fan c).task = .none ∧ (t.fan c).duty = 0 ∧
      ((s.fan c).revFix = true → (t.fan c).st = .catch_ ∧ (t.fan c).revSwap = true ∧
        (t.fan c).starts = satInc 0xFFFFFFFF (s.fan c).starts) ∧
      ((s.fan c).revFix = false → (t.fan c).st = .latched ∧ (t.fan c).cause = 4 ∧ (t.fan c).revSwap = (s.fan c).revSwap) ∧
      logs s 0x0303 [BitVec.ofNat 8 c.val, if (s.fan c).revFix then 1 else 0] t ∧
      (∀ d, d ≠ c → t.fan d = s.fan d) ∧ t = { s with fans := t.fans, wear := t.wear, wbl := t.wbl, ledger := t.ledger }) ∧
    (700 ≤ v ∨ (s.fan c).onHall = true → Result.Is (exec (.dmiUpdate c k) s) fun t =>
      t.fan c = { s.fan c with
        dmiValue := v, dmiPoint := k.val, dmiValid := true, dmiAged := (s.fan c).dmiAged || decide (1150 ≤ v)
        steady := Vector.replicate 8 (0, 0) } ∧
      (∀ d, d ≠ c → t.fan d = s.fan d) ∧ t = { s with fans := t.fans, wear := t.wear })

/-- O23. Wear counters and their copies, the nightly update, and the hold-up test with its abort (R403, R404, R405, R406,
R412, R413). Where the spec is silent this states the model's own choice: log entries 75, 76, 77. -/
def Obligations.WearHistory : Prop :=
  (∀ s : State, s.countersKept = false → exec .counterRefresh s = .next s ∧ exec .hourlyCounterWrite s = .next s) ∧
  (∀ s : State, s.live = true → s.countersKept = true) ∧
  (∀ s : State, s.countersKept = true → exec .counterRefresh s = .next { s with wear := { s.wear with
    copies := s.fans.toList.map (·.runs) ++ s.fans.toList.map (·.starts) ++ s.out.dos.toList.map (·.cyc) ++ [s.wear.blSeconds] ++
      List.replicate 15 0
    blockCopies := s.ledger.blocks.toList } }) ∧
  (∀ s : State, s.countersKept = true → Result.Is (exec .hourlyCounterWrite s) fun t =>
    t.ledger.lines = s.ledger.lines ∧ t = { s with wbl := t.wbl, ledger := t.ledger } ∧ (s.changedLines = [] → t = s) ∧
    (s.changedLines.length ≤ s.wbl.freeCount → t.wbl.waiting = s.wbl.waiting ∧ ∀ l, l ∈ s.changedLines →
      ∃ k, (vget t.wbl.ring k).body = .ledgerLine l.1 (padTo 32 l.2) ∧ (vget t.wbl.ring k).origin = 4 ∧
        (vget t.wbl.ring k).notDone = true) ∧
    (s.wbl.nextFree = none →
      t.wbl.waiting = s.wbl.waiting ++ s.changedLines.map fun l => ⟨4, .ledgerLine l.1 (padTo 32 l.2)⟩)) ∧
  (∀ (s : State) (fRef fRun : Nat), s.live = true → s.power.rtcSet = true → s.power.rtc % 86400 = s.wear.nightTime →
    s.wear.testing = false → Result.Is (exec (.nightlyUpdate fRef fRun) s) fun t =>
      t.gate = s.gate ∧ t.sram = s.sram ∧ t.fans = s.fans ∧ t.ledger.lines = s.ledger.lines ∧
      (s.wear.holdEn = true → s.power.chg = 2 → t = { s with
        wear := { s.wear with shiftNext := dieShift fRef fRun, testing := true }, power := { s.power with chg := 0 } }) ∧
      (s.wear.holdEn = true → s.power.chg ≠ 2 → t.wear.holdResult = 4) ∧
      (s.wear.holdEn = false ∨ s.power.chg ≠ 2 → t.wear.shift = dieShift fRef fRun ∧ t.wear.int.getLsbD 0 = true ∧
        t.wear.testing = false ∧ t.power = s.power)) ∧
  (∀ (s : State) (v1 v2 v3 v4 : Nat), s.wear.testing = true → Result.Is (exec (.holdUpTestEnd v1 v2 v3 v4) s) fun t =>
    t.wear.testing = false ∧ t.wear.holdDay = s.power.rtc / 86400 % 65536 ∧ t.wear.shift = s.wear.shiftNext ∧
    t.wear.int.getLsbD 0 = true ∧
    (21000 ≤ v1 → 21000 ≤ v2 → 21000 ≤ v3 → 21000 ≤ v4 → t.wear.holdResult = 1 ∧ t.wear.int.getLsbD 3 = true ∧
      (v2 ≤ v1 → (t.wear.esr = min ((v1 - v2) / 2) 65535 ∨ t.wear.esr = min ((v1 - v2) / 2 + 1) 65535) ∧
        ((v1 - v2) % 2 = 0 → t.wear.esr = min ((v1 - v2) / 2) 65535)) ∧
      (v2 ≤ v1 → v4 ≤ v3 → v1 - v2 < 10 * (v3 - v4) →
        let d := 10 * (v3 - v4) - (v1 - v2)
        (t.wear.cap = min (20000000 / d) 65535 ∨ t.wear.cap = min (20000000 / d + 1) 65535) ∧
        (20000000 % d = 0 → t.wear.cap = min (20000000 / d) 65535))) ∧
    (v1 < 21000 ∨ v2 < 21000 ∨ v3 < 21000 ∨ v4 < 21000 →
      t.wear.holdResult = 3 ∧ t.wear.esr = s.wear.esr ∧ t.wear.cap = s.wear.cap) ∧
    t.gate = s.gate ∧ t.sram = s.sram ∧ t.fans = s.fans ∧ t.ledger.lines = s.ledger.lines ∧ t.power = s.power) ∧
  ∀ s : State, s.wear.testing = true → Result.Is (exec .holdTestAbort s) fun t =>
    t.wear.testing = false ∧ t.wear.holdResult = 3 ∧ t.wear.esr = s.wear.esr ∧ t.wear.cap = s.wear.cap ∧
    t.wear.shift = s.wear.shiftNext ∧ t.wear.int.getLsbD 0 = true ∧
    t.gate = s.gate ∧ t.sram = s.sram ∧ t.fans = s.fans ∧ t.ledger.lines = s.ledger.lines ∧ t.power = s.power

/-- O24. Conversions of the universal inputs, the swap of the result block, its hold, and a change of an input's type (R236,
R237, R240, R241, R243, R246, R249, R251). Where the spec is silent this states the model's own choice: log entries 8, 25,
63, 64, 145. -/
def Obligations.UniversalInputs : Prop :=
  (∀ (s : State) (n : Fin 16), s.converts n = true →
    (s.ui n).type ≠ 0 ∧ ∀ k, converterOf k = converterOf n → k < n → s.sns.visited k = true) ∧
  (∀ (s : State) (n : Fin 16) (res : Nat) (level : Int) (com : Bool) (raw : Nat), s.converts n = false →
    exec (.uiConversion n res level com raw) s = .next s) ∧
  (∀ (s : State) (n : Fin 16) (res : Nat) (level : Int) (com : Bool) (raw : Nat), s.converts n = true →
    Result.Is (exec (.uiConversion n res level com raw) s) fun t =>
      t = { s with sns := t.sns } ∧ (∀ m, m ≠ n → t.ui m = s.ui m) ∧ (t.ui n).seq = ((s.ui n).seq + 1) % 65536 ∧
      t.sns.visited n = true ∧
      (s.discards n = true → t.ui n = { s.ui n with seq := (t.ui n).seq, has := false } ∧ t.sns.int = s.sns.int) ∧
      (s.discards n = false →
        let v := (s.ui n).convert res level
        (t.ui n).val = v ∧ (t.ui n).has = true ∧ (t.ui n).raw = raw % 2 ^ 20 ∧ (t.ui n).com = com ∧
        (t.ui n).shown = (s.ui n).shown ∧ (t.ui n).type = (s.ui n).type ∧
        ∀ i : Fin 4, vget (t.ui n).faults i = true ↔
          vget (wiring (s.ui n).type res level v ((s.ui n).beyond res)) i = true ∨ (vget (s.ui n).faults i = true ∧ vget (s.ui n).clean i = 0))) ∧
  (∀ s : State, s.scanning = true → s.sns.cycleDone = true → (s.resultHeld = true →
      exec .scanSwap s = .next { s with sns := { s.sns with
        swapDue := true, visit := Vector.replicate 2 0, uis := s.sns.uis.map fun u => { u with woken := false } } }) ∧
    (s.resultHeld = false → Result.Is (exec .scanSwap s) fun t =>
      t.sns.cycle = (s.sns.cycle + 1) % 65536 ∧ t.sns.int.getLsbD 0 = true ∧ t.sns.hold = none ∧ t.gate = s.gate ∧
      t.sram = s.sram ∧ t.ledger.lines = s.ledger.lines ∧
      t.sns.visit = Vector.replicate 2 0 ∧
      ∀ n, (t.ui n).shown = { s.ui n with settle := (s.ui n).settle - 1 : UiIn }.show_ (!s.power.vaOk || decide (1 < s.sns.vaWin)) ∧
        (t.ui n).val = (s.ui n).val)) ∧
  (∀ (s : State) (n : Fin 4) (user : Bool) (refused : Nat), s.may n user .load 0x40010100 →
    Result.Is (exec (.resultBlockRead n user refused) s) fun t =>
      t.bus.data = (s.ui 0).shown.val ∧ t.bus.outcome = .ok ∧ t.sns = { s.sns with hold := some s.now } ∧
      t = { s.granted refused with bus := t.bus, sns := t.sns }) ∧
  (∀ s : State, s.sns.hold.isSome = true →
    (s.sns.swapDue = false → exec .resultHoldTimeout s = .next { s with sns := { s.sns with hold := none, swapDue := false } }) ∧
    (s.sns.swapDue = true → Result.Is (exec .resultHoldTimeout s) fun t =>
      t.sns.hold = none ∧ t.sns.swapDue = false ∧ t.sns.cycle = (s.sns.cycle + 1) % 65536 ∧ t.gate = s.gate ∧ t.sram = s.sram)) ∧
  ∀ (s : State) (n : Fin 4) (user : Bool) (i : Fin 16) (type : BitVec 3), s.may n user .store (0x40010040 + i.val * 4) →
    (5 < type.toNat ∨ type.toNat = (s.ui i).type → exec (.uiTypeWrite n user i type) s = .next { s with bus := {} }) ∧
    (type.toNat ≤ 5 → type.toNat ≠ (s.ui i).type → Result.Is (exec (.uiTypeWrite n user i type) s) fun t =>
      (t.ui i).type = type.toNat ∧ (t.ui i).has = false ∧ (t.ui i).faults = Vector.replicate 4 false ∧
      (t.ui i).settle = (if s.scanning then 3 else 2) ∧ (∀ m, m ≠ i → t.ui m = s.ui m) ∧
      t = { s with bus := t.bus, sns := t.sns })

/-- O25. I²C sensor slots, digital inputs and counters (R254, R255, R256, R257, R258, R259, R262, R263, R264). Where the
spec is silent this states the model's own choice: log entries 65, 148. -/
def Obligations.SensorsAndDigitalInputs : Prop :=
  (∀ (s : State) (m : Fin 16) (sda : Sda), s.awake = true → s.sns.running = true → s.sns.i2cEn = true → (s.i2c m).used = true →
    Result.Is (exec (.i2cSlotDue m sda) s) fun t =>
      let x := s.i2c m
      let b := vget s.sns.buses x.bus
      let n := x.form % 4
      let address : Byte := BitVec.ofNat 8 (2 * (x.addr % 128))
      let read : List I2cSym := [.start, .byte (address ||| 1), .read x.len, .stop]
      let wire : List I2cSym := if n = 0 then read else
        .start :: .byte address :: ((leBytes 2 x.cmd).take n).map .byte ++ [.stop, .waitMs x.wait] ++ read
      t = { s with sns := { s.sns with buses := t.sns.buses, i2c := t.sns.i2c, int := t.sns.int } } ∧
      (b.busy = none → sda = .high → vget t.sns.buses x.bus = { b with busy := some m.val, wire := wire } ∧ t.i2c m = x) ∧
      (b.busy = none → sda = .recovers →
        vget t.sns.buses x.bus = { b with busy := some m.val, wire := .pulses 9 :: .stop :: wire } ∧ t.i2c m = x) ∧
      (b.busy = none → sda = .stuck →
        vget t.sns.buses x.bus = { b with busy := none, wire := [.pulses 9, .stop], stuck := true } ∧
        t.i2c m = { x with
          failCnt := satInc 0xFF x.failCnt, valid := false, fails := x.fails + 1, stale := x.stale || decide (2 ≤ x.fails)
          crcErr := false, timeout := false, nack := false }) ∧
      (∀ k, b.busy = some k → k ≠ m.val → t.i2c m = x ∧ m.val ∈ (vget t.sns.buses x.bus).due ∧
        vget t.sns.buses x.bus = { b with due := (vget t.sns.buses x.bus).due })) ∧
  (∀ (s : State) (m : Fin 16) (e : I2cEnd) (next : Sda), (vget s.sns.buses (s.i2c m).bus).busy = some m.val → next ≠ .stuck →
    Result.Is (exec (.i2cTransactionEnd m e next) s) fun t =>
      let x := s.i2c m
      let b := vget s.sns.buses x.bus
      (∀ k, k ≠ m → t.i2c k = s.i2c k) ∧
      t = { s with sns := { s.sns with i2c := t.sns.i2c, buses := t.sns.buses, int := t.sns.int } } ∧
      (b.due = [] → vget t.sns.buses x.bus = { b with busy := none, wire := [] }) ∧
      (∀ (k : Fin 16) (rest : List Nat), b.due = k.val :: rest → k ≠ m → (s.i2c k).bus = x.bus → next = .high →
        vget t.sns.buses x.bus = { b with busy := some k.val, wire := (s.i2c k).transaction, due := rest }) ∧
      (∀ bs, e = .data bs → x.crc = false → t.i2c m = { x with
        seq := (x.seq + 1) % 65536, valid := true, fails := 0, stale := false, data := padTo 6 (bs.take x.len) }) ∧
      (∀ bs, e = .data bs → x.crc = true → (x.len = 3 ∨ x.len = 6) → t.i2c m =
        if crcGroupsOk (padTo x.len bs) then { x with
          seq := (x.seq + 1) % 65536, valid := true, fails := 0, stale := false, data := padTo 6 (bs.take x.len) }
        else { x with
          data := padTo 6 (bs.take x.len), failCnt := satInc 0xFF x.failCnt, valid := false, fails := x.fails + 1
          stale := x.stale || decide (2 ≤ x.fails), crcErr := true, timeout := false, nack := false }) ∧
      ((∀ bs, e ≠ .data bs) → t.i2c m = { x with
        failCnt := satInc 0xFF x.failCnt, valid := false, fails := x.fails + 1, stale := x.stale || decide (2 ≤ x.fails)
        crcErr := false, timeout := decide (e = .timeout), nack := decide (e = .nack) })) ∧
  (∀ (s : State) (n : Fin 4) (user : Bool) (m : Fin 16) (refused : Nat), s.may n user .load (0x40010300 + m.val * 0x10) →
    exec (.i2cStatRead n user m refused) s = .next { s.granted refused with
      bus := { data := (s.i2c m).stat, outcome := .ok }
      sns := { s.sns with i2c := vset s.sns.i2c m { s.i2c m with hold := some ((s.i2c m).data, s.now) } } }) ∧
  (∀ (s : State) (n : Fin 8) (high : Bool), s.power.phase ≠ .off → s.asleep = false →
    (s.sns.diState.getLsbD n.val = high → exec (.diDebounceChange n high) s = .next s) ∧
    (s.sns.diState.getLsbD n.val ≠ high → Result.Is (exec (.diDebounceChange n high) s) fun t =>
      t.sns.diState.getLsbD n.val = high ∧ (∀ k : Fin 8, k ≠ n → t.sns.diState.getLsbD k.val = s.sns.diState.getLsbD k.val) ∧
      t = { s with sns := { s.sns with
        diState := t.sns.diState, diEdges := vset s.sns.diEdges n (satInc 0xFFFF (vget s.sns.diEdges n)), int := s.sns.int ||| 4 } })) ∧
  (∀ (s : State) (k : Fin 2) (rising : Bool), s.power.phase ≠ .off →
    let e := vget s.sns.cntEdge k
    exec (.counterEdge k rising) s = .next (if (e = 1 ∧ rising = true) ∨ (e = 2 ∧ rising = false) ∨ e = 3 then
      { s with sns := { s.sns with cnt := vset s.sns.cnt k (satInc 0xFFFFFFFF (vget s.sns.cnt k)) } } else s)) ∧
  ∀ (s : State) (n : Fin 4) (user : Bool) (w : Word), s.may n user .store 0x4001024C → Result.Is (exec (.cntClear n user w) s) fun t =>
    (∀ i : Fin 2, vget t.sns.cnt i = if w.getLsbD i.val then 0 else vget s.sns.cnt i) ∧
    (∀ i : Fin 8, vget t.sns.diEdges i = if w.getLsbD (8 + i.val) then 0 else vget s.sns.diEdges i) ∧ t.bus = {} ∧
    t = { s with bus := t.bus, sns := { s.sns with cnt := t.sns.cnt, diEdges := t.sns.diEdges } }

/-- O26. Writes to a loop slot: commits, direct coefficients and groups, enable, disable, setpoint and output (R281, R287,
R288, R290, R291, R292, R297, R298, R306). Where the spec is silent this states the model's own choice: log entry 67. -/
def Obligations.LoopRegisters : Prop :=
  (∀ (s : State) (n : Fin 4) (user : Bool) (m : Fin 48) (bank : Fin 4), s.may n user .store (slotBase m + 0x54) →
    exec (.commitGo n user m bank) s = .next { s with bus := {}, loops :=
      { s.loops with slots := vset s.loops.slots m <|
        let x := s.slot m
        if x.pend then { x with cfgErr := true }
       else if x.direct then { x with bank := bank.val, cfgErr := true }
       else if x.en then { x with bank := bank.val, pend := true }
       else if coefOk x.stg then { x with bank := bank.val, pend := false, banks := vset x.banks bank x.stg }
       else { x with bank := bank.val, pend := false, commitErr := true } } }) ∧
  (∀ (s : State) (n : Fin 4) (user : Bool) (m : Fin 48) (k : Fin 9) (w : Word), s.may n user .store (slotBase m + 0x60 + 4 * k.val) →
    exec (.directCoefWrite n user m k w) s = .next { s with bus := {}, loops :=
      { s.loops with slots := vset s.loops.slots m <|
        let x := s.slot m
        if x.direct then { x with
         banks := vset x.banks 0 (vset (vget x.banks 0) k w), wseq := (x.wseq + 1) % 65536, left := x.left - 1 }
       else if x.pend then { x with cfgErr := true } else { x with stg := vset x.stg k w } } }) ∧
  (∀ (s : State) (n : Fin 4) (user : Bool) (m : Fin 48) (count : Fin 16), s.may n user .store (slotBase m + 0x50) →
    Result.Is (exec (.directGroupWrite n user m count) s) fun t =>
      t = { s with bus := t.bus, loops := { s.loops with slots := vset s.loops.slots m (t.slot m) } } ∧ t.bus = {} ∧
      (9 < count.val → t.slot m = s.slot m) ∧ (count.val = 0 → t.slot m = { s.slot m with left := 0 }) ∧
      (1 ≤ count.val → count.val ≤ 9 → t.slot m = { s.slot m with
        left := count.val, grpOvr := (s.slot m).grpOvr || decide (0 < (s.slot m).left) })) ∧
  (∀ (s : State) (n : Fin 4) (user : Bool) (m : Fin 48), s.may n user .store (slotBase m) →
    let x := s.slot m
    let z := { x with en := true }
    (x.en = false → z.setupOk s.loops.points = true → z.addrUsedOk = true → z.staleN ≠ 0 → z.goodK ≠ 0 → z.banksOk = true →
      cascadesOk (vset s.loops.slots m z).toList = true → Result.Is (exec (.slotEnable n user m) s) fun t =>
        (t.slot m).en = true ∧ (t.slot m).st = .track ∧ (t.slot m).goodrun = 0 ∧ (t.slot m).due = 1 ∧ (t.slot m).integ = 0 ∧
        (t.slot m).region = 0 ∧ (t.slot m).banks = x.banks ∧ (∀ k, k ≠ m → t.slot k = s.slot k) ∧
        t = { s with bus := t.bus, loops := t.loops }) ∧
    (x.en = false → (z.addrUsedOk = false ∨ z.staleN = 0 ∨ z.goodK = 0 ∨ z.banksOk = false) →
      exec (.slotEnable n user m) s = .next { s with bus := {}, loops := { s.loops with
        slots := vset s.loops.slots m { x with cfgErr := true } } }) ∧
    (x.en = true → x.setupOk s.loops.points = true → Result.Is (exec (.slotDisable n user m) s) fun t =>
      (t.slot m).en = false ∧ (t.slot m).st = .off ∧ (t.slot m).out = x.out ∧ (∀ k, k ≠ m → t.slot k = s.slot k) ∧
      (∀ i, (t.outp i).applied = (s.outp i).applied) ∧ t = { s with bus := t.bus, loops := t.loops, gate := t.gate } ∧
      (x.fbSet = false → t.gate = s.gate))) ∧
  (∀ (s : State) (n : Fin 4) (user : Bool) (m : Fin 48) (w : Word), s.may n user .store (slotBase m + 0x0C) →
    exec (.setpointWrite n user m w) s = .next { s with bus := {}, loops := { s.loops with
      slots := vset s.loops.slots m (if s.isInner m then { s.slot m with cfgErr := true } else { s.slot m with sp := w }) } }) ∧
  ∀ (s : State) (n : Fin 4) (user : Bool) (m : Fin 48) (w : Word), s.may n user .store (slotBase m + 0x44) →
    ((s.slot m).en = true → exec (.loopOutWrite n user m w) s = .next { s with bus := {} }) ∧
    ((s.slot m).en = false → exec (.loopOutWrite n user m w) s = .next { s with
      bus := {}, loops := { s.loops with slots := vset s.loops.slots m { s.slot m with out := w } } })

/-- O27. A loop tick: slots not due count down; a good sample runs the law; unreadable feedback tracks or falls back (R268,
R269, R271, R277, R278, R282, R285, R287, R289, R293, R302, R305). Where the spec is silent this states the model's own
choice: log entries 66, 67, 68, 109, 169. -/
def Obligations.LoopTicks : Prop :=
  (∀ (s : State) (refused : Nat) (late : Bool), s.awake = true → s.loops.running = true →
    (∀ m, (s.slot m).st = .off ∨ 1 < (s.slot m).due) → Result.Is (exec (.loopTick refused late) s) fun t =>
      t = { s with loops := { s.loops with slots := t.loops.slots, late := t.loops.late } } ∧
      t.loops.late = (if late then satInc 0xFFFF s.loops.late else s.loops.late) ∧
      ∀ m, t.slot m = (if (s.slot m).st = .off then s.slot m else { s.slot m with due := (s.slot m).due - 1 })) ∧
  (∀ (s : State) (n : Fin 48) (refused : Nat) (y hw : Word) (b m : Fin 4), s.awake = true → s.loops.running = true →
    (∀ k, k ≠ n → (s.slot k).st = .off) → (s.slot n).due ≤ 1 → (s.slot n).st = .closed → (s.slot n).destKind = 0 →
    (s.slot n).destBad = false → (s.slot n).bank = b.val → ((s.slot n).direct = true ∨ (s.slot n).regAddr = 0) →
    s.slotRead n (s.slot n).fbAddr = (some y, s) → s.slotRead n ((s.slot n).fbAddr + 4) = (some hw, s) →
    bit hw 7 = false → bit hw 0 = true → finite y = true → (s.slot n).lastSeq ≠ some (bits hw 31 16) →
    (s.slot n).frzTime = 0 →
    let x := s.slot n
    let take := x.pend && !x.direct
    let banks := if take && coefOk x.stg then vset x.banks b x.stg else x.banks
    let from_ := min x.region x.regions
    (x.direct = false → m.val = if strictly x.bounds && finite x.hys && !F32.lt (f32 x.hys) F32.zero && finite x.reg
      then moveRegion x.bounds (f32 x.hys) (f32 x.reg) from_ else from_) →
    Result.Is (exec (.loopTick refused false) s) fun t =>
      let c := if x.direct then vget banks 0 else vget banks m
      let realign := x.realign || (!x.direct && decide (m.val ≠ x.region)) || (take && coefOk x.stg && decide (x.bank = x.region))
      let k (i : Fin 9) : F32 := f32 (vget c i)
      let r := f32 x.sp
      let h := samplePeriod (s.divider n)
      let e := F32.sub r (f32 y)
      let v := F32.sub (F32.mul (k 5) r) (f32 y)
      let p := F32.mul (k 0) (F32.sub (F32.mul (k 4) r) (f32 y))
      let dPrev := if x.restart then F32.zero else f32 x.dPrev
      let vPrev := if x.restart then v else f32 x.vPrev
      let d := F32.add (F32.mul (F32.div (k 3) (F32.add (k 3) h)) dPrev)
        (F32.mul (F32.div (k 2) (F32.add (k 3) h)) (F32.sub v vPrev))
      let i := if realign then F32.sub (F32.sub (f32 x.uPrev) p) d else f32 x.integ
      let step := if realign then F32.zero else F32.mul (F32.mul (k 1) h) e
      let uRaw := F32.add (F32.add p (F32.add i step)) d
      let u1 := F32.clamp uRaw (k 6) (k 7)
      let sh := F32.mul (k 8) h
      let u := if F32.lt F32.zero (k 8) then F32.clamp u1 (F32.sub (f32 x.uPrev) sh) (F32.add (f32 x.uPrev) sh) else u1
      let wound := (F32.lt u uRaw && F32.lt F32.zero step) || (F32.lt uRaw u && F32.lt step F32.zero)
      let ok := coefOk c && r.isFinite && p.isFinite && d.isFinite && uRaw.isFinite
      (t.slot n).st = .closed ∧ (t.slot n).banks = banks ∧ (x.direct = false → (t.slot n).region = m.val) ∧
      (t.slot n).pend = (x.pend && x.direct) ∧ (t.slot n).commitErr = (x.commitErr || (take && !coefOk x.stg)) ∧
      (t.slot n).due = s.divider n ∧ (t.slot n).usedSeq = x.wseq ∧ (t.slot n).heldOuter = (t.slot n).limited ∧
      (ok = true → (t.slot n).out = u.toBits ∧ (t.slot n).uPrev = u.toBits ∧ (t.slot n).dPrev = d.toBits ∧
        (t.slot n).vPrev = v.toBits ∧ (t.slot n).integ = (F32.add i (if wound then F32.zero else step)).toBits ∧
        (t.slot n).limited = !F32.eq u uRaw ∧ (t.slot n).badCnt = x.badCnt) ∧
      (ok = false → (t.slot n).out = x.uPrev ∧ (t.slot n).uPrev = x.uPrev ∧ (t.slot n).integ = x.integ ∧
        (t.slot n).cause.getLsbD 4 = true ∧ (t.slot n).badCnt = satInc 0xFF x.badCnt) ∧
      t.gate = s.gate ∧ t.sram = s.sram ∧ ∀ j, j ≠ n → t.slot j = s.slot j) ∧
  (∀ T hys z : F32, moveRegion [T] hys z 1 = (if F32.lt z (F32.sub T hys) then 0 else 1) ∧
    (F32.le T z = false → moveRegion [T] hys z 0 = 0) ∧
    (F32.le T z = true → F32.lt z (F32.sub T hys) = false → moveRegion [T] hys z 0 = 1)) ∧
  ∀ (s : State) (n : Fin 48) (refused : Nat), s.awake = true → s.loops.running = true →
    (∀ m, m ≠ n → (s.slot m).st = .off) → (s.slot n).due ≤ 1 →
    (s.slot n).regAddr = 0 → (s.slot n).pend = false → 0 < (s.slot n).goodK → (s.slotRead n (s.slot n).fbAddr).1 = none →
    (s.slot n).destKind = 0 →
    ((s.slot n).st = .track → Result.Is (exec (.loopTick refused false) s) fun t =>
      (t.slot n).st = .track ∧ (t.slot n).heldOuter = true ∧ (t.slot n).goodrun = 0 ∧ (t.slot n).cause.getLsbD 3 = true ∧ (t.slot n).due = s.divider n ∧
      (t.slot n).out = (s.slot n).out ∧ t.gate = s.gate ∧ t.sram.cells = s.sram.cells ∧ (∀ m, m ≠ n → t.slot m = s.slot m)) ∧
    ((s.slot n).st = .closed → (s.slot n).fallback = 0 → Result.Is (exec (.loopTick refused false) s) fun t =>
      (t.slot n).st = .fallback ∧ (t.slot n).cause.getLsbD 3 = true ∧ (t.slot n).faults = satInc 0xFFFF (s.slot n).faults ∧
      (t.slot n).out = (s.slot n).uPrev ∧ t.loops.evt.getLsbD n.val = true ∧ (t.slot n).due = s.divider n ∧
      t.gate = s.gate ∧ t.sram.cells = s.sram.cells ∧ (∀ m, m ≠ n → t.slot m = s.slot m))

/-- O28. The panel's power sequence: ON and OFF, the rails with their faults, the reset's release and the power-down (R624,
R625, R626, R627, R628, R636). Where the spec is silent this states the model's own choice: log entries 106, 107, 116. -/
def Obligations.PanelPower : Prop :=
  (∀ (s : State) (n : Fin 4) (user : Bool), s.may n user .store 0x40090000 →
    (s.panelAllowed = true → s.pnl.on = true ∨ s.pnl.crack = true → exec (.panelOn n user) s = .next { s with bus := {} }) ∧
    (s.panelAllowed = false → exec (.panelOn n user) s = .next { s with bus := {}, pnl := { s.pnl with
      crossing := (s.pnl.crossing.filter fun x => decide (x.1 ≠ 0)) ++ [(0, s.ctrlWith 0)] } }) ∧
    (s.pnl.on = false → s.pnl.crack = false → s.panelAllowed = true → s.pnl.st = .off →
      { s.pnl with inForce := s.pnl.railseq }.nextStep 0 ≠ 3 → s.pnl.railseq ≠ List.replicate 16 0 →
      Result.Is (exec (.panelOn n user) s) fun t =>
        t.pnl = { s.pnl with
          on := true, inForce := s.pnl.railseq, step := t.pnl.step, driven := false, st := .rails, int := s.pnl.int ||| 16 } ∧
        t.pnl.step = { s.pnl with inForce := s.pnl.railseq }.nextStep 0 ∧ t = { s with bus := {}, pnl := t.pnl }) ∧
    (s.panelAllowed = true → s.pnl.on = true → s.pnl.st = .live → s.pnl.timing = true → exec (.panelOff n user) s = .next { s with bus := {}, pnl :=
      { s.pnl with on := false, again := false, lit := false, resync := false, st := .down, int := s.pnl.int ||| 16 } })) ∧
  (∀ (s : State) (r : Fin 3), s.pnl.st = .rails → s.pnl.railOf s.pnl.step = some r →
    (s.pnl.driven = false →
      exec .railStepDelay s = .next { s with pnl := { s.pnl with driven := true, rails := s.pnl.rails ++ [r.val] } }) ∧
    (s.pnl.driven = true → exec (.railGood r) s = .next { s with pnl := { s.pnl with
      good := s.pnl.good ||| BitVec.ofNat 3 (2 ^ r.val), step := s.pnl.nextStep (s.pnl.step + 1), driven := false } }) ∧
    (s.pnl.driven = true → s.pnl.good.getLsbD r.val = false → s.pnl.rails ≠ [] → Result.Is (exec .railTimeout s) fun t =>
      t.pnl = { s.pnl with
        int := s.pnl.int ||| 24, railFlt := true, fltRail := r.val, railFaults := satInc 0xFFFF s.pnl.railFaults, lit := false
        resync := false, again := false, st := .down } ∧
      logs s 0x0901 [BitVec.ofNat 8 r.val, 1] t ∧ t = { s with pnl := t.pnl, wbl := t.wbl, ledger := t.ledger })) ∧
  (∀ (s : State) (r : Fin 3), s.pnl.rails.contains r.val = true → s.pnl.good.getLsbD r.val = true → s.pnl.st = .live →
    Result.Is (exec (.railLost r) s) fun t =>
      t.pnl.good.getLsbD r.val = false ∧ t.pnl.st = .down ∧ t.pnl.lit = false ∧ t.pnl.railFlt = true ∧ t.pnl.fltRail = r.val ∧
      t.pnl.railFaults = satInc 0xFFFF s.pnl.railFaults ∧ logs s 0x0901 [BitVec.ofNat 8 r.val, 2] t ∧
      t = { s with pnl := t.pnl, wbl := t.wbl, ledger := t.ledger }) ∧
  (∀ s : State, s.pnl.st = .rails → s.pnl.step = 3 → Result.Is (exec .panelResetRelease s) fun t =>
    t.pnl.rst = true ∧ t.pnl.timing = true ∧ t.pnl.st = .black ∧ t.pnl.line = 0 ∧ t.pnl.cfg = s.pnl.shadow ∧
    t.pnl.int = s.pnl.int ||| 17 ∧ t = { s with pnl := t.pnl }) ∧
  ∀ s : State, s.pnl.st = .down → s.pnl.timing = false → Result.Is (exec .railOffStep s) fun t =>
    t.pnl.rails = (if s.pnl.rails.dropLast = [] ∧ s.pnl.again = true then [] else s.pnl.rails.dropLast) ∧
    (s.pnl.rails.dropLast ≠ [] → t.pnl.st = .down) ∧ (s.pnl.rails.dropLast = [] → s.pnl.again = false → t.pnl.st = .off) ∧
    t = { s with pnl := t.pnl }

/-- O29. Frames, lines and pixels of the panel, an underrun and its RESYNC, the backlight, and the crack loop (R608, R609,
R610, R612, R614, R617, R621, R622, R623, R636). Where the spec is silent this states the model's own choice: log entries
106, 107, 116. -/
def Obligations.PanelFrames : Prop :=
  (∀ s : State, (s.pnl.timing = false ∨ s.pnl.line < s.pnl.cfg.lines → exec .frameStart s = .next s) ∧
    (s.pnl.timing = false ∨ s.pnl.cfg.lines ≤ s.pnl.line → exec .lineStart s = .next s)) ∧
  (∀ s : State, s.pnl.timing = true → s.pnl.cfg.lines ≤ s.pnl.line → Result.Is (exec .frameStart s) fun t =>
    let o := s.pnl.cfg
    let g := s.pnl.shadow
    let same := o.pclk = g.pclk ∧ o.hact = g.hact ∧ o.vact = g.vact ∧ o.odEn = g.odEn
    t.pnl.cfg = g ∧ t.pnl.band = (if s.panelWarm then s.pnl.bandNext else s.pnl.band) ∧ t.pnl.int.getLsbD 0 = true ∧
    t.pnl.line = 0 ∧ t = { s with pnl := t.pnl } ∧
    (s.pnl.st = .black → same → t.pnl.st = .live ∧ t.pnl.requests = true) ∧
    (s.pnl.st = .live → same → t.pnl.st = .live ∧ t.pnl.fifo = s.pnl.fifo ∧ t.pnl.underruns = s.pnl.underruns) ∧
    (s.pnl.st = .held → same → s.pnl.resync = true → t.pnl.st = .live ∧ t.pnl.requests = true ∧ t.pnl.fifo = []) ∧
    (s.pnl.st = .held → s.pnl.resync = false → t.pnl.st = .held) ∧
    (s.pnl.st = .black ∨ s.pnl.st = .live ∨ s.pnl.st = .held → ¬same → t.pnl.st = .held ∧ t.pnl.requests = false ∧
      t.pnl.fifo = [] ∧ t.pnl.underruns = satInc 0xFFFF s.pnl.underruns ∧ t.pnl.int.getLsbD 1 = true) ∧
    (s.pnl.st = .down → t.pnl.timing = false ∧ t.pnl.rst = false)) ∧
  (∀ s : State, s.pnl.timing = true → s.pnl.line < s.pnl.cfg.lines → Result.Is (exec .lineStart s) fun t =>
    t.pnl.line = s.pnl.line + 1 ∧ t = { s with pnl := t.pnl, carder := t.carder } ∧
    let g := s.pnl.cfg
    let words := if g.odEn then g.hact / 4 else g.hact / 8
    (g.vsw + g.vbp ≤ s.pnl.line → s.pnl.line < g.vsw + g.vbp + g.vact → s.pnl.requests = true → s.pnl.st = .live →
      (s.pnl.fifo.length < words → t.pnl.st = .held ∧ t.pnl.fifo = [] ∧ t.pnl.requests = false ∧
        t.pnl.underruns = satInc 0xFFFF s.pnl.underruns ∧ t.pnl.int.getLsbD 1 = true ∧
        t.pnl.drive = List.replicate g.hact (if g.black15 then 15 else 0)) ∧
      (words ≤ s.pnl.fifo.length → t.pnl.st = .live ∧ t.pnl.fifo = s.pnl.fifo.drop words ∧ t.pnl.underruns = s.pnl.underruns ∧
        (g.odEn = false → t.pnl.drive = (s.pnl.fifo.take words).flatMap fun w =>
          (List.range 8).map fun k => BitVec.ofNat 4 (bits w (4 * k + 3) (4 * k))) ∧
        (g.odEn = true → t.pnl.drive = (s.pnl.fifo.take words).flatMap fun w => (List.range 4).map fun k =>
          let prev := bits w (8 * k + 7) (8 * k + 4)
          let next := bits w (8 * k + 3) (8 * k)
          if prev = next then BitVec.ofNat 4 next
          else (s.pnl.od.getD (s.pnl.band * 256 + prev * 16 + next) 0).setWidth 4)))) ∧
  (∀ (s : State) (n : Fin 4) (user : Bool) (w : Word), s.panelAllowed = false →
    let held (off : Nat) (v : Word) : Result := .next { s with bus := {}, pnl := { s.pnl with
      crossing := (s.pnl.crossing.filter fun x => decide (x.1 ≠ off)) ++ [(off, v)] } }
    (s.may n user .store 0x40090000 → exec (.resync n user) s = held 0 (s.ctrlWith 7) ∧ exec (.crkClr n user) s = held 0 (s.ctrlWith 8)) ∧
    (s.may n user .store 0x40090040 → exec (.pixelWrite n user w) s = held 0x40 w)) ∧
  (∀ (s : State) (n : Fin 4) (user : Bool), s.panelAllowed = true → s.may n user .store 0x40090000 →
    exec (.resync n user) s = .next { s with bus := {}, pnl :=
      if s.pnl.st = .held then { s.pnl with resync := true } else s.pnl } ∧
    (s.pnl.crack = true → s.pnl.crkLow = 10 → Result.Is (exec (.crkClr n user) s) fun t =>
      t.pnl = { s.pnl with crack := false } ∧ logs s 0x0903 [] t ∧
      t = { s with bus := {}, pnl := t.pnl, wbl := t.wbl, ledger := t.ledger }) ∧
    (s.pnl.crkLow ≠ 10 → exec (.crkClr n user) s = .next { s with bus := {} })) ∧
  (∀ (s : State) (n : Fin 4) (user : Bool) (w : Word), s.panelAllowed = true → s.may n user .store 0x40090040 →
    exec (.pixelWrite n user w) s = .next { s with bus := {}, pnl :=
      if s.pnl.fifo.length < 160 then { s.pnl with fifo := s.pnl.fifo ++ [w] } else s.pnl }) ∧
  (∀ s : State, s.pnl.st = .live ∨ s.pnl.st = .held →
    exec .backlightStart s = .next { s with pnl := { s.pnl with lit := true } }) ∧
  ∀ (s : State) (ohms : Nat), s.awake = true → Result.Is (exec (.crackMeasure ohms) s) fun t =>
    t = { s with pnl := t.pnl, wbl := t.wbl, ledger := t.ledger } ∧
    (s.pnl.lim ≠ 0 → s.pnl.lim * 100 < ohms → s.pnl.crkHigh = 2 → s.pnl.crack = false →
      t.pnl.crack = true ∧ t.pnl.lit = false ∧ t.pnl.int.getLsbD 2 = true ∧ (t.pnl.st = .down ∨ t.pnl.st = .off) ∧
      (s.pnl.st ≠ .off → t.pnl.again = false) ∧ logs s 0x0902 (leBytes 2 t.pnl.ohms) t) ∧
    (s.pnl.lim = 0 ∨ ohms ≤ s.pnl.lim * 100 → t.pnl.crkHigh = 0 ∧ t.pnl.crack = s.pnl.crack ∧ t.wbl = s.wbl) ∧
    (ohms % 10 = 0 → ohms < 655360 → t.pnl.ohms = ohms / 10)

/-- O30. An access that no region permits does not take place: the Lodger takes the fault of its kind, recorded and counted
(R35). -/
def Obligations.FenceFaults : Prop :=
  ∀ (s : State) (n : Fin 4) (user : Bool) (addr : Nat), s.lodgerActs n = true →
    let fault (kind : AccessKind) (t : State) : Prop :=
      t.bus = { data := 0, outcome := .error } ∧ (∀ m, m ≠ n → t.lodger m = s.lodger m) ∧
      t.lodger n = { s.lodger n with
        trap := some (match kind with | .load => .load addr | .store => .store addr | .fetch => .fetch addr)
        faultAddr := addr, fenceCnt := satInc 0xFFFF (s.lodger n).fenceCnt } ∧
      t = { s with bus := t.bus, lodgers := t.lodgers }
    (∀ kind, (s.lodger n).permits user kind addr = false → Result.Is (exec (.fenceFault n user kind addr) s) (fault kind)) ∧
    ((s.lodger n).permits user .store addr = false →
      (∀ (size : Nat) (w : Word), (windowOf addr).isSome = true →
        Result.Is (exec (.registerWrite { who := .lodger n user } addr size w) s) (fault .store)) ∧
      ∀ (bs : List Byte) (u : Upset), inWord addr bs.length = true →
        Result.Is (exec (.mainSramWrite { who := .lodger n user } addr bs u) s) (fault .store)) ∧
    ((s.lodger n).permits user .load addr = false →
      (∀ (k : Nat) (u : Upset), inWord addr k = true →
        Result.Is (exec (.mainSramRead { who := .lodger n user } false addr k u) s) (fault .load)) ∧
      ∀ u : Upset, inLedger addr = true → Result.Is (exec (.ledgerRead { who := .lodger n user } addr u) s) (fault .load))

/-- O31. A reserved address, and a narrow or misaligned register access, answers every requester with an error; the fence
count stays (R14, R450, R453, R630, R632, R634, R635). -/
def Obligations.ReservedAccesses : Prop :=
  let lost (kind : AccessKind) (addr size : Nat) : Prop :=
    mapped addr = false ∨ (kind = .fetch ∧ inSram addr = false) ∨ (0x40000000 ≤ addr ∧ (size ≠ 4 ∨ addr % 4 ≠ 0))
  (∀ (s : State) (n : Fin 4) (user : Bool) (kind : AccessKind) (addr size : Nat), s.may n user kind addr →
    (∀ c, (c = .reservedAccess (.lodger n user) kind addr size ∧ lost kind addr size) ∨
        (c = .fenceFault n user kind addr ∧ kind = .fetch ∧ inSram addr = false) →
      exec c s = .next { s with
        bus := { data := 0, outcome := .error }
        lodgers := vset s.lodgers n { s.lodger n with trap := some (trapOf kind addr) } })) ∧
  (∀ (s : State) (who : Requester) (kind : AccessKind) (addr size : Nat), (∀ n user, who ≠ .lodger n user) → s.busUp = true →
    lost kind addr size → (∀ c, who = .carder c → (∀ r ∈ (s.chan c).reads, r.addr ≠ addr) ∧ (s.chan c).dst ≠ addr) →
    exec (.reservedAccess who kind addr size) s = .next { s with bus := { data := 0, outcome := .error } }) ∧
  (∀ (s : State) (c : Fin 24) (addr size : Nat), s.busUp = true → mapped addr = false → (s.chan c).backoff = .none →
    (s.chan c).retry = 0 →
    (∀ r k, (s.chan c).reads = [r] → r.tag = some k → r.failed = false → r.addr = addr → r.got = [] → 0 < r.left →
      Result.Is (exec (.reservedAccess (.carder c) .load addr size) s) fun t =>
        (t.chan c).st = .halted ∧ (t.chan c).errKind = 1 ∧ (t.chan c).errAddr = addr ∧ (t.chan c).reads = [] ∧
        (t.chan c).haltEv = true ∧ (∀ d, d ≠ c → t.chan d = s.chan d) ∧
        t = { s with bus := { data := 0, outcome := .error }, carder := t.carder }) ∧
    (s.canWriteOut c = true → (s.chan c).dst = addr → Result.Is (exec (.reservedAccess (.carder c) .store addr size) s) fun t =>
        (t.chan c).st = .halted ∧ (t.chan c).errKind = 2 ∧ (t.chan c).errAddr = addr ∧ (t.chan c).reads = [] ∧
        (t.chan c).haltEv = true ∧ (∀ d, d ≠ c → t.chan d = s.chan d) ∧
        t = { s with bus := { data := 0, outcome := .error }, carder := t.carder })) ∧
  (∀ (s : State) (n : Fin 4) (user : Bool) (kind : AccessKind) (addr size : Nat), s.may n user kind addr →
    ¬ lost kind addr size → exec (.reservedAccess (.lodger n user) kind addr size) s = .next s) ∧
  ∀ (s : State) (n : Fin 4) (user : Bool) (addr size : Nat) (w : Word), s.may n user .store addr →
    (windowOf addr).isSome = true → size ≠ 4 ∨ addr % 4 ≠ 0 →
    exec (.registerWrite { who := .lodger n user } addr size w) s = .next { s with
      bus := { data := 0, outcome := .error }
      lodgers := vset s.lodgers n { s.lodger n with trap := some (.store addr) } }

/-- O32. A narrow write of main SRAM makes its word written, with zeros in the other bytes of an unwritten word (R128). -/
def Obligations.SramWrites : Prop :=
  ∀ (s : State) (n : Fin 4) (user : Bool) (addr : Nat) (bs : List Byte), s.MemWf → s.may n user .store addr →
    inWord addr bs.length = true → bs.length < 8 → s.sram.state (wordOf addr) ≠ .uncorrectable →
    Result.Is (exec (.mainSramWrite { who := .lodger n user } addr bs .none) s) fun t =>
      (∀ a, Memory.get 0 t.sram.cells a =
        if addr - sramBase ≤ a ∧ a < addr - sramBase + bs.length then bs.getD (a - (addr - sramBase)) 0
        else if a / 8 = wordOf addr ∧ s.sram.state (wordOf addr) = .unwritten then 0 else Memory.get 0 s.sram.cells a) ∧
      t.sram.state (wordOf addr) = .good ∧ wordOf addr ∉ t.sram.singles ∧
      (∀ w, w ≠ wordOf addr → (w ∈ t.sram.tags ↔ w ∈ s.sram.tags)) ∧
      t.bus = { data := 0, outcome := .ok } ∧ t = { s with bus := t.bus, sram := t.sram, mem := t.mem }

/-- O33. A read of a written word with a single-bit error returns the data, writes the word back, counts and records it
(R130). -/
def Obligations.SramCorrects : Prop :=
  ∀ (s : State) (n : Fin 4) (user : Bool) (addr k : Nat) (u : Upset), s.MemWf → s.may n user .load addr → inWord addr k = true →
    k ≤ 4 → s.sram.state (wordOf addr) = .good → u ≠ .double →
    Result.Is (exec (.mainSramRead { who := .lodger n user } false addr k u) s) fun t =>
      t.bus = { data := BitVec.ofNat 32 (leNat (s.sram.bytes addr k)), outcome := .ok } ∧
      t.sram.cells = s.sram.cells ∧ t.sram.tags = s.sram.tags ∧ t.sram.doubles = s.sram.doubles ∧
      wordOf addr ∉ t.sram.singles ∧ t = { s with bus := t.bus, sram := t.sram, mem := t.mem } ∧
      (u = .single ∨ wordOf addr ∈ s.sram.singles →
        t.mem = { s.mem with ceCnt := satInc 0xFFFF s.mem.ceCnt, ce := true, eccAddr := sramBase + 8 * wordOf addr }) ∧
      (u = .none → wordOf addr ∉ s.sram.singles → t = { s with bus := t.bus })

/-- O34. A read of an unwritten or uncorrectable word returns zero and an error, counted and recorded with its requester;
the scrubber (R131, R134, R151, R152, R153, R155). Where the spec is silent this states the model's own choice: log entry
46. -/
def Obligations.SramReadErrors : Prop :=
  (∀ (s : State) (n : Fin 4) (user : Bool) (addr k : Nat), s.may n user .load addr → inWord addr k = true →
    (s.sram.state (wordOf addr) = .unwritten → Result.Is (exec (.mainSramRead { who := .lodger n user } false addr k .none) s) fun t =>
      t.bus = { data := 0, outcome := .error } ∧ t.lodger n = { s.lodger n with trap := some (.load addr) } ∧
      t.mem = { s.mem with unwCnt := satInc 0xFFFF s.mem.unwCnt, unwAddr := sramBase + 8 * wordOf addr, unwKind := n.val, unwId := 0 } ∧
      t = { s with bus := t.bus, mem := t.mem, lodgers := t.lodgers } ∧ ∀ m, m ≠ n → t.lodger m = s.lodger m) ∧
    (s.sram.state (wordOf addr) = .uncorrectable →
      Result.Is (exec (.mainSramRead { who := .lodger n user } false addr k .none) s) fun t =>
        t.bus = { data := 0, outcome := .error } ∧ t.lodger n = { s.lodger n with trap := some (.load addr) } ∧
        t.mem = { s.mem with ueCnt := satInc 0xFF s.mem.ueCnt, ue := true, eccAddr := sramBase + 8 * wordOf addr, ueKind := n.val } ∧
        t = { s with bus := t.bus, mem := t.mem, lodgers := t.lodgers })) ∧
  (∀ (s : State) (n : Fin 4) (user : Bool) (addr : Nat) (bs : List Byte), s.may n user .store addr → inWord addr bs.length = true →
    bs.length < 8 → s.sram.state (wordOf addr) = .uncorrectable →
    Result.Is (exec (.mainSramWrite { who := .lodger n user } addr bs .none) s) fun t =>
      t.bus = { data := 0, outcome := .error } ∧ t.lodger n = { s.lodger n with trap := some (.store addr) } ∧ t.sram = s.sram ∧
      t.mem.ueCnt = satInc 0xFF s.mem.ueCnt ∧ t = { s with bus := t.bus, mem := t.mem, lodgers := t.lodgers }) ∧
  (∀ s : State, s.awake = true → s.mem.scrubEn = true → s.MemWf →
    (s.sram.tags = [] → exec (.scrubStep 0 .none) s = .next s) ∧
    (∀ w, s.sram.nextWritten s.mem.scrubPos = some w → w ∈ s.sram.doubles → exec (.scrubStep 0 .none) s = .next { s with
      mem := { s.mem with
        ueCnt := satInc 0xFF s.mem.ueCnt, ue := true, eccAddr := sramBase + 8 * w, scrubPos := (w + 1) % 65536 } }) ∧
    (∀ w, s.sram.nextWritten s.mem.scrubPos = some w → w ∉ s.sram.doubles → Result.Is (exec (.scrubStep 0 .none) s) fun t =>
      w ∉ t.sram.singles ∧ t.mem.scrubPos = (w + 1) % 65536 ∧ t.sram.cells = s.sram.cells ∧ t.sram.tags = s.sram.tags ∧
      t.mem.ceCnt = (if w ∈ s.sram.singles then satInc 0xFFFF s.mem.ceCnt else s.mem.ceCnt) ∧
      t = { s with sram := t.sram, mem := t.mem })) ∧
  ∀ (s : State) (n : Fin 4) (user : Bool) (addr k refused : Nat), s.may n user .load addr → inWord addr k = true → 64 ≤ refused →
    Result.Is (exec (.mainSramRead { who := .lodger n user, refused := refused } false addr k .none) s) fun t =>
      t.mem.promote = satInc 0xFFFFFFFF s.mem.promote

/-- O35. MEM_CLEAR zeroes the word and clears its tag where the Lodger may write there, else the Lodger takes a store fault
(R154). -/
def Obligations.MemClears : Prop :=
  ∀ (s : State) (n : Fin 4) (user : Bool) (addr : Word) (refused : Nat), s.MemWf → s.may n user .store 0x40003014 →
    ((s.lodger n).permits user .store addr.toNat = true → inSram addr.toNat = true →
      Result.Is (exec (.memClear n user addr refused) s) fun t =>
        (∀ a, Memory.get 0 t.sram.cells a = if a / 8 = wordOf addr.toNat then 0 else Memory.get 0 s.sram.cells a) ∧
        (∀ w, w ∈ t.sram.tags ↔ w ∈ s.sram.tags ∧ w ≠ wordOf addr.toNat) ∧
        wordOf addr.toNat ∉ t.sram.singles ∧ wordOf addr.toNat ∉ t.sram.doubles ∧
        t.bus = { data := 0, outcome := .ok } ∧ t = { s.granted refused with bus := t.bus, sram := t.sram }) ∧
    ((s.lodger n).permits user .store addr.toNat = false → exec (.memClear n user addr refused) s = .next { s.granted refused with
      bus := { data := 0, outcome := .error }
      lodgers := vset s.lodgers n { s.lodger n with trap := some (.store addr.toNat) } })

/-- O36. A Ledger line never written reads as poison: all ones, POISON set, the line recorded, and no fault (R146). -/
def Obligations.LedgerPoison : Prop :=
  ∀ (s : State) (n : Fin 4) (user : Bool) (addr : Nat) (u : Upset), s.may n user .load addr → inLedger addr = true →
    Lines.get s.ledger.lines (ledgerLineOf addr) = none → ledgerLineOf addr ∉ s.ledger.bad →
    exec (.ledgerRead { who := .lodger n user } addr u) s = .next { s with
      bus := { data := 0xFFFFFFFF, outcome := .ok }
      mem := { s.mem with poison := true, poisonLine := (addr - 0x30000000) / 32 } }

/-- O37. The read view of the Ledger, the way of a line into the cells, and a request that waits too long (R141, R143, R148,
R150, R384, R422). Where the spec is silent this states the model's own choice: log entries 48, 58. -/
def Obligations.LedgerAccess : Prop :=
  (∀ (s : State) (n : Fin 4) (user : Bool) (addr : Nat) (d : Line), s.may n user .load addr → inLedger addr = true →
    s.ledger.cell (ledgerLineOf addr) = some d → exec (.ledgerRead { who := .lodger n user } addr .none) s =
      .next { s with bus := { data := BitVec.ofNat 32 (fieldAt d (addr / 4 * 4 % 32) 4), outcome := .ok } }) ∧
  (∀ (s : State) (n : Fin 4) (user : Bool) (addr : Nat), s.may n user .store addr → inLedger addr = true →
    exec (.ledgerViewWrite { who := .lodger n user } addr) s = .next { s with
      bus := { data := 0, outcome := .error }, lodgers := vset s.lodgers n { s.lodger n with trap := some (.store addr) } }) ∧
  (∀ (s : State) (e : BufEntry) (es : List BufEntry), s.ledger.buf = e :: es → s.inkAlive = true →
    s.seals.commit = none →
    (s.windowOpen = false → exec .ledgerLineWritten s = .next s) ∧
    (s.windowOpen = true → Result.Is (exec .ledgerLineWritten s) fun t =>
      Lines.get t.ledger.lines e.line = some (padTo 32 e.data) ∧
      (∀ l, l ≠ e.line → Lines.get t.ledger.lines l = Lines.get s.ledger.lines l) ∧
      (s.ledger.waiting = [] → t.ledger.buf = es) ∧
      (∀ n q since r, e.done = some q → s.wbl.find? q = some r → (s.mbx n).job = .onRecord q since →
        (t.mbx n).busy = false ∧ (t.mbx n).done = true ∧ (t.mbx n).result = 0) ∧
      (∀ n result res0, (s.mbx n).job = .onLine e.line e.data result res0 →
        (t.mbx n).busy = false ∧ (t.mbx n).done = true ∧ (t.mbx n).result = result) ∧
      ((∀ k : Fin 16, e.line ≠ sealHeaderLine k.val) → t = { s with ledger := t.ledger, wbl := t.wbl, lodgers := t.lodgers }) ∧
      ∀ k : Fin 16, e.line = sealHeaderLine k.val → (t.readSeal k.val).headerOk = true → (t.readSeal k.val).broken = false →
        { t.seal k with diff := false } = t.readSeal k.val)) ∧
  (∀ (s : State) (n : Fin 4) (q since : Nat) (r : Rec), (s.mbx n).job = .onRecord q since → s.wbl.find? q = some r →
    s.ledger.waiting.any r.ownsLine = true → Result.Is (exec (.ledgerBufferTimeout n) s) fun t =>
      (t.mbx n).busy = false ∧ (t.mbx n).done = true ∧ (t.mbx n).result = 5 ∧ t.ledger.lines = s.ledger.lines ∧
      (∀ e ∈ t.ledger.waiting ++ t.ledger.buf, r.ownsLine e = false) ∧
      t = { s with draws := t.draws, ledger := t.ledger, wbl := t.wbl, lodgers := t.lodgers }) ∧
  ∀ (s : State) (w : WaitRec) (ws : List WaitRec) (k : Fin 128), s.wbl.waiting = w :: ws → s.wbl.nextFree = some k →
    Result.Is (exec .innkeeperRecordResume s) fun t =>
      t.wbl.waiting = ws ∧ (vget t.wbl.ring k).origin = w.origin ∧ (vget t.wbl.ring k).seq = s.wbl.nextSeq ∧
      (vget t.wbl.ring k).body.kind = w.body.kind ∧ t = { s with ledger := t.ledger, wbl := t.wbl }

/-- O38. A write to a mailbox's command register: ignored with OVERRUN while BUSY is set, taken and posted while it is clear
(R52, R53). Where the spec is silent this states the model's own choice: log entry 53. -/
def Obligations.MailboxPosts : Prop :=
  (∀ (s : State) (n : Fin 4) (user : Bool) (w : Word), s.may n user .store (blockBase n) →
    ((s.mbx n).busy = true → exec (.registerWrite { who := .lodger n user } (blockBase n) 4 w) s = .next { s with
      bus := {}, lodgers := vset s.lodgers n { s.lodger n with mbx := { s.mbx n with overrun := true } } }) ∧
    ((s.mbx n).busy = false → exec (.registerWrite { who := .lodger n user } (blockBase n) 4 w) s = .next { s with
      bus := {}
      lodgers := vset s.lodgers n { s.lodger n with
        mbx := { s.mbx n with cmdSeq := bits w 15 8, cmdCode := bits w 7 0, busy := true, job := .posted } } })) ∧
  ∀ (s : State) (n : Fin 4) (user : Bool) (seq code : Byte) (x : Nat) (keys : List Nat) (args : Vector Word 6)
    (data : Vector Word 5), s.may n user .store (blockBase n) → (s.mbx n).busy = true →
    code.toNat = 0 ∨ 10 < code.toNat →
    ∀ c ∈ [Instr.keyAcquire n user seq x keys, .logAppend n user seq args, .ledgerWrite n user seq x data,
        .deviceReset n user seq x, .throttleComply n user seq, .outJournal n user seq x x, .keyRelease n user seq x,
        .imageStage n user seq x x {}, .imageCommit n user seq x {}, .lodgerRestart n user seq x, .modeRequest n user seq x none,
        .mailboxBadCmd n user seq code],
      Result.Is (exec c s) fun t =>
        t.mbx n = { s.mbx n with args := (t.mbx n).args, overrun := true } ∧ onlyMbx s t n ∧
        t = { s with bus := {}, lodgers := t.lodgers }

/-- O39. The journaled requests, the compliance report, a bad code, and the Innkeeper's turn (R54, R55, R142, R143, R149,
R209, R379, R383). Where the spec is silent this states the model's own choice: log entries 49, 50, 53, 54, 55. -/
def Obligations.MailboxServices : Prop :=
  (∀ (s : State) (n : Fin 4) (user : Bool) (seq : Byte) (i : Fin 30) (target : Nat), s.ready n user → target < 2 ^ 32 →
    (s.outp i).owner = .lodger → ((s.outp i).ownerId = n.val → 8 < s.wbl.freeCount → ∀ k, s.wbl.nextFree = some k →
      Result.Is (exec (.outJournal n user seq i.val target) s) fun t =>
        t.served n seq 0 ∧ (t.outp i).target = (s.outp i).clamp target ∧ (∀ j, j ≠ i → t.outp j = s.outp j) ∧
        (vget t.wbl.ring k).seq = s.wbl.nextSeq ∧ (vget t.wbl.ring k).origin = n.val ∧
        (vget t.wbl.ring k).body = .outTarget i.val ((s.outp i).clamp target) (s.outp i).applied 1 (s.outp i).ownerId ∧
        t.wbl.nextSeq = seqAfter s.wbl.nextSeq ∧ onlyMbx s t n ∧
        t = { s with bus := t.bus, ink := t.ink, lodgers := t.lodgers, gate := t.gate, out := t.out, wbl := t.wbl }) ∧
    ((s.outp i).ownerId = n.val → s.wbl.freeCount ≤ 8 → Result.Is (exec (.outJournal n user seq i.val target) s) fun t =>
      t.served n seq 4 ∧ t.wbl = { s.wbl with refused := satInc 0xFFFF s.wbl.refused } ∧ onlyMbx s t n ∧
      t = { s with bus := t.bus, ink := t.ink, lodgers := t.lodgers, wbl := t.wbl }) ∧
    ((s.outp i).ownerId ≠ n.val → Result.Is (exec (.outJournal n user seq i.val target) s) fun t =>
      t.served n seq 3 ∧ onlyMbx s t n ∧ t = { s with bus := t.bus, ink := t.ink, lodgers := t.lodgers })) ∧
  (∀ (s : State) (n : Fin 4) (user : Bool) (seq : Byte) (index target : Nat), s.ready n user → 30 ≤ index → index < 2 ^ 32 →
    Result.Is (exec (.outJournal n user seq index target) s) fun t =>
      t.served n seq 2 ∧ onlyMbx s t n ∧ t = { s with bus := t.bus, ink := t.ink, lodgers := t.lodgers }) ∧
  (∀ (s : State) (n : Fin 4) (user : Bool) (seq : Byte) (args : Vector Word 6), s.ready n user → s.windowOpen = false →
    Result.Is (exec (.logAppend n user seq args) s) fun t =>
      t.served n seq 7 ∧ onlyMbx s t n ∧ t = { s with bus := t.bus, ink := t.ink, lodgers := t.lodgers }) ∧
  (∀ (s : State) (n : Fin 4) (user : Bool) (seq : Byte) (args : Vector Word 6), s.ready n user → s.windowOpen = true →
    8 < s.wbl.freeCount → ∀ k, s.wbl.nextFree = some k → Result.Is (exec (.logAppend n user seq args) s) fun t =>
      (vget t.wbl.ring k).body = .logEntry s.wbl.logPos 0 (args.toList.flatMap fun w => leBytes 4 w.toNat) ∧
      (vget t.wbl.ring k).origin = n.val ∧ (vget t.wbl.ring k).seq = s.wbl.nextSeq ∧ t.wbl.logPos = (s.wbl.logPos + 1) % 512 ∧
      (t.mbx n).busy = true ∧ (t.mbx n).job = .onRecord s.wbl.nextSeq s.now ∧ onlyMbx s t n ∧ t.ledger.lines = s.ledger.lines ∧
      t = { s with bus := t.bus, ink := t.ink, lodgers := t.lodgers, ledger := t.ledger, wbl := t.wbl }) ∧
  (∀ (s : State) (n : Fin 4) (user : Bool) (seq : Byte) (line : Nat) (data : Vector Word 5), s.ready n user → line < 2 ^ 32 →
    (2047 < line → Result.Is (exec (.ledgerWrite n user seq line data) s) fun t =>
      t.served n seq 2 ∧ onlyMbx s t n ∧ t = { s with bus := t.bus, ink := t.ink, lodgers := t.lodgers }) ∧
    (line ≤ 2047 → s.windowOpen = false → Result.Is (exec (.ledgerWrite n user seq line data) s) fun t =>
      t.served n seq 7 ∧ onlyMbx s t n ∧ t = { s with bus := t.bus, ink := t.ink, lodgers := t.lodgers }) ∧
    (line ≤ 2047 → s.windowOpen = true → 8 < s.wbl.freeCount → ∀ k, s.wbl.nextFree = some k →
      Result.Is (exec (.ledgerWrite n user seq line data) s) fun t =>
        (∃ d, (vget t.wbl.ring k).body = .ledgerLine (2048 + line) d ∧ d.length = 32 ∧
          d.take 20 = data.toList.flatMap fun w => leBytes 4 w.toNat) ∧
        (t.mbx n).busy = true ∧ (t.mbx n).job = .onRecord s.wbl.nextSeq s.now ∧ onlyMbx s t n ∧
        t.ledger.lines = s.ledger.lines ∧
        t = { s with bus := t.bus, ink := t.ink, lodgers := t.lodgers, ledger := t.ledger, wbl := t.wbl })) ∧
  (∀ (s : State) (n : Fin 4) (user : Bool) (seq code : Byte), s.ready n user →
    (Result.Is (exec (.throttleComply n user seq) s) fun t =>
      t.served n seq 0 ∧ onlyMbx s t n ∧
      t.thm = { s.thm with comply := if s.thm.thrReq then s.thm.comply ||| BitVec.ofNat 4 (2 ^ n.val) else s.thm.comply } ∧
      t = { s with bus := t.bus, ink := t.ink, lodgers := t.lodgers, thm := t.thm }) ∧
    (code.toNat = 0 ∨ 10 < code.toNat → Result.Is (exec (.mailboxBadCmd n user seq code) s) fun t =>
      t.served n seq 1 ∧ onlyMbx s t n ∧ t = { s with bus := t.bus, ink := t.ink, lodgers := t.lodgers })) ∧
  (∀ (s : State) (latched : Option Nat) (nor : NorEnv), s.awake = false ∨ (∀ n, (s.mbx n).job ≠ .posted) →
    exec (.mailboxServe latched nor) s = .next s) ∧
  ∀ (s : State) (n : Fin 4) (latched : Option Nat) (nor : NorEnv), s.awake = true → s.ink.mbxNext < 4 →
    (∀ m : Fin 4, (m.val + 4 - s.ink.mbxNext) % 4 < (n.val + 4 - s.ink.mbxNext) % 4 → (s.mbx m).job ≠ .posted) →
    (s.mbx n).job = .posted →
    let done (result : Nat) (t : State) : Prop :=
      t.ink = { s.ink with mbxNext := (n.val + 1) % 4 } ∧ (t.mbx n).busy = false ∧ (t.mbx n).done = true ∧
      (t.mbx n).result = result ∧ (t.mbx n).seq = (s.mbx n).cmdSeq ∧ (t.mbx n).job = .idle ∧ onlyMbx s t n
    ((s.mbx n).cmdCode = 0 ∨ 10 < (s.mbx n).cmdCode → Result.Is (exec (.mailboxServe latched nor) s) fun t =>
      done 1 t ∧ t = { s with ink := t.ink, lodgers := t.lodgers }) ∧
    ((s.mbx n).cmdCode = 6 → Result.Is (exec (.mailboxServe latched nor) s) fun t =>
      done 0 t ∧
      t.thm = { s.thm with comply := if s.thm.thrReq then s.thm.comply ||| BitVec.ofNat 4 (2 ^ n.val) else s.thm.comply } ∧
      t = { s with ink := t.ink, lodgers := t.lodgers, thm := t.thm }) ∧
    ((s.mbx n).cmdCode = 5 → s.mbxArg n 0 ≤ 2047 → s.windowOpen = true → 8 < s.wbl.freeCount → ∀ k, s.wbl.nextFree = some k →
      Result.Is (exec (.mailboxServe latched nor) s) fun t =>
        t.ink = { s.ink with mbxNext := (n.val + 1) % 4 } ∧ (t.mbx n).busy = (s.mbx n).busy ∧
        (t.mbx n).job = .onRecord s.wbl.nextSeq s.now ∧ (vget t.wbl.ring k).origin = n.val ∧
        (∃ d, (vget t.wbl.ring k).body = .ledgerLine (2048 + s.mbxArg n 0) d) ∧ onlyMbx s t n ∧
        t = { s with ink := t.ink, lodgers := t.lodgers, ledger := t.ledger, wbl := t.wbl }) ∧
    ((s.mbx n).cmdCode = 5 → 2047 < s.mbxArg n 0 → Result.Is (exec (.mailboxServe latched nor) s) fun t =>
      done 2 t ∧ t = { s with ink := t.ink, lodgers := t.lodgers }) ∧
    ((s.mbx n).cmdCode = 7 → s.mbxArg n 0 = s.power.mode.code → Result.Is (exec (.mailboxServe latched nor) s) fun t =>
      done 0 t ∧ t = { s with ink := t.ink, lodgers := t.lodgers }) ∧
    ((s.mbx n).cmdCode = 10 → s.mbxArg n 0 = 0xD1E5 → Result.Is (exec (.mailboxServe latched nor) s) (resetTo s 32))

/-- O40. A register written by its address does what its own row of the table does; another width or an odd address takes a
fault (R14, R636, 05_clocks_and_modes, 07_sensing, 10_outputs, 04_memory, 18_inspection_panel). Where the spec is silent
this states the model's own choice: log entries 106, 116, 117. -/
def Obligations.RegisterWrites : Prop :=
  (∀ (s : State) (n : Fin 4) (user : Bool) (w : Word),
    exec (.registerWrite { who := .lodger n user } 0x40001020 4 w) s = exec (.rtcAlarmWrite n user w) s ∧
    (s.blocksClocked = true → exec (.registerWrite { who := .lodger n user } 0x4001024C 4 w) s = exec (.cntClear n user w) s) ∧
    exec (.registerWrite { who := .lodger n user } 0x4004030C 4 w) s = exec (.doClear n user w) s ∧
    (∀ refused, exec (.registerWrite { who := .lodger n user, refused := refused } 0x40003014 4 w) s =
      exec (.memClear n user w refused) s) ∧
    (s.panelAllowed = true →
      exec (.registerWrite { who := .lodger n user } 0x40090040 4 w) s = exec (.pixelWrite n user w) s)) ∧
  (∀ (s : State) (n : Fin 4) (user : Bool) (addr size : Nat) (w : Word), s.may n user .store addr → (windowOf addr).isSome = true →
    size ≠ 4 ∨ addr % 4 ≠ 0 → exec (.registerWrite { who := .lodger n user } addr size w) s = .next { s with
      bus := { data := 0, outcome := .error }, lodgers := vset s.lodgers n { s.lodger n with trap := some (.store addr) } }) ∧
  (∀ (s : State) (who : Requester) (base off : Nat) (w : Word), (∀ n user, who ≠ .lodger n user) → s.busUp = true →
    s.blocksClocked = false → (base, off) ∈ [(0x40010000, 0x8), (0x40020000, 0xC), (0x40030000, 0x1E8), (0x40060000, 0x10),
      (0x40070000, 0x40C)] →
    exec (.registerWrite { who := who } (base + off) 4 w) s = .next { s with bus := {}, power := { s.power with
      crossing := (s.power.crossing.filter fun x => !decide (x.1 = base ∧ x.2.1 = off)) ++ [(base, off, w)] } }) ∧
  (∀ s : State, s.awake = true → s.blocksClocked = true) ∧
  (∀ s : State, s.inkAlive = true → s.live = false → s.blocksClocked = false) ∧
  ∀ (s : State) (n : Fin 4) (user : Bool) (w : Word), s.blocksClocked = true →
    (s.may n user .store 0x40010008 → exec (.registerWrite { who := .lodger n user } 0x40010008 4 w) s = .next { s with
      bus := {}, sns := { s.sns with int := s.sns.int &&& ~~~(w.setWidth 4) } }) ∧
    (s.may n user .store 0x40010000 → Result.Is (exec (.registerWrite { who := .lodger n user } 0x40010000 4 w) s) fun t =>
      5 ≤ t.sns.period ∧ t.sns.period ≤ 100 ∧ 5 ≤ t.sns.nightPeriod ∧ t.sns.nightPeriod ≤ 100 ∧
      t.sns.uiEn = w.getLsbD 0 ∧ t.sns.i2cEn = w.getLsbD 1 ∧ t.sns.fast0 = w.getLsbD 2 ∧ t.sns.fast1 = w.getLsbD 3 ∧
      t = { s with bus := {}, sns := { (if w.getLsbD 0 then s.sns else s.sns.newCycle) with
        period := t.sns.period, nightPeriod := t.sns.nightPeriod, uiEn := t.sns.uiEn, i2cEn := t.sns.i2cEn
        fast0 := t.sns.fast0, fast1 := t.sns.fast1 } })

/-- O41. START, STOP, PAUSE and RESUME of a Carder channel by its owner or another Lodger, and the end of a drain (R430,
R447, R455, R459, R460). Where the spec is silent this states the model's own choice: log entries 81, 83. -/
def Obligations.DmaControl : Prop :=
  (∀ (s : State) (n : Fin 4) (user : Bool) (c : Fin 24), s.may n user .store (chanBase c) → (s.chan c).owner = some n →
    ((s.chan c).st = .idle → s.startRefused c = false → (s.chan c).held = false → Result.Is (exec (.dmaStart n user c) s) fun t =>
      (t.chan c).st = .active ∧ (t.chan c).lost = 0 ∧ (t.chan c).retries = 0 ∧ (t.chan c).errKind = 0 ∧ (t.chan c).descs = 0 ∧
      (t.chan c).readLeft = (s.chan c).beats ∧ (t.chan c).reads = [] ∧ (t.chan c).src = (s.chan c).src ∧
      (t.chan c).dst = (s.chan c).dst ∧ (∀ d, d ≠ c → t.chan d = s.chan d) ∧ t.bus = {} ∧
      t = { s with bus := t.bus, carder := { s.carder with chans := t.carder.chans } }) ∧
    ((s.chan c).st = .idle → s.startRefused c = true → exec (.dmaStart n user c) s = .next { s with bus := {}, carder :=
      { s.carder with chans := vset s.carder.chans c { s.chan c with cfgErr := true } } }) ∧
    ((s.chan c).st = .active → exec (.dmaStart n user c) s = .next { s with bus := {}, carder :=
      { s.carder with chans := vset s.carder.chans c { s.chan c with wrIgn := true } } }) ∧
    ((s.chan c).st = .active → (s.chan c).backoff = .none → exec (.dmaStop n user c) s = .next { s with bus := {}, carder :=
      { s.carder with chans := vset s.carder.chans c { s.chan c with st := .pausing, stopping := true } } }) ∧
    ((s.chan c).st = .idle → exec (.dmaStop n user c) s = .next { s with bus := {} }) ∧
    ((s.chan c).st = .paused → Result.Is (exec (.dmaStop n user c) s) fun t =>
      (t.chan c).st = .idle ∧ (t.chan c).held = false ∧ (t.chan c).holdPause = false ∧ (t.chan c).holdMode = false ∧
      (t.chan c).holdOrphan = false ∧ (∀ d, d ≠ c → t.chan d = s.chan d) ∧
      t = { s with bus := {}, carder := { s.carder with chans := t.carder.chans } }) ∧
    ((s.chan c).st = .done ∨ (s.chan c).st = .halted → exec (.dmaStop n user c) s = .next { s with bus := {}, carder :=
      { s.carder with chans := vset s.carder.chans c { s.chan c with st := .idle, errKind := 0 } } }) ∧
    ((s.chan c).st = .active → (s.chan c).backoff = .none → exec (.dmaPause n user c) s = .next { s with bus := {}, carder :=
      { s.carder with chans := vset s.carder.chans c { s.chan c with holdPause := true, st := .pausing } } }) ∧
    ((s.chan c).st = .paused → (s.chan c).holdMode = false → (s.chan c).holdOrphan = false →
      Result.Is (exec (.dmaResume n user c) s) fun t =>
        (t.chan c).st = .active ∧ (t.chan c).holdPause = false ∧ (t.chan c).readLeft = (s.chan c).beats ∧
        (∀ d, d ≠ c → t.chan d = s.chan d) ∧ t = { s with bus := {}, carder := { s.carder with chans := t.carder.chans } })) ∧
  (∀ (s : State) (n : Fin 4) (user : Bool) (c : Fin 24), s.may n user .store (chanBase c) → (s.chan c).owner ≠ some n →
    exec (.dmaStart n user c) s = .next { s with bus := {}, carder := { s.carder with
      nonOwner := satInc 0xFFFF s.carder.nonOwner
      chans := vset s.carder.chans c { s.chan c with cfgErr := (s.chan c).cfgErr || (s.chan c).owner.isNone } } } ∧
    ∀ i ∈ [Instr.dmaStop n user c, .dmaPause n user c, .dmaResume n user c],
      exec i s = .next { s with bus := {}, carder := { s.carder with nonOwner := satInc 0xFFFF s.carder.nonOwner } }) ∧
  ∀ (s : State) (c : Fin 24), (s.chan c).st = .pausing → (s.chan c).reads = [] →
    exec (.dmaDrainComplete c) s = .next { s with carder := { s.carder with
      chans := vset s.carder.chans c (if (s.chan c).stopping
        then { s.chan c with st := .idle, stopping := false, next := none, blockLeft := 0 }
        else { s.chan c with st := .paused, pauseEv := true, next := none }) } }

/-- O42. The Carder's engines: requests, read transactions, write bursts, descriptors and a retry (R433, R434, R436, R437,
R445, R446, R451, R452, R453). Where the spec is silent this states the model's own choice: log entries 83, 84, 85. -/
def Obligations.DmaEngines : Prop :=
  let stores (s t : State) (addr : Nat) (w : Word) : Prop :=
    (∀ a, Memory.get 0 t.sram.cells a =
      if addr - sramBase ≤ a ∧ a < addr - sramBase + 4 then (leBytes 4 w.toNat).getD (a - (addr - sramBase)) 0
      else if a / 8 = wordOf addr ∧ s.sram.state (wordOf addr) = .unwritten then 0 else Memory.get 0 s.sram.cells a) ∧
    t.sram.state (wordOf addr) = .good ∧ wordOf addr ∉ t.sram.singles ∧
    ∀ v, v ≠ wordOf addr →
      (v ∈ t.sram.tags ↔ v ∈ s.sram.tags) ∧ (v ∈ t.sram.singles ↔ v ∈ s.sram.singles) ∧ (v ∈ t.sram.doubles ↔ v ∈ s.sram.doubles)
  let bursts (s : State) (c : Fin 24) (r : DmaRead) (w : Word) : Prop :=
    s.MemWf ∧ s.live = true ∧ s.pick s.carder.writeOrder s.canWriteOut = some c ∧
    (s.chan c).reads = [r] ∧ r.left = 0 ∧ r.err = none ∧ r.got = [w] ∧ (s.chan c).burstWords = [w] ∧
    inSram (s.chan c).dst = true ∧ (s.chan c).dst % 4 = 0 ∧ s.sram.state (wordOf (s.chan c).dst) ≠ .uncorrectable
  (∀ (s : State) (c : Fin 24), s.live = true → (s.chan c).st = .active → (s.chan c).trig = 1 → (s.chan c).req = true →
    (s.chan c).blockLeft = 0 → (s.chan c).reads = [] → 0 < (s.chan c).readLeft →
    exec (.dmaRequest c) s = .next { s with carder := { s.carder with
      chans := vset s.carder.chans c
        { s.chan c with req := false, blockLeft := min ((s.chan c).reqBlk + 1) (s.chan c).readLeft } } }) ∧
  (∀ (s : State) (c : Fin 24) (k refused : Nat), s.live = true → s.pick s.carder.readOrder s.canIssue = some c →
    s.carder.freeTag = some k → Result.Is (exec (.dmaReadIssue refused) s) fun t =>
      (t.chan c).reads = (s.chan c).reads ++ [{ tag := some k, addr := (s.chan c).issueAddr, left := (s.chan c).issueBeats
                                                inc := (s.chan c).srcInc, se := (s.chan c).sideEffect }] ∧
      (t.chan c).readLeft = (s.chan c).readLeft - (s.chan c).issueBeats ∧ (t.chan c).src = (s.chan c).src ∧
      t.carder.readOrder = toEnd s.carder.readOrder c.val ∧ (∀ d, d ≠ c → t.chan d = s.chan d) ∧
      t.mem.promote = (if 64 ≤ refused then satInc 0xFFFFFFFF s.mem.promote else s.mem.promote) ∧
      t = { s with carder := t.carder, mem := { s.mem with promote := t.mem.promote } }) ∧
  (∀ (s : State) (c : Fin 24) (k : Fin 64) (r : DmaRead), s.live = true → s.tagged k.val = some (c, r) → r.failed = false →
    r.left = 1 → r.got = [] → (s.chan c).reads = [r] → inSram r.addr = true → r.addr % 4 = 0 →
    (s.sram.state (wordOf r.addr) = .good → Result.Is (exec (.dmaReadComplete k .none) s) fun t =>
      (t.chan c).reads = [{ r with
        tag := none, left := 0, got := [BitVec.ofNat 32 (leNat (s.sram.bytes r.addr 4))]
        addr := if r.inc then (r.addr + 4) % 2 ^ 32 else r.addr }] ∧
      (t.chan c).st = (s.chan c).st ∧ t.sram.cells = s.sram.cells ∧
      t = { s with carder := t.carder, sram := t.sram, mem := t.mem }) ∧
    (s.sram.state (wordOf r.addr) = .unwritten → Result.Is (exec (.dmaReadComplete k .none) s) fun t =>
      (t.chan c).st = .halted ∧ (t.chan c).errKind = 3 ∧ (t.chan c).errAddr = r.addr ∧ (t.chan c).haltEv = true ∧
      (t.chan c).reads = [] ∧ t.mem.unwKind = 4 ∧ t.mem.unwId = c.val ∧ t.sram = s.sram ∧
      t = { s with carder := t.carder, mem := t.mem })) ∧
  (∀ (s : State) (c : Fin 24) (w : Word) (r : DmaRead) (refused : Nat), bursts s c r w → 1 ≤ (s.chan c).beats →
    Result.Is (exec (.dmaWriteBurst refused .none none) s) fun t =>
      let h := s.chan c
      let src := if h.srcInc then (h.src + 4) % 2 ^ 32 else h.src
      let dst := if h.dstInc then (h.dst + 4) % 2 ^ 32 else h.dst
      stores s t h.dst w ∧ (t.chan c).reads = [] ∧
      t.carder.writeOrder = toEnd s.carder.writeOrder c.val ∧ (∀ d, d ≠ c → t.chan d = s.chan d) ∧
      t = { s with carder := t.carder, sram := t.sram, mem := t.mem } ∧
      (2 ≤ h.beats → (t.chan c).beats = h.beats - 1 ∧ (t.chan c).dst = dst ∧ (t.chan c).src = src) ∧
      (h.beats = 1 → h.desc = 0 ∨ h.descs = 256 → (t.chan c).beats = 0 ∧ (t.chan c).dst = dst ∧ (t.chan c).src = src ∧
        (t.chan c).st = (if h.stopping then .idle else .done) ∧ (t.chan c).doneEv = true ∧
        (t.chan c).chainEnd = decide (h.desc ≠ 0)) ∧
      (∀ d, h.beats = 1 → h.desc ≠ 0 → h.descs < 256 → h.st = .active → h.next = some d →
        (t.chan c).st = .active ∧ (t.chan c).src = d.src ∧ (t.chan c).dst = d.dst ∧ (t.chan c).desc = d.next ∧
        (t.chan c).beats = d.flags % 65536 ∧ (t.chan c).srcInc = d.flags.testBit 16 ∧ (t.chan c).dstInc = d.flags.testBit 17 ∧
        (t.chan c).se = d.flags.testBit 18 ∧ (t.chan c).irq = d.flags.testBit 19 ∧ (t.chan c).descs = h.descs + 1 ∧
        (t.chan c).next = none)) ∧
  (∀ (s s' : State) (c : Fin 24) (n : Fin 4) (a b d f refused : Nat), s.live = true → (s.chan c).owner = some n →
    (s.chan c).st = .active → (s.chan c).readLeft = 0 → (s.chan c).desc ≠ 0 → (s.chan c).descs < 256 → (s.chan c).next = none →
    (s.chan c).backoff ≠ .read →
    (s.chan c).reads = [] → (s.chan c).beats ≠ 0 → inSram (s.chan c).desc = true → (s.chan c).desc % 16 = 0 →
    s.rangeOk n .load (s.chan c).desc 4 true = true →
    (s.granted refused).descWords (.carder c) 4 (s.chan c).desc [] = ((none, [a, b, d, f]), s') →
    s'.descKind n { src := a, dst := b, next := d, flags := f } = 0 →
    Result.Is (exec (.dmaDescriptorLoad c refused .none) s) fun t =>
      (t.chan c).next = some { src := a, dst := b, next := d, flags := f } ∧ (t.chan c).beats = (s.chan c).beats ∧
      (t.chan c).st = .active ∧ t.sram.cells = s.sram.cells ∧ t = { s with carder := t.carder, sram := t.sram, mem := t.mem }) ∧
  ∀ (s : State) (c : Fin 24) (r : DmaRead) (refused : Nat), s.live = true → (s.chan c).backoff = .read → (s.chan c).reads = [r] → r.failed = true →
    r.left = 1 → r.tag.isSome = true → inSram r.addr = true → r.addr % 4 = 0 → s.sram.state (wordOf r.addr) = .good →
    Result.Is (exec (.dmaRetry c refused) s) fun t =>
      (t.chan c).backoff = .none ∧ (t.chan c).retries = 0 ∧ (t.chan c).reads = [{ r with
        tag := none, failed := false, left := 0, got := r.got ++ [BitVec.ofNat 32 (leNat (s.sram.bytes r.addr 4))]
        addr := if r.inc then (r.addr + 4) % 2 ^ 32 else r.addr }] ∧
      (∀ d, d ≠ c → t.chan d = s.chan d) ∧ t.mem.promote = (s.granted refused).mem.promote ∧
      t = { s with carder := t.carder, sram := t.sram, mem := t.mem }

/-- O43. A diode conversion: THM_TJ, the levels with hysteresis, the windows, and the grace timer's enforcement (R148, R200,
R202, R204, R206, R207, R208, R210, R212, R215, R220, R232). Where the spec is silent this states the model's own choice:
log entries 61, 62, 136, 149. -/
def Obligations.ThermalLevels : Prop :=
  (∀ (s : State) (r : Int), s.thmRuns = true → s.thm.faulty = false → -480 ≤ r → r ≤ 1600 →
    Result.Is (exec (.tjConversion r) s) fun t =>
      let u := s.thm.takeLevels
      let closes := s.power.phase = .flushing ∧ s.thm.ledgerWin = true ∧ t.thm.ledgerWin = false
      let opens := s.power.phase = .flushing ∧ s.thm.ledgerWin = false ∧ t.thm.ledgerWin = true
      t.thm.tj = r ∧ t.thm.source = 0 ∧ t.thm.faulty = false ∧ t.thm.levelNext = none ∧
      t.thm.warn = levelAfter s.thm.warn r u.levels.1 (hysOf u.warnHys) ∧
      t.thm.throttled = levelAfter s.thm.throttled r u.levels.2.1 (hysOf u.throttleHys) ∧
      t.thm.cfgBad = u.levels.2.2.2 ∧
      t.thm.ledgerWin = windowAfter s.thm.ledgerWin r (-240) 920 24 ∧ t.thm.dieWin = windowAfter s.thm.dieWin r (-240) 800 24 ∧
      sramKept s t ∧ t.ledger.lines = s.ledger.lines ∧
      (r < 8 * (u.levels.2.2.1 : Int) ∨ s.power.phase = .tooHot ∨ s.power.phase = .latched →
        t = { s with
          thm := t.thm, wbl := t.wbl, ledger := t.ledger, grd := t.grd, draws := t.draws
          power := { s.power with flushCap := t.power.flushCap } } ∧
        (closes → t.power.flushCap = some (Config.flushedLines s.draws) ∧ t.draws = s.draws + 1) ∧
        (opens → t.power.flushCap = none ∧ t.draws = s.draws) ∧
        (¬ closes → ¬ opens → t.power.flushCap = s.power.flushCap ∧ t.draws = s.draws)) ∧
      (r < 8 * (u.levels.2.1 : Int) → s.thm.throttled = false → s.thm.warn = false → 8 * (u.levels.1 : Int) ≤ r →
        t.thm.int.getLsbD 0 = true ∧ t.grd = s.grd ∧ logs s 0x0201 (leBytes 2 (unsignedOf 16 r)) t) ∧
      (r < 8 * (u.levels.2.2.1 : Int) → 8 * (u.levels.2.1 : Int) ≤ r → s.thm.throttled = false → s.thm.thrReq = false →
        s.awake = true → t.thm.thrReq = true ∧ t.thm.graceRuns = true ∧ t.thm.comply = 0 ∧ t.thm.int.getLsbD 1 = true) ∧
      (s.thm.throttled = true → r < 8 * ((u.levels.2.1 : Int) - hysOf u.throttleHys) →
        t.thm.thrReq = false ∧ t.thm.thrEnf = false ∧ t.thm.comply = 0 ∧ t.thm.graceRuns = false ∧
        t.thm.int.getLsbD 2 = true)) ∧
  ∀ s : State, s.thm.graceRuns = true → s.thm.thrReq = true → Result.Is (exec .graceExpiry s) fun t =>
    t.thm.graceRuns = false ∧ t = { s with thm := t.thm, grd := t.grd } ∧
    ((∀ n : Fin 4, (s.lodger n).run = .running ∨ (s.lodger n).run = .halted → s.thm.comply.getLsbD n.val = true) →
      t = { s with thm := { s.thm with graceRuns := false } }) ∧
    ((∃ n : Fin 4, (s.lodger n).run = .running ∧ s.thm.comply.getLsbD n.val = false) →
      t.thm.thrEnf = true ∧ t.thm.enfCnt = satInc 0xFF s.thm.enfCnt ∧ t.lodgerDivider = max s.lodgerDivider 4)

/-- O44. Sensor faults and what stands in for the reading; thermal shutdown, its halt, and the latch's end (R201, R218,
R219, R221, R222, R223, R224, R225, R226, R227, R229, R501). Where the spec is silent this states the model's own choice:
log entries 61, 62, 168. -/
def Obligations.ThermalFaultsAndShutdown : Prop :=
  let shut (s : State) (cause : Nat) (t : State) : Prop :=
    t.power.phase = .shutdown ∧ t.power.thmLatch = true ∧ t.power.thmLast = cause ∧ t.power.mode = s.power.mode ∧
    t.power.chg = 0 ∧ t.gate.blank = true ∧ t.gate.blankCause = 3 ∧ (∀ i, (t.outp i).applied = 0) ∧
    (∀ n, (t.lodger n).run = .stopped) ∧ sramKept s t ∧ t.ledger.lines = s.ledger.lines ∧ t.boot = s.boot ∧
    t.power.rtc = s.power.rtc ∧ t.power.offWake = false ∧ t.power.flushRuns = false
  (∀ s : State, s.thmRuns = true →
    (∀ low high low2 high2 : Int, s.selftestPass low high = true ∨ s.selftestPass low2 high2 = true ∨ s.thm.selftest = true →
      exec (.selftestStep low high low2 high2) s = .next s) ∧
    (∀ low high low2 high2 : Int, s.selftestPass low high = false → s.selftestPass low2 high2 = false → s.thm.selftest = false →
      Result.Is (exec (.selftestStep low high low2 high2) s) fun t =>
      t.thm = { s.thm with
        selftest := true, faultKind := 2, faultCnt := satInc 0xFF s.thm.faultCnt, int := s.thm.int ||| 8 } ∧
      logs s 0x0203 (leBytes 2 (unsignedOf 16 s.thm.tj) ++ [2]) t ∧
      t = { s with thm := t.thm, wbl := t.wbl, ledger := t.ledger }) ∧
    (s.thm.faulty = true → exec .sensorFaultClear s = .next { s with
      thm := { s.thm with range := false, selftest := false, neighbour := false, int := s.thm.int ||| 8 } }) ∧
    (s.thm.faulty = true → (∀ r : Int, s.thm.takeLevels.levels = (125, 135, 145, false) → s.thm.held < 1160 →
      (s.thm.takeLevels.crossCheck = false → Result.Is (exec (.tjConversion r) s) fun t =>
        t.thm.tj = s.thm.held ∧ t.thm.source = 2 ∧ t.thm.reading = r ∧ t.power = { s.power with flushCap := t.power.flushCap }) ∧
      ∀ e, s.thm.takeLevels.crossCheck = true → s.thm.estimate = some e → e < 1160 → Result.Is (exec (.tjConversion r) s) fun t =>
        t.thm.tj = e ∧ t.thm.source = 1 ∧ t.power = { s.power with flushCap := t.power.flushCap })) ∧
    (∀ r : Int, r < -480 ∨ 1600 < r → s.thm.range = false → Result.Is (exec (.tjConversion r) s) fun t =>
      t.thm.range = true ∧ t.thm.faultKind = 1 ∧ t.thm.faultCnt = satInc 0xFF s.thm.faultCnt ∧
      (s.thm.takeLevels.crossCheck = false → t.thm.tj = s.thm.held ∧ t.thm.source = 2)) ∧
    (∀ l, (s.image.getD {}).neighbours.filterMap s.neighbourTemp = l → Result.Is (exec .neighbourCheck s) fun t =>
      t.thm.estimate = (if l = [] then none else some (openQuotInt (l.foldl (· + ·) 0) (l.length * 2 ^ 146))) ∧
      t = { s with thm := t.thm, wbl := t.wbl, ledger := t.ledger } ∧
      (l = [] → t = { s with thm := { s.thm with estimate := none } }) ∧
      (∀ x, l = [x] → s.thm.neighbour = false →
        (t.thm.neighbour = true ↔ 15 * 2 ^ 149 < (s.thm.reading * 2 ^ 146 - x).natAbs)))) ∧
  (∀ s : State, s.power.phase = .latched →
    exec .fixedShutdownTrip s = .next s ∧ exec .tooHotTimeout s = .next s) ∧
  (∀ s : State, s.thmRuns = true → s.power.phase ≠ .latched →
    Result.Is (exec .fixedShutdownTrip s) (shut s 2) ∧
    (∀ r : Int, s.power.phase ≠ .tooHot → s.thm.faulty = false → -480 ≤ r → r ≤ 1600 →
      8 * (s.thm.takeLevels.levels.2.2.1 : Int) ≤ r → Result.Is (exec (.tjConversion r) s) (shut s 1)) ∧
    (s.thm.faulty = true → (s.thm.crossCheck = false ∨ s.thm.estimate = none) → Result.Is (exec .tooHotTimeout s) (shut s 3)) ∧
    (s.thm.faulty = false ∨ (s.thm.crossCheck = true ∧ s.thm.estimate ≠ none) → exec .tooHotTimeout s = .next s)) ∧
  ∀ s : State,
    (s.power.phase = .shutdown → Result.Is (exec .shutdownHalt s) fun t =>
      t.power = { s.power with phase := .halted, pllLock := 0 } ∧ (∀ c, t.can c = { s.can c with st := .stopped }) ∧
      t = { s with power := t.power, grd := { s.grd with cans := t.grd.cans } }) ∧
    Result.Is (exec .thermalLatchClear s) fun t =>
      t.power.thmLatch = false ∧ t.power.vioOk = false ∧
      (s.power.phase = .shutdown ∨ s.power.phase = .halted ∨ s.power.phase = .latched ∨
        (s.power.phase = .reset ∧ s.power.thmLatch = true) → t.power.phase = .off) ∧
      t = { s with power := t.power }

/-- O45. Gridis transmission: lowest identifier first, delivery, the heartbeat, and a Lodger's transmit mailbox (R383, R476,
R477, R481, R489, R490, R491, R495, R500, R520). Where the spec is silent this states the model's own choice: log entries
15, 86, 87, 91, 113, 155. -/
def Obligations.GridisSending : Prop :=
  (∀ (l : List TxFrame) (u : TxFrame), lowestTx l = some u → u ∈ l ∧ ∀ v ∈ l, u.frame.id ≤ v.frame.id) ∧
  (∀ (s : State) (c : Fin 2) (ticks : Nat), s.canSends c = true →
    (∀ u, lowestTx (s.can c).tx = some u → (s.can c).backlog = [] → (∀ f ∈ (s.can c).fwd, u.frame.id ≤ f.id) →
      Result.Is (exec (.canFrameTransmitted c ticks) s) fun t =>
        (t.can c).txErr = (s.can c).txErr - 1 ∧ (t.can c).sentTs = (s.grd.clock + 2 ^ 32 - ticks % 2 ^ 32) % 2 ^ 32 ∧
        (t.can c).fwd = (s.can c).fwd ∧
        (u.kept = false →
          (t.can c).tx = (((s.can c).tx.erase u).map fun v => { v with frame := v.frame.followTime u.frame (s.grp.clock - ticks / 10) }) ∧
          (¬ (u.frame.cls = 2 ∧ u.frame.field = 0) → (t.can c).tx = (s.can c).tx.erase u) ∧
          (∀ d, d ≠ c → t.can d = s.can d) ∧
          (u.journal = 0 ∨ c ∉ s.named u.journal → t = { s with grd := t.grd } ∧ t.grd.txm = s.grd.txm)) ∧
        (u.kept = true → s.grd.deferred = [] → ∀ d, u ∉ (t.can d).tx) ∧
        (u.journal ≠ 0 → c ∈ s.named u.journal → s.grd.deferred = [] → t.wbl.find? u.journal = none ∧
          ∀ n, u.lodger = some n → (vget t.grd.txm n).delivered = true)) ∧
    (∀ u f, lowestTx (s.can c).tx = some u → lowestFrame (s.can c).fwd = some f → f.id < u.frame.id →
      Result.Is (exec (.canFrameTransmitted c ticks) s) fun t =>
        (t.can c).tx = (s.can c).tx ∧ (t.can c).fwd = (s.can c).fwd.erase f ∧ t = { s with grd := t.grd })) ∧
  (∀ (f g : Frame) (clock : Nat), g.cls = 2 → g.field = 0 → f.cls = 2 → f.field = 2 ^ 14 → f.src = g.src →
    fieldAt f.data 0 1 = g.seq → 16 ≤ f.payload.length →
    let h := f.followTime g clock
    h.payload.take 8 = f.payload.take 8 ∧ h.payload.drop 16 = f.payload.drop 16 ∧
    fieldAt h.data 4 4 = clock / 1000000 % 2 ^ 32 ∧ fieldAt h.data 8 4 = clock % 1000000) ∧
  (∀ s : State, s.keptWait = true → exec .heartbeatSend s = .next s) ∧
  (∀ s : State, s.awake = true → s.grd.started = true → s.power.xtalRc = false → (s.can 0).st = .active → s.grd.bridge = false →
    s.keptWait = false →
    let kept := (s.can 0).tx.filter fun u => !isHeartbeat s.grd.node u.frame
    kept.length < 32 → Result.Is (exec .heartbeatSend s) fun t =>
      (t.can 0).tx = kept ++ [{ frame := s.mkFrame 3 0 (vget s.grd.seqs 3) false none s.heartbeatData }] ∧
      (t.can 0).st = .active ∧ vget t.grd.seqs 3 = (vget s.grd.seqs 3 + 1) % 256 ∧ t = { s with grd := t.grd }) ∧
  (∀ (s : State) (n : Fin 4) (user : Bool) (m : TxMbx) (cls : Fin 8), s.may n user .store (0x40061044 + n.val * 0x100) →
    vget s.grd.txm n = m → bits m.hdr 28 26 = cls.val →
    let dest := if bit m.opt 7 = true then some (bits m.opt 15 8) else none
    let f := s.mkFrame cls.val (bits m.hdr 17 0) (vget s.grd.seqs cls) (bit m.opt 6) dest (m.bytes (bits m.opt 5 0))
    let done (seq result : Nat) : TxMbx := { m with busy := false, done := true, seq := seq, result := result, waiting := none }
    (m.busy = true → exec (.grdTxGo n user) s = .next { s with
      bus := {}, grd := { s.grd with txm := vset s.grd.txm n { m with overrun := true } } }) ∧
    (m.busy = false → (cls.val < 5 ∨ 60 < bits m.opt 5 0 ∨ (bit m.opt 6 = true ∧ 28 < bits m.opt 5 0)) →
      exec (.grdTxGo n user) s = .next { s with bus := {}, grd := { s.grd with txm := vset s.grd.txm n (done m.seq 2) } }) ∧
    (m.busy = false → 5 ≤ cls.val → bits m.opt 5 0 ≤ 60 → bits m.opt 17 16 ≤ 1 →
      (bit m.opt 6 = false → (s.can 0).tx.length < 32 → Result.Is (exec (.grdTxGo n user) s) fun t =>
        (t.can 0).tx = (s.can 0).tx ++ [{ frame := f, lodger := some n }] ∧ t.can 1 = s.can 1 ∧
        vget t.grd.txm n = done (vget s.grd.seqs cls) 0 ∧ vget t.grd.seqs cls = (vget s.grd.seqs cls + 1) % 256 ∧
        t = { s with bus := {}, grd := t.grd }) ∧
      (bit m.opt 6 = false → 32 ≤ (s.can 0).tx.length → Result.Is (exec (.grdTxGo n user) s) fun t =>
        t.grd.cans = s.grd.cans ∧ (vget t.grd.txm n).busy = true ∧
        (vget t.grd.txm n).waiting = some ({ frame := f, lodger := some n }, 1) ∧ t = { s with bus := {}, grd := t.grd }) ∧
      (bit m.opt 6 = true → bits m.opt 5 0 ≤ 28 → s.wbl.freeCount ≤ 8 → exec (.grdTxGo n user) s = .next { s with
        bus := {}, grd := { s.grd with txm := vset s.grd.txm n (done m.seq 4) }
        wbl := { s.wbl with refused := satInc 0xFFFF s.wbl.refused } }) ∧
      (bit m.opt 6 = true → bits m.opt 5 0 ≤ 28 → 8 < s.wbl.freeCount → (s.can 0).tx.length < 32 →
        s.wbl.nextSeq ≠ 0 → s.keptWait = false → ∀ k, s.wbl.nextFree = some k → Result.Is (exec (.grdTxGo n user) s) fun t =>
          (t.can 0).tx = (s.can 0).tx ++ [{ frame := f, journal := s.wbl.nextSeq, lodger := some n }] ∧
          (vget t.wbl.ring k).body = .grdMsg f.id f.payload.length 1 f.payload ∧ (vget t.wbl.ring k).state = .issued ∧
          (vget t.wbl.ring k).seq = s.wbl.nextSeq ∧ (vget t.wbl.ring k).origin = n.val ∧
          vget t.grd.txm n = done (vget s.grd.seqs cls) 0 ∧ t = { s with bus := {}, grd := t.grd, wbl := t.wbl }))) ∧
  ∀ (s : State) (n : Fin 4),
    ((vget s.grd.txm n).waiting = none → exec (.txRequestResume n) s = .next s) ∧
    ∀ u, (vget s.grd.txm n).waiting = some (u, 1) →
      (32 ≤ (s.can 0).tx.length → exec (.txRequestResume n) s = .next s) ∧
      ((s.can 0).tx.length < 32 → u.journal = 0 → Result.Is (exec (.txRequestResume n) s) fun t =>
        (t.can 0).tx = (s.can 0).tx ++ [u] ∧ t.can 1 = s.can 1 ∧
        vget t.grd.txm n = { vget s.grd.txm n with busy := false, done := true, result := 0, waiting := none } ∧
        t = { s with grd := t.grd })

/-- O46. CAN controllers: bus-off with the move of frames, recovery, hold-off, OFF after eight, REEN and bus errors (R192,
R464, R484, R487, R492, R497, R498, R499). Where the spec is silent this states the model's own choice: log entries 87, 91,
92, 112. -/
def Obligations.GridisControllers : Prop :=
  let queued (s : State) (c : Fin 2) : List TxFrame := (s.can c).tx ++ (s.can c).backlog
  let moved (s t : State) (c o : Fin 2) : Prop :=
    (∀ u, (queued t c).count u + (queued t o).count u = (queued s c).count u + (queued s o).count u) ∧
    (∀ u, u ∈ (s.can o).tx → u ∈ (t.can o).tx) ∧ (t.can o).backlog = (s.can o).backlog
  (∀ (s : State) (c : Fin 2) (tr : Bool) (rx : Nat), s.power.xtalRc = true →
    exec (.busOff c) s = .next s ∧ exec (.canBusError c tr rx) s = .next s) ∧
  (∀ (s : State) (c o : Fin 2), o ≠ c → s.power.xtalRc = false → (s.can c).st = .active ∨ (s.can c).st = .passive →
    Result.Is (exec (.busOff c) s) fun t =>
      (t.can c).st = .busoff ∧ (t.can c).busoffCnt = satInc 0xFFFF (s.can c).busoffCnt ∧ t.grd.int = s.grd.int ||| 4 ∧
      t.grd.backup = (s.grd.backup || s.grd.ownTrip) ∧ (t.can o).st = (s.can o).st ∧
      moved s t c o ∧ ((s.can o).tx.length ≤ 32 → (t.can o).tx.length ≤ 32) ∧
      (∀ u ∈ (s.can c).tx, u.pinned = true → u ∈ (t.can c).tx) ∧
      (s.grd.bridge = true ∨ (s.can o).st = .busoff ∨ (s.can o).st = .off →
        (t.can c).tx = (s.can c).tx ∧ (t.can c).backlog = (s.can c).backlog ∧ t.can o = s.can o) ∧ t = { s with grd := t.grd }) ∧
  (∀ (s : State) (c o : Fin 2), o ≠ c → (s.can c).st = .busoff →
    let recent := s.now :: (s.can c).recoveries.filter fun x => decide (s.now < x + 3600000000)
    (recent.length < 8 → exec (.busoffRecoveryComplete c) s = .next { s with grd := { s.grd with
      cans := vset s.grd.cans c { s.can c with st := .recover, recoveries := recent, txErr := 0, rxErr := 0 } } }) ∧
    (8 ≤ recent.length → Result.Is (exec (.busoffRecoveryComplete c) s) fun t =>
      (t.can c).st = .off ∧ t.grd.int = s.grd.int ||| 8 ∧ (t.can o).st = (s.can o).st ∧ moved s t c o ∧
      ((s.can o).tx.length ≤ 32 → (t.can o).tx.length ≤ 32) ∧ (s.grd.bridge = true ∨ (s.can o).st = .busoff ∨ (s.can o).st = .off → t.can o = s.can o) ∧
      logs s 0x0703 (leBytes 1 c.val ++ leBytes 2 (s.can c).busoffCnt) t ∧
      t = { s with grd := t.grd, wbl := t.wbl, ledger := t.ledger })) ∧
  (∀ (s : State) (c o : Fin 2), o ≠ c →
    ((s.can c).st = .recover → (s.can o).st ≠ .busoff → (s.can o).st ≠ .off →
      exec (.holdoffEnd c) s = .next { s with grd := { s.grd with cans := vset s.grd.cans c { s.can c with st := .active } } }) ∧
    ((s.can c).st = .recover → (s.can o).st = .busoff ∨ (s.can o).st = .off → Result.Is (exec (.holdoffEnd c) s) fun t =>
      (t.can c).st = .active ∧ (t.can o).st = (s.can o).st ∧ moved s t o c ∧
      (s.grd.bridge = false → (s.can o).backlog = [] → (∀ u ∈ (s.can o).tx, u.pinned = false) → (s.can o).tx.Nodup →
        (∀ u ∈ (s.can o).tx, u ∉ (s.can c).tx ++ (s.can c).backlog) → (s.can o).tx.length + (s.can c).tx.length ≤ 32 →
        (t.can o).tx = [] ∧ ∀ u ∈ (s.can o).tx, u ∈ (t.can c).tx) ∧
      (s.grd.bridge = true → t.can o = s.can o) ∧ t = { s with grd := t.grd }) ∧
    ((s.can c).st ≠ .recover → exec (.holdoffEnd c) s = .next s) ∧
    ∀ (n : Fin 4) (user : Bool), s.may n user .store (0x40060100 + c.val * 0x100) →
      ((s.can c).st = .off → exec (.reen n user c) s = .next { s with
        bus := {}
        grd := { s.grd with cans := vset s.grd.cans c { s.can c with st := .recover, recoveries := [] } } }) ∧
      ((s.can c).st ≠ .off → exec (.reen n user c) s = .next { s with bus := {} })) ∧
  (∀ (s : State) (c : Fin 2) (rx : Nat), s.power.xtalRc = false → (s.can c).st = .recover →
    exec (.canBusError c true rx) s = .next s ∧ exec (.canBusError c false rx) s = .next { s with grd := { s.grd with
      cans := vset s.grd.cans c { s.can c with rxErr := satAdd 255 (s.can c).rxErr rx } } }) ∧
  ∀ (s : State) (c : Fin 2) (rx : Nat), s.power.xtalRc = false → (s.can c).st = .active ∨ (s.can c).st = .passive →
    (255 < (s.can c).txErr + 8 → Result.Is (exec (.canBusError c true rx) s) fun t =>
      (t.can c).st = .busoff ∧ (t.can c).busoffCnt = satInc 0xFFFF (s.can c).busoffCnt ∧ t.grd.int = s.grd.int ||| 4 ∧
      t = { s with grd := t.grd }) ∧
    ((s.can c).txErr + 8 ≤ 255 → Result.Is (exec (.canBusError c true rx) s) fun t =>
      (t.can c).txErr = satAdd 255 (s.can c).txErr 8 ∧ (t.can c).rxErr = (s.can c).rxErr ∧
      ((t.can c).st = .passive ↔ 127 < (t.can c).txErr ∨ 127 < (t.can c).rxErr) ∧
      (∀ d, d ≠ c → t.can d = s.can d) ∧ t = { s with grd := t.grd }) ∧
    Result.Is (exec (.canBusError c false rx) s) fun t =>
      (t.can c).rxErr = satAdd 255 (s.can c).rxErr rx ∧ (t.can c).txErr = (s.can c).txErr ∧
      ((t.can c).st = .passive ↔ 127 < (t.can c).txErr ∨ 127 < (t.can c).rxErr) ∧ t = { s with grd := t.grd }

/-- O47. Received Gridis frames: what is dropped and counted, forwarded, consumed or queued; members; and Trip (R228, R464,
R474, R478, R479, R482, R483, R485, R486, R487, R493, R494). Where the spec is silent this states the model's own choice:
log entries 87, 89, 90, 92, 121, 155. -/
def Obligations.GridisReceiving : Prop :=
  (∀ (s : State) (c : Fin 2) (f : Frame) (ticks : Nat), s.grouped = true → (s.can c).receives = true →
    let rx (std : Bool) : Instr := .canFrameReceived c std f.id f.fd f.brs f.payload ticks
    let h : State := if s.power.xtalRc then s else { s with grd := { s.grd with cans := vset s.grd.cans c (s.can c).heard } }
    exec (rx true) s = .next { h with grd := { h.grd with std := satInc 0xFF s.grd.std } } ∧
    (f.src ≠ s.grd.node → f.lenOk = false →
      exec (rx false) s = .next { h with grd := { h.grd with lenErr := satInc 0xFF s.grd.lenErr } }) ∧
    (f.src ≠ s.grd.node → f.lenOk = true → f.kindOk = false →
      exec (rx false) s = .next { h with grd := { h.grd with kindErr := satInc 0xFF s.grd.kindErr } }) ∧
    (f.src = s.grd.node → Result.Is (exec (rx false) s) fun t =>
      t.grd = { h.grd with
        clash := true
        lenErr := if f.lenOk then s.grd.lenErr else satInc 0xFF s.grd.lenErr
        kindErr := if f.lenOk && !f.kindOk then satInc 0xFF s.grd.kindErr else s.grd.kindErr } ∧
      logs h 0x0702 (leBytes 1 c.val) t ∧ t = { h with grd := t.grd, wbl := t.wbl, ledger := t.ledger }) ∧
    (f.lenOk = true → f.kindOk = true → f.src ≠ s.grd.node →
      let passes : Prop := (f.addressed = false ∨ f.dest = s.grd.node) ∧
        ∃ x : Fin 16, bit (vget (s.can c).filters x).1 31 = true ∧
          f.id &&& bits (vget (s.can c).filters x).2 28 0 =
            bits (vget (s.can c).filters x).1 28 0 &&& bits (vget (s.can c).filters x).2 28 0
      (s.remembered f.src f.cls f.seq = true →
        exec (rx false) s = .next { h with grd := { h.grd with dup := satInc 0xFFFFFFFF s.grd.dup } }) ∧
      (s.remembered f.src f.cls f.seq = false → 5 ≤ f.cls → Result.Is (exec (rx false) s) fun t =>
        t = { h with grd := t.grd } ∧
        (passes → (s.can c).rx.length < 32 →
          (t.can c).rx = (s.can c).rx ++ [⟨f, (s.grd.clock + 2 ^ 32 - ticks % 2 ^ 32) % 2 ^ 32⟩] ∧ t.remembered f.src f.cls f.seq = true) ∧
        (passes → 32 ≤ (s.can c).rx.length →
          (t.can c).rx = (s.can c).rx ∧ (t.can c).rxOvr = satInc 0xFF (s.can c).rxOvr ∧ t.grd.int.getLsbD 4 = true) ∧
        (¬ passes → (t.can c).rx = (s.can c).rx ∧ (t.can c).rxOvr = (s.can c).rxOvr) ∧
        (s.grd.bridge = false → ¬ passes ∨ 32 ≤ (s.can c).rx.length → t.remembered f.src f.cls f.seq = false) ∧
        (s.grd.bridge = true → t.remembered f.src f.cls f.seq = true ∧ ∀ o : Fin 2, o ≠ c → f.hops < 7 →
          f.origin ≠ (if c = 0 then s.grd.bseg else s.grd.seg) → (s.can o).fwd.length < 64 →
          (t.can o).fwd = (s.can o).fwd ++ [f.hop])))) ∧
  (∀ k : Can,
    (k.rxErr ≤ 127 → k.heard.rxErr = k.rxErr - 1) ∧ (127 < k.rxErr → 119 ≤ k.heard.rxErr ∧ k.heard.rxErr ≤ 127) ∧
    k.heard.st = (if k.st = .passive ∧ k.txErr < 128 then .active else k.st) ∧
    k.heard = { k with rxErr := k.heard.rxErr, st := k.heard.st }) ∧
  (∀ (s : State) (n : Fin 4) (user : Bool) (c : Fin 2) (refused : Nat), s.may n user .load (0x40060444 + c.val * 0x100) →
    Result.Is (exec (.rxFifoPop n user c refused) s) fun t =>
      t.bus.outcome = .ok ∧ (t.can c).rx = (s.can c).rx.drop 1 ∧ (∀ d, d ≠ c → t.can d = s.can d) ∧
      ((s.can c).rx = [] → t.bus.data = 0) ∧ t = { s.granted refused with bus := t.bus, grd := t.grd }) ∧
  (∀ (s : State) (src origin digest version tj flags : Nat), s.grouped = true → src ≠ s.grd.node → s.isIn = false →
    Result.Is (exec (.heartbeat src origin digest version tj flags) s) fun t =>
      let m : Member := { node := src, origin := origin, digest := digest, version := version, tj := signed 16 tj, flags := flags }
      t.member? src = some m ∧ t.freshBeat src = some { m with heardAt := some s.now } ∧
      (s.member? src = none → t.grd.int.getLsbD 1 = true) ∧ (flags % 2 = 1 → t.tripActive = true) ∧
      t.grd.cans = s.grd.cans ∧ t = { s with grd := t.grd }) ∧
  (∀ (s : State) (node seq : Nat), s.grouped = true →
    (∀ i, i = Instr.nodeAbsent node ∨ i = .leaving node →
      ((s.member? node).isSome = true → Result.Is (exec i s) fun t =>
        t.member? node = none ∧ (∀ m, m ≠ node → t.member? m = s.member? m) ∧ t.grd.int = s.grd.int ||| 2 ∧
        t.grd.trips = s.grd.trips ∧ t = { s with grd := t.grd }) ∧
      (s.member? node = none → Result.Is (exec i s) fun t => t = { s with grd := { s.grd with latest := t.grd.latest } })) ∧
    (Result.Is (exec (.leaving node) s) fun t => t.grd.latest = s.grd.latest ∧ ∀ m, t.freshBeat m = s.freshBeat m) ∧
    (Result.Is (exec (.nodeAbsent node) s) fun t => t.freshBeat node = none ∧ ∀ m, m ≠ node → t.freshBeat m = s.freshBeat m) ∧
    Result.Is (exec (.throttleNotice node seq) s) fun t =>
      t.remembered node 3 seq = true ∧ (s.remembered node 3 seq = true → t.grd.dup = satInc 0xFFFFFFFF s.grd.dup) ∧
      t = { s with grd := t.grd } ∧ t.grd = { s.grd with dup := t.grd.dup, dups := t.grd.dups }) ∧
  (∀ (s : State) (src : Nat), s.grouped = true → Marks.wfFrom 0 s.grd.trips = true →
    (∀ raise, Result.Is (exec (.tripFrame src raise) s) fun t =>
      (∀ x, x ∈ t.grd.trips ↔ if x = src then raise = true else x ∈ s.grd.trips) ∧
      (raise = true → t.tripActive = true) ∧ (t.tripActive ≠ s.tripActive → t.grd.int = s.grd.int ||| 1) ∧
      (t.tripActive = s.tripActive → t.grd.int = s.grd.int) ∧ t.gate = s.gate ∧ t = { s with grd := t.grd }) ∧
    ∀ (n : Fin 4) (user : Bool) (node : Byte), s.may n user .store 0x40060014 →
      (s.present node.toNat = true → exec (.tripForget n user node) s = .next { s with bus := {} }) ∧
      (s.present node.toNat = false → Result.Is (exec (.tripForget n user node) s) fun t =>
        (∀ x, x ∈ t.grd.trips ↔ x ≠ node.toNat ∧ x ∈ s.grd.trips) ∧ t = { s with bus := {}, grd := t.grd })) ∧
  (∀ (s : State) (n : Fin 4) (user : Bool), s.may n user .store 0x40060014 →
    (∀ reason : BitVec 16, reason ≠ 0 → (∀ c, (s.can c).tx.length < 32) →
      Result.Is (exec (.tripRaise n user reason) s) fun t =>
        t.grd.ownTrip = true ∧ t.tripActive = true ∧ t.grd.reason = reason.toNat ∧ t.gate = s.gate ∧
        (∀ c, (t.can c).tx = (s.can c).tx ++ [{ frame := s.mkFrame 0 0 (vget s.grd.seqs 0) false none (leBytes 2 reason.toNat) }]) ∧
        ((∃ c, (s.can c).st = .busoff ∨ (s.can c).st = .off) → t.tripPull = true) ∧ t = { s with bus := {}, grd := t.grd }) ∧
    (s.grd.ownTrip = false → exec (.tripClear n user) s = .next { s with bus := {} }) ∧
    (s.grd.ownTrip = true → (∀ c, (s.can c).tx.length < 32) → Result.Is (exec (.tripClear n user) s) fun t =>
      t.grd.ownTrip = false ∧ t.tripPull = false ∧
      (∀ c, (t.can c).tx = (s.can c).tx ++
        [{ frame := s.mkFrame 0 (2 ^ 16) (vget s.grd.seqs 0) false none (leBytes 2 s.grd.reason) }]) ∧
      t = { s with bus := {}, grd := t.grd })) ∧
  ∀ (s : State) (low : Bool), s.awake = true → Result.Is (exec (.tripLineChange low) s) fun t =>
    t.grd.line = low ∧ (low = true → t.tripActive = true) ∧ t = { s with grd := t.grd }

/-- O48. The digest vote, the end of JOINING, the way to APART and back to IN (R508, R509, R510, R511, R512, R513, R517).
Where the spec is silent this states the model's own choice: log entries 93, 114. -/
def Obligations.GroupMembership : Prop :=
  let count (s : State) (d : Nat) : Nat := (s.voters.filter fun m => decide (m.digest = d)).length
  let voted (s t : State) : Prop :=
    (∀ d, t.grp.group = some d → 1 ≤ count s d ∧ s.grp.quorum ≤ count s d ∧
      ∀ x, count s x < count s d ∨ (count s x = count s d ∧ d ≤ x)) ∧
    (t.grp.group = none → ∀ x, count s x < max 1 s.grp.quorum)
  (∀ s : State, s.grouped = true → s.grp.st ≠ .inGroup → Result.Is (exec .voteEvaluation s) fun t =>
    voted s t ∧ t.grp.cause = t.apartCauses ∧ t.grp.st = s.grp.st ∧ t.grp.master = s.findMaster ∧ t.keys = s.keys ∧
    t.gate = s.gate ∧ t = { s with grp := t.grp, wbl := t.wbl, ledger := t.ledger }) ∧
  (∀ s : State, s.grouped = true → s.grp.st = .inGroup → Result.Is (exec .voteEvaluation s) fun t =>
    voted s t ∧ t.sram = s.sram ∧
    (s.countVotes.apartCauses = 0 → t.grp.st = .inGroup ∧ t.grp.cause = 0) ∧
    (s.countVotes.apartCauses ≠ 0 → t.grp.st = .apart ∧ t.grp.cause = s.countVotes.apartCauses ∧
      t.grp.apartCnt = satInc 0xFF s.grp.apartCnt ∧ t.grp.int.getLsbD 0 = true ∧ t.keys.held = [] ∧ t.keys.hosted = [] ∧
      (∀ k, (t.own k).state ≠ .planned) ∧
      ∀ i, (s.outp i).owner = .key → (t.outp i).inRest = true ∧ (t.outp i).causes &&& RestCause.apart.mask ≠ 0)) ∧
  (∀ s : State, s.grouped = true → s.grp.st = .joining → Result.Is (exec .joiningEnd s) fun t =>
    voted s t ∧ t.grp.cause = s.countVotes.apartCauses ∧ t.grp.int.getLsbD 0 = true ∧
    (t.grp.cause = 0 → t.grp.st = .inGroup ∧ t.keys = s.keys ∧
      ∀ i, (s.outp i).owner = .key → (t.outp i).causes &&& RestCause.apart.mask = 0) ∧
    (t.grp.cause ≠ 0 → t.grp.st = .apart ∧ t.keys.held = [])) ∧
  ∀ s : State, s.grouped = true →
    (s.grp.st ≠ .joining → exec .joiningEnd s = .next s) ∧
    (s.grp.st = .apart → s.grp.cause = 0 → Result.Is (exec .apartReturn s) fun t =>
      t.grp.st = .inGroup ∧ t.grp.int.getLsbD 0 = true ∧
      (∀ i, (s.outp i).owner = .key → (t.outp i).causes &&& RestCause.apart.mask = 0) ∧
      (s.book.restore = false → logs s 0x0711 [] t ∧
        t = { s with grp := t.grp, gate := t.gate, wbl := t.wbl, ledger := t.ledger })) ∧
    (s.grp.st ≠ .apart ∨ s.grp.cause ≠ 0 → exec .apartReturn s = .next s)

/-- O49. Group time: the external source, SYNC and FOLLOW sent and received, steps and slews, RTC and its loss (R18, R20,
R516, R518, R519, R520, R521, R522, R525). Where the spec is silent this states the model's own choice: log entries 13, 14,
15, 94, 155. -/
def Obligations.GroupTime : Prop :=
  (∀ (s : State) (n : Fin 4) (user : Bool), s.may n user .store 0x40068038 →
    (s.isMaster = false → exec (.extTimeSet n user) s = .next { s with bus := {}, grp := { s.grp with ext := true } }) ∧
    (s.isMaster = true → Result.Is (exec (.extTimeSet n user) s) fun t =>
      let off : Int := ((s.grp.extS * 1000000 + s.grp.extUs : Nat) : Int) - s.grp.clock
      t.grp.ext = true ∧ t.grp.mext = true ∧ t.keys = s.keys ∧ t.gate = s.gate ∧
      (2000000 ≤ off.natAbs → t.grp.clock = s.grp.extS * 1000000 + s.grp.extUs ∧ t.grp.steps = satInc 0xFFFF s.grp.steps ∧
        t.grp.int.getLsbD 1 = true ∧ t.grp.slewLeft = 0) ∧
      (off.natAbs < 2000000 → t.grp.clock = s.grp.clock ∧ t.grp.slewLeft = off ∧ t = { s with bus := {}, grp := t.grp })) ∧
    Result.Is (exec (.extTimeClear n user) s) fun t => t.grp.ext = false ∧ t = { s with bus := {}, grp := t.grp }) ∧
  (∀ s : State, s.live = true → Result.Is (exec .extValidExpiry s) fun t =>
    t.grp.ext = false ∧ (s.isMaster = true → t.grp.mext = false) ∧ t = { s with grp := t.grp }) ∧
  (∀ (s : State) (q : Nat), s.grouped = true → s.isMaster = true → s.grd.bridge = false → (s.can 0).st = .active →
    (s.can 0).tx.length < 31 → vget s.grd.seqs 2 = q → Result.Is (exec .syncSend s) fun t =>
      (t.can 0).tx = (s.can 0).tx ++
        [{ frame := s.mkFrame 2 0 q false none [] },
         { frame := s.mkFrame 2 (2 ^ 14) ((q + 1) % 256) false none
             (leBytes 1 q ++ leBytes 1 s.followFlags ++ leBytes 1 s.grd.node ++ leBytes 1 0 ++ leBytes 4 s.coachS ++
              leBytes 4 (s.grp.clock % 1000000)) }] ∧
      t = { s with power := t.power, grd := t.grd } ∧ t.grp = s.grp ∧
      (s.grp.onTime = true → s.power.rtc ≠ s.coachS →
        t.power = { s.power with rtc := s.coachS, rtcSet := true }) ∧
      (s.grp.onTime = false ∨ s.power.rtc = s.coachS → t.power = s.power)) ∧
  (∀ (s : State) (src seq hops ticks : Nat), s.grouped = true →
    (hops = 0 → s.grp.source = some src → src ≠ s.grd.node → exec (.sync src seq hops ticks) s = .next { s with
      grp := { s.grp with sync := some ⟨src, seq, s.grp.clock - ticks / 10⟩ } }) ∧
    (hops ≠ 0 ∨ s.grp.source ≠ some src → exec (.sync src seq hops ticks) s = .next s)) ∧
  (∀ (s : State) (src seq hops flags secs micros : Nat), s.grouped = true →
    (s.grp.sync = none ∨ hops ≠ 0 ∨ s.grp.source ≠ some src ∨ (∀ y, s.grp.sync = some y → y.src ≠ src ∨ y.seq ≠ seq) →
      exec (.follow src seq hops flags secs micros) s = .next s) ∧
    ∀ y, s.grp.sync = some y → y.src = src → y.seq = seq → hops = 0 → s.grp.source = some src →
      let off : Int := ((secs * 1000000 + micros : Nat) : Int) - y.clock
      Result.Is (exec (.follow src seq hops flags secs micros) s) fun t =>
        t.grp.sync = none ∧ t.keys = s.keys ∧ t.gate = s.gate ∧
        (off.natAbs < 2000000 → t.grp.offset = off ∧ t.grp.slewLeft = off ∧ t.grp.clock = s.grp.clock ∧
          t = { s with grp := t.grp, power := t.power }) ∧
        (2000000 ≤ off.natAbs → (t.grp.clock : Int) = max 0 ((s.grp.clock : Int) + off) ∧
          t.grp.steps = satInc 0xFFFF s.grp.steps ∧ t.grp.int.getLsbD 1 = true) ∧
        (off.natAbs ≤ 250000 → t.grp.onTime = true ∧ t.grp.goodAt = some s.now ∧
          (s.power.rtc ≠ s.coachS → t.power.rtc = s.coachS ∧ t.power.rtcSet = true)) ∧
        (250000 < off.natAbs → t.grp.goodAt = s.grp.goodAt)) ∧
  (∀ s : State, s.grouped = true → Result.Is (exec .groupTimeLost s) fun t =>
    t.grp.onTime = s.isMaster ∧ (s.grp.onTime ≠ s.isMaster → t.grp.int = s.grp.int ||| 4) ∧
    (s.grp.onTime = s.isMaster → t.grp.int = s.grp.int) ∧ t = { s with grp := t.grp }) ∧
  ∀ (s : State) (n : Fin 4) (user : Bool) (refused : Nat), s.may n user .load 0x40068020 →
    exec (.grpTimeRead n user refused) s = .next { s.granted refused with
      bus := { data := BitVec.ofNat 32 (min (s.timeShown / 1000000) (2 ^ 32 - 1)), outcome := .ok }
      grp := { s.grp with latchedUs := s.timeShown % 1000000 } } ∧
    (s.grp.st ≠ .before → s.timeShown = s.grp.clock) ∧ (s.grp.st = .before → s.timeShown = 0)

/-- O50. The key host: ACQUIRE, RENEW, RELEASE, RECLAIM, WRITE and the end of a lease (R505, R514, R526, R529, R531, R532,
R533, R534, R546, R547). Where the spec is silent this states the model's own choice: log entries 95, 96, 99. -/
def Obligations.KeyHost : Prop :=
  let answers (s t : State) (dest op key epoch lease cause : Nat) : Prop :=
    s.grd.bridge = false → (s.can 0).st = .active → (s.can 0).tx.length < 32 →
      let f := s.mkFrame 1 (op * 2 ^ 14 + key) (vget s.grd.seqs 1) false (some dest) (keyData epoch lease cause 0 0)
      (t.can 0).tx = (s.can 0).tx ++ [{ frame := f }]
  (∀ (s : State) (src key : Nat), s.grouped = true → src ≠ s.grd.node →
    (s.isIn = false ∨ s.nodeApart src = true → Result.Is (exec (.acquire src key) s) fun t =>
      answers s t src 2 key (s.leaseEpoch key) 0 3 ∧ t = { s with grd := t.grd }) ∧
    (s.leaseEpoch key = ((s.keys.epochs.find? fun x => decide (x.1 = key)).map (·.2)).getD 0) ∧
    (s.isIn = true → s.nodeApart src = false → s.hosted? key = none → s.keyEntry key = none → Result.Is (exec (.acquire src key) s) fun t =>
      answers s t src 2 key (s.leaseEpoch key) 0 2 ∧ t = { s with grd := t.grd }) ∧
    (s.isIn = true → s.hosted? key = none → ∀ c, (c = Instr.acquire src key ∧ s.nodeApart src = false ∨ c = .reclaim src key 0 1) →
      ∀ e, s.keyEntry key = some e → e.host = s.grd.node → ∀ i, idx? 30 e.resource = some i →
        Result.Is (exec c s) fun t =>
          let old := s.leaseEpoch key
          let ep := if old < 0xFFFFFFFF then old + 1 else 1
          t.hosted? key = some ⟨key, src, ep, s.now⟩ ∧ (t.outp i).causes &&& RestCause.key.mask = 0 ∧ (t.outp i).stale = false ∧
          (t.outp i).applied = (s.outp i).applied ∧ (∀ j, j ≠ i → t.outp j = s.outp j) ∧ t.keys.held = s.keys.held ∧
          answers s t src 1 key ep e.lease 0 ∧ t = { s with keys := t.keys, gate := t.gate, grd := t.grd })) ∧
  (∀ (s : State) (src key : Nat) (h : HostedKey), s.grouped = true → src ≠ s.grd.node → s.hosted? key = some h →
    (s.isIn = true → s.nodeApart src = false → h.holder ≠ src → Result.Is (exec (.acquire src key) s) fun t =>
      answers s t src 2 key (s.leaseEpoch key) 0 1 ∧ t = { s with grd := t.grd }) ∧
    (s.isIn = true → s.nodeApart src = false → h.holder = src → Result.Is (exec (.acquire src key) s) fun t =>
      t.hosted? key = some { h with since := s.now } ∧
      answers s t src 1 key h.epoch (((s.keyEntry key).map (·.lease)).getD 3000) 0 ∧ t.keys = { s.keys with hosted := t.keys.hosted } ∧
      t = { s with keys := t.keys, grd := t.grd }) ∧
    (∀ epoch, s.isIn = true → s.nodeApart src = false →
      (h.holder = src → h.epoch = epoch → Result.Is (exec (.renew src key epoch) s) fun t =>
        t.hosted? key = some { h with since := s.now } ∧ answers s t src 4 key epoch 0 0 ∧
        t = { s with keys := t.keys, grd := t.grd }) ∧
      (h.holder ≠ src ∨ h.epoch ≠ epoch → Result.Is (exec (.renew src key epoch) s) fun t =>
        answers s t src 2 key (s.leaseEpoch key) 0 5 ∧ t = { s with grd := t.grd })) ∧
    (h.holder = src → (Result.Is (exec (.release src key 0) s) fun t =>
        t.hosted? key = none ∧ answers s t src 6 key (s.leaseEpoch key) 0 0 ∧ (∀ i, (t.outp i).applied = (s.outp i).applied) ∧
        (∀ i, (t.outp i).target = if s.keyOutput key = some i ∧ s.isLive i = true then (s.outp i).applied else (s.outp i).target) ∧
        (s.keyOutput key = none → t = { s with keys := t.keys, grd := t.grd }) ∧
        t = { s with keys := t.keys, gate := t.gate, out := t.out, wbl := t.wbl, grd := t.grd }) ∧
      ∀ cause i, cause ≠ 0 → s.keyOutput key = some i → Result.Is (exec (.release src key cause) s) fun t =>
        t.hosted? key = none ∧ (t.outp i).causes &&& RestCause.key.mask ≠ 0 ∧ (t.outp i).inRest = true ∧
        (s.gate.blank = false → (s.outp i).inRest = false → (t.outp i).applied = (s.outp i).rest) ∧ answers s t src 6 key (s.leaseEpoch key) 0 0) ∧
    (h.holder ≠ src → ∀ cause, Result.Is (exec (.release src key cause) s) fun t =>
      answers s t src 6 key (s.leaseEpoch key) 0 0 ∧ t = { s with grd := t.grd }) ∧
    (s.isIn = true → h.holder ≠ src → Result.Is (exec (.reclaim src key 0 1) s) fun t =>
      answers s t src 2 key (s.leaseEpoch key) 0 1 ∧ t = { s with grd := t.grd }) ∧
    (∀ epoch, epoch ≠ 0 → s.isIn = true → h.holder = src → h.epoch = epoch →
      (s.now ≤ h.since + s.leaseUs key → Result.Is (exec (.reclaim src key epoch 1) s) fun t =>
        t.hosted? key = some { h with since := s.now } ∧ answers s t src 4 key epoch 0 0 ∧
        t = { s with keys := t.keys, grd := t.grd }) ∧
      (h.since + s.leaseUs key < s.now → Result.Is (exec (.reclaim src key epoch 1) s) fun t =>
        t.hosted? key = none ∧ t.keys.expired = satInc 0xFF s.keys.expired ∧
        (s.grd.bridge = false → (s.can 0).st = .active → (s.can 0).tx.length < 31 →
          let q := vget s.grd.seqs 1
          (t.can 0).tx = (s.can 0).tx ++
            [{ frame := s.mkFrame 1 (9 * 2 ^ 14 + key) q false (some src) (keyData epoch 0 0 0 0) },
             { frame := s.mkFrame 1 (2 * 2 ^ 14 + key) ((q + 1) % 256) false (some src)
                 (keyData (s.leaseEpoch key) 0 5 0 0) }]))) ∧
    (∀ epoch value i, s.keyOutput key = some i →
      (h.holder = src → h.epoch = epoch → exec (.keyWriteFrame src key epoch value) s = .next (s.gateWrite (.key key) i value)) ∧
      (h.holder ≠ src ∨ h.epoch ≠ epoch → exec (.keyWriteFrame src key epoch value) s = .next s)) ∧
    ∀ i, s.keyOutput key = some i → h.holder ≠ s.grd.node → Result.Is (exec (.hostLeaseExpiry key) s) fun t =>
      t.hosted? key = none ∧ t.keys.expired = satInc 0xFF s.keys.expired ∧ t.keys.int = s.keys.int ||| 2 ∧
      (t.outp i).inRest = true ∧ (t.outp i).causes &&& RestCause.key.mask ≠ 0 ∧
      answers s t h.holder 9 key h.epoch 0 0) ∧
  ∀ (s : State) (key : Nat), s.grouped = true → s.hosted? key = none →
    exec (.hostLeaseExpiry key) s = .next s ∧
    ∀ src epoch value, exec (.keyWriteFrame src key epoch value) s = .next s

/-- O51. The key holder: acquiring, granted, denied, renewed, released, lost keys, and the writes under a key (R527, R528,
R530, R531, R533, R534). Where the spec is silent this states the model's own choice: log entries 97, 98, 99. -/
def Obligations.KeyHolder : Prop :=
  let asks (s t : State) (dest op key epoch cause value : Nat) : Prop :=
    s.grd.bridge = false → (s.can 0).st = .active → (s.can 0).tx.length < 32 →
      let f := s.mkFrame 1 (op * 2 ^ 14 + key) (vget s.grd.seqs 1) false (some dest) (keyData epoch 0 cause 0 value)
      (t.can 0).tx = (s.can 0).tx ++ [{ frame := f }]
  let finished (t : State) (n : Fin 4) (result : Nat) : Prop :=
    (t.mbx n).busy = false ∧ (t.mbx n).done = true ∧ (t.mbx n).result = result
  let lost (s t : State) (key : Nat) : Prop :=
    t.keys = { s.keys with
      held := s.keys.held.filter (fun h => decide (h.key ≠ key)), lost := satInc 0xFF s.keys.lost, int := s.keys.int ||| 1 } ∧
    t = { s with keys := t.keys, wbl := t.wbl }
  (∀ (s : State) (n : Fin 4) (user : Bool) (seq : Byte), s.ready n user →
    (∀ count keys, count < 2 ^ 32 → count = 0 ∨ 4 < count → Result.Is (exec (.keyAcquire n user seq count keys) s) fun t =>
      t.served n seq 2 ∧ onlyMbx s t n ∧ t = { s with bus := t.bus, ink := t.ink, lodgers := t.lodgers }) ∧
    (∀ key, s.isIn = false → Result.Is (exec (.keyAcquire n user seq 1 [key]) s) fun t =>
      t.served n seq 6 ∧ onlyMbx s t n ∧ t = { s with bus := t.bus, ink := t.ink, lodgers := t.lodgers }) ∧
    (∀ key e k, key < 1024 → s.isIn = true → s.keyEntry key = some e → e.host ≠ s.grd.node → s.keys.held.length < 64 →
      8 < s.wbl.freeCount → s.wbl.nextFree = some k → Result.Is (exec (.keyAcquire n user seq 1 [key]) s) fun t =>
        (t.mbx n).busy = true ∧ (t.mbx n).job = .acquire [key] 0 s.wbl.nextSeq ∧ onlyMbx s t n ∧
        t.keys = { s.keys with steps := s.keys.steps ++
          [{ key := key, host := e.host, op := .acquire, journal := s.wbl.nextSeq, mbx := some n, lodger := n.val }] } ∧
        (vget t.wbl.ring k).body = .keyStep key 1 1 0 0 e.host [key] ∧ (vget t.wbl.ring k).seq = s.wbl.nextSeq ∧
        (vget t.wbl.ring k).state = .issued ∧ asks s t e.host 0 key 0 0 0 ∧
        t = { s with bus := t.bus, ink := t.ink, lodgers := t.lodgers, keys := t.keys, wbl := t.wbl, grd := t.grd }) ∧
    (∀ key, key < 2 ^ 32 → (s.keys.held.find? fun h => decide (h.key = key ∧ h.lodger = n.val)) = none →
      Result.Is (exec (.keyRelease n user seq key) s) fun t =>
        t.served n seq 2 ∧ t = { s with bus := t.bus, ink := t.ink, lodgers := t.lodgers }) ∧
    ∀ key h k, key < 2 ^ 32 → (s.keys.held.find? fun h => decide (h.key = key ∧ h.lodger = n.val)) = some h → h.host ≠ s.grd.node →
      8 < s.wbl.freeCount → s.wbl.nextFree = some k → Result.Is (exec (.keyRelease n user seq key) s) fun t =>
        (t.mbx n).busy = true ∧ (∀ x ∈ t.keys.held, x.key ≠ key) ∧ (vget t.wbl.ring k).state = .issued ∧
        (vget t.wbl.ring k).body = .keyStep key 2 1 0 h.epoch h.host [key] ∧ asks s t h.host 5 key h.epoch 0 0 ∧
        t.keys.steps = s.keys.steps ++ [{ key := key, host := h.host, op := .release, epoch := h.epoch, journal := s.wbl.nextSeq
                                          acq := h.journal, mbx := some n, lodger := h.lodger }]) ∧
  (∀ (s : State) (src key : Nat) (step : KeyStep) (n : Fin 4), s.grouped = true → step.mbx = some n →
    (step.op = .acquire → s.step? StepOp.asks src key = some step → (s.mbx n).job = .acquire [key] 0 step.journal →
      (∀ epoch lease, Result.Is (exec (.grant src key epoch lease) s) fun t =>
        finished t n 0 ∧ t.keys = { s.keys with
          steps := s.keys.steps.erase step
          held := (s.keys.held.filter fun h => decide (h.key ≠ key)) ++ [⟨key, src, epoch, s.now, lease, step.journal, step.lodger⟩] } ∧
        onlyMbx s t n ∧ t = { s with keys := t.keys, wbl := t.wbl, lodgers := t.lodgers }) ∧
      ∀ cause, Result.Is (exec (.deny src key cause) s) fun t =>
        finished t n 3 ∧ t.keys = { s.keys with steps := s.keys.steps.erase step } ∧ t.grd = s.grd ∧ t.gate = s.gate) ∧
    (step.op = .release → s.step? StepOp.returns src key = some step → Result.Is (exec (.released src key) s) fun t =>
      finished t n 0 ∧ t.keys = { s.keys with steps := s.keys.steps.erase step } ∧ t.gate = s.gate) ∧
    ((s.keys.steps.find? fun x => decide (x.key = key)) = some step → step.host ≠ s.grd.node →
      (step.repeats < 3 → step.op = .acquire → Result.Is (exec (.keyAnswerTimeout key) s) fun t =>
        t.keys.steps = (s.keys.steps.map fun u => if u = step then { u with repeats := u.repeats + 1 } else u) ∧
        asks s t step.host 0 key 0 0 0 ∧ t = { s with keys := t.keys, grd := t.grd }) ∧
      (3 ≤ step.repeats → step.op = .acquire → (s.mbx n).job = .acquire [key] 0 step.journal →
        Result.Is (exec (.keyAnswerTimeout key) s) fun t =>
          finished t n 5 ∧ t.keys = { s.keys with steps := s.keys.steps.erase step }))) ∧
  (∀ (s : State) (key : Nat) (h : HeldKey), s.grouped = true → (s.keys.held.find? fun h => decide (h.key = key)) = some h →
    Result.Is (exec (.holderLeaseExpiry key) s) (lost s · key) ∧ Result.Is (exec (.expired h.host key) s) (lost s · key) ∧
    (∀ src, src ≠ h.host → exec (.expired src key) s = .next s) ∧
    (s.step? (fun _ => true) h.host key = none →
      (∀ cause, Result.Is (exec (.deny h.host key cause) s) (lost s · key)) ∧
      ∀ epoch, exec (.renewed h.host key epoch) s = .next { s with keys := { s.keys with
        held := s.keys.held.map fun x =>
          if x.key = key ∧ x.host = h.host ∧ x.epoch = epoch then { x with since := s.now } else x } }) ∧
    (h.host ≠ s.grd.node → Result.Is (exec (.renewDue key) s) fun t => asks s t h.host 3 key h.epoch 0 0 ∧ t = { s with grd := t.grd })) ∧
  ∀ (s : State) (n m : Fin 4) (user : Bool) (w : Word),
    (s.may n user .store (0x40068120 + m.val * 8) →
      ((s.keys.held.find? fun h => decide (h.key = bits w 9 0 ∧ h.lodger = n.val)) = none → exec (.keyWriteCmd n user m w) s = .next { s with
        bus := {}, keys := { s.keys with wrResult := vset s.keys.wrResult m 2 } }) ∧
      ∀ h, (s.keys.held.find? fun h => decide (h.key = bits w 9 0 ∧ h.lodger = n.val)) = some h → h.host ≠ s.grd.node → bit w 15 = false →
        Result.Is (exec (.keyWriteCmd n user m w) s) fun t =>
          t.keys = { s.keys with wrResult := vset s.keys.wrResult m 0 } ∧
          asks s t h.host 8 (bits w 9 0) h.epoch 0 (bits w 31 16) ∧ t = { s with bus := {}, keys := t.keys, grd := t.grd }) ∧
    (s.may n user .store 0x40068104 → exec (.keyQuery n user w) s = .next { s with
      bus := {}, keys := { s.keys with query := bits w 9 0 } })

/-- O52. Own bookings: MAKE with its refusals, WITHDRAW and END, the repeat, START and the end of DURATION (R383, R536,
R537, R538, R539, R540, R541, R551). Where the spec is silent this states the model's own choice: log entry 100. -/
def Obligations.OwnBookings : Prop :=
  let put (s t : State) (k : Fin 32) (b : Booking) : Prop := t.book.own = vset s.book.own k b
  let queued (s t : State) (kind : Nat) (k : Fin 32) (b : Booking) : Prop :=
    s.grd.bridge = false → (s.can 0).st = .active → (s.can 0).tx.length < 32 →
      let f := s.mkFrame 4 (kind * 2 ^ 14 + k.val) (vget s.grd.seqs 4) false none (b.data 0)
      (t.can 0).tx = (s.can 0).tx ++ [{ frame := f }]
  (∀ (s : State) (n m : Fin 4) (user : Bool), s.may n user .store (bookBase m + 0x10) →
    let x := vget s.book.mbx m
    let answered (r : Nat) : State := { s with bus := {}, book := { s.book with mbx := vset s.book.mbx m { x with result := r } } }
    (s.isIn = false → exec (.bookMake n user m) s = .next (answered 4)) ∧
    (s.isIn = true → s.grp.onTime = false → exec (.bookMake n user m) s = .next (answered 3)) ∧
    (∀ r, s.makeRefused x = some r → exec (.bookMake n user m) s = .next (answered r)) ∧
    (s.makeRefused x = none → s.isIn = true ∧ s.grp.onTime = true ∧ (∃ c, s.bookClass (bits x.dur 21 16) = some c ∧
        (c.maxDur = 0 ∨ bits x.dur 15 0 ≤ c.maxDur) ∧ (c.needsKey = true → (s.keyEntry x.key).isSome = true)) ∧
      s.grp.clock + 10000000 ≤ x.start.toNat * 1000000 ∧ x.start.toNat * 1000000 ≤ s.grp.clock + 7200000000 ∧
      0 < bits x.dur 15 0 ∧ s.freeSlot.isSome = true) ∧
    (s.makeRefused x = none → s.wbl.freeCount ≤ 8 → Result.Is (exec (.bookMake n user m) s) fun t =>
      t.book = { s.book with mbx := vset s.book.mbx m { x with result := 6 } } ∧ t.grd = s.grd ∧
      t.wbl = { s.wbl with refused := satInc 0xFFFF s.wbl.refused } ∧ t = { s with bus := {}, book := t.book, wbl := t.wbl }) ∧
    (∀ k j, s.makeRefused x = none → s.freeSlot = some k → 8 < s.wbl.freeCount → s.wbl.nextFree = some j →
      Result.Is (exec (.bookMake n user m) s) fun t =>
        let b : Booking :=
          { node := s.grd.node, slot := k.val, state := .planned, bkind := bits x.dur 21 16, start := x.start.toNat
            serial := if (s.own k).serial < 65535 then (s.own k).serial + 1 else 1, duration := bits x.dur 15 0, key := x.key
            value := x.value, made := s.coachS, changed := s.coachS }
        put s t k b ∧ t.book.int = s.book.int ||| 1 ∧ vget t.book.mbx m = { x with slot := k.val, result := 0 } ∧
        t.book.tracked = s.book.tracked ∧
        (let f := s.mkFrame 4 k.val (vget s.grd.seqs 4) true none (b.data 0)
         (vget t.wbl.ring j).body = .grdMsg f.id f.payload.length (ctrlOf s.routes) f.payload ∧
         (s.grd.bridge = false → (s.can 0).st = .active → (s.can 0).tx.length < 32 → s.keptWait = false →
           (t.can 0).tx = (s.can 0).tx ++ [{ frame := f, journal := s.wbl.nextSeq }]) ∧
         (s.keptWait = true → t.grd.deferred = s.grd.deferred ++ [(s.routes, { frame := f, journal := s.wbl.nextSeq })])) ∧
        t = { s with bus := {}, book := t.book, wbl := t.wbl, grd := t.grd }) ∧
    ∀ k : Fin 32, ∀ i ∈ [Instr.bookWithdraw n user m k, .bookEnd n user m k], Result.Is (exec i s) fun t =>
      t = { s with bus := {}, book := t.book, wbl := t.wbl, ledger := t.ledger, grd := t.grd } ∧
      t.ledger.lines = s.ledger.lines ∧
      ((s.own k).state = .planned → s.wbl.freeCount ≤ 8 → t.grd = s.grd ∧
        t.book = { s.book with mbx := vset s.book.mbx m { x with slot := k.val, result := 6 } } ∧
        t.wbl = { s.wbl with refused := satInc 0xFFFF s.wbl.refused }) ∧
      (∀ j, (s.own k).state = .planned → 8 < s.wbl.freeCount → s.wbl.nextFree = some j →
        let b : Booking := { s.own k with state := .withdrawn, cause := 0, changed := s.coachS }
        put s t k b ∧ vget t.book.mbx m = { x with slot := k.val, result := 0 } ∧
        (s.grd.bridge = false → (s.can 0).st = .active → (s.can 0).tx.length < 32 → s.keptWait = false →
          (t.can 0).tx = (s.can 0).tx ++ [{ frame := s.mkFrame 4 (2 * 2 ^ 14 + k.val) (vget s.grd.seqs 4) true none (b.data 0)
                                            journal := s.wbl.nextSeq }])) ∧
      ((s.own k).state = .confirmed → put s t k { s.own k with state := .ended, changed := s.coachS } ∧
        vget t.book.mbx m = { x with slot := k.val, result := 0 } ∧
        queued s t 3 k { s.own k with state := .ended, changed := s.coachS }) ∧
      ((s.own k).state ≠ .planned → (s.own k).state ≠ .confirmed →
        t.book = { s.book with mbx := vset s.book.mbx m { x with slot := k.val, result := 7 } } ∧ t.grd = s.grd)) ∧
  ∀ (s : State) (k : Fin 32), s.grouped = true →
    (s.book.restore = false → (s.own k).state = .planned →
      Result.Is (exec (.announceRepeat k) s) fun t => queued s t 0 k (s.own k) ∧ t = { s with grd := t.grd }) ∧
    (s.book.restore = true ∨ (s.own k).state ≠ .planned → exec (.announceRepeat k) s = .next s) ∧
    ((s.own k).state ≠ .planned → exec (.bookingStartDue k) s = .next s) ∧
    ((s.own k).state = .planned → Result.Is (exec (.bookingStartDue k) s) fun t =>
      t = { s with book := t.book, wbl := t.wbl, ledger := t.ledger, grd := t.grd } ∧
      (s.isIn = true → s.grp.onTime = true →
        put s t k { s.own k with state := .confirmed, changed := s.coachS } ∧ t.book.int = s.book.int ||| 2) ∧
      (s.isIn = false → put s t k { s.own k with state := .withdrawn, cause := 2, changed := s.coachS } ∧
        t.book.int = s.book.int ||| 16) ∧
      (s.isIn = true → s.grp.onTime = false → put s t k { s.own k with state := .withdrawn, cause := 1, changed := s.coachS } ∧
        t.book.int = s.book.int ||| 16)) ∧
    ((s.own k).state = .confirmed → Result.Is (exec (.bookingDurationEnd k) s) fun t =>
      put s t k { s.own k with state := .ended, changed := s.coachS } ∧
      queued s t 3 k { s.own k with state := .ended, changed := s.coachS } ∧ t = { s with book := t.book, grd := t.grd }) ∧
    ((s.own k).state ≠ .confirmed → exec (.bookingDurationEnd k) s = .next s)

/-- O53. Tracked bookings: frames of other nodes, lapse and end, the full table, and the read of a record (R512, R514, R542,
R544, R553). Where the spec is silent this states the model's own choice: log entry 100. -/
def Obligations.TrackedBookings : Prop :=
  (∀ (s : State) (src slot : Nat) (d : List Byte), s.grouped = true →
    let b := Booking.ofData src slot d
    let frames : List Instr := [.announce src slot d, .confirm src slot d, .withdraw src slot d, .bookFrameEnd src slot d]
    let new (st : BookState) : Booking := { b with state := st, cause := 0, changed := s.coachS, entered := s.coachS }
    (s.isIn = false ∨ s.nodeApart src = true → ∀ i ∈ frames, exec i s = .next s) ∧
    (s.isIn = true → s.nodeApart src = false →
      (s.book.tracked.findIdx? (sameBooking b) = none →
        exec (.withdraw src slot d) s = .next s ∧ exec (.bookFrameEnd src slot d) s = .next s ∧
        (s.book.tracked.length < 256 →
          exec (.announce src slot d) s = .next { s with book := { s.book with
            tracked := s.book.tracked ++ [new .planned], int := s.book.int ||| 4 } } ∧
          exec (.confirm src slot d) s = .next { s with book := { s.book with
            tracked := s.book.tracked ++ [new .confirmed], int := s.book.int ||| 4 } }) ∧
        (256 ≤ s.book.tracked.length → s.retireIdx = none →
          exec (.announce src slot d) s = .next { s with book := { s.book with drop := satInc 0xFF s.book.drop } }) ∧
        (∀ i, 256 ≤ s.book.tracked.length → s.retireIdx = some i →
          exec (.announce src slot d) s = .next { s with book := { s.book with
            tracked := lmod s.book.tracked i fun _ => new .planned, retired := satInc 0xFF s.book.retired
            int := s.book.int ||| 4 } })) ∧
      ∀ k old, s.book.tracked.findIdx? (sameBooking b) = some k → s.book.tracked[k]? = some old →
        (old.state = .planned → exec (.withdraw src slot d) s = .next { s with book := { s.book with
          tracked := lmod s.book.tracked k fun _ => { old with state := .withdrawn, cause := b.cause, changed := s.coachS, entered := s.coachS }
          int := s.book.int ||| 4 ||| 8 } }) ∧
        (old.state = .planned → exec (.confirm src slot d) s = .next { s with book := { s.book with
          tracked := lmod s.book.tracked k fun _ => { old with state := .confirmed, cause := 0, changed := s.coachS, entered := s.coachS }
          int := s.book.int ||| 4 } }) ∧
        (old.state = .confirmed → exec (.bookFrameEnd src slot d) s = .next { s with book := { s.book with
          tracked := lmod s.book.tracked k fun _ => { old with state := .ended, cause := 0, changed := s.coachS, entered := s.coachS }
          int := s.book.int ||| 4 } }))) ∧
  (∀ (s : State) (k : Nat) (b : Booking), s.grouped = true → s.book.tracked[k]? = some b →
    (b.state = .planned → exec (.trackedLapse k) s = .next { s with book := { s.book with
      tracked := lmod s.book.tracked k fun _ => { b with state := .lapsed, changed := s.coachS, entered := s.coachS }, int := s.book.int ||| 4 } }) ∧
    (b.state ≠ .planned → exec (.trackedLapse k) s = .next s) ∧
    (b.state = .confirmed → exec (.trackedDurationEnd k) s = .next { s with book := { s.book with
      tracked := lmod s.book.tracked k fun _ => { b with state := .ended, changed := s.coachS, entered := s.coachS }, int := s.book.int ||| 4 } }) ∧
    (b.state ≠ .confirmed → exec (.trackedDurationEnd k) s = .next s)) ∧
  (∀ (s : State) (n : Fin 4) (user : Bool) (i : Fin 32) (refused : Nat), s.may n user .load (0x40069000 + i.val * 0x20) →
    s.bookHold (0x1000 + i.val * 0x20) = none → Result.Is (exec (.bookingRecordRead n user true i.val refused) s) fun t =>
      t.bus = { data := (s.own i).words.getD 0 0, outcome := .ok } ∧
      t.bookHold (0x1000 + i.val * 0x20) = some ⟨0x1000 + i.val * 0x20, (s.own i).words, s.now⟩ ∧
      t = { s.granted refused with bus := t.bus, book := t.book } ∧ t.book = { s.book with holds := t.book.holds }) ∧
  ∀ (s : State) (n : Fin 4) (user : Bool) (i refused : Nat), i < 256 → s.may n user .load (0x4006A000 + i * 0x20) →
    s.bookHold (0x2000 + i * 0x20) = none → Result.Is (exec (.bookingRecordRead n user false i refused) s) fun t =>
      t.bus = { data := ((s.book.tracked[i]?).getD {}).words.getD 0 0, outcome := .ok } ∧
      t.bookHold (0x2000 + i * 0x20) = some ⟨0x2000 + i * 0x20, ((s.book.tracked[i]?).getD {}).words, s.now⟩ ∧
      t = { s.granted refused with bus := t.bus, book := t.book } ∧ t.book = { s.book with holds := t.book.holds }

/-- O54. A serial port receives: start bit, decoded character, errors, overrun, IDLE, polarity, RXD and the flush (R556,
R557, R558, R560, R561, R562, R564, R566, R567, R573). Where the spec is silent this states the model's own choice: log
entry 101. -/
def Obligations.SerialReceive : Prop :=
  let only (s : State) (k : Fin 3) (t : State) : Prop := (∀ j, j ≠ k → t.uart j = s.uart j) ∧ t = { s with uarts := t.uarts }
  (∀ (c : UartCfg) (b : Byte) (inv : Bool), c.data8 = true → c.parity = 0 → c.stop2 = false →
    c.decode inv ((inv, inv, inv) :: ((List.range 8).map fun i => let v := b.getLsbD i != inv; (v, v, v)) ++ [(!inv, !inv, !inv)]) =
      { gap := 0, brk := false, noise := false, fe := false, pe := false, data := b.toNat }) ∧
  (∀ (c : UartCfg) (inv : Bool) (x : Bool × Bool × Bool) (smp : List (Bool × Bool × Bool)),
    ¬ (x.1 = x.2.1 ∧ x.2.1 = x.2.2) → (c.decode inv (x :: smp)).noise = true) ∧
  (∀ (s : State) (k : Fin 3) (silence : Nat), s.awake = true → (s.uart k).rxOn = true → (s.uart k).busy = none →
    let gap := if (s.uart k).first then 4095 else min 4095 (silence / (s.uart k).rxCfg.div)
    Result.Is (exec (.uartStartBit k silence) s) fun t =>
      ((s.uart k).rxEn = true → (s.uart k).de = false ∨ (s.uart k).rxWhileTx = true →
        t.uart k = { s.uart k with busy := some { gap := gap, discard := false }, idle := false, quiet := false }) ∧
      ((s.uart k).rxEn = false ∨ ((s.uart k).de = true ∧ (s.uart k).rxWhileTx = false) →
        t.uart k = { s.uart k with busy := some { gap := gap, discard := true } }) ∧ only s k t) ∧
  (∀ (s : State) (k : Fin 3) (smp : List (Bool × Bool × Bool)) (b : UartRx), s.awake = true → (s.uart k).busy = some b →
    let x : UartChar := { (s.uart k).rxCfg.decode (s.uart k).invRx smp with gap := b.gap }
    let y := (s.uart k).rxCfg.decode (!(s.uart k).invRx) smp
    Result.Is (exec (.uartCharacterReceived k smp) s) fun t =>
      (t.uart k).busy = none ∧ only s k t ∧
      (b.discard = true → (t.uart k).rx = (s.uart k).rx ∧ (t.uart k).rxts = (s.uart k).rxts ∧ (t.uart k).int = (s.uart k).int) ∧
      (b.discard = false → (t.uart k).rxts = s.uarts.clock ∧ (t.uart k).quiet = true ∧ (t.uart k).first = ((s.uart k).first && b.before) ∧
        ((s.uart k).rx.length < 64 → (t.uart k).rx = (s.uart k).rx ++ [x] ∧ (t.uart k).ovrCnt = (s.uart k).ovrCnt ∧
          ((x.pe || x.fe || x.noise || x.brk) = true →
            (t.uart k).int.getLsbD 3 = true ∧ (t.uart k).errCnt = satInc 0xFFFF (s.uart k).errCnt) ∧
          ((x.pe || x.fe || x.noise || x.brk) = false → (t.uart k).errCnt = (s.uart k).errCnt)) ∧
        (64 ≤ (s.uart k).rx.length → (t.uart k).rx = (s.uart k).rx ∧ (t.uart k).int.getLsbD 1 = true ∧
          (t.uart k).ovrCnt = satInc 0xFFFF (s.uart k).ovrCnt) ∧
        ((s.uart k).rxCfg.polMode = 0 → (s.uart k).cfg.polMode = 0 → (s.uart k).lock = false → (s.uart k).flipRx = false →
          (x.fe || x.pe) = true → (y.fe || y.pe) = false →
          (3 ≤ (s.uart k).invVotes → (t.uart k).invRx = (!(s.uart k).invRx) ∧ (t.uart k).flips = satInc 0xFF (s.uart k).flips ∧
            (t.uart k).invVotes = 0 ∧ (t.uart k).int.getLsbD 4 = true) ∧
          ((s.uart k).invVotes < 3 → (t.uart k).invRx = (s.uart k).invRx ∧ (t.uart k).invVotes = (s.uart k).invVotes + 1)))) ∧
  (∀ (s : State) (k : Fin 3), s.awake = true →
    ((s.uart k).quiet = true → (s.uart k).rxOn = true → (∀ b, (s.uart k).busy = some b → b.discard = true) → Result.Is (exec (.uartIdle k) s) fun t =>
      t.uart k = { s.uart k with int := (s.uart k).int ||| 1, idle := true, quiet := false } ∧ only s k t) ∧
    ((s.uart k).quiet = false → exec (.uartIdle k) s = .next s) ∧
    ((s.uart k).rxOn = true → (s.uart k).rxCfg.polMode = 0 → (s.uart k).lock = false →
      Result.Is (exec (.polaritySpacingTimeout k) s) fun t =>
        (t.uart k).flips = satInc 0xFF (s.uart k).flips ∧ (t.uart k).int = (s.uart k).int ||| 16 ∧
        (t.uart k).invVotes = 0 ∧ (t.uart k).rx = (s.uart k).rx ∧ only s k t) ∧
    ((s.uart k).lock = true → exec (.polaritySpacingTimeout k) s = .next s)) ∧
  ∀ (s : State) (n : Fin 4) (user : Bool) (k : Fin 3),
    (∀ refused, s.may n user .load (uartBase k) → Result.Is (exec (.uartRxdRead n user k refused) s) fun t =>
      t.uart k = { s.uart k with rx := (s.uart k).rx.drop 1 } ∧ (∀ j, j ≠ k → t.uart j = s.uart j) ∧
      t.bus = { data := match (s.uart k).rx with | [] => 0x80000000#32 | x :: _ => x.word, outcome := .ok } ∧
      t = { s.granted refused with bus := t.bus, uarts := t.uarts }) ∧
    (s.may n user .store (uartBase k + 0x0C) → (s.uart k).cfg.polMode < 3 → Result.Is (exec (.flushRx n user k) s) fun t =>
      (t.uart k).rx = [] ∧ (t.uart k).tx = (s.uart k).tx ∧ (t.uart k).int = (s.uart k).int ∧ (t.uart k).cfg = (s.uart k).cfg ∧
      (t.uart k).en = (s.uart k).en ∧ (t.uart k).rxEn = (s.uart k).rxEn ∧ (t.uart k).txEn = (s.uart k).txEn ∧
      (t.uart k).shift = (s.uart k).shift ∧ (t.uart k).busy = (s.uart k).busy ∧ (t.uart k).lock = false ∧
      (∀ j, j ≠ k → t.uart j = s.uart j) ∧ t = { s with bus := {}, uarts := t.uarts })

/-- O55. A serial port sends: TXD, the shift register, DEn, the flush, a new format at its boundaries, and EN (R559, R561,
R563, R567, R570, R571, R572). Where the spec is silent this states the model's own choice: log entry 102. -/
def Obligations.SerialTransmit : Prop :=
  let only (s : State) (k : Fin 3) (t : State) : Prop := (∀ j, j ≠ k → t.uart j = s.uart j) ∧ t = { s with uarts := t.uarts }
  let told (s : State) (k : Fin 3) (t : State) : Prop :=
    (∀ j, j ≠ k → t.uart j = s.uart j) ∧ t = { s with bus := {}, uarts := t.uarts }
  (∀ (s : State) (n : Fin 4) (user : Bool) (k : Fin 3) (d : Byte), s.may n user .store (uartBase k + 0x04) →
    Result.Is (exec (.uartTxdWrite n user k d) s) fun t =>
      told s k t ∧
      (64 ≤ (s.uart k).tx.length → t.uart k = { s.uart k with int := (s.uart k).int ||| 4 }) ∧
      ((s.uart k).tx.length < 64 → (t.uart k).tx = (s.uart k).tx ++ [d.toNat] ∧ (t.uart k).int = (s.uart k).int ∧
        (t.uart k).de = ((s.uart k).de || ((s.uart k).en && (s.uart k).txEn)))) ∧
  (∀ (s : State) (k : Fin 3), s.awake = true →
    (∀ d l, (s.uart k).tx = d :: l → (s.uart k).en = true → (s.uart k).txEn = true → (s.uart k).de = true →
      ((s.uart k).shift = none → Result.Is (exec (.uartTxStart k) s) fun t =>
        t.uart k = { s.uart k with shift := some d, tx := l } ∧ only s k t) ∧
      ((s.uart k).shift.isSome = true → Result.Is (exec (.uartCharacterSent k) s) fun t =>
        t.uart k = { s.uart k with shift := some d, tx := l } ∧ only s k t)) ∧
    ((s.uart k).tx = [] → exec (.uartTxStart k) s = .next s ∧
      ((s.uart k).shift.isSome = true → Result.Is (exec (.uartCharacterSent k) s) fun t =>
        t.uart k = (if (s.uart k).txCfg.polMode = 0 then
          { s.uart k with shift := none, invTx := (s.uart k).invTx != (s.uart k).flipTx, flipTx := false }
          else { s.uart k with shift := none }) ∧ only s k t) ∧
      ((s.uart k).de = true → (s.uart k).shift = none → Result.Is (exec (.deRelease k) s) fun t =>
        (t.uart k).de = false ∧ (t.uart k).int = (s.uart k).int ||| 32 ∧ (t.uart k).pendTx = false ∧
        (t.uart k).rx = (s.uart k).rx ∧ only s k t)) ∧
    ((s.uart k).shift.isSome = true ∨ ((s.uart k).tx ≠ [] ∧ (s.uart k).en = true) → exec (.deRelease k) s = .next s)) ∧
  (∀ (s : State) (n : Fin 4) (user : Bool) (k : Fin 3), s.may n user .store (uartBase k + 0x0C) → (s.uart k).cfg.polMode < 3 →
    (Result.Is (exec (.flushTx n user k) s) fun t =>
      (t.uart k).tx = [] ∧ (t.uart k).rx = (s.uart k).rx ∧ (t.uart k).int = (s.uart k).int ∧ (t.uart k).cfg = (s.uart k).cfg ∧
      (t.uart k).en = (s.uart k).en ∧ (t.uart k).de = (s.uart k).de ∧ (t.uart k).shift = (s.uart k).shift ∧ told s k t) ∧
    ((s.uart k).en = false → Result.Is (exec (.uartEnableWrite n user k true) s) fun t =>
      (t.uart k).en = true ∧ (t.uart k).rxOn = true ∧ (t.uart k).lock = false ∧ (t.uart k).first = true ∧
      (t.uart k).invVotes = 0 ∧ (t.uart k).normVotes = 0 ∧ (t.uart k).rx = (s.uart k).rx ∧ (t.uart k).tx = (s.uart k).tx ∧
      told s k t) ∧
    ((s.uart k).en = true → Result.Is (exec (.uartEnableWrite n user k true) s) fun t =>
      (t.uart k).en = true ∧ (t.uart k).first = (s.uart k).first ∧ (t.uart k).lock = false ∧ (t.uart k).rx = (s.uart k).rx ∧
      (t.uart k).tx = (s.uart k).tx ∧ (t.uart k).cfg = (s.uart k).cfg ∧ told s k t) ∧
    ((s.uart k).busy = none → Result.Is (exec (.uartEnableWrite n user k false) s) fun t =>
      (t.uart k).en = false ∧ (t.uart k).rxOn = false ∧ (t.uart k).rx = (s.uart k).rx ∧ (t.uart k).tx = (s.uart k).tx ∧
      told s k t)) ∧
  ∀ (s : State) (n : Fin 4) (user : Bool) (k : Fin 3) (w : Word), s.may n user .store (uartBase k + 0x08) →
    Result.Is (exec (.uartCfgWrite n user k w) s) fun t =>
      told s k t ∧
      (bits w 15 0 < 139 ∨ 26667 < bits w 15 0 ∨ bits w 18 17 = 3 → t.uart k = { s.uart k with int := (s.uart k).int ||| 64 }) ∧
      (139 ≤ bits w 15 0 → bits w 15 0 ≤ 26667 → bits w 18 17 ≠ 3 →
        (t.uart k).cfg = { (s.uart k).cfg with
          deLag := bits w 27 24, deLead := bits w 23 20, stop2 := bit w 19, parity := bits w 18 17, data8 := bit w 16
          div := bits w 15 0 } ∧
        (t.uart k).int = (s.uart k).int ∧ (t.uart k).rx = (s.uart k).rx ∧ (t.uart k).tx = (s.uart k).tx ∧
        ((s.uart k).busy = none → (t.uart k).rxCfg = (t.uart k).cfg ∧ (t.uart k).pendRx = false) ∧
        ((s.uart k).busy.isSome = true → (t.uart k).rxCfg = (s.uart k).rxCfg ∧ (t.uart k).pendRx = true) ∧
        ((s.uart k).de = false → (s.uart k).shift = none → (t.uart k).txCfg = (t.uart k).cfg ∧ (t.uart k).pendTx = false) ∧
        ((s.uart k).de = true → (t.uart k).txCfg = (s.uart k).txCfg ∧ (t.uart k).pendTx = true))

/-- O56. Lodger watchdogs: the kick, the expiry with its sequence and hold, the restart by another, and the end of a trial
(R58, R59, R60, R68, R69, R88, R89, R213, R456). Where the spec is silent this states the model's own choice: log entries 6,
27, 28, 29, 30, 115, 153, 156, 158. -/
def Obligations.LodgerWatchdogs : Prop :=
  let idle (s : State) (n : Fin 4) : Prop := ∀ c, (s.chan c).owner ≠ some n
  let reverted (r : SlotRec) : SlotRec := if r.state = .trial then { state := .rejected, attempts := 0, code := 15 } else r
  let expired (s : State) (n : Fin 4) (t : State) : Prop :=
    let ex := s.now :: (s.lodger n).expiries.filter fun x => decide (s.now < x + 3600000000)
    (s.boot.trial = true → t.power.phase = (if s.power.testHigh then .test else .reset) ∧ t.power.latchedCauses.getLsbD 5 = true ∧ t.boot.nor = s.boot.nor ∧
      t.boot.slotA = reverted s.boot.slotA ∧ t.boot.slotB = reverted s.boot.slotB ∧ sramKept s t) ∧
    (s.boot.trial = false →
      (t.lodger n).expiryCnt = satInc 15 (s.lodger n).expiryCnt ∧ (t.lodger n).expiries = ex ∧
      t.power = { s.power with ldgWdog := s.power.ldgWdog ||| BitVec.ofNat 4 (2 ^ n.val) } ∧
      (t.lodger n).mbx = {} ∧ (t.lodger n).token = 0x5A3C ∧ (t.lodger n).regions = (s.lodger n).regions ∧
      t.thm.comply.getLsbD n.val = false ∧ t.sram = s.sram ∧ t.ledger.lines = s.ledger.lines ∧
      (∀ m, m ≠ n → (t.lodger m).run = (s.lodger m).run ∧ (t.lodger m).regions = (s.lodger m).regions) ∧
      (∀ i, (s.outp i).owner = .lodger → (s.outp i).ownerId = n.val → (t.outp i).inRest = true) ∧
      (idle s n → (ex.length < 3 → (t.lodger n).run = .running ∧ (t.lodger n).lastKick = s.now ∧
          ∀ i, (s.outp i).owner = .lodger → (s.outp i).ownerId = n.val →
            (t.outp i).causes &&& RestCause.lodger.mask = 0) ∧
        (3 ≤ ex.length → (t.lodger n).run = .held ∧
          ∀ i, (s.outp i).owner = .lodger → (s.outp i).ownerId = n.val →
            (t.outp i).causes &&& RestCause.lodger.mask ≠ 0)))
  (∀ (s : State) (n b : Fin 4) (user : Bool) (v : BitVec 16), s.may n user .store (blockBase b + 0x84) →
    ((s.lodger b).run ≠ .running → exec (.inkLdgKick n user b v) s = .next { s with bus := {} }) ∧
    ((s.lodger b).run = .running → v = ~~~(s.lodger b).token →
      1000 * (s.lodger b).timeout ≤ 4 * (s.now - (s.lodger b).lastKick) →
      exec (.inkLdgKick n user b v) s = .next { s with
        bus := {}, draws := s.draws + 1
        lodgers := vset s.lodgers b { s.lodger b with
          token := Config.freshToken s.draws, lastKick := s.now, timeout := (s.lodger b).timeoutNext } }) ∧
    ((s.lodger b).run = .running →
      v ≠ ~~~(s.lodger b).token ∨ 4 * (s.now - (s.lodger b).lastKick) < 1000 * (s.lodger b).timeout →
      Result.Is (exec (.inkLdgKick n user b v) s) (expired s b))) ∧
  (∀ (s : State) (n : Fin 4), s.awake = true →
    ((s.lodger n).run = .running → Result.Is (exec (.lodgerWdogExpiry n) s) (expired s n)) ∧
    ((s.lodger n).run ≠ .running → exec (.lodgerWdogExpiry n) s = .next s)) ∧
  (∀ (s : State) (n : Fin 4),
    ((s.lodger n).run ≠ .halted → exec (.orphanResolve n) s = .next s) ∧
    ((s.lodger n).run = .halted → s.orphansDrained n = false → exec (.orphanResolve n) s = .next s) ∧
    ((s.lodger n).run = .halted → s.orphansDrained n = true → Result.Is (exec (.orphanResolve n) s) fun t =>
      (t.lodger n).orphanWait = [] ∧ (∀ m, m ≠ n → (t.lodger m).run = (s.lodger m).run) ∧
      (∀ c, (s.chan c).owner = some n → (t.chan c).holdOrphan = false) ∧
      ((s.lodger n).holding = false → (t.lodger n).run = .running ∧ (t.lodger n).lastKick = s.now) ∧
      ((s.lodger n).holding = true → (t.lodger n).run = .held))) ∧
  (∀ (s : State) (n m : Fin 4) (user : Bool) (seq : Byte), s.ready n user →
    (∀ x, x < 2 ^ 32 → 4 ≤ x ∨ x = n.val → Result.Is (exec (.lodgerRestart n user seq x) s) fun t =>
      t.served n seq 2 ∧ onlyMbx s t n ∧ t = { s with bus := t.bus, ink := t.ink, lodgers := t.lodgers }) ∧
    (m ≠ n → (s.lodger m).run = .stopped → Result.Is (exec (.lodgerRestart n user seq m.val) s) fun t =>
      t.served n seq 3 ∧ onlyMbx s t n ∧ t = { s with bus := t.bus, ink := t.ink, lodgers := t.lodgers }) ∧
    (m ≠ n → (s.lodger m).run = .running → (s.lodger m).holding = false → idle s m →
      Result.Is (exec (.lodgerRestart n user seq m.val) s) fun t =>
        t.served n seq 0 ∧ (t.lodger m).run = .running ∧ (t.lodger m).lastKick = s.now ∧ (t.lodger m).mbx = {} ∧
        (t.lodger m).expiryCnt = (s.lodger m).expiryCnt ∧ t.power = s.power ∧ t.sram = s.sram)) ∧
  ∀ s : State,
    (s.boot.trial = false → exec .trialConfirm s = .next s) ∧
    (s.confirmed = false → exec .trialConfirm s = .next s) ∧
    (s.confirmed = true ↔ ∀ n : Fin 4, (s.image.getD {}).startMask.testBit n.val = true ∨ (s.lodger n).run ≠ .stopped →
      (s.lodger n).run = .running ∧ (s.lodger n).startedAt + 1000000 * (s.image.getD {}).confirm ≤ s.now) ∧
    (s.live = true → s.boot.trial = true → s.confirmed = true → Result.Is (exec .trialConfirm s) fun t =>
      let conf (r : SlotRec) : SlotRec := match r.state with
        | .trial => { r with state := .active, attempts := 0 }
        | .active => { r with state := .inactive }
        | _ => r
      t.boot.slotA = conf s.boot.slotA ∧ t.boot.slotB = conf s.boot.slotB ∧ t.boot.trial = false ∧ t.power = s.power ∧
      (∀ n, (t.lodger n).run = (s.lodger n).run) ∧ t.gate = s.gate)

/-- O57. Boot from reset to its waits, its end without an image, and on to running; the staging and committing of an image
(R77, R85, R109, R110, R111, R112, R113, R114, R147, R232, R389, R605). Where the spec is silent this states the model's own
choice: log entries 11, 13, 36, 37, 38, 40, 41, 70, 119, 120, 129, 130, 135, 136, 139, 153, 156, 159, 162, 163, 168. -/
def Obligations.BootAndStaging : Prop :=
  let fresh (s : State) : Prop := s.ledger.lines = [] ∧ s.ledger.buf = [] ∧ s.ledger.waiting = [] ∧ 0 ∉ s.ledger.bad ∧ s.thm = {}
  let unused (r : SlotRec) : Prop := r.state = .empty ∨ r.state = .rejected
  let begun (s : State) (e : BootEnv) : State :=
    ((s.mapPower fun p => { p with vioOk := true, bootsel := e.bootsel }).bootFirst e).bootSlots e
  let ended (s t : State) : Prop :=
    t.power.phase = .noImage ∧ t.gate.blank = s.gate.blank ∧ t.gate.blankCause = 1 ∧ t.power.cause = s.power.latchedCauses ∧
    t.power.primary = primaryCause s.power.latchedCauses ∧ t.power.latchedCauses = 0 ∧ t.sram.tags = [] ∧
    t.sram.cells = s.sram.cells ∧ t.boot.nor = s.boot.nor ∧ t.pending = s.pending ∧
    ∀ n, (t.lodger n).run = (s.lodger n).run
  let noImage (s t : State) : Prop :=
    ended s t ∧ (s.boot.slotA.state = .empty → t.boot.failA = 3) ∧ (s.boot.slotB.state = .empty → t.boot.failB = 3)
  (∀ (s : State) (e : BootEnv),
    (s.power.nrstLow = true ∨ s.power.phase ≠ .reset → exec (.bootSequence e) s = .next s) ∧
    (s.power.nrstLow = false → s.power.phase = .reset → s.power.thmLatch = true → Result.Is (exec (.bootSequence e) s) fun t =>
      t.power.phase = .latched ∧ t.power.thmLatch = true ∧ t.power.latchedCauses = s.power.latchedCauses ∧
      t.gate = { s.gate with blankCause := 3 } ∧ t.sram = s.sram ∧ t.lodgers = s.lodgers ∧ t.boot = s.boot ∧
      t.ledger.lines = s.ledger.lines ∧ (∀ k, t.seal k = s.readSeal k.val) ∧ (s.power.mode ≠ .standby → t.svcUp = true)) ∧
    (s.power.nrstLow = false → s.power.phase = .reset → s.power.thmLatch = false → fresh s → -480 ≤ e.tj →
      (1120 ≤ e.tj → e.tj ≤ 1600 → Result.Is (exec (.bootSequence e) s) fun t =>
        t.power.phase = .tooHot ∧ t.gate = s.gate ∧ t.sram = s.sram ∧ t.boot = s.boot ∧ t.lodgers = s.lodgers) ∧
      (e.tj < 1120 → unused s.boot.slotA → unused s.boot.slotB → Result.Is (exec (.bootSequence e) s) (noImage s)) ∧
      (∀ (k : Nat) (h : Head) (x : Section), k < 2 → -240 ≤ e.tj → e.tj ≤ 920 → (s.boot.slotRec k).state = .active →
        unused (s.boot.slotRec (1 - k)) →
        (begun s e).checkHead k e.nor e.sfdp (if k = 0 then e.slotA else e.slotB) = .ok h → (begun s e).checkNode h = .ok (some x) →
        Result.Is (exec (.bootSequence e) s) fun t =>
          t.power.phase = .running ∧ t.power.pllLock = 7 ∧ t.power.cause = s.power.latchedCauses ∧ t.power.latchedCauses = 0 ∧
          t.boot.slot = k ∧ t.boot.trial = false ∧ t.boot.imgSeq = h.hdr.seq ∧ t.boot.nor = s.boot.nor ∧ t.boot.bootMs = satTo 16 e.ms ∧
          t.sns.running = true ∧ t.loops.running = true ∧ t.out.running = true ∧ t.grd.started = true ∧ t.gate.blank = false ∧
          ∀ n : Fin 4, (fieldAt x.bytes 1 1).testBit n.val = true → (t.lodger n).run = .running))) ∧
  (∀ (s : State) (e : BootEnv),
    (s.power.phase ≠ .tooHot ∨ s.bootTooHot = true → exec (.bootThermalWaitEnd e) s = .next s) ∧
    (s.power.phase = .tooHot → s.bootTooHot = false → s.ledger.buf = [] → 0 ∉ s.ledger.bad →
      s.boot.slotA.state = .empty → s.boot.slotB.state = .empty → Result.Is (exec (.bootThermalWaitEnd e) s) (noImage s)) ∧
    (s.power.phase = .tooHot → s.bootTooHot = false → s.ledger.buf = [] → s.ledger.waiting = [] → s.wbl.waiting = [] → 0 ∈ s.ledger.bad → e.nor = false →
      Result.Is (exec (.bootThermalWaitEnd e) s) fun t => ended s t ∧ t.boot.failA = 1 ∧ t.boot.failB = 1)) ∧
  (∀ (s : State) (ms : Nat),
    (s.power.phase ≠ .ledgerWait → exec (.bootLedgerWaitEnd ms) s = .next s) ∧
    (s.power.phase = .ledgerWait → s.ledgerHeld = true → exec (.bootLedgerWaitEnd ms) s = .next s) ∧
    (s.power.phase = .ledgerWait → s.ledgerHeld = false → Result.Is (exec (.bootLedgerWaitEnd ms) s) fun t =>
      t.power.phase = .running ∧ t.power.pllLock = 7 ∧ t.sns.running = true ∧ t.loops.running = true ∧ t.out.running = true ∧
      t.grd.started = true ∧ t.boot.bootMs = satTo 16 ms ∧
      ∀ n : Fin 4, (s.image.getD {}).startMask.testBit n.val = true → (t.lodger n).run = .running)) ∧
  (∀ s : State,
    (s.power.phase = .noImage → Result.Is (exec .imageFailRetry s) fun t => resetTo s 64 t) ∧
    (s.power.phase ≠ .noImage → exec .imageFailRetry s = .next s)) ∧
  let opened (s : State) (n : Fin 4) (t : State) : Prop :=
    t.boot = { s.boot with stager := some (s.boot.stager.getD n) } ∧ onlyMbx s t n ∧
    t = { s with bus := t.bus, ink := t.ink, lodgers := t.lodgers, boot := t.boot }
  (∀ (s : State) (n : Fin 4) (user : Bool) (e : NorEnv) (seq : Byte) (a len : Nat), s.ready n user → a < 2 ^ 32 → len < 2 ^ 32 → len ≠ 0 →
    ((slotBase2 s.boot.slot ≤ a ∧ a < slotBase2 s.boot.slot + 0x400000) ∨ s.boot.trial = true ∨
        (∃ m, m ≠ n ∧ s.boot.stager = some m) →
      Result.Is (exec (.imageStage n user seq a len e) s) fun t => t.served n seq 3 ∧ opened s n t) ∧
    (s.stageDenied n a = false → 4096 < len ∨ a % 4096 ≠ 0 ∨ 0x800000 ≤ a →
      Result.Is (exec (.imageStage n user seq a len e) s) fun t => t.served n seq 2 ∧ opened s n t) ∧
    (∀ base, s.MemWf → len ≤ 4096 → a % 4096 = 0 → a < 0x800000 → s.stageDenied n a = false →
      (s.image.getD {}).stageBuf = sramBase + 8 * base → 8 * base + 4096 ≤ 0x80000 →
      (∀ j, j < 512 → s.sram.state (base + j) = .good ∧ base + j ∉ s.sram.singles) →
      (e.back ≠ [] → Result.Is (exec (.imageStage n user seq a len e) s) fun t =>
        t.boot.stager = some n ∧ t.sram = s.sram ∧ onlyMbx s t n ∧
        let sector := s.sram.bytes (sramBase + 8 * base) len ++ List.replicate (4096 - len) 0xFF
        (t.norBytes a 4096 = sector → t.served n seq 0) ∧
        (t.norBytes a 4096 ≠ sector → ∃ r, 1 ≤ r ∧ r ≤ 7 ∧ t.served n seq r)) ∧
      (e.back = [] → Result.Is (exec (.imageStage n user seq a len e) s) fun t =>
        t.served n seq 0 ∧ t.boot.stager = some n ∧ t.sram = s.sram ∧ onlyMbx s t n ∧
        t.boot.norCmds = norProgram s.boot.norErase a (s.sram.bytes (sramBase + 8 * base) len) ∧
        (∀ x, Memory.get 0xFF t.boot.nor x =
          if a ≤ x ∧ x < a + len then Memory.get 0 s.sram.cells (8 * base + (x - a))
          else if a ≤ x ∧ x < a + 4096 then 0xFF else Memory.get 0xFF s.boot.nor x)))) ∧
  ∀ (s : State) (n : Fin 4) (user : Bool) (e : NorEnv) (seq : Byte) (a : Nat), s.ready n user → a < 2 ^ 32 →
    (s.stageDenied n a = true → Result.Is (exec (.imageCommit n user seq a e) s) fun t => t.served n seq 3 ∧ opened s n t) ∧
    (s.stageDenied n a = false → a ≠ slotBase2 s.boot.otherSlot → Result.Is (exec (.imageCommit n user seq a e) s) fun t =>
      t.served n seq 2 ∧ opened s n t) ∧
    (s.stageDenied n a = false → a = slotBase2 s.boot.otherSlot → s.windowOpen = false →
      Result.Is (exec (.imageCommit n user seq a e) s) fun t => t.served n seq 7 ∧ opened s n t) ∧
    (s.stageDenied n a = false → a = slotBase2 s.boot.otherSlot → s.windowOpen = true →
      let free := s.wbl.nextFree.isSome = true ∧ s.wbl.waiting = [] ∧ s.ledger.waiting = [] ∧
        ∀ j, (vget s.wbl.ring j).notDone = true → (vget s.wbl.ring j).seq ≠ s.wbl.nextSeq
      let full := s.wbl.nextFree = none ∧ s.ledger.buf = [] ∧ s.ledger.cell 0 ≠ some s.bootRecord
      (∀ x, s.checkSlot s.boot.otherSlot e = .ok x → Result.Is (exec (.imageCommit n user seq a e) s) fun t =>
        t.boot.slotRec s.boot.otherSlot = { state := .trial, attempts := 3, code := 0 } ∧ t.boot.trialLeft = 3 ∧
        t.boot.nor = s.boot.nor ∧ t.boot.stager = none ∧ t.power = s.power ∧
        (free → t.served n seq 0 ∧ t.ledger.cell 0 = some s.bootRecord) ∧
        (full → (t.mbx n).busy = true ∧ (t.mbx n).job = .onLine 0 s.bootRecord 0 none)) ∧
      ∀ f, s.checkSlot s.boot.otherSlot e = .error f → Result.Is (exec (.imageCommit n user seq a e) s) fun t =>
        t.boot.slotRec s.boot.otherSlot = { state := .rejected, attempts := 0, code := f.code } ∧ t.boot.trialLeft = 0 ∧
        t.boot.stager = none ∧ t.power = s.power ∧
        (free → t.served n seq 2 ∧ vget (t.mbx n).res 0 = BitVec.ofNat 32 f.code))

/-- O58. The service port: the wake phrase, AUTH and its failures, CLOSE, replies, repeats, timeouts, errors and floods
(R579, R583, R584, R585, R587, R590, R591, R593, R595, R597, R598, R603). Where the spec is silent this states the model's
own choice: log entries 6, 7, 74, 103, 104, 144, 153, 154. -/
def Obligations.ServiceSessions : Prop :=
  let closed (s : State) (cause : Nat) (t : State) : Prop :=
    t.svc.st = .closed ∧ t.svc.session = 0 ∧ t.svc.role = 0 ∧ t.svc.app = none ∧ t.svc.int.getLsbD 1 = true ∧
    t.svc.out = s.svc.out ∧ t.seals = { s.seals with collect := none } ∧ t.power = s.power ∧ logs s 0x0803 (leBytes 1 cause) t
  let copy := carrierOf (lsbFirst 48 0xA6D23B1CE47F)
  (∀ l : List Bool, phraseAccepted l = true ↔ ∃ a b, l = a ++ copy ++ copy ++ b) ∧
  (∀ l y : List Bool, afterPhrase l = some y ↔
    ∃ x, l = x ++ copy ++ copy ++ y ∧ ∀ a b, l = a ++ copy ++ copy ++ b → x.length ≤ a.length) ∧
  (∀ (n : Nat) (l : List Bool), (afterPhrase l = none → phrasesIn n l = (0, l)) ∧
    ∀ y, afterPhrase l = some y → phrasesIn (n + 1) l = ((phrasesIn n y).1 + 1, (phrasesIn n y).2)) ∧
  (∀ ns : Nat, periodOk ns = true ↔ 204167 ≤ ns ∧ ns ≤ 212500) ∧
  (∀ (s : State) (l : List Bool) (ns : Nat),
    (periodOk ns = false → s.halvesAfter l ns = []) ∧
    (periodOk ns = true → s.deaf l.length = false →
      (2000 * (s.now - s.svc.halvesAt) ≤ (l.length + 1) * ns → s.halvesAfter l ns = s.svc.halves ++ l) ∧
      ((l.length + 1) * ns < 2000 * (s.now - s.svc.halvesAt) → s.halvesAfter l ns = l)) ∧
    (periodOk ns = true → s.deaf l.length = true → s.halvesAfter l ns <:+ l) ∧
    (s.detectorRuns = false → exec (.wakePhrase l ns) s = .next s) ∧
    (s.detectorRuns = true → s.svc.flood = false →
      let heard := s.halvesAfter l ns
      (phraseAccepted heard = false → exec (.wakePhrase l ns) s = .next { s with svc := { s.svc with
        halves := heard.drop (heard.length - 192), halvesAt := s.now } }) ∧
      (Result.Is (exec (.wakePhrase l ns) s) fun t =>
        t.svc.phrases = Nat.repeat (satInc 0xFF) (phrasesIn (heard.length / 192) heard).1 s.svc.phrases) ∧
      ∀ y, afterPhrase heard = some y → phraseAccepted y = false → Result.Is (exec (.wakePhrase l ns) s) fun t =>
        let x : Svc := { s.svc with phrases := satInc 0xFF s.svc.phrases, halves := y.drop (y.length - 192), halvesAt := s.now }
        t.svc.phrases = x.phrases ∧ t.svc.halves = x.halves ∧
        (s.svc.lockout = true ∨ s.inkAlive = false → t = { s with svc := x }) ∧
        (s.svc.lockout = false → s.inkAlive = true → s.asleep = false → s.seals.commit.isSome = true →
          t = { s with svc := { x with phraseWait := true } }) ∧
        (s.svc.lockout = false → s.inkAlive = true → s.asleep = false → s.svc.st = .closed → s.seals.commit = none →
          t.svc.st = .opening ∧ 1 ≤ t.svc.session ∧ t.svc.session ≤ 255 ∧ t.svc.session ≠ s.svc.prev ∧ t.svc.role = 0 ∧
          t.svc.challenge.length = 16 ∧
          (∃ h, t.svc.out = s.svc.out ++ [h] ∧ h.type = 0x81 ∧ h.session = t.svc.session ∧
            h.payload = s.helloPayload t.svc.challenge) ∧
          t = { s with svc := t.svc, draws := t.draws }))) ∧
  (∀ s : State, s.svc.flood = true → ∀ seq session p l ns, exec (.wakePhrase l ns) s = .next s ∧ exec (.svcAuth seq session p) s = .next s ∧
    exec (.svcClose seq session p) s = .next s ∧ ∀ len, exec (.palnyxFrameError len) s = .next s) ∧
  (∀ (s : State) (seq session : Nat) (p : List Byte), s.deaf (frameHalves p.length) = true →
    exec (.svcAuth seq session p) s = .next s ∧ exec (.svcClose seq session p) s = .next s) ∧
  (∀ (s : State) (seq : Nat) (p : List Byte), s.svcUp = true → s.svc.st ≠ .closed → s.svc.flood = false →
    s.deaf (frameHalves p.length) = false → s.svc.lastSeq ≠ some seq →
    (p.length ≠ 68 ∨ (fieldAt p 0 1 ≠ 1 ∧ fieldAt p 0 1 ≠ 2) → Result.Is (exec (.svcAuth seq 0 p) s) fun t =>
      replied s t 2 seq [2, 0, 0, 0] ∧ t.svc.st = s.svc.st ∧ t.svc.fails = s.svc.fails ∧ t = { s with svc := t.svc }) ∧
    (p.length = 68 → fieldAt p 0 1 = 1 ∨ fieldAt p 0 1 = 2 →
      (s.authOk p = true → Result.Is (exec (.svcAuth seq 0 p) s) fun t =>
        t.svc.st = .open_ ∧ t.svc.role = fieldAt p 0 1 ∧ t.svc.int.getLsbD 0 = true ∧ replied s t 2 seq [0, 0, 0, 0] ∧
        t.svc.lastSeq = some seq ∧ (s.pnl.crossing = [] →
          logs s 0x0801 (leBytes 1 (fieldAt p 0 1) ++ leBytes 1 s.svc.session ++ leBytes 1 (roleSlot (fieldAt p 0 1))) t)) ∧
      (s.authOk p = false → Result.Is (exec (.svcAuth seq 0 p) s) fun t =>
        t.svc.authFail = satInc 0xFF s.svc.authFail ∧ replied s t 2 seq [3, 0, 0, 0] ∧
        (s.svc.fails < 2 → t.svc.st = s.svc.st ∧ t.svc.role = s.svc.role ∧ t.svc.fails = s.svc.fails + 1 ∧
          t.svc.lockout = s.svc.lockout ∧ logs s 0x0802 (leBytes 1 (fieldAt p 0 1)) t) ∧
        (2 ≤ s.svc.fails → t.svc.st = .closed ∧ t.svc.lockout = true ∧ t.svc.lockAt = s.now)))) ∧
  (∀ (s : State) (seq session : Nat) (p : List Byte), s.hears seq session p.length →
    let f : Palnyx := { type := 0x8B, seq := seq, session := session, payload := [0, 0, 0, 0] }
    (s.seals.commit = none → Result.Is (exec (.svcClose seq session []) s) fun t =>
      t.svc.closing = some (s.svc.closing.getD f) ∧ t.svc.st = .open_ ∧ t.svc.out = s.svc.out ++ [f] ∧ t = { s with svc := t.svc }) ∧
    (s.seals.commit.isSome = true → Result.Is (exec (.svcClose seq session []) s) fun t =>
      t.svc.closeWait = s.svc.closeWait ++ [f] ∧ t.svc.out = s.svc.out ∧ t = { s with svc := t.svc }) ∧
    (p ≠ [] → Result.Is (exec (.svcClose seq session p) s) fun t =>
      replied s t 0x0B seq [2, 0, 0, 0] ∧ t.svc.closing = s.svc.closing ∧ t = { s with svc := t.svc }) ∧
    (∀ other, other ≠ session → exec (.svcClose seq other p) s = .next s) ∧
    (∀ type, type < 2 ∨ 0x0B < type → type < 0x80 → Result.Is (exec (.palnyxBadType type seq session) s) fun t =>
      replied s t type seq [1, 0, 0, 0] ∧ t.svc.st = .open_ ∧ t = { s with svc := t.svc })) ∧
  (∀ (s : State) (seq : Nat) (p : List Byte) (r : Palnyx), s.svcUp = true → s.svc.st = .open_ → s.svc.flood = false →
    s.deaf (frameHalves p.length) = false → s.svc.lastSeq = some seq → s.svc.lastReply = some r →
    exec (.svcClose seq s.svc.session p) s = .next { s with svc := { s.svc with frameAt := s.now, out := s.svc.out ++ [r] } }) ∧
  (∀ (s : State) (f : Palnyx) (fs : List Palnyx), s.svcUp = true → s.svc.out = f :: fs →
    (s.lineFree = true ↔ ∀ g, s.svc.sent = some g → 6 * s.svc.sentAt + 625 * (s.svc.carrierHalves + 4) ≤ 6 * s.now) ∧
    (s.lineFree = false → exec .replySend s = .next s) ∧
    (s.lineFree = true → s.svc.closing ≠ some f → s.seals.resetDue = false ∨ (∃ g ∈ fs, g.type = 0x86) →
      exec .replySend s = .next { s with svc := { s.svc with out := fs, sent := some f, sentAt := s.now, halves := [] } }) ∧
    (s.lineFree = true → s.svc.closing ≠ some f → s.seals.resetDue = true → (∀ g ∈ fs, g.type ≠ 0x86) →
      Result.Is (exec .replySend s) fun t => resetTo { s with svc := { s.svc with halves := [] } } 32 t) ∧
    (s.lineFree = true → s.svc.closing = some f → s.svc.st = .open_ → s.seals.resetDue = false →
      Result.Is (exec .replySend s) fun t =>
        t.svc.st = .closed ∧ t.svc.session = 0 ∧ t.svc.sent = some f ∧ t.svc.sentAt = s.now ∧ t.svc.out = fs ∧
        logs s 0x0803 (leBytes 1 0) t)) ∧
  (∀ s : State, s.inkAlive = true →
    (s.svc.st = .closed → exec .sessionIdleTimeout s = .next s) ∧
    (s.svc.st ≠ .closed → Result.Is (exec .sessionIdleTimeout s) (closed s 1)) ∧
    (s.svc.st = .opening → Result.Is (exec .authTimeout s) (closed s 4)) ∧
    (s.svc.st ≠ .opening → exec .authTimeout s = .next s) ∧
    (s.svc.flood = true → s.svc.st ≠ .closed → Result.Is (exec .floodSessionTimeout s) (closed s 2))) ∧
  (∀ (s : State) (a x : Nat), s.detectorRuns = true →
    (s.svc.flood = false → 1000 ≤ a ∨ s.svc.noise < x → exec (.floodStart a x) s = .next { s with svc := { s.svc with
      flood := true, floodAt := s.now, floodCnt := satInc 0xFF s.svc.floodCnt, ambient := min a 1000, halves := []
      int := s.svc.int ||| 8 } }) ∧
    (s.svc.flood = true ∨ (a < 1000 ∧ x ≤ s.svc.noise) →
      exec (.floodStart a x) s = .next { s with svc := { s.svc with ambient := min a 1000 } }) ∧
    (a < 1000 → x ≤ s.svc.noise →
      exec (.floodEnd a x) s = .next { s with svc := { s.svc with
        flood := false, ambient := a, floodEnd := if s.svc.flood then some s.now else s.svc.floodEnd } }) ∧
    (1000 ≤ a ∨ s.svc.noise < x →
      exec (.floodEnd a x) s = .next { s with svc := { s.svc with ambient := min a 1000 } })) ∧
  ∀ s : State, exec .lockoutEnd s = .next { s with svc := { s.svc with lockout := false } } ∧
    (s.svcUp = true → s.svc.flood = false → s.deaf (frameHalves 0) = false →
      exec (.palnyxFrameError true) s = .next { s with svc := { s.svc with lenErr := satInc 0xFF s.svc.lenErr } } ∧
      exec (.palnyxFrameError false) s = .next { s with svc := { s.svc with crcErr := satInc 0xFFFF s.svc.crcErr } })

/-- O59. The requests of an open session: READ, FAN_CLEAR, LODGER_START, OFF and the application exchange (R146, R583, R584,
R587, R588, R589, R593, R597, R600, R601, R603). Where the spec is silent this states the model's own choice: log entries
74, 103, 104, 153, 154. -/
def Obligations.ServiceRequests : Prop :=
  (∀ (s : State) (seq session : Nat) (p : List Byte), s.hears seq session p.length →
    (p.length = 8 → fieldAt p 0 1 = 0 → fieldAt p 1 1 = 4 → fieldAt p 4 4 % 4 = 0 → inLedger (fieldAt p 4 4) = true →
      Lines.get s.ledger.lines (ledgerLineOf (fieldAt p 4 4)) = none → ledgerLineOf (fieldAt p 4 4) ∉ s.ledger.bad →
      Result.Is (exec (.svcRead seq session p) s) fun t =>
        replied s t 3 seq ([0, 0, 0, 0] ++ leBytes 4 (fieldAt p 4 4) ++ [0xFF, 0xFF, 0xFF, 0xFF]) ∧ t.mem.poison = true ∧
        t.mem.poisonLine = ledgerLineOf (fieldAt p 4 4) ∧ t.ledger = s.ledger ∧ t = { s with svc := t.svc, mem := t.mem }) ∧
    (p.length = 8 → fieldAt p 0 1 = 1 → fieldAt p 1 1 = 4 → fieldAt p 4 4 = 0x40002000 →
      Result.Is (exec (.svcRead seq session p) s) fun t =>
        replied s t 3 seq ([0, 0, 0, 0] ++ leBytes 4 0x40002000 ++ leBytes 4 (s.thmRead 0).toNat) ∧ t = { s with svc := t.svc }) ∧
    (p.length ≠ 8 ∨ 1 < fieldAt p 0 1 ∨
        (fieldAt p 0 1 = 1 ∧ fieldAt p 1 1 = 4 ∧ 0x400F0000 ≤ fieldAt p 4 4 ∧ fieldAt p 4 4 < 0x400F0400) →
      Result.Is (exec (.svcRead seq session p) s) fun t => replied s t 3 seq [2, 0, 0, 0] ∧ t = { s with svc := t.svc })) ∧
  (∀ (s : State) (seq session : Nat) (c : Fin 6), s.hears seq session 1 →
    ((s.fan c).st = .latched → Result.Is (exec (.fanClear seq session [BitVec.ofNat 8 c.val]) s) fun t =>
      replied s t 7 seq [0, 0, 0, 0] ∧ (t.fan c).st = .off ∧ (t.fan c).kinds = 0 ∧ (t.fan c).cause = 0 ∧ (t.fan c).attempt = 0 ∧
      (∀ d, d ≠ c → t.fan d = s.fan d) ∧ t.gate = s.gate ∧ logs s 0x0304 (leBytes 1 c.val ++ [0]) t) ∧
    ((s.fan c).st ≠ .latched → Result.Is (exec (.fanClear seq session [BitVec.ofNat 8 c.val]) s) fun t =>
      replied s t 7 seq [0, 0, 0, 0] ∧ t = { s with svc := t.svc })) ∧
  (∀ (s : State) (seq session : Nat) (n : Fin 4), s.hears seq session 1 →
    ((s.lodger n).run = .held → Result.Is (exec (.lodgerStart seq session [BitVec.ofNat 8 n.val]) s) fun t =>
      replied s t 8 seq [0, 0, 0, 0] ∧ (t.lodger n).run = .running ∧ (t.lodger n).lastKick = s.now ∧
      (∀ m, m ≠ n → t.lodger m = s.lodger m) ∧ logs s 0x0805 (leBytes 1 n.val) t ∧
      ∀ i, (s.outp i).owner = .lodger → (s.outp i).ownerId = n.val → (t.outp i).causes &&& RestCause.lodger.mask = 0) ∧
    ((s.lodger n).run ≠ .held → Result.Is (exec (.lodgerStart seq session [BitVec.ofNat 8 n.val]) s) fun t =>
      replied s t 8 seq [2, 0, 0, 0] ∧ t = { s with svc := t.svc })) ∧
  (∀ (s : State) (seq session : Nat) (p : List Byte), s.hears seq session p.length → s.hears seq session 4 → s.seals.commit = none →
    (p ≠ leBytes 4 0xFF5 → Result.Is (exec (.svcOff seq session p) s) fun t =>
      replied s t 9 seq [2, 0, 0, 0] ∧ t = { s with svc := t.svc }) ∧
    (s.windowOpen = false → Result.Is (exec (.svcOff seq session (leBytes 4 0xFF5)) s) fun t =>
      replied s t 9 seq [7, 0, 0, 0] ∧ t = { s with svc := t.svc }) ∧
    (s.windowOpen = true → s.power.holdOk = false ∨ s.power.offWakeSet = false →
      Result.Is (exec (.svcOff seq session (leBytes 4 0xFF5)) s) fun t =>
        replied s t 9 seq [3, 0, 0, 0] ∧ t = { s with svc := t.svc }) ∧
    (s.windowOpen = true → s.power.holdOk = true → s.power.offWakeSet = true →
      Result.Is (exec (.svcOff seq session (leBytes 4 0xFF5)) s) fun t =>
        replied s t 9 seq [0, 0, 0, 0] ∧ t.power = { s.power with phase := .offWait } ∧ logs s 0x0804 [] t ∧
        t.svc.offAt = s.now ∧ t.gate = s.gate)) ∧
  (∀ (s : State) (seq session : Nat) (p : List Byte) (n : Fin 4), s.hears seq session p.length → s.svc.owner = n.val →
    (s.svc.app.isSome = true → exec (.svcApp seq session p) s = .next s) ∧
    (s.svc.app = none → p.length ≤ 96 →
      ((s.lodger n).run = .running → Result.Is (exec (.svcApp seq session p) s) fun t =>
        t.svc.app = some (seq, n.val, s.now) ∧ t.svc.appRxLen = p.length ∧ t.svc.appRx.take p.length = p ∧
        t.svc.int.getLsbD 2 = true ∧ t.svc.out = s.svc.out ∧ t = { s with svc := t.svc }) ∧
      ((s.lodger n).run = .stopped ∨ (s.lodger n).run = .held → Result.Is (exec (.svcApp seq session p) s) fun t =>
        replied s t 0x0A seq [3, 0, 0, 0] ∧ t.svc.app = none ∧ t = { s with svc := t.svc }))) ∧
  (∀ (s : State) (n : Fin 4) (user : Bool) (w : Word) (q : Nat) (at_ : Nat), s.may n user .store 0x40080024 →
    s.svc.app = some (q, n.val, at_) → bit w 8 = true → bits w 6 0 ≤ 95 → Result.Is (exec (.appSend n user w) s) fun t =>
      t.svc.app = none ∧ replied s t 0x0A q (0 :: s.svc.txBytes.take (bits w 6 0)) ∧ t = { s with bus := {}, svc := t.svc }) ∧
  (∀ s : State, s.inkAlive = true →
    (∀ l ns y, afterPhrase (s.halvesAfter l ns) = some y → phraseAccepted y = false → s.detectorRuns = true → s.svc.flood = false → s.svc.lockout = false →
      s.asleep = false → s.svc.st = .closed → s.seals.commit = none → Result.Is (exec (.wakePhrase l ns) s) fun t => t.svc.st = .opening ∧ t.svc.out.length = s.svc.out.length + 1) ∧
    (∀ a x, s.detectorRuns = true → 1000 ≤ a ∨ s.svc.noise < x → Result.Is (exec (.floodStart a x) s) fun t => t.svc.flood = true) ∧
    (∀ a x, s.detectorRuns = true → a < 1000 → x ≤ s.svc.noise → Result.Is (exec (.floodEnd a x) s) fun t => t.svc.flood = false) ∧
    (s.svc.st = .open_ → Result.Is (exec .sessionIdleTimeout s) fun t => t.svc.st = .closed) ∧
    (s.svc.st = .opening → Result.Is (exec .authTimeout s) fun t => t.svc.st = .closed) ∧
    (s.svc.flood = true → s.svc.st = .open_ → Result.Is (exec .floodSessionTimeout s) fun t => t.svc.st = .closed) ∧
    Result.Is (exec .lockoutEnd s) fun t => t.svc.lockout = false) ∧
  (∀ (s : State) (seq session : Nat), s.hears seq session 68 → s.seals.commit = none →
    (Result.Is (exec (.svcClose seq session []) s) fun t => replied s t 0x0B seq [0, 0, 0, 0]) ∧
    (∀ p, p.length = 68 → fieldAt p 0 1 = 2 → s.authOk p = true → Result.Is (exec (.svcAuth seq 0 p) s) fun t =>
      t.svc.st = .open_ ∧ t.svc.role = 2) ∧
    (Result.Is (exec (.palnyxBadType 1 seq session) s) fun t => replied s t 1 seq [1, 0, 0, 0]) ∧
    (∀ len, Result.Is (exec (.palnyxFrameError len) s) fun t =>
      t.svc.lenErr = (if len then satInc 0xFF s.svc.lenErr else s.svc.lenErr) ∧
      t.svc.crcErr = if len then s.svc.crcErr else satInc 0xFFFF s.svc.crcErr) ∧
    ∀ f fs, s.svc.out = f :: fs → s.lineFree = true → s.svc.closing ≠ some f → s.seals.resetDue = false → Result.Is (exec .replySend s) fun t =>
      t.svc.sent = some f ∧ t.svc.out = fs) ∧
  ∀ s : State, s.svcUp = true →
    (s.svc.app = none → exec .appTimeout s = .next s) ∧
    ∀ q o at_, s.svc.app = some (q, o, at_) → Result.Is (exec .appTimeout s) fun t =>
      t.svc.app = none ∧ replied s t 0x0A q [5, 0, 0, 0] ∧ t = { s with svc := t.svc }

/-- O60. Changing a sealed value: BEGIN, PART, COMMIT with its results, and the end of the change (R414, R415, R417, R420,
R421, R422, R587, R588). Where the spec is silent this states the model's own choice: log entries 7, 10, 74, 104, 105. -/
def Obligations.SealChanges : Prop :=
  (∀ (s : State) (seq session : Nat) (p : List Byte), s.hears seq session p.length →
    (∀ k : Fin 16, p.length = 4 → fieldAt p 0 1 = k.val → Result.Is (exec (.sealBegin seq session p) s) fun t =>
      (∃ c, t.seals = { s.seals with collect := some c } ∧ c.slot = k ∧ c.expect = fieldAt p 1 1 ∧ c.len = fieldAt p 2 2 ∧
        c.bytes.length = fieldAt p 2 2) ∧ replied s t 4 seq [0, 0, 0, 0] ∧ t = { s with svc := t.svc, seals := t.seals, draws := t.draws }) ∧
    (p.length ≠ 4 ∨ 16 ≤ fieldAt p 0 1 → Result.Is (exec (.sealBegin seq session p) s) fun t =>
      replied s t 4 seq [2, 0, 0, 0] ∧ t = { s with svc := t.svc }) ∧
    (s.seals.collect = none → Result.Is (exec (.sealPart seq session p) s) fun t =>
      replied s t 5 seq [2, 0, 0, 0] ∧ t = { s with svc := t.svc }) ∧
    (∀ (c : SealChange) (o : Nat) (d : List Byte), s.seals.collect = some c → o < 2 ^ 16 → 1 ≤ d.length → d.length ≤ 64 →
      c.bytes.length = c.len → s.deaf (frameHalves (4 + d.length)) = false →
      (o + d.length ≤ c.len → Result.Is (exec (.sealPart seq session (leBytes 2 o ++ leBytes 1 d.length ++ [0] ++ d)) s) fun t =>
        (∃ c', t.seals = { s.seals with collect := some c' } ∧ c'.slot = c.slot ∧ c'.bytes.length = c.len ∧
          ∀ j, j < c.len → c'.bytes.getD j 0 = if o ≤ j ∧ j < o + d.length then d.getD (j - o) 0 else c.bytes.getD j 0) ∧
        replied s t 5 seq [0, 0, 0, 0] ∧ t = { s with svc := t.svc, seals := t.seals }) ∧
      (c.len < o + d.length →
        Result.Is (exec (.sealPart seq session (leBytes 2 o ++ leBytes 1 d.length ++ [0] ++ d)) s) fun t =>
          replied s t 5 seq [2, 0, 0, 0] ∧ t = { s with svc := t.svc })) ∧
    (p.length ≠ 4 → Result.Is (exec (.sealCommit seq session p) s) fun t =>
      (∃ b, replied s t 6 seq [2, b, 0, 0]) ∧ t = { s with svc := t.svc }) ∧
    (∀ c, s.seals.collect = some c → p.length = 4 →
      (∀ r, s.commitResult c (fieldAt p 0 4) = some r → Result.Is (exec (.sealCommit seq session p) s) fun t =>
        replied s t 6 seq (sealReply r) ∧ t = { s with svc := t.svc }) ∧
      (s.commitResult c (fieldAt p 0 4) = none → Result.Is (exec (.sealCommit seq session p) s) fun t =>
        t.seals = { s.seals with commit := some { c with reqSeq := seq } } ∧ t.svc.out = s.svc.out ∧
        t.ledger.lines = s.ledger.lines ∧ t.thm = s.thm ∧ t.gate = s.gate)) ∧
    (s.seals.collect = none → p.length = 4 → Result.Is (exec (.sealCommit seq session p) s) fun t =>
      replied s t 6 seq (sealReply (if s.seals.commit.isSome then .busy else if s.svc.role ≠ 2 then .denied else .stale)) ∧
      t = { s with svc := t.svc })) ∧
  (∀ (s : State) (seq : Nat) (p : List Byte), s.svcUp = true → s.svc.st = .opening → s.svc.role = 0 → s.svc.flood = false →
    s.deaf (frameHalves p.length) = false → s.svc.lastSeq ≠ some seq → Result.Is (exec (.sealCommit seq s.svc.session p) s) fun t =>
      replied s t 6 seq [3, 2, 0, 0] ∧ t = { s with svc := t.svc }) ∧
  (∀ (s : State) (c : SealChange) (crc : Nat),
    (s.seals.commit.isSome = true → s.commitResult c crc = some .busy) ∧
    (s.seals.commit = none → s.svc.role ≠ 2 → s.commitResult c crc = some .denied) ∧
    (s.commitResult c crc = none → s.seals.commit = none ∧ s.svc.role = 2 ∧ c.len = sealLen c.slot.val ∧ crc32 c.bytes = crc ∧
      s.badValue c.slot c.bytes = false ∧ s.windowOpen = true ∧ 8 < s.wbl.freeCount ∧
      ((s.seal c.slot).broken = false → c.expect = (s.seal c.slot).changes ∧ (s.seal c.slot).changes < 15) ∧
      ((s.seal c.slot).broken = true → c.expect = 0xFF)) ∧
    (s.seals.commit = none → s.svc.role = 2 → (s.seal c.slot).broken = false → c.expect = (s.seal c.slot).changes →
      c.len = sealLen c.slot.val → (s.seal c.slot).changes < 15 → crc32 c.bytes = crc → s.badValue c.slot c.bytes = false →
      s.windowOpen = false → s.commitResult c crc = some .thermal)) ∧
  (∀ s : State, s.seals.commit = none → exec .sealBankDone s = .next s) ∧
  ∀ (s : State) (c : SealChange), s.seals.commit = some c → c.sent = none → s.inkAlive = true → s.power.phase ≠ .nodeHold →
    s.bankDone c = true → (s.seal c.slot).broken = false → 8 < s.wbl.freeCount → s.wbl.waiting = [] →
    (∀ e ∈ s.ledger.buf ++ s.ledger.waiting, e.line ≠ sealHeaderLine c.slot.val) →
    (∀ k, (vget s.wbl.ring k).notDone = true → (vget s.wbl.ring k).seq ∉
      [s.wbl.nextSeq, seqAfter s.wbl.nextSeq, seqAfter (seqAfter s.wbl.nextSeq)]) →
    (s.windowOpen = false → Result.Is (exec .sealBankDone s) fun t =>
      t.seals.slots = s.seals.slots ∧ t.svc = s.svc ∧ t.thm = s.thm ∧ t.gate = s.gate ∧ t.ledger.lines = s.ledger.lines ∧
      ∃ y d, t.seals.commit = some { c with sent := some (y, d) } ∧
        ∃ e ∈ t.ledger.buf ++ t.ledger.waiting, e.line = sealHeaderLine c.slot.val ∧ e.data = padTo 32 d) ∧
    (s.windowOpen = true → s.svc.closeWait = [] → s.svc.phraseWait = false → Result.Is (exec .sealBankDone s) fun t =>
      t.seals.commit = none ∧ (t.seal c.slot).value = c.bytes ∧ (t.seal c.slot).changes = (s.seal c.slot).changes + 1 ∧
      (t.seal c.slot).bank = 1 - (s.seal c.slot).bank ∧ (t.seal c.slot).vcrc = crc32 c.bytes ∧ (t.seal c.slot).timeS = s.power.rtc ∧
      (∀ k, k ≠ c.slot → t.seal k = s.seal k) ∧ replied s t 6 c.reqSeq [0, 0, 0, 0] ∧ t.power = s.power ∧
      t.seals.boot = s.seals.boot ∧ (c.slot.val = 8 → t.thm = { s.thm with levelNext := some c.bytes }) ∧
      (c.slot.val = 14 → t.thm = { s.thm with boardNext := some c.bytes }) ∧ (c.slot.val ≠ 8 → c.slot.val ≠ 14 → t.thm = s.thm))
end

