-- ==== Sys2Proof/Laws/State.lean ====
section
/-! SUPPORT. One lemma per field and update of State, so that no proof unfolds a record update. -/

namespace Sys2Proof.Machine

variable (s : State)
@[simp] theorem State.mapNow_now (f : Nat → Nat) : (s.mapNow f).now = f s.now := rfl
@[simp] theorem State.mapNow_draws (f : Nat → Nat) : (s.mapNow f).draws = s.draws := rfl
@[simp] theorem State.mapNow_pending (f : Nat → Nat) : (s.mapNow f).pending = s.pending := rfl
@[simp] theorem State.mapNow_bus (f : Nat → Nat) : (s.mapNow f).bus = s.bus := rfl
@[simp] theorem State.mapNow_power (f : Nat → Nat) : (s.mapNow f).power = s.power := rfl
@[simp] theorem State.mapNow_boot (f : Nat → Nat) : (s.mapNow f).boot = s.boot := rfl
@[simp] theorem State.mapNow_image (f : Nat → Nat) : (s.mapNow f).image = s.image := rfl
@[simp] theorem State.mapNow_sram (f : Nat → Nat) : (s.mapNow f).sram = s.sram := rfl
@[simp] theorem State.mapNow_mem (f : Nat → Nat) : (s.mapNow f).mem = s.mem := rfl
@[simp] theorem State.mapNow_ledger (f : Nat → Nat) : (s.mapNow f).ledger = s.ledger := rfl
@[simp] theorem State.mapNow_wbl (f : Nat → Nat) : (s.mapNow f).wbl = s.wbl := rfl
@[simp] theorem State.mapNow_gate (f : Nat → Nat) : (s.mapNow f).gate = s.gate := rfl
@[simp] theorem State.mapNow_lodgers (f : Nat → Nat) : (s.mapNow f).lodgers = s.lodgers := rfl
@[simp] theorem State.mapNow_ink (f : Nat → Nat) : (s.mapNow f).ink = s.ink := rfl
@[simp] theorem State.mapNow_thm (f : Nat → Nat) : (s.mapNow f).thm = s.thm := rfl
@[simp] theorem State.mapNow_out (f : Nat → Nat) : (s.mapNow f).out = s.out := rfl
@[simp] theorem State.mapNow_carder (f : Nat → Nat) : (s.mapNow f).carder = s.carder := rfl
@[simp] theorem State.mapNow_grd (f : Nat → Nat) : (s.mapNow f).grd = s.grd := rfl
@[simp] theorem State.mapNow_grp (f : Nat → Nat) : (s.mapNow f).grp = s.grp := rfl
@[simp] theorem State.mapNow_keys (f : Nat → Nat) : (s.mapNow f).keys = s.keys := rfl
@[simp] theorem State.mapNow_book (f : Nat → Nat) : (s.mapNow f).book = s.book := rfl
@[simp] theorem State.mapNow_sns (f : Nat → Nat) : (s.mapNow f).sns = s.sns := rfl
@[simp] theorem State.mapNow_loops (f : Nat → Nat) : (s.mapNow f).loops = s.loops := rfl
@[simp] theorem State.mapNow_fans (f : Nat → Nat) : (s.mapNow f).fans = s.fans := rfl
@[simp] theorem State.mapNow_wear (f : Nat → Nat) : (s.mapNow f).wear = s.wear := rfl
@[simp] theorem State.mapNow_seals (f : Nat → Nat) : (s.mapNow f).seals = s.seals := rfl
@[simp] theorem State.mapNow_uarts (f : Nat → Nat) : (s.mapNow f).uarts = s.uarts := rfl
@[simp] theorem State.mapNow_svc (f : Nat → Nat) : (s.mapNow f).svc = s.svc := rfl
@[simp] theorem State.mapNow_pnl (f : Nat → Nat) : (s.mapNow f).pnl = s.pnl := rfl
@[simp] theorem State.mapDraws_now (f : Nat → Nat) : (s.mapDraws f).now = s.now := rfl
@[simp] theorem State.mapDraws_draws (f : Nat → Nat) : (s.mapDraws f).draws = f s.draws := rfl
@[simp] theorem State.mapDraws_pending (f : Nat → Nat) : (s.mapDraws f).pending = s.pending := rfl
@[simp] theorem State.mapDraws_bus (f : Nat → Nat) : (s.mapDraws f).bus = s.bus := rfl
@[simp] theorem State.mapDraws_power (f : Nat → Nat) : (s.mapDraws f).power = s.power := rfl
@[simp] theorem State.mapDraws_boot (f : Nat → Nat) : (s.mapDraws f).boot = s.boot := rfl
@[simp] theorem State.mapDraws_image (f : Nat → Nat) : (s.mapDraws f).image = s.image := rfl
@[simp] theorem State.mapDraws_sram (f : Nat → Nat) : (s.mapDraws f).sram = s.sram := rfl
@[simp] theorem State.mapDraws_mem (f : Nat → Nat) : (s.mapDraws f).mem = s.mem := rfl
@[simp] theorem State.mapDraws_ledger (f : Nat → Nat) : (s.mapDraws f).ledger = s.ledger := rfl
@[simp] theorem State.mapDraws_wbl (f : Nat → Nat) : (s.mapDraws f).wbl = s.wbl := rfl
@[simp] theorem State.mapDraws_gate (f : Nat → Nat) : (s.mapDraws f).gate = s.gate := rfl
@[simp] theorem State.mapDraws_lodgers (f : Nat → Nat) : (s.mapDraws f).lodgers = s.lodgers := rfl
@[simp] theorem State.mapDraws_ink (f : Nat → Nat) : (s.mapDraws f).ink = s.ink := rfl
@[simp] theorem State.mapDraws_thm (f : Nat → Nat) : (s.mapDraws f).thm = s.thm := rfl
@[simp] theorem State.mapDraws_out (f : Nat → Nat) : (s.mapDraws f).out = s.out := rfl
@[simp] theorem State.mapDraws_carder (f : Nat → Nat) : (s.mapDraws f).carder = s.carder := rfl
@[simp] theorem State.mapDraws_grd (f : Nat → Nat) : (s.mapDraws f).grd = s.grd := rfl
@[simp] theorem State.mapDraws_grp (f : Nat → Nat) : (s.mapDraws f).grp = s.grp := rfl
@[simp] theorem State.mapDraws_keys (f : Nat → Nat) : (s.mapDraws f).keys = s.keys := rfl
@[simp] theorem State.mapDraws_book (f : Nat → Nat) : (s.mapDraws f).book = s.book := rfl
@[simp] theorem State.mapDraws_sns (f : Nat → Nat) : (s.mapDraws f).sns = s.sns := rfl
@[simp] theorem State.mapDraws_loops (f : Nat → Nat) : (s.mapDraws f).loops = s.loops := rfl
@[simp] theorem State.mapDraws_fans (f : Nat → Nat) : (s.mapDraws f).fans = s.fans := rfl
@[simp] theorem State.mapDraws_wear (f : Nat → Nat) : (s.mapDraws f).wear = s.wear := rfl
@[simp] theorem State.mapDraws_seals (f : Nat → Nat) : (s.mapDraws f).seals = s.seals := rfl
@[simp] theorem State.mapDraws_uarts (f : Nat → Nat) : (s.mapDraws f).uarts = s.uarts := rfl
@[simp] theorem State.mapDraws_svc (f : Nat → Nat) : (s.mapDraws f).svc = s.svc := rfl
@[simp] theorem State.mapDraws_pnl (f : Nat → Nat) : (s.mapDraws f).pnl = s.pnl := rfl
@[simp] theorem State.mapBus_now (f : Bus → Bus) : (s.mapBus f).now = s.now := rfl
@[simp] theorem State.mapBus_draws (f : Bus → Bus) : (s.mapBus f).draws = s.draws := rfl
@[simp] theorem State.mapBus_pending (f : Bus → Bus) : (s.mapBus f).pending = s.pending := rfl
@[simp] theorem State.mapBus_bus (f : Bus → Bus) : (s.mapBus f).bus = f s.bus := rfl
@[simp] theorem State.mapBus_power (f : Bus → Bus) : (s.mapBus f).power = s.power := rfl
@[simp] theorem State.mapBus_boot (f : Bus → Bus) : (s.mapBus f).boot = s.boot := rfl
@[simp] theorem State.mapBus_image (f : Bus → Bus) : (s.mapBus f).image = s.image := rfl
@[simp] theorem State.mapBus_sram (f : Bus → Bus) : (s.mapBus f).sram = s.sram := rfl
@[simp] theorem State.mapBus_mem (f : Bus → Bus) : (s.mapBus f).mem = s.mem := rfl
@[simp] theorem State.mapBus_ledger (f : Bus → Bus) : (s.mapBus f).ledger = s.ledger := rfl
@[simp] theorem State.mapBus_wbl (f : Bus → Bus) : (s.mapBus f).wbl = s.wbl := rfl
@[simp] theorem State.mapBus_gate (f : Bus → Bus) : (s.mapBus f).gate = s.gate := rfl
@[simp] theorem State.mapBus_lodgers (f : Bus → Bus) : (s.mapBus f).lodgers = s.lodgers := rfl
@[simp] theorem State.mapBus_ink (f : Bus → Bus) : (s.mapBus f).ink = s.ink := rfl
@[simp] theorem State.mapBus_thm (f : Bus → Bus) : (s.mapBus f).thm = s.thm := rfl
@[simp] theorem State.mapBus_out (f : Bus → Bus) : (s.mapBus f).out = s.out := rfl
@[simp] theorem State.mapBus_carder (f : Bus → Bus) : (s.mapBus f).carder = s.carder := rfl
@[simp] theorem State.mapBus_grd (f : Bus → Bus) : (s.mapBus f).grd = s.grd := rfl
@[simp] theorem State.mapBus_grp (f : Bus → Bus) : (s.mapBus f).grp = s.grp := rfl
@[simp] theorem State.mapBus_keys (f : Bus → Bus) : (s.mapBus f).keys = s.keys := rfl
@[simp] theorem State.mapBus_book (f : Bus → Bus) : (s.mapBus f).book = s.book := rfl
@[simp] theorem State.mapBus_sns (f : Bus → Bus) : (s.mapBus f).sns = s.sns := rfl
@[simp] theorem State.mapBus_loops (f : Bus → Bus) : (s.mapBus f).loops = s.loops := rfl
@[simp] theorem State.mapBus_fans (f : Bus → Bus) : (s.mapBus f).fans = s.fans := rfl
@[simp] theorem State.mapBus_wear (f : Bus → Bus) : (s.mapBus f).wear = s.wear := rfl
@[simp] theorem State.mapBus_seals (f : Bus → Bus) : (s.mapBus f).seals = s.seals := rfl
@[simp] theorem State.mapBus_uarts (f : Bus → Bus) : (s.mapBus f).uarts = s.uarts := rfl
@[simp] theorem State.mapBus_svc (f : Bus → Bus) : (s.mapBus f).svc = s.svc := rfl
@[simp] theorem State.mapBus_pnl (f : Bus → Bus) : (s.mapBus f).pnl = s.pnl := rfl
@[simp] theorem State.mapPower_now (f : Power → Power) : (s.mapPower f).now = s.now := rfl
@[simp] theorem State.mapPower_draws (f : Power → Power) : (s.mapPower f).draws = s.draws := rfl
@[simp] theorem State.mapPower_pending (f : Power → Power) : (s.mapPower f).pending = s.pending := rfl
@[simp] theorem State.mapPower_bus (f : Power → Power) : (s.mapPower f).bus = s.bus := rfl
@[simp] theorem State.mapPower_power (f : Power → Power) : (s.mapPower f).power = f s.power := rfl
@[simp] theorem State.mapPower_boot (f : Power → Power) : (s.mapPower f).boot = s.boot := rfl
@[simp] theorem State.mapPower_image (f : Power → Power) : (s.mapPower f).image = s.image := rfl
@[simp] theorem State.mapPower_sram (f : Power → Power) : (s.mapPower f).sram = s.sram := rfl
@[simp] theorem State.mapPower_mem (f : Power → Power) : (s.mapPower f).mem = s.mem := rfl
@[simp] theorem State.mapPower_ledger (f : Power → Power) : (s.mapPower f).ledger = s.ledger := rfl
@[simp] theorem State.mapPower_wbl (f : Power → Power) : (s.mapPower f).wbl = s.wbl := rfl
@[simp] theorem State.mapPower_gate (f : Power → Power) : (s.mapPower f).gate = s.gate := rfl
@[simp] theorem State.mapPower_lodgers (f : Power → Power) : (s.mapPower f).lodgers = s.lodgers := rfl
@[simp] theorem State.mapPower_ink (f : Power → Power) : (s.mapPower f).ink = s.ink := rfl
@[simp] theorem State.mapPower_thm (f : Power → Power) : (s.mapPower f).thm = s.thm := rfl
@[simp] theorem State.mapPower_out (f : Power → Power) : (s.mapPower f).out = s.out := rfl
@[simp] theorem State.mapPower_carder (f : Power → Power) : (s.mapPower f).carder = s.carder := rfl
@[simp] theorem State.mapPower_grd (f : Power → Power) : (s.mapPower f).grd = s.grd := rfl
@[simp] theorem State.mapPower_grp (f : Power → Power) : (s.mapPower f).grp = s.grp := rfl
@[simp] theorem State.mapPower_keys (f : Power → Power) : (s.mapPower f).keys = s.keys := rfl
@[simp] theorem State.mapPower_book (f : Power → Power) : (s.mapPower f).book = s.book := rfl
@[simp] theorem State.mapPower_sns (f : Power → Power) : (s.mapPower f).sns = s.sns := rfl
@[simp] theorem State.mapPower_loops (f : Power → Power) : (s.mapPower f).loops = s.loops := rfl
@[simp] theorem State.mapPower_fans (f : Power → Power) : (s.mapPower f).fans = s.fans := rfl
@[simp] theorem State.mapPower_wear (f : Power → Power) : (s.mapPower f).wear = s.wear := rfl
@[simp] theorem State.mapPower_seals (f : Power → Power) : (s.mapPower f).seals = s.seals := rfl
@[simp] theorem State.mapPower_uarts (f : Power → Power) : (s.mapPower f).uarts = s.uarts := rfl
@[simp] theorem State.mapPower_svc (f : Power → Power) : (s.mapPower f).svc = s.svc := rfl
@[simp] theorem State.mapPower_pnl (f : Power → Power) : (s.mapPower f).pnl = s.pnl := rfl
@[simp] theorem State.mapBoot_now (f : Boot → Boot) : (s.mapBoot f).now = s.now := rfl
@[simp] theorem State.mapBoot_draws (f : Boot → Boot) : (s.mapBoot f).draws = s.draws := rfl
@[simp] theorem State.mapBoot_pending (f : Boot → Boot) : (s.mapBoot f).pending = s.pending := rfl
@[simp] theorem State.mapBoot_bus (f : Boot → Boot) : (s.mapBoot f).bus = s.bus := rfl
@[simp] theorem State.mapBoot_power (f : Boot → Boot) : (s.mapBoot f).power = s.power := rfl
@[simp] theorem State.mapBoot_boot (f : Boot → Boot) : (s.mapBoot f).boot = f s.boot := rfl
@[simp] theorem State.mapBoot_image (f : Boot → Boot) : (s.mapBoot f).image = s.image := rfl
@[simp] theorem State.mapBoot_sram (f : Boot → Boot) : (s.mapBoot f).sram = s.sram := rfl
@[simp] theorem State.mapBoot_mem (f : Boot → Boot) : (s.mapBoot f).mem = s.mem := rfl
@[simp] theorem State.mapBoot_ledger (f : Boot → Boot) : (s.mapBoot f).ledger = s.ledger := rfl
@[simp] theorem State.mapBoot_wbl (f : Boot → Boot) : (s.mapBoot f).wbl = s.wbl := rfl
@[simp] theorem State.mapBoot_gate (f : Boot → Boot) : (s.mapBoot f).gate = s.gate := rfl
@[simp] theorem State.mapBoot_lodgers (f : Boot → Boot) : (s.mapBoot f).lodgers = s.lodgers := rfl
@[simp] theorem State.mapBoot_ink (f : Boot → Boot) : (s.mapBoot f).ink = s.ink := rfl
@[simp] theorem State.mapBoot_thm (f : Boot → Boot) : (s.mapBoot f).thm = s.thm := rfl
@[simp] theorem State.mapBoot_out (f : Boot → Boot) : (s.mapBoot f).out = s.out := rfl
@[simp] theorem State.mapBoot_carder (f : Boot → Boot) : (s.mapBoot f).carder = s.carder := rfl
@[simp] theorem State.mapBoot_grd (f : Boot → Boot) : (s.mapBoot f).grd = s.grd := rfl
@[simp] theorem State.mapBoot_grp (f : Boot → Boot) : (s.mapBoot f).grp = s.grp := rfl
@[simp] theorem State.mapBoot_keys (f : Boot → Boot) : (s.mapBoot f).keys = s.keys := rfl
@[simp] theorem State.mapBoot_book (f : Boot → Boot) : (s.mapBoot f).book = s.book := rfl
@[simp] theorem State.mapBoot_sns (f : Boot → Boot) : (s.mapBoot f).sns = s.sns := rfl
@[simp] theorem State.mapBoot_loops (f : Boot → Boot) : (s.mapBoot f).loops = s.loops := rfl
@[simp] theorem State.mapBoot_fans (f : Boot → Boot) : (s.mapBoot f).fans = s.fans := rfl
@[simp] theorem State.mapBoot_wear (f : Boot → Boot) : (s.mapBoot f).wear = s.wear := rfl
@[simp] theorem State.mapBoot_seals (f : Boot → Boot) : (s.mapBoot f).seals = s.seals := rfl
@[simp] theorem State.mapBoot_uarts (f : Boot → Boot) : (s.mapBoot f).uarts = s.uarts := rfl
@[simp] theorem State.mapBoot_svc (f : Boot → Boot) : (s.mapBoot f).svc = s.svc := rfl
@[simp] theorem State.mapBoot_pnl (f : Boot → Boot) : (s.mapBoot f).pnl = s.pnl := rfl
@[simp] theorem State.mapImage_now (f : Option Image → Option Image) : (s.mapImage f).now = s.now := rfl
@[simp] theorem State.mapImage_draws (f : Option Image → Option Image) : (s.mapImage f).draws = s.draws := rfl
@[simp] theorem State.mapImage_pending (f : Option Image → Option Image) : (s.mapImage f).pending = s.pending := rfl
@[simp] theorem State.mapImage_bus (f : Option Image → Option Image) : (s.mapImage f).bus = s.bus := rfl
@[simp] theorem State.mapImage_power (f : Option Image → Option Image) : (s.mapImage f).power = s.power := rfl
@[simp] theorem State.mapImage_boot (f : Option Image → Option Image) : (s.mapImage f).boot = s.boot := rfl
@[simp] theorem State.mapImage_image (f : Option Image → Option Image) : (s.mapImage f).image = f s.image := rfl
@[simp] theorem State.mapImage_sram (f : Option Image → Option Image) : (s.mapImage f).sram = s.sram := rfl
@[simp] theorem State.mapImage_mem (f : Option Image → Option Image) : (s.mapImage f).mem = s.mem := rfl
@[simp] theorem State.mapImage_ledger (f : Option Image → Option Image) : (s.mapImage f).ledger = s.ledger := rfl
@[simp] theorem State.mapImage_wbl (f : Option Image → Option Image) : (s.mapImage f).wbl = s.wbl := rfl
@[simp] theorem State.mapImage_gate (f : Option Image → Option Image) : (s.mapImage f).gate = s.gate := rfl
@[simp] theorem State.mapImage_lodgers (f : Option Image → Option Image) : (s.mapImage f).lodgers = s.lodgers := rfl
@[simp] theorem State.mapImage_ink (f : Option Image → Option Image) : (s.mapImage f).ink = s.ink := rfl
@[simp] theorem State.mapImage_thm (f : Option Image → Option Image) : (s.mapImage f).thm = s.thm := rfl
@[simp] theorem State.mapImage_out (f : Option Image → Option Image) : (s.mapImage f).out = s.out := rfl
@[simp] theorem State.mapImage_carder (f : Option Image → Option Image) : (s.mapImage f).carder = s.carder := rfl
@[simp] theorem State.mapImage_grd (f : Option Image → Option Image) : (s.mapImage f).grd = s.grd := rfl
@[simp] theorem State.mapImage_grp (f : Option Image → Option Image) : (s.mapImage f).grp = s.grp := rfl
@[simp] theorem State.mapImage_keys (f : Option Image → Option Image) : (s.mapImage f).keys = s.keys := rfl
@[simp] theorem State.mapImage_book (f : Option Image → Option Image) : (s.mapImage f).book = s.book := rfl
@[simp] theorem State.mapImage_sns (f : Option Image → Option Image) : (s.mapImage f).sns = s.sns := rfl
@[simp] theorem State.mapImage_loops (f : Option Image → Option Image) : (s.mapImage f).loops = s.loops := rfl
@[simp] theorem State.mapImage_fans (f : Option Image → Option Image) : (s.mapImage f).fans = s.fans := rfl
@[simp] theorem State.mapImage_wear (f : Option Image → Option Image) : (s.mapImage f).wear = s.wear := rfl
@[simp] theorem State.mapImage_seals (f : Option Image → Option Image) : (s.mapImage f).seals = s.seals := rfl
@[simp] theorem State.mapImage_uarts (f : Option Image → Option Image) : (s.mapImage f).uarts = s.uarts := rfl
@[simp] theorem State.mapImage_svc (f : Option Image → Option Image) : (s.mapImage f).svc = s.svc := rfl
@[simp] theorem State.mapImage_pnl (f : Option Image → Option Image) : (s.mapImage f).pnl = s.pnl := rfl
@[simp] theorem State.mapSram_now (f : Sram → Sram) : (s.mapSram f).now = s.now := rfl
@[simp] theorem State.mapSram_draws (f : Sram → Sram) : (s.mapSram f).draws = s.draws := rfl
@[simp] theorem State.mapSram_pending (f : Sram → Sram) : (s.mapSram f).pending = s.pending := rfl
@[simp] theorem State.mapSram_bus (f : Sram → Sram) : (s.mapSram f).bus = s.bus := rfl
@[simp] theorem State.mapSram_power (f : Sram → Sram) : (s.mapSram f).power = s.power := rfl
@[simp] theorem State.mapSram_boot (f : Sram → Sram) : (s.mapSram f).boot = s.boot := rfl
@[simp] theorem State.mapSram_image (f : Sram → Sram) : (s.mapSram f).image = s.image := rfl
@[simp] theorem State.mapSram_sram (f : Sram → Sram) : (s.mapSram f).sram = f s.sram := rfl
@[simp] theorem State.mapSram_mem (f : Sram → Sram) : (s.mapSram f).mem = s.mem := rfl
@[simp] theorem State.mapSram_ledger (f : Sram → Sram) : (s.mapSram f).ledger = s.ledger := rfl
@[simp] theorem State.mapSram_wbl (f : Sram → Sram) : (s.mapSram f).wbl = s.wbl := rfl
@[simp] theorem State.mapSram_gate (f : Sram → Sram) : (s.mapSram f).gate = s.gate := rfl
@[simp] theorem State.mapSram_lodgers (f : Sram → Sram) : (s.mapSram f).lodgers = s.lodgers := rfl
@[simp] theorem State.mapSram_ink (f : Sram → Sram) : (s.mapSram f).ink = s.ink := rfl
@[simp] theorem State.mapSram_thm (f : Sram → Sram) : (s.mapSram f).thm = s.thm := rfl
@[simp] theorem State.mapSram_out (f : Sram → Sram) : (s.mapSram f).out = s.out := rfl
@[simp] theorem State.mapSram_carder (f : Sram → Sram) : (s.mapSram f).carder = s.carder := rfl
@[simp] theorem State.mapSram_grd (f : Sram → Sram) : (s.mapSram f).grd = s.grd := rfl
@[simp] theorem State.mapSram_grp (f : Sram → Sram) : (s.mapSram f).grp = s.grp := rfl
@[simp] theorem State.mapSram_keys (f : Sram → Sram) : (s.mapSram f).keys = s.keys := rfl
@[simp] theorem State.mapSram_book (f : Sram → Sram) : (s.mapSram f).book = s.book := rfl
@[simp] theorem State.mapSram_sns (f : Sram → Sram) : (s.mapSram f).sns = s.sns := rfl
@[simp] theorem State.mapSram_loops (f : Sram → Sram) : (s.mapSram f).loops = s.loops := rfl
@[simp] theorem State.mapSram_fans (f : Sram → Sram) : (s.mapSram f).fans = s.fans := rfl
@[simp] theorem State.mapSram_wear (f : Sram → Sram) : (s.mapSram f).wear = s.wear := rfl
@[simp] theorem State.mapSram_seals (f : Sram → Sram) : (s.mapSram f).seals = s.seals := rfl
@[simp] theorem State.mapSram_uarts (f : Sram → Sram) : (s.mapSram f).uarts = s.uarts := rfl
@[simp] theorem State.mapSram_svc (f : Sram → Sram) : (s.mapSram f).svc = s.svc := rfl
@[simp] theorem State.mapSram_pnl (f : Sram → Sram) : (s.mapSram f).pnl = s.pnl := rfl
@[simp] theorem State.mapMem_now (f : MemRegs → MemRegs) : (s.mapMem f).now = s.now := rfl
@[simp] theorem State.mapMem_draws (f : MemRegs → MemRegs) : (s.mapMem f).draws = s.draws := rfl
@[simp] theorem State.mapMem_pending (f : MemRegs → MemRegs) : (s.mapMem f).pending = s.pending := rfl
@[simp] theorem State.mapMem_bus (f : MemRegs → MemRegs) : (s.mapMem f).bus = s.bus := rfl
@[simp] theorem State.mapMem_power (f : MemRegs → MemRegs) : (s.mapMem f).power = s.power := rfl
@[simp] theorem State.mapMem_boot (f : MemRegs → MemRegs) : (s.mapMem f).boot = s.boot := rfl
@[simp] theorem State.mapMem_image (f : MemRegs → MemRegs) : (s.mapMem f).image = s.image := rfl
@[simp] theorem State.mapMem_sram (f : MemRegs → MemRegs) : (s.mapMem f).sram = s.sram := rfl
@[simp] theorem State.mapMem_mem (f : MemRegs → MemRegs) : (s.mapMem f).mem = f s.mem := rfl
@[simp] theorem State.mapMem_ledger (f : MemRegs → MemRegs) : (s.mapMem f).ledger = s.ledger := rfl
@[simp] theorem State.mapMem_wbl (f : MemRegs → MemRegs) : (s.mapMem f).wbl = s.wbl := rfl
@[simp] theorem State.mapMem_gate (f : MemRegs → MemRegs) : (s.mapMem f).gate = s.gate := rfl
@[simp] theorem State.mapMem_lodgers (f : MemRegs → MemRegs) : (s.mapMem f).lodgers = s.lodgers := rfl
@[simp] theorem State.mapMem_ink (f : MemRegs → MemRegs) : (s.mapMem f).ink = s.ink := rfl
@[simp] theorem State.mapMem_thm (f : MemRegs → MemRegs) : (s.mapMem f).thm = s.thm := rfl
@[simp] theorem State.mapMem_out (f : MemRegs → MemRegs) : (s.mapMem f).out = s.out := rfl
@[simp] theorem State.mapMem_carder (f : MemRegs → MemRegs) : (s.mapMem f).carder = s.carder := rfl
@[simp] theorem State.mapMem_grd (f : MemRegs → MemRegs) : (s.mapMem f).grd = s.grd := rfl
@[simp] theorem State.mapMem_grp (f : MemRegs → MemRegs) : (s.mapMem f).grp = s.grp := rfl
@[simp] theorem State.mapMem_keys (f : MemRegs → MemRegs) : (s.mapMem f).keys = s.keys := rfl
@[simp] theorem State.mapMem_book (f : MemRegs → MemRegs) : (s.mapMem f).book = s.book := rfl
@[simp] theorem State.mapMem_sns (f : MemRegs → MemRegs) : (s.mapMem f).sns = s.sns := rfl
@[simp] theorem State.mapMem_loops (f : MemRegs → MemRegs) : (s.mapMem f).loops = s.loops := rfl
@[simp] theorem State.mapMem_fans (f : MemRegs → MemRegs) : (s.mapMem f).fans = s.fans := rfl
@[simp] theorem State.mapMem_wear (f : MemRegs → MemRegs) : (s.mapMem f).wear = s.wear := rfl
@[simp] theorem State.mapMem_seals (f : MemRegs → MemRegs) : (s.mapMem f).seals = s.seals := rfl
@[simp] theorem State.mapMem_uarts (f : MemRegs → MemRegs) : (s.mapMem f).uarts = s.uarts := rfl
@[simp] theorem State.mapMem_svc (f : MemRegs → MemRegs) : (s.mapMem f).svc = s.svc := rfl
@[simp] theorem State.mapMem_pnl (f : MemRegs → MemRegs) : (s.mapMem f).pnl = s.pnl := rfl
@[simp] theorem State.mapLedger_now (f : Ledger → Ledger) : (s.mapLedger f).now = s.now := rfl
@[simp] theorem State.mapLedger_draws (f : Ledger → Ledger) : (s.mapLedger f).draws = s.draws := rfl
@[simp] theorem State.mapLedger_pending (f : Ledger → Ledger) : (s.mapLedger f).pending = s.pending := rfl
@[simp] theorem State.mapLedger_bus (f : Ledger → Ledger) : (s.mapLedger f).bus = s.bus := rfl
@[simp] theorem State.mapLedger_power (f : Ledger → Ledger) : (s.mapLedger f).power = s.power := rfl
@[simp] theorem State.mapLedger_boot (f : Ledger → Ledger) : (s.mapLedger f).boot = s.boot := rfl
@[simp] theorem State.mapLedger_image (f : Ledger → Ledger) : (s.mapLedger f).image = s.image := rfl
@[simp] theorem State.mapLedger_sram (f : Ledger → Ledger) : (s.mapLedger f).sram = s.sram := rfl
@[simp] theorem State.mapLedger_mem (f : Ledger → Ledger) : (s.mapLedger f).mem = s.mem := rfl
@[simp] theorem State.mapLedger_ledger (f : Ledger → Ledger) : (s.mapLedger f).ledger = f s.ledger := rfl
@[simp] theorem State.mapLedger_wbl (f : Ledger → Ledger) : (s.mapLedger f).wbl = s.wbl := rfl
@[simp] theorem State.mapLedger_gate (f : Ledger → Ledger) : (s.mapLedger f).gate = s.gate := rfl
@[simp] theorem State.mapLedger_lodgers (f : Ledger → Ledger) : (s.mapLedger f).lodgers = s.lodgers := rfl
@[simp] theorem State.mapLedger_ink (f : Ledger → Ledger) : (s.mapLedger f).ink = s.ink := rfl
@[simp] theorem State.mapLedger_thm (f : Ledger → Ledger) : (s.mapLedger f).thm = s.thm := rfl
@[simp] theorem State.mapLedger_out (f : Ledger → Ledger) : (s.mapLedger f).out = s.out := rfl
@[simp] theorem State.mapLedger_carder (f : Ledger → Ledger) : (s.mapLedger f).carder = s.carder := rfl
@[simp] theorem State.mapLedger_grd (f : Ledger → Ledger) : (s.mapLedger f).grd = s.grd := rfl
@[simp] theorem State.mapLedger_grp (f : Ledger → Ledger) : (s.mapLedger f).grp = s.grp := rfl
@[simp] theorem State.mapLedger_keys (f : Ledger → Ledger) : (s.mapLedger f).keys = s.keys := rfl
@[simp] theorem State.mapLedger_book (f : Ledger → Ledger) : (s.mapLedger f).book = s.book := rfl
@[simp] theorem State.mapLedger_sns (f : Ledger → Ledger) : (s.mapLedger f).sns = s.sns := rfl
@[simp] theorem State.mapLedger_loops (f : Ledger → Ledger) : (s.mapLedger f).loops = s.loops := rfl
@[simp] theorem State.mapLedger_fans (f : Ledger → Ledger) : (s.mapLedger f).fans = s.fans := rfl
@[simp] theorem State.mapLedger_wear (f : Ledger → Ledger) : (s.mapLedger f).wear = s.wear := rfl
@[simp] theorem State.mapLedger_seals (f : Ledger → Ledger) : (s.mapLedger f).seals = s.seals := rfl
@[simp] theorem State.mapLedger_uarts (f : Ledger → Ledger) : (s.mapLedger f).uarts = s.uarts := rfl
@[simp] theorem State.mapLedger_svc (f : Ledger → Ledger) : (s.mapLedger f).svc = s.svc := rfl
@[simp] theorem State.mapLedger_pnl (f : Ledger → Ledger) : (s.mapLedger f).pnl = s.pnl := rfl
@[simp] theorem State.mapWbl_now (f : Waybill → Waybill) : (s.mapWbl f).now = s.now := rfl
@[simp] theorem State.mapWbl_draws (f : Waybill → Waybill) : (s.mapWbl f).draws = s.draws := rfl
@[simp] theorem State.mapWbl_pending (f : Waybill → Waybill) : (s.mapWbl f).pending = s.pending := rfl
@[simp] theorem State.mapWbl_bus (f : Waybill → Waybill) : (s.mapWbl f).bus = s.bus := rfl
@[simp] theorem State.mapWbl_power (f : Waybill → Waybill) : (s.mapWbl f).power = s.power := rfl
@[simp] theorem State.mapWbl_boot (f : Waybill → Waybill) : (s.mapWbl f).boot = s.boot := rfl
@[simp] theorem State.mapWbl_image (f : Waybill → Waybill) : (s.mapWbl f).image = s.image := rfl
@[simp] theorem State.mapWbl_sram (f : Waybill → Waybill) : (s.mapWbl f).sram = s.sram := rfl
@[simp] theorem State.mapWbl_mem (f : Waybill → Waybill) : (s.mapWbl f).mem = s.mem := rfl
@[simp] theorem State.mapWbl_ledger (f : Waybill → Waybill) : (s.mapWbl f).ledger = s.ledger := rfl
@[simp] theorem State.mapWbl_wbl (f : Waybill → Waybill) : (s.mapWbl f).wbl = f s.wbl := rfl
@[simp] theorem State.mapWbl_gate (f : Waybill → Waybill) : (s.mapWbl f).gate = s.gate := rfl
@[simp] theorem State.mapWbl_lodgers (f : Waybill → Waybill) : (s.mapWbl f).lodgers = s.lodgers := rfl
@[simp] theorem State.mapWbl_ink (f : Waybill → Waybill) : (s.mapWbl f).ink = s.ink := rfl
@[simp] theorem State.mapWbl_thm (f : Waybill → Waybill) : (s.mapWbl f).thm = s.thm := rfl
@[simp] theorem State.mapWbl_out (f : Waybill → Waybill) : (s.mapWbl f).out = s.out := rfl
@[simp] theorem State.mapWbl_carder (f : Waybill → Waybill) : (s.mapWbl f).carder = s.carder := rfl
@[simp] theorem State.mapWbl_grd (f : Waybill → Waybill) : (s.mapWbl f).grd = s.grd := rfl
@[simp] theorem State.mapWbl_grp (f : Waybill → Waybill) : (s.mapWbl f).grp = s.grp := rfl
@[simp] theorem State.mapWbl_keys (f : Waybill → Waybill) : (s.mapWbl f).keys = s.keys := rfl
@[simp] theorem State.mapWbl_book (f : Waybill → Waybill) : (s.mapWbl f).book = s.book := rfl
@[simp] theorem State.mapWbl_sns (f : Waybill → Waybill) : (s.mapWbl f).sns = s.sns := rfl
@[simp] theorem State.mapWbl_loops (f : Waybill → Waybill) : (s.mapWbl f).loops = s.loops := rfl
@[simp] theorem State.mapWbl_fans (f : Waybill → Waybill) : (s.mapWbl f).fans = s.fans := rfl
@[simp] theorem State.mapWbl_wear (f : Waybill → Waybill) : (s.mapWbl f).wear = s.wear := rfl
@[simp] theorem State.mapWbl_seals (f : Waybill → Waybill) : (s.mapWbl f).seals = s.seals := rfl
@[simp] theorem State.mapWbl_uarts (f : Waybill → Waybill) : (s.mapWbl f).uarts = s.uarts := rfl
@[simp] theorem State.mapWbl_svc (f : Waybill → Waybill) : (s.mapWbl f).svc = s.svc := rfl
@[simp] theorem State.mapWbl_pnl (f : Waybill → Waybill) : (s.mapWbl f).pnl = s.pnl := rfl
@[simp] theorem State.mapGate_now (f : Gate → Gate) : (s.mapGate f).now = s.now := rfl
@[simp] theorem State.mapGate_draws (f : Gate → Gate) : (s.mapGate f).draws = s.draws := rfl
@[simp] theorem State.mapGate_pending (f : Gate → Gate) : (s.mapGate f).pending = s.pending := rfl
@[simp] theorem State.mapGate_bus (f : Gate → Gate) : (s.mapGate f).bus = s.bus := rfl
@[simp] theorem State.mapGate_power (f : Gate → Gate) : (s.mapGate f).power = s.power := rfl
@[simp] theorem State.mapGate_boot (f : Gate → Gate) : (s.mapGate f).boot = s.boot := rfl
@[simp] theorem State.mapGate_image (f : Gate → Gate) : (s.mapGate f).image = s.image := rfl
@[simp] theorem State.mapGate_sram (f : Gate → Gate) : (s.mapGate f).sram = s.sram := rfl
@[simp] theorem State.mapGate_mem (f : Gate → Gate) : (s.mapGate f).mem = s.mem := rfl
@[simp] theorem State.mapGate_ledger (f : Gate → Gate) : (s.mapGate f).ledger = s.ledger := rfl
@[simp] theorem State.mapGate_wbl (f : Gate → Gate) : (s.mapGate f).wbl = s.wbl := rfl
@[simp] theorem State.mapGate_gate (f : Gate → Gate) : (s.mapGate f).gate = f s.gate := rfl
@[simp] theorem State.mapGate_lodgers (f : Gate → Gate) : (s.mapGate f).lodgers = s.lodgers := rfl
@[simp] theorem State.mapGate_ink (f : Gate → Gate) : (s.mapGate f).ink = s.ink := rfl
@[simp] theorem State.mapGate_thm (f : Gate → Gate) : (s.mapGate f).thm = s.thm := rfl
@[simp] theorem State.mapGate_out (f : Gate → Gate) : (s.mapGate f).out = s.out := rfl
@[simp] theorem State.mapGate_carder (f : Gate → Gate) : (s.mapGate f).carder = s.carder := rfl
@[simp] theorem State.mapGate_grd (f : Gate → Gate) : (s.mapGate f).grd = s.grd := rfl
@[simp] theorem State.mapGate_grp (f : Gate → Gate) : (s.mapGate f).grp = s.grp := rfl
@[simp] theorem State.mapGate_keys (f : Gate → Gate) : (s.mapGate f).keys = s.keys := rfl
@[simp] theorem State.mapGate_book (f : Gate → Gate) : (s.mapGate f).book = s.book := rfl
@[simp] theorem State.mapGate_sns (f : Gate → Gate) : (s.mapGate f).sns = s.sns := rfl
@[simp] theorem State.mapGate_loops (f : Gate → Gate) : (s.mapGate f).loops = s.loops := rfl
@[simp] theorem State.mapGate_fans (f : Gate → Gate) : (s.mapGate f).fans = s.fans := rfl
@[simp] theorem State.mapGate_wear (f : Gate → Gate) : (s.mapGate f).wear = s.wear := rfl
@[simp] theorem State.mapGate_seals (f : Gate → Gate) : (s.mapGate f).seals = s.seals := rfl
@[simp] theorem State.mapGate_uarts (f : Gate → Gate) : (s.mapGate f).uarts = s.uarts := rfl
@[simp] theorem State.mapGate_svc (f : Gate → Gate) : (s.mapGate f).svc = s.svc := rfl
@[simp] theorem State.mapGate_pnl (f : Gate → Gate) : (s.mapGate f).pnl = s.pnl := rfl
@[simp] theorem State.mapLodgers_now (f : Vector Lodger 4 → Vector Lodger 4) : (s.mapLodgers f).now = s.now := rfl
@[simp] theorem State.mapLodgers_draws (f : Vector Lodger 4 → Vector Lodger 4) : (s.mapLodgers f).draws = s.draws := rfl
@[simp] theorem State.mapLodgers_pending (f : Vector Lodger 4 → Vector Lodger 4) : (s.mapLodgers f).pending = s.pending := rfl
@[simp] theorem State.mapLodgers_bus (f : Vector Lodger 4 → Vector Lodger 4) : (s.mapLodgers f).bus = s.bus := rfl
@[simp] theorem State.mapLodgers_power (f : Vector Lodger 4 → Vector Lodger 4) : (s.mapLodgers f).power = s.power := rfl
@[simp] theorem State.mapLodgers_boot (f : Vector Lodger 4 → Vector Lodger 4) : (s.mapLodgers f).boot = s.boot := rfl
@[simp] theorem State.mapLodgers_image (f : Vector Lodger 4 → Vector Lodger 4) : (s.mapLodgers f).image = s.image := rfl
@[simp] theorem State.mapLodgers_sram (f : Vector Lodger 4 → Vector Lodger 4) : (s.mapLodgers f).sram = s.sram := rfl
@[simp] theorem State.mapLodgers_mem (f : Vector Lodger 4 → Vector Lodger 4) : (s.mapLodgers f).mem = s.mem := rfl
@[simp] theorem State.mapLodgers_ledger (f : Vector Lodger 4 → Vector Lodger 4) : (s.mapLodgers f).ledger = s.ledger := rfl
@[simp] theorem State.mapLodgers_wbl (f : Vector Lodger 4 → Vector Lodger 4) : (s.mapLodgers f).wbl = s.wbl := rfl
@[simp] theorem State.mapLodgers_gate (f : Vector Lodger 4 → Vector Lodger 4) : (s.mapLodgers f).gate = s.gate := rfl
@[simp] theorem State.mapLodgers_lodgers (f : Vector Lodger 4 → Vector Lodger 4) : (s.mapLodgers f).lodgers = f s.lodgers := rfl
@[simp] theorem State.mapLodgers_ink (f : Vector Lodger 4 → Vector Lodger 4) : (s.mapLodgers f).ink = s.ink := rfl
@[simp] theorem State.mapLodgers_thm (f : Vector Lodger 4 → Vector Lodger 4) : (s.mapLodgers f).thm = s.thm := rfl
@[simp] theorem State.mapLodgers_out (f : Vector Lodger 4 → Vector Lodger 4) : (s.mapLodgers f).out = s.out := rfl
@[simp] theorem State.mapLodgers_carder (f : Vector Lodger 4 → Vector Lodger 4) : (s.mapLodgers f).carder = s.carder := rfl
@[simp] theorem State.mapLodgers_grd (f : Vector Lodger 4 → Vector Lodger 4) : (s.mapLodgers f).grd = s.grd := rfl
@[simp] theorem State.mapLodgers_grp (f : Vector Lodger 4 → Vector Lodger 4) : (s.mapLodgers f).grp = s.grp := rfl
@[simp] theorem State.mapLodgers_keys (f : Vector Lodger 4 → Vector Lodger 4) : (s.mapLodgers f).keys = s.keys := rfl
@[simp] theorem State.mapLodgers_book (f : Vector Lodger 4 → Vector Lodger 4) : (s.mapLodgers f).book = s.book := rfl
@[simp] theorem State.mapLodgers_sns (f : Vector Lodger 4 → Vector Lodger 4) : (s.mapLodgers f).sns = s.sns := rfl
@[simp] theorem State.mapLodgers_loops (f : Vector Lodger 4 → Vector Lodger 4) : (s.mapLodgers f).loops = s.loops := rfl
@[simp] theorem State.mapLodgers_fans (f : Vector Lodger 4 → Vector Lodger 4) : (s.mapLodgers f).fans = s.fans := rfl
@[simp] theorem State.mapLodgers_wear (f : Vector Lodger 4 → Vector Lodger 4) : (s.mapLodgers f).wear = s.wear := rfl
@[simp] theorem State.mapLodgers_seals (f : Vector Lodger 4 → Vector Lodger 4) : (s.mapLodgers f).seals = s.seals := rfl
@[simp] theorem State.mapLodgers_uarts (f : Vector Lodger 4 → Vector Lodger 4) : (s.mapLodgers f).uarts = s.uarts := rfl
@[simp] theorem State.mapLodgers_svc (f : Vector Lodger 4 → Vector Lodger 4) : (s.mapLodgers f).svc = s.svc := rfl
@[simp] theorem State.mapLodgers_pnl (f : Vector Lodger 4 → Vector Lodger 4) : (s.mapLodgers f).pnl = s.pnl := rfl
@[simp] theorem State.mapInk_now (f : Ink → Ink) : (s.mapInk f).now = s.now := rfl
@[simp] theorem State.mapInk_draws (f : Ink → Ink) : (s.mapInk f).draws = s.draws := rfl
@[simp] theorem State.mapInk_pending (f : Ink → Ink) : (s.mapInk f).pending = s.pending := rfl
@[simp] theorem State.mapInk_bus (f : Ink → Ink) : (s.mapInk f).bus = s.bus := rfl
@[simp] theorem State.mapInk_power (f : Ink → Ink) : (s.mapInk f).power = s.power := rfl
@[simp] theorem State.mapInk_boot (f : Ink → Ink) : (s.mapInk f).boot = s.boot := rfl
@[simp] theorem State.mapInk_image (f : Ink → Ink) : (s.mapInk f).image = s.image := rfl
@[simp] theorem State.mapInk_sram (f : Ink → Ink) : (s.mapInk f).sram = s.sram := rfl
@[simp] theorem State.mapInk_mem (f : Ink → Ink) : (s.mapInk f).mem = s.mem := rfl
@[simp] theorem State.mapInk_ledger (f : Ink → Ink) : (s.mapInk f).ledger = s.ledger := rfl
@[simp] theorem State.mapInk_wbl (f : Ink → Ink) : (s.mapInk f).wbl = s.wbl := rfl
@[simp] theorem State.mapInk_gate (f : Ink → Ink) : (s.mapInk f).gate = s.gate := rfl
@[simp] theorem State.mapInk_lodgers (f : Ink → Ink) : (s.mapInk f).lodgers = s.lodgers := rfl
@[simp] theorem State.mapInk_ink (f : Ink → Ink) : (s.mapInk f).ink = f s.ink := rfl
@[simp] theorem State.mapInk_thm (f : Ink → Ink) : (s.mapInk f).thm = s.thm := rfl
@[simp] theorem State.mapInk_out (f : Ink → Ink) : (s.mapInk f).out = s.out := rfl
@[simp] theorem State.mapInk_carder (f : Ink → Ink) : (s.mapInk f).carder = s.carder := rfl
@[simp] theorem State.mapInk_grd (f : Ink → Ink) : (s.mapInk f).grd = s.grd := rfl
@[simp] theorem State.mapInk_grp (f : Ink → Ink) : (s.mapInk f).grp = s.grp := rfl
@[simp] theorem State.mapInk_keys (f : Ink → Ink) : (s.mapInk f).keys = s.keys := rfl
@[simp] theorem State.mapInk_book (f : Ink → Ink) : (s.mapInk f).book = s.book := rfl
@[simp] theorem State.mapInk_sns (f : Ink → Ink) : (s.mapInk f).sns = s.sns := rfl
@[simp] theorem State.mapInk_loops (f : Ink → Ink) : (s.mapInk f).loops = s.loops := rfl
@[simp] theorem State.mapInk_fans (f : Ink → Ink) : (s.mapInk f).fans = s.fans := rfl
@[simp] theorem State.mapInk_wear (f : Ink → Ink) : (s.mapInk f).wear = s.wear := rfl
@[simp] theorem State.mapInk_seals (f : Ink → Ink) : (s.mapInk f).seals = s.seals := rfl
@[simp] theorem State.mapInk_uarts (f : Ink → Ink) : (s.mapInk f).uarts = s.uarts := rfl
@[simp] theorem State.mapInk_svc (f : Ink → Ink) : (s.mapInk f).svc = s.svc := rfl
@[simp] theorem State.mapInk_pnl (f : Ink → Ink) : (s.mapInk f).pnl = s.pnl := rfl
@[simp] theorem State.mapThm_now (f : Thm → Thm) : (s.mapThm f).now = s.now := rfl
@[simp] theorem State.mapThm_draws (f : Thm → Thm) : (s.mapThm f).draws = s.draws := rfl
@[simp] theorem State.mapThm_pending (f : Thm → Thm) : (s.mapThm f).pending = s.pending := rfl
@[simp] theorem State.mapThm_bus (f : Thm → Thm) : (s.mapThm f).bus = s.bus := rfl
@[simp] theorem State.mapThm_power (f : Thm → Thm) : (s.mapThm f).power = s.power := rfl
@[simp] theorem State.mapThm_boot (f : Thm → Thm) : (s.mapThm f).boot = s.boot := rfl
@[simp] theorem State.mapThm_image (f : Thm → Thm) : (s.mapThm f).image = s.image := rfl
@[simp] theorem State.mapThm_sram (f : Thm → Thm) : (s.mapThm f).sram = s.sram := rfl
@[simp] theorem State.mapThm_mem (f : Thm → Thm) : (s.mapThm f).mem = s.mem := rfl
@[simp] theorem State.mapThm_ledger (f : Thm → Thm) : (s.mapThm f).ledger = s.ledger := rfl
@[simp] theorem State.mapThm_wbl (f : Thm → Thm) : (s.mapThm f).wbl = s.wbl := rfl
@[simp] theorem State.mapThm_gate (f : Thm → Thm) : (s.mapThm f).gate = s.gate := rfl
@[simp] theorem State.mapThm_lodgers (f : Thm → Thm) : (s.mapThm f).lodgers = s.lodgers := rfl
@[simp] theorem State.mapThm_ink (f : Thm → Thm) : (s.mapThm f).ink = s.ink := rfl
@[simp] theorem State.mapThm_thm (f : Thm → Thm) : (s.mapThm f).thm = f s.thm := rfl
@[simp] theorem State.mapThm_out (f : Thm → Thm) : (s.mapThm f).out = s.out := rfl
@[simp] theorem State.mapThm_carder (f : Thm → Thm) : (s.mapThm f).carder = s.carder := rfl
@[simp] theorem State.mapThm_grd (f : Thm → Thm) : (s.mapThm f).grd = s.grd := rfl
@[simp] theorem State.mapThm_grp (f : Thm → Thm) : (s.mapThm f).grp = s.grp := rfl
@[simp] theorem State.mapThm_keys (f : Thm → Thm) : (s.mapThm f).keys = s.keys := rfl
@[simp] theorem State.mapThm_book (f : Thm → Thm) : (s.mapThm f).book = s.book := rfl
@[simp] theorem State.mapThm_sns (f : Thm → Thm) : (s.mapThm f).sns = s.sns := rfl
@[simp] theorem State.mapThm_loops (f : Thm → Thm) : (s.mapThm f).loops = s.loops := rfl
@[simp] theorem State.mapThm_fans (f : Thm → Thm) : (s.mapThm f).fans = s.fans := rfl
@[simp] theorem State.mapThm_wear (f : Thm → Thm) : (s.mapThm f).wear = s.wear := rfl
@[simp] theorem State.mapThm_seals (f : Thm → Thm) : (s.mapThm f).seals = s.seals := rfl
@[simp] theorem State.mapThm_uarts (f : Thm → Thm) : (s.mapThm f).uarts = s.uarts := rfl
@[simp] theorem State.mapThm_svc (f : Thm → Thm) : (s.mapThm f).svc = s.svc := rfl
@[simp] theorem State.mapThm_pnl (f : Thm → Thm) : (s.mapThm f).pnl = s.pnl := rfl
@[simp] theorem State.mapOut_now (f : OutBlock → OutBlock) : (s.mapOut f).now = s.now := rfl
@[simp] theorem State.mapOut_draws (f : OutBlock → OutBlock) : (s.mapOut f).draws = s.draws := rfl
@[simp] theorem State.mapOut_pending (f : OutBlock → OutBlock) : (s.mapOut f).pending = s.pending := rfl
@[simp] theorem State.mapOut_bus (f : OutBlock → OutBlock) : (s.mapOut f).bus = s.bus := rfl
@[simp] theorem State.mapOut_power (f : OutBlock → OutBlock) : (s.mapOut f).power = s.power := rfl
@[simp] theorem State.mapOut_boot (f : OutBlock → OutBlock) : (s.mapOut f).boot = s.boot := rfl
@[simp] theorem State.mapOut_image (f : OutBlock → OutBlock) : (s.mapOut f).image = s.image := rfl
@[simp] theorem State.mapOut_sram (f : OutBlock → OutBlock) : (s.mapOut f).sram = s.sram := rfl
@[simp] theorem State.mapOut_mem (f : OutBlock → OutBlock) : (s.mapOut f).mem = s.mem := rfl
@[simp] theorem State.mapOut_ledger (f : OutBlock → OutBlock) : (s.mapOut f).ledger = s.ledger := rfl
@[simp] theorem State.mapOut_wbl (f : OutBlock → OutBlock) : (s.mapOut f).wbl = s.wbl := rfl
@[simp] theorem State.mapOut_gate (f : OutBlock → OutBlock) : (s.mapOut f).gate = s.gate := rfl
@[simp] theorem State.mapOut_lodgers (f : OutBlock → OutBlock) : (s.mapOut f).lodgers = s.lodgers := rfl
@[simp] theorem State.mapOut_ink (f : OutBlock → OutBlock) : (s.mapOut f).ink = s.ink := rfl
@[simp] theorem State.mapOut_thm (f : OutBlock → OutBlock) : (s.mapOut f).thm = s.thm := rfl
@[simp] theorem State.mapOut_out (f : OutBlock → OutBlock) : (s.mapOut f).out = f s.out := rfl
@[simp] theorem State.mapOut_carder (f : OutBlock → OutBlock) : (s.mapOut f).carder = s.carder := rfl
@[simp] theorem State.mapOut_grd (f : OutBlock → OutBlock) : (s.mapOut f).grd = s.grd := rfl
@[simp] theorem State.mapOut_grp (f : OutBlock → OutBlock) : (s.mapOut f).grp = s.grp := rfl
@[simp] theorem State.mapOut_keys (f : OutBlock → OutBlock) : (s.mapOut f).keys = s.keys := rfl
@[simp] theorem State.mapOut_book (f : OutBlock → OutBlock) : (s.mapOut f).book = s.book := rfl
@[simp] theorem State.mapOut_sns (f : OutBlock → OutBlock) : (s.mapOut f).sns = s.sns := rfl
@[simp] theorem State.mapOut_loops (f : OutBlock → OutBlock) : (s.mapOut f).loops = s.loops := rfl
@[simp] theorem State.mapOut_fans (f : OutBlock → OutBlock) : (s.mapOut f).fans = s.fans := rfl
@[simp] theorem State.mapOut_wear (f : OutBlock → OutBlock) : (s.mapOut f).wear = s.wear := rfl
@[simp] theorem State.mapOut_seals (f : OutBlock → OutBlock) : (s.mapOut f).seals = s.seals := rfl
@[simp] theorem State.mapOut_uarts (f : OutBlock → OutBlock) : (s.mapOut f).uarts = s.uarts := rfl
@[simp] theorem State.mapOut_svc (f : OutBlock → OutBlock) : (s.mapOut f).svc = s.svc := rfl
@[simp] theorem State.mapOut_pnl (f : OutBlock → OutBlock) : (s.mapOut f).pnl = s.pnl := rfl
@[simp] theorem State.mapCarder_now (f : Carder → Carder) : (s.mapCarder f).now = s.now := rfl
@[simp] theorem State.mapCarder_draws (f : Carder → Carder) : (s.mapCarder f).draws = s.draws := rfl
@[simp] theorem State.mapCarder_pending (f : Carder → Carder) : (s.mapCarder f).pending = s.pending := rfl
@[simp] theorem State.mapCarder_bus (f : Carder → Carder) : (s.mapCarder f).bus = s.bus := rfl
@[simp] theorem State.mapCarder_power (f : Carder → Carder) : (s.mapCarder f).power = s.power := rfl
@[simp] theorem State.mapCarder_boot (f : Carder → Carder) : (s.mapCarder f).boot = s.boot := rfl
@[simp] theorem State.mapCarder_image (f : Carder → Carder) : (s.mapCarder f).image = s.image := rfl
@[simp] theorem State.mapCarder_sram (f : Carder → Carder) : (s.mapCarder f).sram = s.sram := rfl
@[simp] theorem State.mapCarder_mem (f : Carder → Carder) : (s.mapCarder f).mem = s.mem := rfl
@[simp] theorem State.mapCarder_ledger (f : Carder → Carder) : (s.mapCarder f).ledger = s.ledger := rfl
@[simp] theorem State.mapCarder_wbl (f : Carder → Carder) : (s.mapCarder f).wbl = s.wbl := rfl
@[simp] theorem State.mapCarder_gate (f : Carder → Carder) : (s.mapCarder f).gate = s.gate := rfl
@[simp] theorem State.mapCarder_lodgers (f : Carder → Carder) : (s.mapCarder f).lodgers = s.lodgers := rfl
@[simp] theorem State.mapCarder_ink (f : Carder → Carder) : (s.mapCarder f).ink = s.ink := rfl
@[simp] theorem State.mapCarder_thm (f : Carder → Carder) : (s.mapCarder f).thm = s.thm := rfl
@[simp] theorem State.mapCarder_out (f : Carder → Carder) : (s.mapCarder f).out = s.out := rfl
@[simp] theorem State.mapCarder_carder (f : Carder → Carder) : (s.mapCarder f).carder = f s.carder := rfl
@[simp] theorem State.mapCarder_grd (f : Carder → Carder) : (s.mapCarder f).grd = s.grd := rfl
@[simp] theorem State.mapCarder_grp (f : Carder → Carder) : (s.mapCarder f).grp = s.grp := rfl
@[simp] theorem State.mapCarder_keys (f : Carder → Carder) : (s.mapCarder f).keys = s.keys := rfl
@[simp] theorem State.mapCarder_book (f : Carder → Carder) : (s.mapCarder f).book = s.book := rfl
@[simp] theorem State.mapCarder_sns (f : Carder → Carder) : (s.mapCarder f).sns = s.sns := rfl
@[simp] theorem State.mapCarder_loops (f : Carder → Carder) : (s.mapCarder f).loops = s.loops := rfl
@[simp] theorem State.mapCarder_fans (f : Carder → Carder) : (s.mapCarder f).fans = s.fans := rfl
@[simp] theorem State.mapCarder_wear (f : Carder → Carder) : (s.mapCarder f).wear = s.wear := rfl
@[simp] theorem State.mapCarder_seals (f : Carder → Carder) : (s.mapCarder f).seals = s.seals := rfl
@[simp] theorem State.mapCarder_uarts (f : Carder → Carder) : (s.mapCarder f).uarts = s.uarts := rfl
@[simp] theorem State.mapCarder_svc (f : Carder → Carder) : (s.mapCarder f).svc = s.svc := rfl
@[simp] theorem State.mapCarder_pnl (f : Carder → Carder) : (s.mapCarder f).pnl = s.pnl := rfl
@[simp] theorem State.mapGrd_now (f : Grd → Grd) : (s.mapGrd f).now = s.now := rfl
@[simp] theorem State.mapGrd_draws (f : Grd → Grd) : (s.mapGrd f).draws = s.draws := rfl
@[simp] theorem State.mapGrd_pending (f : Grd → Grd) : (s.mapGrd f).pending = s.pending := rfl
@[simp] theorem State.mapGrd_bus (f : Grd → Grd) : (s.mapGrd f).bus = s.bus := rfl
@[simp] theorem State.mapGrd_power (f : Grd → Grd) : (s.mapGrd f).power = s.power := rfl
@[simp] theorem State.mapGrd_boot (f : Grd → Grd) : (s.mapGrd f).boot = s.boot := rfl
@[simp] theorem State.mapGrd_image (f : Grd → Grd) : (s.mapGrd f).image = s.image := rfl
@[simp] theorem State.mapGrd_sram (f : Grd → Grd) : (s.mapGrd f).sram = s.sram := rfl
@[simp] theorem State.mapGrd_mem (f : Grd → Grd) : (s.mapGrd f).mem = s.mem := rfl
@[simp] theorem State.mapGrd_ledger (f : Grd → Grd) : (s.mapGrd f).ledger = s.ledger := rfl
@[simp] theorem State.mapGrd_wbl (f : Grd → Grd) : (s.mapGrd f).wbl = s.wbl := rfl
@[simp] theorem State.mapGrd_gate (f : Grd → Grd) : (s.mapGrd f).gate = s.gate := rfl
@[simp] theorem State.mapGrd_lodgers (f : Grd → Grd) : (s.mapGrd f).lodgers = s.lodgers := rfl
@[simp] theorem State.mapGrd_ink (f : Grd → Grd) : (s.mapGrd f).ink = s.ink := rfl
@[simp] theorem State.mapGrd_thm (f : Grd → Grd) : (s.mapGrd f).thm = s.thm := rfl
@[simp] theorem State.mapGrd_out (f : Grd → Grd) : (s.mapGrd f).out = s.out := rfl
@[simp] theorem State.mapGrd_carder (f : Grd → Grd) : (s.mapGrd f).carder = s.carder := rfl
@[simp] theorem State.mapGrd_grd (f : Grd → Grd) : (s.mapGrd f).grd = f s.grd := rfl
@[simp] theorem State.mapGrd_grp (f : Grd → Grd) : (s.mapGrd f).grp = s.grp := rfl
@[simp] theorem State.mapGrd_keys (f : Grd → Grd) : (s.mapGrd f).keys = s.keys := rfl
@[simp] theorem State.mapGrd_book (f : Grd → Grd) : (s.mapGrd f).book = s.book := rfl
@[simp] theorem State.mapGrd_sns (f : Grd → Grd) : (s.mapGrd f).sns = s.sns := rfl
@[simp] theorem State.mapGrd_loops (f : Grd → Grd) : (s.mapGrd f).loops = s.loops := rfl
@[simp] theorem State.mapGrd_fans (f : Grd → Grd) : (s.mapGrd f).fans = s.fans := rfl
@[simp] theorem State.mapGrd_wear (f : Grd → Grd) : (s.mapGrd f).wear = s.wear := rfl
@[simp] theorem State.mapGrd_seals (f : Grd → Grd) : (s.mapGrd f).seals = s.seals := rfl
@[simp] theorem State.mapGrd_uarts (f : Grd → Grd) : (s.mapGrd f).uarts = s.uarts := rfl
@[simp] theorem State.mapGrd_svc (f : Grd → Grd) : (s.mapGrd f).svc = s.svc := rfl
@[simp] theorem State.mapGrd_pnl (f : Grd → Grd) : (s.mapGrd f).pnl = s.pnl := rfl
@[simp] theorem State.mapGrp_now (f : Grp → Grp) : (s.mapGrp f).now = s.now := rfl
@[simp] theorem State.mapGrp_draws (f : Grp → Grp) : (s.mapGrp f).draws = s.draws := rfl
@[simp] theorem State.mapGrp_pending (f : Grp → Grp) : (s.mapGrp f).pending = s.pending := rfl
@[simp] theorem State.mapGrp_bus (f : Grp → Grp) : (s.mapGrp f).bus = s.bus := rfl
@[simp] theorem State.mapGrp_power (f : Grp → Grp) : (s.mapGrp f).power = s.power := rfl
@[simp] theorem State.mapGrp_boot (f : Grp → Grp) : (s.mapGrp f).boot = s.boot := rfl
@[simp] theorem State.mapGrp_image (f : Grp → Grp) : (s.mapGrp f).image = s.image := rfl
@[simp] theorem State.mapGrp_sram (f : Grp → Grp) : (s.mapGrp f).sram = s.sram := rfl
@[simp] theorem State.mapGrp_mem (f : Grp → Grp) : (s.mapGrp f).mem = s.mem := rfl
@[simp] theorem State.mapGrp_ledger (f : Grp → Grp) : (s.mapGrp f).ledger = s.ledger := rfl
@[simp] theorem State.mapGrp_wbl (f : Grp → Grp) : (s.mapGrp f).wbl = s.wbl := rfl
@[simp] theorem State.mapGrp_gate (f : Grp → Grp) : (s.mapGrp f).gate = s.gate := rfl
@[simp] theorem State.mapGrp_lodgers (f : Grp → Grp) : (s.mapGrp f).lodgers = s.lodgers := rfl
@[simp] theorem State.mapGrp_ink (f : Grp → Grp) : (s.mapGrp f).ink = s.ink := rfl
@[simp] theorem State.mapGrp_thm (f : Grp → Grp) : (s.mapGrp f).thm = s.thm := rfl
@[simp] theorem State.mapGrp_out (f : Grp → Grp) : (s.mapGrp f).out = s.out := rfl
@[simp] theorem State.mapGrp_carder (f : Grp → Grp) : (s.mapGrp f).carder = s.carder := rfl
@[simp] theorem State.mapGrp_grd (f : Grp → Grp) : (s.mapGrp f).grd = s.grd := rfl
@[simp] theorem State.mapGrp_grp (f : Grp → Grp) : (s.mapGrp f).grp = f s.grp := rfl
@[simp] theorem State.mapGrp_keys (f : Grp → Grp) : (s.mapGrp f).keys = s.keys := rfl
@[simp] theorem State.mapGrp_book (f : Grp → Grp) : (s.mapGrp f).book = s.book := rfl
@[simp] theorem State.mapGrp_sns (f : Grp → Grp) : (s.mapGrp f).sns = s.sns := rfl
@[simp] theorem State.mapGrp_loops (f : Grp → Grp) : (s.mapGrp f).loops = s.loops := rfl
@[simp] theorem State.mapGrp_fans (f : Grp → Grp) : (s.mapGrp f).fans = s.fans := rfl
@[simp] theorem State.mapGrp_wear (f : Grp → Grp) : (s.mapGrp f).wear = s.wear := rfl
@[simp] theorem State.mapGrp_seals (f : Grp → Grp) : (s.mapGrp f).seals = s.seals := rfl
@[simp] theorem State.mapGrp_uarts (f : Grp → Grp) : (s.mapGrp f).uarts = s.uarts := rfl
@[simp] theorem State.mapGrp_svc (f : Grp → Grp) : (s.mapGrp f).svc = s.svc := rfl
@[simp] theorem State.mapGrp_pnl (f : Grp → Grp) : (s.mapGrp f).pnl = s.pnl := rfl
@[simp] theorem State.mapKeys_now (f : Keys → Keys) : (s.mapKeys f).now = s.now := rfl
@[simp] theorem State.mapKeys_draws (f : Keys → Keys) : (s.mapKeys f).draws = s.draws := rfl
@[simp] theorem State.mapKeys_pending (f : Keys → Keys) : (s.mapKeys f).pending = s.pending := rfl
@[simp] theorem State.mapKeys_bus (f : Keys → Keys) : (s.mapKeys f).bus = s.bus := rfl
@[simp] theorem State.mapKeys_power (f : Keys → Keys) : (s.mapKeys f).power = s.power := rfl
@[simp] theorem State.mapKeys_boot (f : Keys → Keys) : (s.mapKeys f).boot = s.boot := rfl
@[simp] theorem State.mapKeys_image (f : Keys → Keys) : (s.mapKeys f).image = s.image := rfl
@[simp] theorem State.mapKeys_sram (f : Keys → Keys) : (s.mapKeys f).sram = s.sram := rfl
@[simp] theorem State.mapKeys_mem (f : Keys → Keys) : (s.mapKeys f).mem = s.mem := rfl
@[simp] theorem State.mapKeys_ledger (f : Keys → Keys) : (s.mapKeys f).ledger = s.ledger := rfl
@[simp] theorem State.mapKeys_wbl (f : Keys → Keys) : (s.mapKeys f).wbl = s.wbl := rfl
@[simp] theorem State.mapKeys_gate (f : Keys → Keys) : (s.mapKeys f).gate = s.gate := rfl
@[simp] theorem State.mapKeys_lodgers (f : Keys → Keys) : (s.mapKeys f).lodgers = s.lodgers := rfl
@[simp] theorem State.mapKeys_ink (f : Keys → Keys) : (s.mapKeys f).ink = s.ink := rfl
@[simp] theorem State.mapKeys_thm (f : Keys → Keys) : (s.mapKeys f).thm = s.thm := rfl
@[simp] theorem State.mapKeys_out (f : Keys → Keys) : (s.mapKeys f).out = s.out := rfl
@[simp] theorem State.mapKeys_carder (f : Keys → Keys) : (s.mapKeys f).carder = s.carder := rfl
@[simp] theorem State.mapKeys_grd (f : Keys → Keys) : (s.mapKeys f).grd = s.grd := rfl
@[simp] theorem State.mapKeys_grp (f : Keys → Keys) : (s.mapKeys f).grp = s.grp := rfl
@[simp] theorem State.mapKeys_keys (f : Keys → Keys) : (s.mapKeys f).keys = f s.keys := rfl
@[simp] theorem State.mapKeys_book (f : Keys → Keys) : (s.mapKeys f).book = s.book := rfl
@[simp] theorem State.mapKeys_sns (f : Keys → Keys) : (s.mapKeys f).sns = s.sns := rfl
@[simp] theorem State.mapKeys_loops (f : Keys → Keys) : (s.mapKeys f).loops = s.loops := rfl
@[simp] theorem State.mapKeys_fans (f : Keys → Keys) : (s.mapKeys f).fans = s.fans := rfl
@[simp] theorem State.mapKeys_wear (f : Keys → Keys) : (s.mapKeys f).wear = s.wear := rfl
@[simp] theorem State.mapKeys_seals (f : Keys → Keys) : (s.mapKeys f).seals = s.seals := rfl
@[simp] theorem State.mapKeys_uarts (f : Keys → Keys) : (s.mapKeys f).uarts = s.uarts := rfl
@[simp] theorem State.mapKeys_svc (f : Keys → Keys) : (s.mapKeys f).svc = s.svc := rfl
@[simp] theorem State.mapKeys_pnl (f : Keys → Keys) : (s.mapKeys f).pnl = s.pnl := rfl
@[simp] theorem State.mapBook_now (f : Book → Book) : (s.mapBook f).now = s.now := rfl
@[simp] theorem State.mapBook_draws (f : Book → Book) : (s.mapBook f).draws = s.draws := rfl
@[simp] theorem State.mapBook_pending (f : Book → Book) : (s.mapBook f).pending = s.pending := rfl
@[simp] theorem State.mapBook_bus (f : Book → Book) : (s.mapBook f).bus = s.bus := rfl
@[simp] theorem State.mapBook_power (f : Book → Book) : (s.mapBook f).power = s.power := rfl
@[simp] theorem State.mapBook_boot (f : Book → Book) : (s.mapBook f).boot = s.boot := rfl
@[simp] theorem State.mapBook_image (f : Book → Book) : (s.mapBook f).image = s.image := rfl
@[simp] theorem State.mapBook_sram (f : Book → Book) : (s.mapBook f).sram = s.sram := rfl
@[simp] theorem State.mapBook_mem (f : Book → Book) : (s.mapBook f).mem = s.mem := rfl
@[simp] theorem State.mapBook_ledger (f : Book → Book) : (s.mapBook f).ledger = s.ledger := rfl
@[simp] theorem State.mapBook_wbl (f : Book → Book) : (s.mapBook f).wbl = s.wbl := rfl
@[simp] theorem State.mapBook_gate (f : Book → Book) : (s.mapBook f).gate = s.gate := rfl
@[simp] theorem State.mapBook_lodgers (f : Book → Book) : (s.mapBook f).lodgers = s.lodgers := rfl
@[simp] theorem State.mapBook_ink (f : Book → Book) : (s.mapBook f).ink = s.ink := rfl
@[simp] theorem State.mapBook_thm (f : Book → Book) : (s.mapBook f).thm = s.thm := rfl
@[simp] theorem State.mapBook_out (f : Book → Book) : (s.mapBook f).out = s.out := rfl
@[simp] theorem State.mapBook_carder (f : Book → Book) : (s.mapBook f).carder = s.carder := rfl
@[simp] theorem State.mapBook_grd (f : Book → Book) : (s.mapBook f).grd = s.grd := rfl
@[simp] theorem State.mapBook_grp (f : Book → Book) : (s.mapBook f).grp = s.grp := rfl
@[simp] theorem State.mapBook_keys (f : Book → Book) : (s.mapBook f).keys = s.keys := rfl
@[simp] theorem State.mapBook_book (f : Book → Book) : (s.mapBook f).book = f s.book := rfl
@[simp] theorem State.mapBook_sns (f : Book → Book) : (s.mapBook f).sns = s.sns := rfl
@[simp] theorem State.mapBook_loops (f : Book → Book) : (s.mapBook f).loops = s.loops := rfl
@[simp] theorem State.mapBook_fans (f : Book → Book) : (s.mapBook f).fans = s.fans := rfl
@[simp] theorem State.mapBook_wear (f : Book → Book) : (s.mapBook f).wear = s.wear := rfl
@[simp] theorem State.mapBook_seals (f : Book → Book) : (s.mapBook f).seals = s.seals := rfl
@[simp] theorem State.mapBook_uarts (f : Book → Book) : (s.mapBook f).uarts = s.uarts := rfl
@[simp] theorem State.mapBook_svc (f : Book → Book) : (s.mapBook f).svc = s.svc := rfl
@[simp] theorem State.mapBook_pnl (f : Book → Book) : (s.mapBook f).pnl = s.pnl := rfl
@[simp] theorem State.mapSns_now (f : Sns → Sns) : (s.mapSns f).now = s.now := rfl
@[simp] theorem State.mapSns_draws (f : Sns → Sns) : (s.mapSns f).draws = s.draws := rfl
@[simp] theorem State.mapSns_pending (f : Sns → Sns) : (s.mapSns f).pending = s.pending := rfl
@[simp] theorem State.mapSns_bus (f : Sns → Sns) : (s.mapSns f).bus = s.bus := rfl
@[simp] theorem State.mapSns_power (f : Sns → Sns) : (s.mapSns f).power = s.power := rfl
@[simp] theorem State.mapSns_boot (f : Sns → Sns) : (s.mapSns f).boot = s.boot := rfl
@[simp] theorem State.mapSns_image (f : Sns → Sns) : (s.mapSns f).image = s.image := rfl
@[simp] theorem State.mapSns_sram (f : Sns → Sns) : (s.mapSns f).sram = s.sram := rfl
@[simp] theorem State.mapSns_mem (f : Sns → Sns) : (s.mapSns f).mem = s.mem := rfl
@[simp] theorem State.mapSns_ledger (f : Sns → Sns) : (s.mapSns f).ledger = s.ledger := rfl
@[simp] theorem State.mapSns_wbl (f : Sns → Sns) : (s.mapSns f).wbl = s.wbl := rfl
@[simp] theorem State.mapSns_gate (f : Sns → Sns) : (s.mapSns f).gate = s.gate := rfl
@[simp] theorem State.mapSns_lodgers (f : Sns → Sns) : (s.mapSns f).lodgers = s.lodgers := rfl
@[simp] theorem State.mapSns_ink (f : Sns → Sns) : (s.mapSns f).ink = s.ink := rfl
@[simp] theorem State.mapSns_thm (f : Sns → Sns) : (s.mapSns f).thm = s.thm := rfl
@[simp] theorem State.mapSns_out (f : Sns → Sns) : (s.mapSns f).out = s.out := rfl
@[simp] theorem State.mapSns_carder (f : Sns → Sns) : (s.mapSns f).carder = s.carder := rfl
@[simp] theorem State.mapSns_grd (f : Sns → Sns) : (s.mapSns f).grd = s.grd := rfl
@[simp] theorem State.mapSns_grp (f : Sns → Sns) : (s.mapSns f).grp = s.grp := rfl
@[simp] theorem State.mapSns_keys (f : Sns → Sns) : (s.mapSns f).keys = s.keys := rfl
@[simp] theorem State.mapSns_book (f : Sns → Sns) : (s.mapSns f).book = s.book := rfl
@[simp] theorem State.mapSns_sns (f : Sns → Sns) : (s.mapSns f).sns = f s.sns := rfl
@[simp] theorem State.mapSns_loops (f : Sns → Sns) : (s.mapSns f).loops = s.loops := rfl
@[simp] theorem State.mapSns_fans (f : Sns → Sns) : (s.mapSns f).fans = s.fans := rfl
@[simp] theorem State.mapSns_wear (f : Sns → Sns) : (s.mapSns f).wear = s.wear := rfl
@[simp] theorem State.mapSns_seals (f : Sns → Sns) : (s.mapSns f).seals = s.seals := rfl
@[simp] theorem State.mapSns_uarts (f : Sns → Sns) : (s.mapSns f).uarts = s.uarts := rfl
@[simp] theorem State.mapSns_svc (f : Sns → Sns) : (s.mapSns f).svc = s.svc := rfl
@[simp] theorem State.mapSns_pnl (f : Sns → Sns) : (s.mapSns f).pnl = s.pnl := rfl
@[simp] theorem State.mapLoops_now (f : Loops → Loops) : (s.mapLoops f).now = s.now := rfl
@[simp] theorem State.mapLoops_draws (f : Loops → Loops) : (s.mapLoops f).draws = s.draws := rfl
@[simp] theorem State.mapLoops_pending (f : Loops → Loops) : (s.mapLoops f).pending = s.pending := rfl
@[simp] theorem State.mapLoops_bus (f : Loops → Loops) : (s.mapLoops f).bus = s.bus := rfl
@[simp] theorem State.mapLoops_power (f : Loops → Loops) : (s.mapLoops f).power = s.power := rfl
@[simp] theorem State.mapLoops_boot (f : Loops → Loops) : (s.mapLoops f).boot = s.boot := rfl
@[simp] theorem State.mapLoops_image (f : Loops → Loops) : (s.mapLoops f).image = s.image := rfl
@[simp] theorem State.mapLoops_sram (f : Loops → Loops) : (s.mapLoops f).sram = s.sram := rfl
@[simp] theorem State.mapLoops_mem (f : Loops → Loops) : (s.mapLoops f).mem = s.mem := rfl
@[simp] theorem State.mapLoops_ledger (f : Loops → Loops) : (s.mapLoops f).ledger = s.ledger := rfl
@[simp] theorem State.mapLoops_wbl (f : Loops → Loops) : (s.mapLoops f).wbl = s.wbl := rfl
@[simp] theorem State.mapLoops_gate (f : Loops → Loops) : (s.mapLoops f).gate = s.gate := rfl
@[simp] theorem State.mapLoops_lodgers (f : Loops → Loops) : (s.mapLoops f).lodgers = s.lodgers := rfl
@[simp] theorem State.mapLoops_ink (f : Loops → Loops) : (s.mapLoops f).ink = s.ink := rfl
@[simp] theorem State.mapLoops_thm (f : Loops → Loops) : (s.mapLoops f).thm = s.thm := rfl
@[simp] theorem State.mapLoops_out (f : Loops → Loops) : (s.mapLoops f).out = s.out := rfl
@[simp] theorem State.mapLoops_carder (f : Loops → Loops) : (s.mapLoops f).carder = s.carder := rfl
@[simp] theorem State.mapLoops_grd (f : Loops → Loops) : (s.mapLoops f).grd = s.grd := rfl
@[simp] theorem State.mapLoops_grp (f : Loops → Loops) : (s.mapLoops f).grp = s.grp := rfl
@[simp] theorem State.mapLoops_keys (f : Loops → Loops) : (s.mapLoops f).keys = s.keys := rfl
@[simp] theorem State.mapLoops_book (f : Loops → Loops) : (s.mapLoops f).book = s.book := rfl
@[simp] theorem State.mapLoops_sns (f : Loops → Loops) : (s.mapLoops f).sns = s.sns := rfl
@[simp] theorem State.mapLoops_loops (f : Loops → Loops) : (s.mapLoops f).loops = f s.loops := rfl
@[simp] theorem State.mapLoops_fans (f : Loops → Loops) : (s.mapLoops f).fans = s.fans := rfl
@[simp] theorem State.mapLoops_wear (f : Loops → Loops) : (s.mapLoops f).wear = s.wear := rfl
@[simp] theorem State.mapLoops_seals (f : Loops → Loops) : (s.mapLoops f).seals = s.seals := rfl
@[simp] theorem State.mapLoops_uarts (f : Loops → Loops) : (s.mapLoops f).uarts = s.uarts := rfl
@[simp] theorem State.mapLoops_svc (f : Loops → Loops) : (s.mapLoops f).svc = s.svc := rfl
@[simp] theorem State.mapLoops_pnl (f : Loops → Loops) : (s.mapLoops f).pnl = s.pnl := rfl
@[simp] theorem State.mapFans_now (f : Vector Fan 6 → Vector Fan 6) : (s.mapFans f).now = s.now := rfl
@[simp] theorem State.mapFans_draws (f : Vector Fan 6 → Vector Fan 6) : (s.mapFans f).draws = s.draws := rfl
@[simp] theorem State.mapFans_pending (f : Vector Fan 6 → Vector Fan 6) : (s.mapFans f).pending = s.pending := rfl
@[simp] theorem State.mapFans_bus (f : Vector Fan 6 → Vector Fan 6) : (s.mapFans f).bus = s.bus := rfl
@[simp] theorem State.mapFans_power (f : Vector Fan 6 → Vector Fan 6) : (s.mapFans f).power = s.power := rfl
@[simp] theorem State.mapFans_boot (f : Vector Fan 6 → Vector Fan 6) : (s.mapFans f).boot = s.boot := rfl
@[simp] theorem State.mapFans_image (f : Vector Fan 6 → Vector Fan 6) : (s.mapFans f).image = s.image := rfl
@[simp] theorem State.mapFans_sram (f : Vector Fan 6 → Vector Fan 6) : (s.mapFans f).sram = s.sram := rfl
@[simp] theorem State.mapFans_mem (f : Vector Fan 6 → Vector Fan 6) : (s.mapFans f).mem = s.mem := rfl
@[simp] theorem State.mapFans_ledger (f : Vector Fan 6 → Vector Fan 6) : (s.mapFans f).ledger = s.ledger := rfl
@[simp] theorem State.mapFans_wbl (f : Vector Fan 6 → Vector Fan 6) : (s.mapFans f).wbl = s.wbl := rfl
@[simp] theorem State.mapFans_gate (f : Vector Fan 6 → Vector Fan 6) : (s.mapFans f).gate = s.gate := rfl
@[simp] theorem State.mapFans_lodgers (f : Vector Fan 6 → Vector Fan 6) : (s.mapFans f).lodgers = s.lodgers := rfl
@[simp] theorem State.mapFans_ink (f : Vector Fan 6 → Vector Fan 6) : (s.mapFans f).ink = s.ink := rfl
@[simp] theorem State.mapFans_thm (f : Vector Fan 6 → Vector Fan 6) : (s.mapFans f).thm = s.thm := rfl
@[simp] theorem State.mapFans_out (f : Vector Fan 6 → Vector Fan 6) : (s.mapFans f).out = s.out := rfl
@[simp] theorem State.mapFans_carder (f : Vector Fan 6 → Vector Fan 6) : (s.mapFans f).carder = s.carder := rfl
@[simp] theorem State.mapFans_grd (f : Vector Fan 6 → Vector Fan 6) : (s.mapFans f).grd = s.grd := rfl
@[simp] theorem State.mapFans_grp (f : Vector Fan 6 → Vector Fan 6) : (s.mapFans f).grp = s.grp := rfl
@[simp] theorem State.mapFans_keys (f : Vector Fan 6 → Vector Fan 6) : (s.mapFans f).keys = s.keys := rfl
@[simp] theorem State.mapFans_book (f : Vector Fan 6 → Vector Fan 6) : (s.mapFans f).book = s.book := rfl
@[simp] theorem State.mapFans_sns (f : Vector Fan 6 → Vector Fan 6) : (s.mapFans f).sns = s.sns := rfl
@[simp] theorem State.mapFans_loops (f : Vector Fan 6 → Vector Fan 6) : (s.mapFans f).loops = s.loops := rfl
@[simp] theorem State.mapFans_fans (f : Vector Fan 6 → Vector Fan 6) : (s.mapFans f).fans = f s.fans := rfl
@[simp] theorem State.mapFans_wear (f : Vector Fan 6 → Vector Fan 6) : (s.mapFans f).wear = s.wear := rfl
@[simp] theorem State.mapFans_seals (f : Vector Fan 6 → Vector Fan 6) : (s.mapFans f).seals = s.seals := rfl
@[simp] theorem State.mapFans_uarts (f : Vector Fan 6 → Vector Fan 6) : (s.mapFans f).uarts = s.uarts := rfl
@[simp] theorem State.mapFans_svc (f : Vector Fan 6 → Vector Fan 6) : (s.mapFans f).svc = s.svc := rfl
@[simp] theorem State.mapFans_pnl (f : Vector Fan 6 → Vector Fan 6) : (s.mapFans f).pnl = s.pnl := rfl
@[simp] theorem State.mapWear_now (f : Wear → Wear) : (s.mapWear f).now = s.now := rfl
@[simp] theorem State.mapWear_draws (f : Wear → Wear) : (s.mapWear f).draws = s.draws := rfl
@[simp] theorem State.mapWear_pending (f : Wear → Wear) : (s.mapWear f).pending = s.pending := rfl
@[simp] theorem State.mapWear_bus (f : Wear → Wear) : (s.mapWear f).bus = s.bus := rfl
@[simp] theorem State.mapWear_power (f : Wear → Wear) : (s.mapWear f).power = s.power := rfl
@[simp] theorem State.mapWear_boot (f : Wear → Wear) : (s.mapWear f).boot = s.boot := rfl
@[simp] theorem State.mapWear_image (f : Wear → Wear) : (s.mapWear f).image = s.image := rfl
@[simp] theorem State.mapWear_sram (f : Wear → Wear) : (s.mapWear f).sram = s.sram := rfl
@[simp] theorem State.mapWear_mem (f : Wear → Wear) : (s.mapWear f).mem = s.mem := rfl
@[simp] theorem State.mapWear_ledger (f : Wear → Wear) : (s.mapWear f).ledger = s.ledger := rfl
@[simp] theorem State.mapWear_wbl (f : Wear → Wear) : (s.mapWear f).wbl = s.wbl := rfl
@[simp] theorem State.mapWear_gate (f : Wear → Wear) : (s.mapWear f).gate = s.gate := rfl
@[simp] theorem State.mapWear_lodgers (f : Wear → Wear) : (s.mapWear f).lodgers = s.lodgers := rfl
@[simp] theorem State.mapWear_ink (f : Wear → Wear) : (s.mapWear f).ink = s.ink := rfl
@[simp] theorem State.mapWear_thm (f : Wear → Wear) : (s.mapWear f).thm = s.thm := rfl
@[simp] theorem State.mapWear_out (f : Wear → Wear) : (s.mapWear f).out = s.out := rfl
@[simp] theorem State.mapWear_carder (f : Wear → Wear) : (s.mapWear f).carder = s.carder := rfl
@[simp] theorem State.mapWear_grd (f : Wear → Wear) : (s.mapWear f).grd = s.grd := rfl
@[simp] theorem State.mapWear_grp (f : Wear → Wear) : (s.mapWear f).grp = s.grp := rfl
@[simp] theorem State.mapWear_keys (f : Wear → Wear) : (s.mapWear f).keys = s.keys := rfl
@[simp] theorem State.mapWear_book (f : Wear → Wear) : (s.mapWear f).book = s.book := rfl
@[simp] theorem State.mapWear_sns (f : Wear → Wear) : (s.mapWear f).sns = s.sns := rfl
@[simp] theorem State.mapWear_loops (f : Wear → Wear) : (s.mapWear f).loops = s.loops := rfl
@[simp] theorem State.mapWear_fans (f : Wear → Wear) : (s.mapWear f).fans = s.fans := rfl
@[simp] theorem State.mapWear_wear (f : Wear → Wear) : (s.mapWear f).wear = f s.wear := rfl
@[simp] theorem State.mapWear_seals (f : Wear → Wear) : (s.mapWear f).seals = s.seals := rfl
@[simp] theorem State.mapWear_uarts (f : Wear → Wear) : (s.mapWear f).uarts = s.uarts := rfl
@[simp] theorem State.mapWear_svc (f : Wear → Wear) : (s.mapWear f).svc = s.svc := rfl
@[simp] theorem State.mapWear_pnl (f : Wear → Wear) : (s.mapWear f).pnl = s.pnl := rfl
@[simp] theorem State.mapSeals_now (f : Seals → Seals) : (s.mapSeals f).now = s.now := rfl
@[simp] theorem State.mapSeals_draws (f : Seals → Seals) : (s.mapSeals f).draws = s.draws := rfl
@[simp] theorem State.mapSeals_pending (f : Seals → Seals) : (s.mapSeals f).pending = s.pending := rfl
@[simp] theorem State.mapSeals_bus (f : Seals → Seals) : (s.mapSeals f).bus = s.bus := rfl
@[simp] theorem State.mapSeals_power (f : Seals → Seals) : (s.mapSeals f).power = s.power := rfl
@[simp] theorem State.mapSeals_boot (f : Seals → Seals) : (s.mapSeals f).boot = s.boot := rfl
@[simp] theorem State.mapSeals_image (f : Seals → Seals) : (s.mapSeals f).image = s.image := rfl
@[simp] theorem State.mapSeals_sram (f : Seals → Seals) : (s.mapSeals f).sram = s.sram := rfl
@[simp] theorem State.mapSeals_mem (f : Seals → Seals) : (s.mapSeals f).mem = s.mem := rfl
@[simp] theorem State.mapSeals_ledger (f : Seals → Seals) : (s.mapSeals f).ledger = s.ledger := rfl
@[simp] theorem State.mapSeals_wbl (f : Seals → Seals) : (s.mapSeals f).wbl = s.wbl := rfl
@[simp] theorem State.mapSeals_gate (f : Seals → Seals) : (s.mapSeals f).gate = s.gate := rfl
@[simp] theorem State.mapSeals_lodgers (f : Seals → Seals) : (s.mapSeals f).lodgers = s.lodgers := rfl
@[simp] theorem State.mapSeals_ink (f : Seals → Seals) : (s.mapSeals f).ink = s.ink := rfl
@[simp] theorem State.mapSeals_thm (f : Seals → Seals) : (s.mapSeals f).thm = s.thm := rfl
@[simp] theorem State.mapSeals_out (f : Seals → Seals) : (s.mapSeals f).out = s.out := rfl
@[simp] theorem State.mapSeals_carder (f : Seals → Seals) : (s.mapSeals f).carder = s.carder := rfl
@[simp] theorem State.mapSeals_grd (f : Seals → Seals) : (s.mapSeals f).grd = s.grd := rfl
@[simp] theorem State.mapSeals_grp (f : Seals → Seals) : (s.mapSeals f).grp = s.grp := rfl
@[simp] theorem State.mapSeals_keys (f : Seals → Seals) : (s.mapSeals f).keys = s.keys := rfl
@[simp] theorem State.mapSeals_book (f : Seals → Seals) : (s.mapSeals f).book = s.book := rfl
@[simp] theorem State.mapSeals_sns (f : Seals → Seals) : (s.mapSeals f).sns = s.sns := rfl
@[simp] theorem State.mapSeals_loops (f : Seals → Seals) : (s.mapSeals f).loops = s.loops := rfl
@[simp] theorem State.mapSeals_fans (f : Seals → Seals) : (s.mapSeals f).fans = s.fans := rfl
@[simp] theorem State.mapSeals_wear (f : Seals → Seals) : (s.mapSeals f).wear = s.wear := rfl
@[simp] theorem State.mapSeals_seals (f : Seals → Seals) : (s.mapSeals f).seals = f s.seals := rfl
@[simp] theorem State.mapSeals_uarts (f : Seals → Seals) : (s.mapSeals f).uarts = s.uarts := rfl
@[simp] theorem State.mapSeals_svc (f : Seals → Seals) : (s.mapSeals f).svc = s.svc := rfl
@[simp] theorem State.mapSeals_pnl (f : Seals → Seals) : (s.mapSeals f).pnl = s.pnl := rfl
@[simp] theorem State.mapUarts_now (f : Uarts → Uarts) : (s.mapUarts f).now = s.now := rfl
@[simp] theorem State.mapUarts_draws (f : Uarts → Uarts) : (s.mapUarts f).draws = s.draws := rfl
@[simp] theorem State.mapUarts_pending (f : Uarts → Uarts) : (s.mapUarts f).pending = s.pending := rfl
@[simp] theorem State.mapUarts_bus (f : Uarts → Uarts) : (s.mapUarts f).bus = s.bus := rfl
@[simp] theorem State.mapUarts_power (f : Uarts → Uarts) : (s.mapUarts f).power = s.power := rfl
@[simp] theorem State.mapUarts_boot (f : Uarts → Uarts) : (s.mapUarts f).boot = s.boot := rfl
@[simp] theorem State.mapUarts_image (f : Uarts → Uarts) : (s.mapUarts f).image = s.image := rfl
@[simp] theorem State.mapUarts_sram (f : Uarts → Uarts) : (s.mapUarts f).sram = s.sram := rfl
@[simp] theorem State.mapUarts_mem (f : Uarts → Uarts) : (s.mapUarts f).mem = s.mem := rfl
@[simp] theorem State.mapUarts_ledger (f : Uarts → Uarts) : (s.mapUarts f).ledger = s.ledger := rfl
@[simp] theorem State.mapUarts_wbl (f : Uarts → Uarts) : (s.mapUarts f).wbl = s.wbl := rfl
@[simp] theorem State.mapUarts_gate (f : Uarts → Uarts) : (s.mapUarts f).gate = s.gate := rfl
@[simp] theorem State.mapUarts_lodgers (f : Uarts → Uarts) : (s.mapUarts f).lodgers = s.lodgers := rfl
@[simp] theorem State.mapUarts_ink (f : Uarts → Uarts) : (s.mapUarts f).ink = s.ink := rfl
@[simp] theorem State.mapUarts_thm (f : Uarts → Uarts) : (s.mapUarts f).thm = s.thm := rfl
@[simp] theorem State.mapUarts_out (f : Uarts → Uarts) : (s.mapUarts f).out = s.out := rfl
@[simp] theorem State.mapUarts_carder (f : Uarts → Uarts) : (s.mapUarts f).carder = s.carder := rfl
@[simp] theorem State.mapUarts_grd (f : Uarts → Uarts) : (s.mapUarts f).grd = s.grd := rfl
@[simp] theorem State.mapUarts_grp (f : Uarts → Uarts) : (s.mapUarts f).grp = s.grp := rfl
@[simp] theorem State.mapUarts_keys (f : Uarts → Uarts) : (s.mapUarts f).keys = s.keys := rfl
@[simp] theorem State.mapUarts_book (f : Uarts → Uarts) : (s.mapUarts f).book = s.book := rfl
@[simp] theorem State.mapUarts_sns (f : Uarts → Uarts) : (s.mapUarts f).sns = s.sns := rfl
@[simp] theorem State.mapUarts_loops (f : Uarts → Uarts) : (s.mapUarts f).loops = s.loops := rfl
@[simp] theorem State.mapUarts_fans (f : Uarts → Uarts) : (s.mapUarts f).fans = s.fans := rfl
@[simp] theorem State.mapUarts_wear (f : Uarts → Uarts) : (s.mapUarts f).wear = s.wear := rfl
@[simp] theorem State.mapUarts_seals (f : Uarts → Uarts) : (s.mapUarts f).seals = s.seals := rfl
@[simp] theorem State.mapUarts_uarts (f : Uarts → Uarts) : (s.mapUarts f).uarts = f s.uarts := rfl
@[simp] theorem State.mapUarts_svc (f : Uarts → Uarts) : (s.mapUarts f).svc = s.svc := rfl
@[simp] theorem State.mapUarts_pnl (f : Uarts → Uarts) : (s.mapUarts f).pnl = s.pnl := rfl
@[simp] theorem State.mapSvc_now (f : Svc → Svc) : (s.mapSvc f).now = s.now := rfl
@[simp] theorem State.mapSvc_draws (f : Svc → Svc) : (s.mapSvc f).draws = s.draws := rfl
@[simp] theorem State.mapSvc_pending (f : Svc → Svc) : (s.mapSvc f).pending = s.pending := rfl
@[simp] theorem State.mapSvc_bus (f : Svc → Svc) : (s.mapSvc f).bus = s.bus := rfl
@[simp] theorem State.mapSvc_power (f : Svc → Svc) : (s.mapSvc f).power = s.power := rfl
@[simp] theorem State.mapSvc_boot (f : Svc → Svc) : (s.mapSvc f).boot = s.boot := rfl
@[simp] theorem State.mapSvc_image (f : Svc → Svc) : (s.mapSvc f).image = s.image := rfl
@[simp] theorem State.mapSvc_sram (f : Svc → Svc) : (s.mapSvc f).sram = s.sram := rfl
@[simp] theorem State.mapSvc_mem (f : Svc → Svc) : (s.mapSvc f).mem = s.mem := rfl
@[simp] theorem State.mapSvc_ledger (f : Svc → Svc) : (s.mapSvc f).ledger = s.ledger := rfl
@[simp] theorem State.mapSvc_wbl (f : Svc → Svc) : (s.mapSvc f).wbl = s.wbl := rfl
@[simp] theorem State.mapSvc_gate (f : Svc → Svc) : (s.mapSvc f).gate = s.gate := rfl
@[simp] theorem State.mapSvc_lodgers (f : Svc → Svc) : (s.mapSvc f).lodgers = s.lodgers := rfl
@[simp] theorem State.mapSvc_ink (f : Svc → Svc) : (s.mapSvc f).ink = s.ink := rfl
@[simp] theorem State.mapSvc_thm (f : Svc → Svc) : (s.mapSvc f).thm = s.thm := rfl
@[simp] theorem State.mapSvc_out (f : Svc → Svc) : (s.mapSvc f).out = s.out := rfl
@[simp] theorem State.mapSvc_carder (f : Svc → Svc) : (s.mapSvc f).carder = s.carder := rfl
@[simp] theorem State.mapSvc_grd (f : Svc → Svc) : (s.mapSvc f).grd = s.grd := rfl
@[simp] theorem State.mapSvc_grp (f : Svc → Svc) : (s.mapSvc f).grp = s.grp := rfl
@[simp] theorem State.mapSvc_keys (f : Svc → Svc) : (s.mapSvc f).keys = s.keys := rfl
@[simp] theorem State.mapSvc_book (f : Svc → Svc) : (s.mapSvc f).book = s.book := rfl
@[simp] theorem State.mapSvc_sns (f : Svc → Svc) : (s.mapSvc f).sns = s.sns := rfl
@[simp] theorem State.mapSvc_loops (f : Svc → Svc) : (s.mapSvc f).loops = s.loops := rfl
@[simp] theorem State.mapSvc_fans (f : Svc → Svc) : (s.mapSvc f).fans = s.fans := rfl
@[simp] theorem State.mapSvc_wear (f : Svc → Svc) : (s.mapSvc f).wear = s.wear := rfl
@[simp] theorem State.mapSvc_seals (f : Svc → Svc) : (s.mapSvc f).seals = s.seals := rfl
@[simp] theorem State.mapSvc_uarts (f : Svc → Svc) : (s.mapSvc f).uarts = s.uarts := rfl
@[simp] theorem State.mapSvc_svc (f : Svc → Svc) : (s.mapSvc f).svc = f s.svc := rfl
@[simp] theorem State.mapSvc_pnl (f : Svc → Svc) : (s.mapSvc f).pnl = s.pnl := rfl
@[simp] theorem State.mapPnl_now (f : Pnl → Pnl) : (s.mapPnl f).now = s.now := rfl
@[simp] theorem State.mapPnl_draws (f : Pnl → Pnl) : (s.mapPnl f).draws = s.draws := rfl
@[simp] theorem State.mapPnl_pending (f : Pnl → Pnl) : (s.mapPnl f).pending = s.pending := rfl
@[simp] theorem State.mapPnl_bus (f : Pnl → Pnl) : (s.mapPnl f).bus = s.bus := rfl
@[simp] theorem State.mapPnl_power (f : Pnl → Pnl) : (s.mapPnl f).power = s.power := rfl
@[simp] theorem State.mapPnl_boot (f : Pnl → Pnl) : (s.mapPnl f).boot = s.boot := rfl
@[simp] theorem State.mapPnl_image (f : Pnl → Pnl) : (s.mapPnl f).image = s.image := rfl
@[simp] theorem State.mapPnl_sram (f : Pnl → Pnl) : (s.mapPnl f).sram = s.sram := rfl
@[simp] theorem State.mapPnl_mem (f : Pnl → Pnl) : (s.mapPnl f).mem = s.mem := rfl
@[simp] theorem State.mapPnl_ledger (f : Pnl → Pnl) : (s.mapPnl f).ledger = s.ledger := rfl
@[simp] theorem State.mapPnl_wbl (f : Pnl → Pnl) : (s.mapPnl f).wbl = s.wbl := rfl
@[simp] theorem State.mapPnl_gate (f : Pnl → Pnl) : (s.mapPnl f).gate = s.gate := rfl
@[simp] theorem State.mapPnl_lodgers (f : Pnl → Pnl) : (s.mapPnl f).lodgers = s.lodgers := rfl
@[simp] theorem State.mapPnl_ink (f : Pnl → Pnl) : (s.mapPnl f).ink = s.ink := rfl
@[simp] theorem State.mapPnl_thm (f : Pnl → Pnl) : (s.mapPnl f).thm = s.thm := rfl
@[simp] theorem State.mapPnl_out (f : Pnl → Pnl) : (s.mapPnl f).out = s.out := rfl
@[simp] theorem State.mapPnl_carder (f : Pnl → Pnl) : (s.mapPnl f).carder = s.carder := rfl
@[simp] theorem State.mapPnl_grd (f : Pnl → Pnl) : (s.mapPnl f).grd = s.grd := rfl
@[simp] theorem State.mapPnl_grp (f : Pnl → Pnl) : (s.mapPnl f).grp = s.grp := rfl
@[simp] theorem State.mapPnl_keys (f : Pnl → Pnl) : (s.mapPnl f).keys = s.keys := rfl
@[simp] theorem State.mapPnl_book (f : Pnl → Pnl) : (s.mapPnl f).book = s.book := rfl
@[simp] theorem State.mapPnl_sns (f : Pnl → Pnl) : (s.mapPnl f).sns = s.sns := rfl
@[simp] theorem State.mapPnl_loops (f : Pnl → Pnl) : (s.mapPnl f).loops = s.loops := rfl
@[simp] theorem State.mapPnl_fans (f : Pnl → Pnl) : (s.mapPnl f).fans = s.fans := rfl
@[simp] theorem State.mapPnl_wear (f : Pnl → Pnl) : (s.mapPnl f).wear = s.wear := rfl
@[simp] theorem State.mapPnl_seals (f : Pnl → Pnl) : (s.mapPnl f).seals = s.seals := rfl
@[simp] theorem State.mapPnl_uarts (f : Pnl → Pnl) : (s.mapPnl f).uarts = s.uarts := rfl
@[simp] theorem State.mapPnl_svc (f : Pnl → Pnl) : (s.mapPnl f).svc = s.svc := rfl
@[simp] theorem State.mapPnl_pnl (f : Pnl → Pnl) : (s.mapPnl f).pnl = f s.pnl := rfl

end Sys2Proof.Machine
end

