-- ==== Sys2Proof/Laws/Bank.lean ====
section
/-! SUPPORT. Banks of registers and lists under a change of one element. -/

namespace Sys2Proof.Machine

@[simp] theorem vget_vset_same {α : Type} {n : Nat} (v : Vector α n) (i : Fin n) (a : α) : vget (vset v i a) i = a := by
  simp [vget, vset]

theorem vget_vset_ne {α : Type} {n : Nat} (v : Vector α n) (i j : Fin n) (a : α) (h : j ≠ i) : vget (vset v i a) j = vget v j := by
  simp only [vget, vset, Fin.getElem_fin]
  exact Vector.getElem_set_ne i.isLt j.isLt fun e => h (Fin.ext e.symm)

@[simp] theorem vget_vmod_same {α : Type} {n : Nat} (v : Vector α n) (i : Fin n) (f : α → α) :
    vget (vmod v i f) i = f (vget v i) := by simp [vmod]

theorem vget_vmod_ne {α : Type} {n : Nat} (v : Vector α n) (i j : Fin n) (f : α → α) (h : j ≠ i) :
    vget (vmod v i f) j = vget v j := vget_vset_ne v i j _ h

@[simp] theorem vmod_vmod {α : Type} {n : Nat} (v : Vector α n) (i : Fin n) (f g : α → α) :
    vmod (vmod v i f) i g = vmod v i fun a => g (f a) := by
  apply Vector.ext
  intro k hk
  simp only [vmod, vset, vget, Fin.getElem_fin, Vector.getElem_set]
  split <;> simp_all

@[simp] theorem vget_map {α β : Type} {n : Nat} (v : Vector α n) (i : Fin n) (f : α → β) : vget (v.map f) i = f (vget v i) := by
  simp [vget]

@[simp] theorem vget_ofFn {α : Type} {n : Nat} (i : Fin n) (f : Fin n → α) : vget (Vector.ofFn f) i = f i := by
  simp [vget]

@[simp] theorem State.mapLodger_lodger_same (s : State) (n : Fin 4) (f : Lodger → Lodger) :
    (s.mapLodger n f).lodger n = f (s.lodger n) := by simp [State.mapLodger, State.lodger]

theorem State.mapLodger_lodger_ne (s : State) (n m : Fin 4) (f : Lodger → Lodger) (h : m ≠ n) :
    (s.mapLodger n f).lodger m = s.lodger m := by
  simpa [State.mapLodger, State.lodger] using vget_vmod_ne s.lodgers n m f h

end Sys2Proof.Machine
end

