-- ==== Sys2Proof/Laws/Crossing.lean ====
section
/-! SUPPORT. What a write and a read of a block's window come to at its crossing (R636). -/

namespace Sys2Proof.Machine

/-- With the block's clock running a write acts at once. -/
theorem State.crossingWrite_through {s : State} (h : s.blocksClocked = true) (base off : Nat) (w : Word) :
    s.crossingWrite base off w = s.domainWrite base off w := by simp [State.crossingWrite, h]

/-- With it stopped a write changes nothing but what waits at the crossings. -/
theorem State.crossingWrite_held {s : State} (h : s.blocksClocked = false) (base off : Nat) (w : Word) :
    s.crossingWrite base off w = { s with power := { s.power with
      crossing := (s.power.crossing.filter fun x => decide (¬ (x.1 = base ∧ x.2.1 = off))) ++ [(base, off, w)] } } := by
  simp only [State.crossingWrite, h, Bool.false_eq_true, if_false]
  rfl

/-- Where no write waits a read shows the block, and the clocks' start changes nothing. -/
theorem State.crossing_empty {s : State} (h : s.power.crossing = []) (base off : Nat) :
    s.crossingRead base off = s.domainRead base off ∧ s.crossingStart = s := by
  constructor
  · simp [State.crossingRead, h]
  · obtain ⟨⟩ := s
    simp only at h
    simp [State.crossingStart, State.mapPower, h]
    rw [← h]

end Sys2Proof.Machine
end

