-- ==== Sys2Proof/Laws/Mem.lean ====
section
/-! SUPPORT. The memories keep their canonical form, and a read after a write gives what was written (R126 to R143, log entry 5). -/

namespace Sys2Proof.Machine

/-! ### Bytes -/

theorem Memory.wfFrom_mono {d : Byte} {lo lo' : Nat} (m : List Host.Cell) (h : lo' ≤ lo) :
    Memory.wfFrom d lo m = true → Memory.wfFrom d lo' m = true := by
  cases m with
  | nil => simp [Memory.wfFrom]
  | cons x m =>
    obtain ⟨k, v⟩ := x
    simp only [Memory.wfFrom, Bool.and_eq_true, decide_eq_true_eq]
    rintro ⟨⟨h1, h2⟩, h3⟩
    exact ⟨⟨by omega, h2⟩, h3⟩

theorem Memory.set_wfFrom {d : Byte} (m : List Host.Cell) (a : Nat) (b : Byte) (lo : Nat) (hlo : lo ≤ a)
    (h : Memory.wfFrom d lo m = true) : Memory.wfFrom d lo (Memory.set d m a b) = true := by
  induction m generalizing lo with
  | nil => unfold Memory.set; split <;> simp_all [Memory.wfFrom]
  | cons x m ih =>
    obtain ⟨k, v⟩ := x
    simp only [Memory.wfFrom, Bool.and_eq_true, decide_eq_true_eq] at h
    obtain ⟨⟨h1, h2⟩, h3⟩ := h
    simp only [Memory.set]
    split
    · split
      · simp [Memory.wfFrom, *]
      · simp only [Memory.wfFrom, Bool.and_eq_true, decide_eq_true_eq]
        exact ⟨⟨hlo, ‹_›⟩, ⟨by omega, h2⟩, h3⟩
    · split
      · split
        · exact Memory.wfFrom_mono m (by omega) h3
        · simp only [Memory.wfFrom, Bool.and_eq_true, decide_eq_true_eq]
          exact ⟨⟨by omega, ‹_›⟩, by subst_vars; exact h3⟩
      · simp only [Memory.wfFrom, Bool.and_eq_true, decide_eq_true_eq]
        exact ⟨⟨h1, h2⟩, ih (k + 1) (by omega) h3⟩

/-- A write keeps the canonical form. -/
theorem Memory.set_wf {d : Byte} {m : List Host.Cell} (a : Nat) (b : Byte) (h : Memory.wf d m = true) :
    Memory.wf d (Memory.set d m a b) = true := Memory.set_wfFrom m a b 0 (Nat.zero_le a) h

theorem Memory.setMany_wf {d : Byte} {m : List Host.Cell} (a : Nat) (bs : List Byte) (h : Memory.wf d m = true) :
    Memory.wf d (Memory.setMany d m a bs) = true := by
  induction bs generalizing m a with
  | nil => exact h
  | cons b bs ih => exact ih (a + 1) (Memory.set_wf a b h)

/-- In canonical form nothing below the first address is listed. -/
theorem Memory.get_below {d : Byte} {m : List Host.Cell} {lo a : Nat} (h : Memory.wfFrom d lo m = true) (ha : a < lo) :
    Memory.get d m a = d := by
  induction m generalizing lo with
  | nil => rfl
  | cons x m ih =>
    obtain ⟨k, v⟩ := x
    simp only [Memory.wfFrom, Bool.and_eq_true, decide_eq_true_eq] at h
    rw [Memory.get, if_neg (by omega)]
    exact ih h.2 (by omega)

/-- The one law of a byte write: the address reads as written, every other address as before. -/
theorem Memory.get_set {d : Byte} {m : List Host.Cell} {lo : Nat} (h : Memory.wfFrom d lo m = true) (a : Nat) (b : Byte) (x : Nat) :
    Memory.get d (Memory.set d m a b) x = if x = a then b else Memory.get d m x := by
  induction m generalizing lo with
  | nil =>
    unfold Memory.set
    by_cases hb : b = d
    · rw [if_pos hb, hb]; simp [Memory.get]
    · rw [if_neg hb]
      by_cases hx : x = a
      · rw [if_pos hx]; exact if_pos hx.symm
      · rw [if_neg hx]; exact if_neg (fun e : a = x => hx e.symm)
  | cons y m ih =>
    obtain ⟨k, v⟩ := y
    simp only [Memory.wfFrom, Bool.and_eq_true, decide_eq_true_eq] at h
    have hlow : ∀ z, z < k + 1 → Memory.get d m z = d := fun z hz => Memory.get_below h.2 hz
    have ih := ih h.2
    simp only [Memory.set]
    by_cases h1 : a < k
    · rw [if_pos h1]
      by_cases hb : b = d
      · rw [if_pos hb]
        by_cases hx : x = a
        · rw [if_pos hx, hx, hb, Memory.get, if_neg (by omega), hlow a (by omega)]
        · rw [if_neg hx]
      · rw [if_neg hb, Memory.get]
        by_cases hx : x = a
        · rw [if_pos hx, if_pos hx.symm]
        · rw [if_neg hx, if_neg (by omega)]
    · rw [if_neg h1]
      by_cases h2 : a = k
      · rw [if_pos h2]
        by_cases hx : x = a
        · rw [if_pos hx]
          by_cases hb : b = d
          · rw [if_pos hb, hx, hlow a (by omega), hb]
          · rw [if_neg hb, Memory.get, if_pos hx.symm]
        · have hk : ¬ k = x := fun e => hx (e.symm.trans h2.symm)
          have ha : ¬ a = x := fun e => hx e.symm
          rw [if_neg hx]
          by_cases hb : b = d
          · rw [if_pos hb]; exact (if_neg hk).symm
          · rw [if_neg hb]; exact (if_neg ha).trans (if_neg hk).symm
      · rw [if_neg h2, Memory.get, Memory.get]
        by_cases hk : k = x
        · rw [if_pos hk, if_neg (by omega), if_pos hk]
        · rw [if_neg hk, if_neg hk, ih]

/-- The law of a write of consecutive bytes. -/
theorem Memory.get_setMany {d : Byte} {m : List Host.Cell} (h : Memory.wf d m = true) (a : Nat) (bs : List Byte) (x : Nat) :
    Memory.get d (Memory.setMany d m a bs) x =
      if a ≤ x ∧ x < a + bs.length then bs.getD (x - a) 0 else Memory.get d m x := by
  induction bs generalizing m a with
  | nil => rw [Memory.setMany, if_neg (by simp)]
  | cons b bs ih =>
    rw [Memory.setMany, ih (Memory.set_wf a b h), Memory.get_set (lo := 0) h, List.length_cons]
    by_cases hx : x = a
    · subst hx
      rw [if_neg (by omega), if_pos rfl, if_pos (by omega), Nat.sub_self]
      rfl
    · rw [if_neg hx]
      by_cases hr : a + 1 ≤ x ∧ x < a + 1 + bs.length
      · rw [if_pos hr, if_pos (by omega), show x - a = (x - (a + 1)) + 1 by omega, List.getD_cons_succ]
      · rw [if_neg hr, if_neg (by omega)]

/-! ### Marks -/

theorem Marks.wfFrom_mono {lo lo' : Nat} (l : List Nat) (h : lo' ≤ lo) : Marks.wfFrom lo l = true → Marks.wfFrom lo' l = true := by
  cases l with
  | nil => simp [Marks.wfFrom]
  | cons x l =>
    simp only [Marks.wfFrom, Bool.and_eq_true, decide_eq_true_eq]
    exact fun ⟨h1, h2⟩ => ⟨by omega, h2⟩

theorem Marks.add_wfFrom (x : Nat) (l : List Nat) (lo : Nat) (hlo : lo ≤ x) (h : Marks.wfFrom lo l = true) :
    Marks.wfFrom lo (Marks.add x l) = true := by
  induction l generalizing lo with
  | nil => simp [Marks.add, Marks.wfFrom, hlo]
  | cons y l ih =>
    have h' := h
    simp only [Marks.wfFrom, Bool.and_eq_true, decide_eq_true_eq] at h'
    simp only [Marks.add]
    split
    · simp only [Marks.wfFrom, Bool.and_eq_true, decide_eq_true_eq]
      exact ⟨hlo, by omega, h'.2⟩
    · split
      · exact h
      · simp only [Marks.wfFrom, Bool.and_eq_true, decide_eq_true_eq]
        exact ⟨h'.1, ih (y + 1) (by omega) h'.2⟩

theorem Marks.del_wfFrom (x : Nat) (l : List Nat) (lo : Nat) (h : Marks.wfFrom lo l = true) :
    Marks.wfFrom lo (Marks.del x l) = true := by
  induction l generalizing lo with
  | nil => rfl
  | cons y l ih =>
    simp only [Marks.wfFrom, Bool.and_eq_true, decide_eq_true_eq] at h
    simp only [Marks.del]
    split
    · exact Marks.wfFrom_mono l (by omega) h.2
    · simp only [Marks.wfFrom, Bool.and_eq_true, decide_eq_true_eq]
      exact ⟨h.1, ih (y + 1) h.2⟩

theorem Marks.mem_add {x y : Nat} (l : List Nat) : y ∈ Marks.add x l ↔ y = x ∨ y ∈ l := by
  induction l with
  | nil => simp [Marks.add]
  | cons z l ih =>
    simp only [Marks.add]
    split
    · simp
    · split
      · subst_vars; simp
      · simp only [List.mem_cons, ih]; tauto

theorem Marks.not_mem_below {lo x : Nat} {l : List Nat} (h : Marks.wfFrom lo l = true) (hx : x < lo) : x ∉ l := by
  induction l generalizing lo with
  | nil => simp
  | cons y l ih =>
    simp only [Marks.wfFrom, Bool.and_eq_true, decide_eq_true_eq] at h
    simp only [List.mem_cons, not_or]
    exact ⟨by omega, ih h.2 (by omega)⟩

theorem Marks.mem_del {lo x y : Nat} {l : List Nat} (h : Marks.wfFrom lo l = true) : y ∈ Marks.del x l ↔ y ≠ x ∧ y ∈ l := by
  induction l generalizing lo with
  | nil => simp [Marks.del]
  | cons z l ih =>
    simp only [Marks.wfFrom, Bool.and_eq_true, decide_eq_true_eq] at h
    have hz : z ∉ l := Marks.not_mem_below h.2 (Nat.lt_succ_self z)
    simp only [Marks.del]
    split
    · subst_vars
      constructor
      · exact fun hy => ⟨fun e => hz (e ▸ hy), List.mem_cons_of_mem _ hy⟩
      · rintro ⟨h1, h2⟩; exact (List.mem_cons.mp h2).resolve_left h1
    · simp only [List.mem_cons, ih h.2]
      constructor
      · rintro (rfl | ⟨h1, h2⟩)
        · exact ⟨fun e => ‹¬x = y› e.symm, .inl rfl⟩
        · exact ⟨h1, .inr h2⟩
      · rintro ⟨h1, rfl | h2⟩
        · exact .inl rfl
        · exact .inr ⟨h1, h2⟩

/-! ### Lines -/

theorem Lines.wfFrom_mono {lo lo' : Nat} (l : List (Nat × List Byte)) (h : lo' ≤ lo) :
    Lines.wfFrom lo l = true → Lines.wfFrom lo' l = true := by
  cases l with
  | nil => simp [Lines.wfFrom]
  | cons x l =>
    obtain ⟨k, v⟩ := x
    simp only [Lines.wfFrom, Bool.and_eq_true, decide_eq_true_eq]
    exact fun ⟨⟨h1, h2⟩, h3⟩ => ⟨⟨by omega, h2⟩, h3⟩

theorem Lines.set_wfFrom (l : List (Nat × List Byte)) (a : Nat) (d : List Byte) (lo : Nat) (hlo : lo ≤ a) (hd : d.length = 32)
    (h : Lines.wfFrom lo l = true) : Lines.wfFrom lo (Lines.set l a d) = true := by
  induction l generalizing lo with
  | nil => simp [Lines.set, Lines.wfFrom, hlo, hd]
  | cons x l ih =>
    obtain ⟨k, v⟩ := x
    simp only [Lines.wfFrom, Bool.and_eq_true, decide_eq_true_eq] at h
    obtain ⟨⟨h1, h2⟩, h3⟩ := h
    simp only [Lines.set]
    split
    · simp only [Lines.wfFrom, Bool.and_eq_true, decide_eq_true_eq]
      exact ⟨⟨hlo, hd⟩, ⟨by omega, h2⟩, h3⟩
    · split
      · simp only [Lines.wfFrom, Bool.and_eq_true, decide_eq_true_eq]
        exact ⟨⟨hlo, hd⟩, by subst_vars; exact h3⟩
      · simp only [Lines.wfFrom, Bool.and_eq_true, decide_eq_true_eq]
        exact ⟨⟨h1, h2⟩, ih (k + 1) (by omega) h3⟩

theorem Lines.get_set (l : List (Nat × List Byte)) (a : Nat) (d : List Byte) (x : Nat) (lo : Nat) (h : Lines.wfFrom lo l = true) :
    Lines.get (Lines.set l a d) x = if x = a then some d else Lines.get l x := by
  induction l generalizing lo with
  | nil =>
    by_cases hx : x = a
    · rw [if_pos hx]; exact if_pos hx.symm
    · rw [if_neg hx]; exact if_neg (fun e => hx e.symm)
  | cons y l ih =>
    obtain ⟨k, v⟩ := y
    simp only [Lines.wfFrom, Bool.and_eq_true, decide_eq_true_eq] at h
    have ih := ih (k + 1) h.2
    simp only [Lines.set]
    by_cases h1 : a < k
    · rw [if_pos h1]
      by_cases hx : x = a
      · rw [if_pos hx]; exact if_pos hx.symm
      · rw [if_neg hx]; exact if_neg (fun e => hx e.symm)
    · rw [if_neg h1]
      by_cases h2 : a = k
      · rw [if_pos h2]
        by_cases hx : x = a
        · rw [if_pos hx]; exact if_pos hx.symm
        · have ha : ¬ a = x := fun e => hx e.symm
          have hk : ¬ k = x := fun e => hx (e.symm.trans h2.symm)
          rw [if_neg hx]; exact (if_neg ha).trans (if_neg hk).symm
      · rw [if_neg h2, Lines.get, Lines.get]
        by_cases hk : k = x
        · rw [if_pos hk, if_neg (by omega), if_pos hk]
        · rw [if_neg hk, if_neg hk, ih]

theorem padTo_length (n : Nat) (d : List Byte) : (padTo n d).length = n := by
  simp [padTo, slice]

/-! ### The operations of the model -/

/-- What the SRAM part of the canonical form asks. -/
def Sram.wf (m : Sram) : Prop :=
  Memory.wf 0 m.cells = true ∧ Marks.wfFrom 0 m.tags = true ∧ Marks.wfFrom 0 m.singles = true ∧ Marks.wfFrom 0 m.doubles = true

theorem Sram.upset_wf {m : Sram} (h : m.wf) (w : Nat) (u : Upset) : (m.upset w u).wf := by
  obtain ⟨h1, h2, h3, h4⟩ := h
  cases u with
  | none => exact ⟨h1, h2, h3, h4⟩
  | single =>
    simp only [Sram.upset]
    split
    · exact ⟨h1, h2, h3, h4⟩
    · exact ⟨h1, h2, Marks.add_wfFrom w _ 0 (Nat.zero_le w) h3, h4⟩
  | double => exact ⟨h1, h2, Marks.del_wfFrom w _ 0 h3, Marks.add_wfFrom w _ 0 (Nat.zero_le w) h4⟩

theorem State.correctWord_wf {s : State} (h : s.sram.wf) (w : Nat) : (s.correctWord w).sram.wf := by
  simp only [State.correctWord]
  split
  · exact ⟨h.1, h.2.1, Marks.del_wfFrom w _ 0 h.2.2.1, h.2.2.2⟩
  · exact h

theorem State.noteWord_wf {s : State} (h : s.sram.wf) (who : Requester) (w : Nat) (c : WordState) : (s.noteWord who w c).sram.wf := by
  cases c with
  | good => exact State.correctWord_wf h w
  | unwritten => exact h
  | uncorrectable => exact h

theorem State.sramRead_wf {s : State} (h : s.sram.wf) (who : Requester) (addr n : Nat) : (s.sramRead who addr n).2.sram.wf :=
  State.noteWord_wf h who _ _

/-- Every write of main SRAM keeps the canonical form. -/
theorem State.sramWrite_wf {s : State} (h : s.sram.wf) (who : Requester) (addr : Nat) (bs : List Byte) :
    (s.sramWrite who addr bs).2.sram.wf := by
  have put : ∀ m : Sram, m.wf → Sram.wf
      { cells := Memory.setMany 0 m.cells (addr - sramBase) bs, tags := Marks.add (wordOf addr) m.tags
        singles := Marks.del (wordOf addr) m.singles
        doubles := if wordOf addr ∈ m.tags then m.doubles else Marks.del (wordOf addr) m.doubles } := by
    rintro m ⟨h1, h2, h3, h4⟩
    refine ⟨Memory.setMany_wf _ bs h1, Marks.add_wfFrom _ _ 0 (Nat.zero_le _) h2, Marks.del_wfFrom _ _ 0 h3, ?_⟩
    dsimp only
    split
    · exact h4
    · exact Marks.del_wfFrom _ _ 0 h4
  simp only [State.sramWrite]
  split
  · exact put _ h
  · split
    · exact State.noteWord_wf h who _ _
    · exact put { s.sram with cells := Memory.setMany 0 s.sram.cells (8 * wordOf addr) (List.replicate 8 0) }
        ⟨Memory.setMany_wf _ _ h.1, h.2⟩
    · exact put _ (State.correctWord_wf h _)

theorem State.memClear_wf {s : State} (h : s.sram.wf) (n : Fin 4) (user : Bool) (addr : Nat) : (s.memClear n user addr).sram.wf := by
  simp only [State.memClear]
  split
  · exact h
  split
  · exact ⟨Memory.setMany_wf _ _ h.1, Marks.del_wfFrom _ _ 0 h.2.1, Marks.del_wfFrom _ _ 0 h.2.2.1, Marks.del_wfFrom _ _ 0 h.2.2.2⟩
  · exact h

/-- A line written to the Ledger's cells keeps their form, and the marks of lines that do not read. -/
theorem State.writeCells_wf {s : State} (h : Lines.wfFrom 0 s.ledger.lines = true) (hb : Marks.wfFrom 0 s.ledger.bad = true)
    (line : Nat) (data : Line) :
    Lines.wfFrom 0 (s.writeCells line data).ledger.lines = true ∧ Marks.wfFrom 0 (s.writeCells line data).ledger.bad = true :=
  ⟨Lines.set_wfFrom _ line _ 0 (Nat.zero_le line) (padTo_length 32 data) h, Marks.del_wfFrom line _ 0 hb⟩

/-- The line reads as written, every other line as before. -/
theorem State.writeCells_get {s : State} (h : Lines.wfFrom 0 s.ledger.lines = true) (line : Nat) (data : Line) (x : Nat) :
    Lines.get (s.writeCells line data).ledger.lines x =
      if x = line then some (padTo 32 data) else Lines.get s.ledger.lines x :=
  Lines.get_set _ line _ x 0 h

/-- A drop of whole blocks of lines keeps the form (the removal of any lines by a test of their number). -/
theorem Lines.filter_wfFrom (p : Nat × List Byte → Bool) (l : List (Nat × List Byte)) (lo : Nat) (h : Lines.wfFrom lo l = true) :
    Lines.wfFrom lo (l.filter p) = true := by
  induction l generalizing lo with
  | nil => rfl
  | cons x l ih =>
    obtain ⟨k, v⟩ := x
    simp only [Lines.wfFrom, Bool.and_eq_true, decide_eq_true_eq] at h
    obtain ⟨⟨h1, h2⟩, h3⟩ := h
    rw [List.filter_cons]
    split
    · simp only [Lines.wfFrom, Bool.and_eq_true, decide_eq_true_eq]
      exact ⟨⟨h1, h2⟩, ih (k + 1) h3⟩
    · exact Lines.wfFrom_mono _ (by omega) (ih (k + 1) h3)

end Sys2Proof.Machine
end

