-- ==== Sys2Proof/Laws/Request.lean ====
section
/-! SUPPORT. What a request to a free Innkeeper comes to, and what an access that a region permits does. -/

namespace Sys2Proof.Machine

/-- A permitted access of a running Lodger takes place. -/
theorem State.access_lodger {s : State} {n : Fin 4} {user : Bool} {kind : AccessKind} {addr : Nat} (h : s.may n user kind addr)
    (go : State → State) : s.access (.lodger n user) kind addr go = go s := by
  simp [State.access, h.1, h.2]

/-- A request of Lodger `n` as the Innkeeper has taken it. -/
def State.taken (s : State) (n : Fin 4) (seq code : Nat) (args : List Nat) : State :=
  (((s.answer 0).mbxArgs n args).mbxPost n seq code).takeTurn n

/-- R52, R54: a ready Lodger's request is served at once. -/
theorem State.mbxCommand_ready {s : State} {n : Fin 4} {user : Bool} (h : s.ready n user) (seq code : Nat) (args : List Nat)
    (serve : State → State) : s.mbxCommand n user seq code args serve = serve (s.taken n seq code args) := by
  rw [State.mbxCommand, State.access_lodger h.1]
  simp [h.2.1, h.2.2, State.taken]

/-- A mailbox whose request has been taken. -/
def Mailbox.taken (m : Mailbox) (seq code : Nat) (args : List Nat) : Mailbox :=
  { m with
    args := Vector.ofFn fun i : Fin 6 => match args[i.val]? with
      | some a => BitVec.ofNat 32 a
      | none => vget m.args i
    cmdSeq := seq, cmdCode := code, busy := true, job := .idle }

/-- The whole of a request that has been taken: the answer, the turn and the mailbox; nothing else. -/
theorem State.taken_eq {s : State} {n : Fin 4} {user : Bool} (h : s.ready n user) (seq code : Nat) (args : List Nat) :
    s.taken n seq code args = { s with
      bus := { data := 0, outcome := .ok }, ink := { s.ink with mbxNext := (n.val + 1) % 4 }
      lodgers := vset s.lodgers n { s.lodger n with mbx := (s.mbx n).taken seq code args } } := by
  have hb := h.2.1
  simp only [State.mbx, State.lodger] at hb
  simp only [State.taken, State.mbxPost, State.mbxArgs, State.takeTurn, State.mapMbx, State.mbx, State.answer, State.lodger,
    State.mapLodger, Mailbox.taken, State.mapLodgers, State.mapBus, State.mapInk, vget_vmod_same, hb]
  simp only [Bool.false_eq_true, if_false, vmod_vmod]
  rfl

end Sys2Proof.Machine
end

