-- ==== Sys2Proof/Machine/Pins.lean ====
section
/-! DEFINITION. What the state says of clocks and balls that no register shows: the clock domains (R163, R172, R173, R187, R196),
the crystal, the supply of the Innkeeper, and the balls of R499, R575, R616, R658, R659 and R663. -/

namespace Sys2Proof.Machine

/-- The clock domains of Table 05-1. -/
inductive Domain where
  | np | wd | ink | ldg | sys | lpe | fan | sns | can | uart | pnl | qspi | svc | tck
  deriving DecidableEq, Repr

/-- A clock that runs while a condition holds, in Hz; 0 is stopped. -/
def clockWhile (b : Bool) (hz : Nat) : Nat := if b then hz else 0

/-- PLL A, B or C runs. -/
def State.pll (s : State) (k : Nat) : Bool := s.power.pllLock.getLsbD k

/-- The 24 MHz crystal runs: from step 2 of Table 03-2 on (R605), and not in Standby (R172 step 5). -/
def State.crystalRuns (s : State) : Bool := s.clocked && !s.power.xtalRc

/-- The clock of a domain in Hz, 0 while it is stopped (Table 05-1). `nor` says that a NOR access is under way, which happens inside
one step; TCK comes from outside. The SVC domain has no other source than the crystal, and R192 does not say what it does in a crystal
loss: it keeps its clock. (log 138: DEDUCED; log 142: DESIGN CHOICE) -/
def State.clockHz (s : State) (nor : Bool) : Domain → Nat
  | .np => 32768
  | .wd => clockWhile (decide (s.power.phase ≠ .off)) 1000000
  | .ink => clockWhile s.inkRuns (if s.asleep then 12000000 else 96000000)
  | .ldg => clockWhile (s.pll 0) (200000000 / s.lodgerDivider)
  | .sys => clockWhile (s.pll 0) 100000000
  | .lpe => clockWhile (s.pll 1) 150000000
  | .fan => clockWhile (s.pll 1) 75000000
  | .sns => clockWhile (s.pll 2) 10240000
  | .can => clockWhile (s.pll 2) 80000000
  | .uart => clockWhile (s.pll 2) 32000000
  | .pnl => clockWhile (s.pll 2 && s.panelAllowed) (s.pnl.cfg.pclk * 100000)
  | .qspi => clockWhile (nor && s.pll 0) (s.boot.norRead.mhz * 1000000)
  | .svc => clockWhile s.clocked 3072000
  | .tck => 0

/-- The Innkeeper, retention SRAM and the Ledger take their supply from HOLD: in the power-fail sequence (Table 05-6 step 3), and
the Night Porter in Off without VIO (R198). -/
def State.onHold (s : State) : Bool :=
  match s.power.phase with
  | .flushing => true
  | .off => !s.power.vioOk
  | _ => false

/-- VIO is absent, so that a ball takes the first column of Table 20-16: before a POR has ended, in Off without VIO, and while HOLD
alone supplies the power-fail sequence. -/
def State.unpowered (s : State) : Bool := !s.power.vioOk

/-- The second column of Table 20-16 holds: in every reset and held boot until step 12 of Table 03-2, in Off, and under TEST. -/
def State.inReset (s : State) : Bool :=
  match s.power.phase with
  | .running | .offWait | .ledgerWait | .flushing | .shutdown | .halted => false
  | _ => true

/-- STB of a CAN transceiver is asserted: before Gridis starts, in Standby, in OFF, and with a bad timing (R172, R467, R499,
R658); it is not driven without VIO. -/
def State.canStb (s : State) (c : Fin 2) : Bool :=
  !s.unpowered && (!s.grd.started || decide ((s.can c).st = .off ∨ (s.can c).st = .stopped))

/-- ALERT is driven low (R659); it is released otherwise, and while the device is unpowered. -/
def State.alertLow (s : State) : Bool :=
  match s.power.phase with
  | .off | .reset | .test => false
  | _ => !s.unpowered && !s.gate.blank

/-- NRST is driven low: in a POR or a BROWNOUT reset, until 1 ms after VIO has passed the power-on threshold (R663), while VIO is
present (Table 20-16). A BROWNOUT that VIO outlives counts from its beginning. (log 151: DEDUCED) -/
def State.nrstDriven (s : State) : Bool :=
  !s.unpowered && match s.power.nrstFrom with
    | some t => decide (s.now < t + 1000)
    | none => false

/-- The state of a ball: not driven, driven, or held by its internal pull resistor. -/
inductive Level where
  | highZ | low | high | pullDown | pullUp
  deriving DecidableEq, Repr

/-- The balls of Table 20-16, apart from the fan bridges (R350, R352), the output classes (`State.aoPin`, `State.doOn`,
`State.htPin`) and the panel's (R629). -/
inductive Ball where
  | canTx (c : Fin 2)
  | canStb (c : Fin 2)
  | de (p : Fin 3)
  | qspiNcs | qspiIo23 | qspiClk
  | tripIo
  | i2c (b : Fin 2)
  | alert | nrst | tck
  /-- TMS, TDI and NTRST. -/
  | jtag
  | svcLed
  deriving DecidableEq, Repr

/-- A ball without VIO, in a reset or Off, and otherwise. -/
def State.column (s : State) (unpowered reset other : Level) : Level :=
  if s.unpowered then unpowered else if s.inReset then reset else other

/-- Table 20-16, between the bits that a frame, a character or an access moves inside one step: a CAN line is recessive, the Quad SPI
idle, an I²C line released and the LED off. (log 152: DEDUCED) -/
def State.ball (s : State) : Ball → Level
  | .canTx _ => s.column .highZ .pullUp .high
  | .canStb c => s.column .highZ .pullUp (if s.canStb c then .high else .low)
  | .de p => s.column .pullDown .pullDown (if (vget s.uarts.ports p).de then .high else .low)
  | .qspiNcs => s.column .highZ .pullUp .high
  | .qspiIo23 => s.column .highZ .pullUp .high
  | .qspiClk => s.column .highZ .low .low
  | .tripIo => s.column .highZ .highZ (if s.tripPull then .low else .highZ)
  | .i2c _ => .highZ
  | .alert => if s.alertLow then .low else .highZ
  | .nrst => if s.nrstDriven then .low else if s.unpowered then .highZ else .pullUp
  | .tck => s.column .highZ .pullDown .pullDown
  | .jtag => s.column .highZ .pullUp .pullUp
  | .svcLed => s.column .highZ .low .low

/-- The AO pin in mV; none while it is high impedance with its pull-down (Table 10-2). -/
def State.aoPin (s : State) (n : Fin 8) : Option Nat := if s.aoHiz n then none else some (s.outp (aoGate n)).applied

/-- The HT pin (R357, Table 10-2): high for the on-time of the heater period in progress, and held low by its pull-down in Off and
without VIO. -/
def State.htPin (s : State) (k : Fin 4) : Level :=
  let h := vget s.out.hts k
  if s.unpowered || decide (s.power.phase = .off) then .pullDown
  else if (s.now - h.startedAt) * 32768 < h.onCycles * 1000000 then .high
  else .low

/-- The levels of TXn (R554, R565, R575): in Standby, and while the port's domain is stopped, the line is high. -/
def State.txd (s : State) (p : Fin 3) : List Bool := if s.awake then (vget s.uarts.ports p).txLine else [true]

/-- PNL_BL is high for this many thousandths of each period (R616). -/
def State.backlight (s : State) : Nat := if s.pnl.lit then s.blApplied else 0

/-! ### The panel's bus (R606 to R608)

The levels from the rising edge that begins a PCLK cycle of the line in progress, cycle 0 at the active edge of HS. The bus is low
while no timing runs (R627). -/

/-- The line in progress, from the active edge of VS. -/
def Pnl.lineNow (p : Pnl) : Nat := p.line - 1

/-- PNL_HS is high. -/
def Pnl.hs (p : Pnl) (cycle : Nat) : Bool := p.timing && (decide (cycle < p.cfg.hsw) == p.cfg.hsPol)

/-- PNL_VS is high. -/
def Pnl.vs (p : Pnl) : Bool := p.timing && (decide (p.lineNow < p.cfg.vsw) == p.cfg.vsPol)

/-- PNL_DE is active, which is high. (log 107: DEDUCED) -/
def Pnl.de (p : Pnl) (cycle : Nat) : Bool :=
  let t := p.cfg
  p.timing && decide (t.vsw + t.vbp ≤ p.lineNow ∧ p.lineNow < t.vsw + t.vbp + t.vact ∧ t.hsw + t.hbp ≤ cycle ∧
    cycle < t.hsw + t.hbp + t.hact)

/-- The level on PNL_D0 to PNL_D3. -/
def Pnl.level (p : Pnl) (cycle : Nat) : BitVec 4 :=
  if p.de cycle then p.drive.getD (cycle - (p.cfg.hsw + p.cfg.hbp)) 0 else 0

/-- PNL_ENk is high (R626, R627). -/
def State.railEnabled (s : State) (k : Fin 3) : Bool := s.pnl.rails.contains k.val

end Sys2Proof.Machine
end

