-- ==== Sys2Proof/Tests/Slice0.lean ====
section
/-! SUPPORT. Small tests of the model: what WellFormed refuses, worked cases of the manual, and for each obligation states and
operands that meet the hypotheses of its clauses (theorems `wit_…`). -/

namespace Sys2Proof.Tests

open Sys2Proof Sys2Proof.Machine

-- One theorem after another: the many kernel evaluations below would otherwise wait in threads of their own.
set_option Elab.async false

/-! ### Helper states -/

/-- A region over all addresses that permits everything. -/
def openRegion : Region := { base := 0, limit := 2 ^ 32, r := true, w := true, x := true, ua := true }

/-- A running Lodger that may access everything. -/
def openLodger : Lodger := { run := .running, regions := Vector.replicate 16 openRegion }

/-- A device in Run: node 1 of its group, every supply up, four Lodgers running, every output Live and owned by Lodger 0. -/
def up : State :=
  { State.reset with
    power := { phase := .running, latchedCauses := 0, pllLock := 7, vioOk := true, vaOk := true, vaoOk := true, vgdOk := true
               holdOk := true }
    boot := { slot := 0, slotA := { state := .active }, slotB := { state := .inactive } }
    image := some {}
    gate := { blank := false, outs := Vector.replicate 30 { max := 1000, owner := .lodger } }
    lodgers := Vector.replicate 4 openLodger
    sns := { running := true }
    loops := { running := true }
    out := { running := true }
    grd := { started := true, node := 1, cans := Vector.replicate 2 { st := .active } }
    grp := { st := .inGroup, group := some 0, onTime := true, master := some 1 } }

/-- A state in another phase. -/
def inPhase (s : State) (p : Phase) : State := s.mapPower fun x => { x with phase := p }

/-- The state after a command. -/
def after (c : Instr) (s : State) : State :=
  match exec c s with
  | .next t => t
  | _ => s

/-- `up` in Standby. -/
def asleep : State := up.mapPower fun p => { p with mode := .standby, prev := 2 }

/-- `up` with a written word, a word with a single-bit error and an uncorrectable word, numbers 0 to 2. -/
def mem : State := up.mapSram fun _ => { cells := [(0, 0xFF), (3, 1)], tags := [0, 1, 2], singles := [1], doubles := [2] }

/-- A fan channel that runs at 1 500 rpm. -/
def runningFan : Fan :=
  { en := true, st := .run, lock := true, meas := 1500, nref := 1500000, motor := { poles := 4, ilim := 1000 }
    cfg := { stallRpm := 250, handover := 300, minRpm := 400, rampUp := 200, rampDn := 200, skipRate := 1000 } }

/-- `up` with fan channel 0 so and its output at 1 500 rpm. -/
def spun (f : Fan) : State :=
  ((up.mapFan 0 fun _ => f).mapOutp 24 fun o => { o with max := 3000, target := 1500, applied := 1500 })

/-! ### Witnesses: steps, reset, supplies and modes -/

theorem wit_StepTakesFront : ({ up with pending := [.counterRefresh] } : State).pending = Instr.counterRefresh :: [] := by decide

theorem wit_EmptyQueueTicks :
    up.pending = [] ∧ up.power.phase ≠ .off ∧ up.grp.slewLeft = 0 ∧ (inPhase up .off).pending = [] ∧
    (inPhase up .off).power.phase = .off := by decide +kernel

theorem wit_StepKeepsMemory : mem.MemWf ∧ State.reset.MemWf := by unfold State.MemWf; decide +kernel

theorem wit_StepKeepsBlank : State.reset.gate.blank = true ∧ State.reset.BlankSafe := by unfold State.BlankSafe; decide +kernel

theorem wit_StepKeepsRest :
    let s := up.mapOutp 3 fun o => { o with inRest := true, rest := 7, applied := 7 }
    (∀ i, s.RestHolds i) ∧ s.gate.blank = false ∧ (s.outp 3).inRest = true := by unfold State.RestHolds; decide +kernel

theorem wit_ResetSources :
    up.inkRuns = true ∧ (inPhase up .flushing).power.phase = .flushing ∧ up.power.phase ≠ .flushing ∧ up.power.phase ≠ .off ∧
    up.power.phase ≠ .test ∧ State.reset.power.vioOk = false ∧ State.reset.power.phase ≠ .test ∧
    (inPhase State.reset .off).power.phase = .off ∧ (inPhase State.reset .off).power.vioOk = false ∧ (inPhase up .test).power.phase = .test ∧
    (inPhase up .shutdown).inkRuns = true ∧ (inPhase up .shutdown).power.phase = .shutdown ∧ up.power.phase ≠ .shutdown ∧
    (let s := (inPhase up .flushing).mapPower fun p => { p with vioOk := false }
     s.power.phase = .flushing ∧ s.power.vioOk = false ∧ s.power.thmLatch = false) ∧
    up.ready 0 false := by
  unfold State.ready State.may; decide +kernel

theorem wit_SupplyMonitors :
    (spun runningFan).power.vgdOk = true ∧ (spun runningFan).gate.blank = false ∧ (spun runningFan).fanSwitches = true ∧
    up.fanSwitches = false ∧ (up.mapPower fun p => { p with vgdOk := false }).power.vgdOk = false ∧
    (let s := up.mapGate fun g => { g with blank := true, blankCause := 2 }
     s.power.vgdOk = true ∧ s.gate.blank = true ∧ s.gate.blankCause = 2) ∧
    up.power.vaOk = true ∧ State.reset.power.vaOk = false ∧ up.power.vaoOk = true ∧ up.power.phase = .running ∧
    (inPhase State.reset .off).power.phase = .off ∧ (inPhase State.reset .off).power.vioOk = false := by decide +kernel

theorem wit_CrystalsAndPlls :
    up.awake = true ∧ up.clocked = true ∧ (inPhase up .noImage).clocked = true ∧ up.power.phase = .running ∧
    up.power.xtalRc = false ∧ (up.mapPower fun p => { p with xtalRc := true }).power.xtalRc = true ∧ up.power.pllLock.getLsbD 0 = true ∧ up.power.pllLock.getLsbD 2 = true ∧
    up.wbl.nextFree = some 0 := by decide +kernel

theorem wit_HoldAndPowerFail :
    up.live = true ∧ up.inkAlive = true ∧ up.power.thmLatch = false ∧
    (up.mapPower fun p => { p with thmLatch := true }).power.thmLatch = true ∧ up.power.chargerEn = true ∧ up.wear.testing = false ∧ up.power.chg ≠ 1 ∧
    (up.mapPower fun p => { p with chargerEn := false }).power.chargerEn = false ∧
    up.power.holdOk = true ∧ up.windowOpen = true ∧
    (let s := up.mapPower fun p => { p with vioOk := false, holdOk := false }
     s.live = true ∧ s.power.vioOk = false ∧ s.power.holdOk = false) ∧
    (let s := (up.mapPower fun p => { p with vioOk := false }).mapThm fun t => { t with ledgerWin := false }
     s.live = true ∧ s.power.vioOk = false ∧ s.power.holdOk = true ∧ s.windowOpen = false) ∧
    (let s := (inPhase up .flushing).mapPower fun p => { p with vioOk := false }
     s.power.phase = .flushing ∧ s.power.vioOk = false) ∧
    (let s := inPhase up .flushing
     s.power.phase = .flushing ∧ s.power.vioOk = true ∧ s.power.offCmd = false ∧ s.ledger.buf = []) ∧
    (let s := inPhase up .offWait
     s.power.phase = .offWait ∧ s.power.holdOk = true ∧ s.windowOpen = true) ∧ State.reset.power.vioOk = false ∧
    (let s := inPhase up .noImage
     s.inkAlive = true ∧ s.live = false ∧ s.power.thmLatch = false) ∧ up.power.vioOk = true ∧
    (up.mapThm fun t => { t with ledgerWin := false }).windowOpen = false ∧
    (up.mapPower fun p => { p with holdOk := false }).power.holdOk = false ∧ (inPhase up .off).power.phase = .off ∧
    (let s := (inPhase up .flushing).mapThm fun t => { t with ledgerWin := false }
     s.power.phase = .flushing ∧ s.windowOpen = false) ∧
    (let s := (inPhase up .flushing).mapPower fun p => { p with flushCap := some 3 }
     s.power.flushCap = some 3 ∧ s.power.holdOk = true ∧ s.windowOpen = true) ∧
    ((inPhase up .flushing).mapPower fun p => { p with holdOk := false }).power.holdOk = false := by decide +kernel

theorem wit_ModesAndRtc :
    up.ready 3 true ∧ up.power.mode ≠ .standby ∧ Mode.ofCode 0 = none ∧ Mode.ofCode 4 = none ∧ Mode.ofCode 1 = some up.power.mode ∧ Mode.ofCode 2 = some .nightHold ∧
    Mode.nightHold ≠ up.power.mode ∧ up.standbyDeny = 0 ∧
    (up.mapSvc fun v => { v with st := .open_ }).standbyDeny ≠ 0 ∧ (up.mapSvc fun v => { v with st := .open_ }).ready 0 false ∧
    (let s := asleep.mapPower fun p => { p with wakeEn := 12, filters := Vector.replicate 4 (0x80000005, 7) }
     s.asleep = true ∧ s.power.filterMatch 0x1FFFFFFD = true ∧ s.power.wakeOn 2 = true ∧ s.power.wakeOn 3 = true) ∧
    up.awake = true ∧
    (let s := up.mapPower fun p => { p with alarm := 1, alarmArmed := true }
     s.power.alarmArmed = true ∧ s.power.alarm ≠ 0 ∧ s.power.alarm ≤ satInc 0xFFFFFFFF s.power.rtc) ∧ up.power.alarmArmed = false ∧
    (let s := up.mapPower fun p => { p with alarm := 7, alarmArmed := true, rtc := 7 }
     s.power.alarmArmed = true ∧ s.power.alarm ≤ s.power.rtc ∧ s.awake = true) ∧
    (let s := asleep.mapPower fun p => { p with alarm := 7, alarmArmed := true, rtc := 7 }
     s.power.alarmArmed = true ∧ s.power.alarm ≤ s.power.rtc ∧ s.asleep = true ∧ s.power.wakeOn 0 = true) ∧
    up.may 0 false .store 0x40001020 := by
  unfold State.ready State.may; decide +kernel

/-! ### Witnesses: the gate and the outputs -/

theorem wit_GateClamps :
    up.gateAccepts 0 (.lodger 0) = true ∧ up.sourceActs (.lodger 0) = true ∧ up.isLive 0 = true ∧ (up.outp 0).slew = 0 ∧ isDo 0 = false ∧ (up.outp 0).owner ≠ .none ∧
    (up.mapGate fun g => { g with blank := true }).gate.blank = true := by decide +kernel

/-- A write below MIN, at MIN, at MAX and above MAX (R42). -/
theorem test_gate_clamp :
    let s := up.mapOutp 0 fun o => { o with min := 10, max := 20 }
    [9, 10, 20, 21].map (fun v => (((s.gateWrite (.lodger 0) 0 v).outp 0).target, (s.gateWrite (.lodger 0) 0 v).gate.clampCnt)) =
      [(10, 1), (10, 0), (20, 0), (20, 1)] := by decide +kernel

theorem wit_GateRejects :
    up.gateAccepts 0 (.lodger 1) = false ∧ up.sourceActs (.lodger 1) = true ∧ asleep.sourceActs (.slot 47) = false ∧
    asleep.sourceActs (.key 37) = false ∧ (State.reset).sourceActs (.lodger 3) = false ∧
    (up.mapOutp 0 fun o => { o with owner := .slot, ownerId := 47 }).gateAccepts 0 (.slot 47) = true ∧ (State.reset.outp 29).owner = .none ∧ (up.outp 0).owner = .lodger ∧
    (up.outp 0).ownerId = (0 : Fin 4).val ∧
    ((up.mapOutp 0 fun o => { o with owner := .key, ownerId := 37 }).mapKeys fun k =>
      { k with hosted := [⟨37, 2, 1, 0⟩] }).gateAccepts 0 (.key 37) = true := by decide +kernel

theorem wit_GateReleases :
    up.may 1 true .store 0x400F0404 ∧ (up.outp 0).owner = .lodger ∧ (up.outp 0).ownerId = (0 : Fin 4).val ∧
    (up.outp 0).causes &&& 0x1F = 0 ∧
    (let s := up.mapOutp 0 fun o => { o with causes := 1, inRest := true }
     (s.outp 0).causes &&& 0x1F ≠ 0) ∧
    (let s := up.mapOutp 0 fun o => { o with causes := 0x40, inRest := true, ownerId := 1 }
     ¬ ((s.outp 0).owner = .lodger ∧ (s.outp 0).ownerId = (0 : Fin 4).val) ∧ (s.outp 0).causes.getLsbD 6 = true) ∧
    (let s := up.mapOutp 0 fun o => { o with ownerId := 1 }
     (s.outp 0).owner ≠ .none ∧ (s.outp 0).causes.getLsbD 6 = false) := by
  unfold State.may; decide +kernel

/-- One write that releases an own output, is foreign to a second and clears JOURNAL_LOST of a third (R63, R64). -/
theorem test_release_several :
    let s := ((up.mapOutp 0 fun o => { o with causes := 0x60, inRest := true }).mapOutp 1 fun o => { o with ownerId := 1 }).mapOutp 2
      fun o => { o with ownerId := 1, causes := 0x41, inRest := true }
    let t := after (.gateRelease 0 false 7) s
    [0, 1, 2].map (fun i => ((t.outp i).causes, (t.outp i).inRest)) = [(0, false), (0, false), (1, true)] ∧
      t.gate.rejectCnt = 1 := by decide +kernel

theorem wit_GateRamps :
    up.inkAlive = true ∧ up.gate.envNext = none ∧ up.isLive 8 = true ∧ isDo 8 = true ∧ up.isLive 7 = true ∧ isDo 7 = false ∧
    (up.outp 7).slew = 0 ∧
    (let s := up.mapOutp 0 fun o => { o with slew := 2500, target := 100, applied := 0 }
     (s.outp 0).slew ≠ 0 ∧ (s.outp 0).applied ≤ (s.outp 0).goal) ∧
    (let s := up.mapOutp 0 fun o => { o with slew := 2500, target := 0, applied := 100 }
     (s.outp 0).slew ≠ 0 ∧ (s.outp 0).goal < (s.outp 0).applied) ∧
    (let s := up.mapOutp 8 fun o => { o with target := 1 }
     s.isLive (doGate 0) = true ∧ (s.outp (doGate 0)).applied ≠ (s.outp (doGate 0)).goal ∧ (s.outp (doGate 0)).applied = 0 ∧
     (s.outp (doGate 0)).goal = 1) := by decide +kernel

theorem wit_AnalogOutputs :
    up.outRuns = true ∧ up.aoHiz 7 = false ∧ up.cutOffs = true ∧ up.live = true ∧ (inPhase up .shutdown).cutOffs = true ∧
    (inPhase up .shutdown).power.phase = .shutdown ∧
    ((up.mapAo 7 fun a => { a with stroke := some (true, 0) }).ao 7).stroke.isSome = true := by decide +kernel

theorem wit_RelayAndHeaterOutputs :
    (let s := up.mapOutp 8 fun o => { o with applied := 1 }
     s.cutOffs = true ∧ s.doOn 0 = true ∧ s.outRuns = true ∧ (s.outp (doGate 0)).applied = 1 ∧ (s.dout 0).latched = false) ∧
    ((up.mapDo 11 fun d => { d with latched := true }).dout 11).latched = true ∧ up.doOn 11 = false ∧
    up.may 0 false .store 0x4004030C ∧ up.live = true ∧ up.out.running = true := by
  unfold State.may; decide +kernel

/-! ### Witnesses: the fan channels -/

theorem wit_FanMotion :
    up.awake = true ∧ (up.fan 5).switching = false ∧ ((spun runningFan).fan 0).st = .run ∧ ((spun runningFan).fan 0).task = .none ∧
    ((spun runningFan).fan 0).attempting = false ∧ 0 < (spun runningFan).fanTarget 0 ∧ ((spun runningFan).fan 0).onHall = false ∧
    ((spun runningFan).fan 0).turning = true ∧ ((spun runningFan).fan 0).switching = true ∧
    (let s := spun { runningFan with hall := true, hallFb := true }
     (s.fan 0).onHall = true ∧ (s.fan 0).turning = true ∧ (s.fan 0).cfg.handover ≤ (s.fan 0).meas) ∧
    (let s := spun { runningFan with hall := true }
     (s.fan 0).onHall = true ∧ ¬ ((s.fan 0).hallFb = true ∧ (s.fan 0).cfg.handover ≤ (s.fan 0).meas)) ∧
    (let s := spun { runningFan with hall := true, st := .off, hallCode := 5 }
     (s.fan 0).hall = true ∧ (s.fan 0).turning = false ∧ hallStep (s.fan 0).motor.reverse (s.fan 0).hallCode 7 = .invalid) ∧
    (spun { runningFan with attempting := true }).fanTarget 0 = 1500 ∧
    [5, 1, 4, 7, 6, 2].map (hallStep false 5) = [.position, .along, .against, .invalid, .outOfSequence, .outOfSequence] := by
  decide +kernel

theorem wit_FanStarts :
    (let s := spun { runningFan with st := .off }
     s.awake = true ∧ s.gate.blank = false ∧ (s.fan 0).st = .off ∧ 0 < s.fanTarget 0 ∧ s.power.vgdOk = true) ∧
    (((spun { runningFan with st := .off }).mapPower fun p => { p with vgdOk := false }).power.vgdOk = false) ∧
    (let s := (spun { runningFan with st := .catch_ }).mapPower fun p => { p with vgdOk := false }
     (s.fan 0).st = .catch_ ∧ s.power.vgdOk = false ∧ s.gate.blank = false) ∧
    (let s := up.mapFan 0 fun _ => { runningFan with task := .base 2 [] }
     s.fanTarget 0 = 0 ∧ (s.fan 0).task = .base 2 []) ∧
    ((spun { runningFan with st := .catch_ }).fan 0).st = .catch_ ∧ 299 < runningFan.cfg.handover ∧ runningFan.cfg.handover ≤ 300 ∧
    (let s := spun { runningFan with st := .catch_, hall := true, hallCode := 7 }
     (s.fan 0).st = .catch_ ∧ (s.fan 0).onHall = true ∧ (s.fan 0).hallCode = 7) ∧
    (let s := spun { runningFan with st := .catch_, hall := true, hallCode := 5 }
     (s.fan 0).hallCode ≠ 0 ∧ (s.fan 0).hallCode ≠ 7) ∧
    ((spun { runningFan with st := .brake }).fan 0).st = .brake ∧
    (let s := spun { runningFan with st := .precharge }
     (s.fan 0).st = .precharge ∧ (s.fan 0).hall = false) ∧
    (let s := spun { runningFan with st := .precharge, hall := true }
     (s.fan 0).st = .precharge ∧ (s.fan 0).hall = true) ∧
    (let s := spun { runningFan with st := .align }
     (s.fan 0).st = .align ∧ (s.fan 0).motor.ilim ≤ 10 * 100 ∧ 10 * 99 < (s.fan 0).motor.ilim) ∧
    ((spun { runningFan with st := .openloop }).fan 0).st = .openloop ∧
    (let s := up.mapFan 0 fun _ => runningFan
     s.fanTarget 0 = 0 ∧ (s.fan 0).task = .none ∧ (s.fan 0).st ≠ .off ∧ (s.fan 0).st ≠ .latched) ∧
    (let s := up.mapFan 0 fun _ => { runningFan with en := false, task := .sweep 2 }
     s.fanTarget 0 = 0 ∧ (s.fan 0).en = false ∧ (s.fan 0).task = .sweep 2 ∧ (s.fan 0).st ≠ .off) := by decide +kernel

theorem wit_FanFaults :
    (let s := spun { runningFan with meas := 249 }
     (s.fan 0).st = .run ∧ (s.fan 0).attempting = false ∧ 0 < s.fanTarget 0 ∧ (s.fan 0).meas < (s.fan 0).cfg.stallRpm ∧
     (s.fan 0).attempt ≠ 3) ∧
    ((spun { runningFan with meas := 249, attempt := 3 }).fan 0).attempt = 3 ∧
    (let s := spun { runningFan with st := .wait, attempt := 1 }
     s.awake = true ∧ s.power.vgdOk = true ∧ (s.fan 0).st = .wait ∧ 0 < s.fanTarget 0) ∧
    (let s := spun { runningFan with attempting := true, meas := 250 }
     (s.fan 0).attempting = true ∧ (s.fan 0).st = .run ∧ (s.fan 0).lock = true ∧ (s.fan 0).cfg.stallRpm ≤ (s.fan 0).meas ∧
     (s.fan 0).attempt < 3) ∧
    ((spun { runningFan with attempting := true, attempt := 3 }).fan 0).attempting = true ∧
    (let s := (spun { runningFan with st := .latched }).mapSvc fun v => { v with st := .open_ }
     s.may 0 false .store (fanBase 0 + 0x48) ∧ (s.fan 0).st = .latched ∧ s.sessionOpen = true) ∧
    (spun { runningFan with st := .latched }).sessionOpen = false ∧
    (let s := spun { runningFan with st := .off }
     (s.fan 0).switching = false ∧ (s.fan 0).faultNow = false) := by
  unfold State.may; decide +kernel

theorem wit_FanTasks :
    (let s := (spun { runningFan with
         base := Vector.replicate 8 { rpm := 1500, cur := 1824, duty := 500 }
         steady := Vector.replicate 8 (10000, 20060000) }).mapSvc fun v => { v with st := .open_ }
     s.may 0 false .store (fanBase 0 + 0x48) ∧ s.captureOk 0 = false ∧ s.dmiOk 0 2 = true ∧
     700 ≤ satTo 16 (nearest (1000 * 20060000) (10000 * (vget (s.fan 0).base 2).cur))) ∧
    (let s := (spun { runningFan with
         base := Vector.replicate 8 { rpm := 1500, cur := 1824, duty := 500 }
         steady := Vector.replicate 8 (10000, 12700000) })
     s.dmiOk 0 2 = true ∧ (s.fan 0).onHall = false ∧
     satTo 16 (nearest (1000 * 12700000) (10000 * (vget (s.fan 0).base 2).cur)) < 700) ∧ 3 ≤ up.wbl.freeCount ∧
    (let s := (spun { runningFan with base := (Vector.replicate 8 {}).set 2 { rpm := 1500 } }).mapSvc fun v => { v with st := .open_ }
     s.captureOk 0 = true ∧ (s.fan 0).used = [(2, 1500)] ∧ s.sweepOk 0 = false) ∧
    (let s := (spun { runningFan with mapLo := 301, mapHi := 941 }).mapSvc fun v => { v with st := .open_ }
     s.sweepOk 0 = true) ∧
    (let s := spun { runningFan with task := .base 2 [], base := (Vector.replicate 8 {}).set 2 { rpm := 1500 } }
     (s.fan 0).task = .base 2 [] ∧ (s.fan 0).taskMs < 30000 ∧ ((s.fan 0).used.find? fun p => decide (2 < p.1)) = none) ∧
    30000 ≤ ((spun { runningFan with task := .base 2 [], taskMs := 30000 }).fan 0).taskMs ∧
    (let s := spun { runningFan with task := .base 2 [], base := ((Vector.replicate 8 {}).set 2 { rpm := 1500 }).set 7 { rpm := 1600 } }
     ((s.fan 0).used.find? fun p => decide (2 < p.1)) = some (7, 1600)) ∧
    (let s := spun { runningFan with task := .sweep 3 }
     (s.fan 0).task = .sweep 3 ∧ (s.fan 0).nref = 1000 * ((s.fan 0).course (s.fanTarget 0)).1) := by
  unfold State.may; decide +kernel

theorem wit_WearHistory :
    up.countersKept = true ∧ (inPhase up .nodeHold).countersKept = false ∧ up.changedLines = [] ∧
    (let s := up.mapWear fun w => { w with copies := [1] }
     s.changedLines.length = 1 ∧ s.changedLines.length ≤ s.wbl.freeCount) ∧
    (24840 ≤ 25000 ∧ 22982 ≤ 24998 ∧ 25000 - 24840 < 10 * (24998 - 22982)) ∧
    (let s := (up.mapPower fun p => { p with rtcSet := true, rtc := 7200, chg := 2 })
     s.live = true ∧ s.power.rtcSet = true ∧ s.power.rtc % 86400 = s.wear.nightTime ∧ s.wear.testing = false ∧
     s.wear.holdEn = true ∧ s.power.chg = 2) ∧ up.power.chg ≠ 2 ∧
    (up.mapWear fun w => { w with testing := true }).wear.testing = true := by decide +kernel

/-! ### Witnesses: inputs, loops and the panel -/

/-- A slot that passes every check of an enabling. -/
def goodSlot : LoopSlot :=
  { fbAddr := 0x20000000, staleN := 3, goodK := 5
    banks := Vector.replicate 4 #v[0, 0, 0, 0, 0x3F800000, 0, 0, 0x43C80000, 0x447A0000] }

theorem wit_UniversalInputs :
    (let s := up.mapUi 5 fun u => { u with type := 3 }
     s.converts 5 = true ∧ s.converts 4 = false ∧ s.discards 5 = false ∧ s.resultHeld = false) ∧
    (let s := up.mapUi 5 fun u => { u with type := 3 }
     s.sns.cycleDone = false ∧ up.scanning = true ∧ up.sns.cycleDone = true) ∧
    (up.mapUi 5 fun u => { u with settle := 1 }).discards 5 = true ∧
    (up.mapSns fun b => { b with hold := some 0 }).resultHeld = true ∧ up.may 0 false .load 0x40010100 ∧
    ((up.mapSns fun b => { b with hold := some 0 }).sns.hold.isSome = true) ∧ up.sns.swapDue = false ∧
    (up.mapSns fun b => { b with hold := some 0, swapDue := true }).sns.swapDue = true ∧
    up.may 0 false .store (0x40010040 + (15 : Fin 16).val * 4) ∧ 5 < (6 : BitVec 3).toNat ∧ (5 : BitVec 3).toNat ≤ 5 ∧
    (5 : BitVec 3).toNat ≠ (up.ui 15).type ∧ (0 : BitVec 3).toNat = (up.ui 15).type := by
  unfold State.may; decide +kernel

theorem wit_SensorsAndDigitalInputs :
    (let s := up.mapSns fun b => { b with i2c := Vector.replicate 16 { addr := 0x40, used := true } }
     s.awake = true ∧ s.sns.running = true ∧ s.sns.i2cEn = true ∧ (s.i2c 15).used = true ∧
     (vget s.sns.buses (s.i2c 15).bus).busy = none) ∧
    (let s := up.mapSns fun b => { b with buses := Vector.replicate 2 { busy := some 3 } }
     (vget s.sns.buses (s.i2c 3).bus).busy = some (3 : Fin 16).val ∧ (vget s.sns.buses (s.i2c 3).bus).due = [] ∧
     3 ≠ (4 : Fin 16).val ∧ (s.i2c 3).crc = false) ∧
    (let s := up.mapSns fun b => { b with buses := Vector.replicate 2 { busy := some 3 }, i2c := Vector.replicate 16 { form := 0xB0 } }
     (vget s.sns.buses (s.i2c 3).bus).busy = some (3 : Fin 16).val ∧ (s.i2c 3).crc = true ∧ (s.i2c 3).len = 3 ∧
     crcGroupsOk (padTo 3 [0xBE, 0xEF, 0x92]) = true ∧ crcGroupsOk (padTo 3 [0xBE, 0xEF, 0x93]) = false) ∧
    (let s := up.mapSns fun b => { b with buses := Vector.replicate 2 { busy := some 3, due := [5, 7] } }
     (vget s.sns.buses (s.i2c 3).bus).due = (5 : Fin 16).val :: [7] ∧ (s.i2c 5).bus = (s.i2c 3).bus) ∧
    up.may 0 false .load (0x40010300 + (15 : Fin 16).val * 0x10) ∧ up.power.phase ≠ .off ∧ up.asleep = false ∧
    up.sns.diState.getLsbD (7 : Fin 8).val = false ∧ up.may 0 false .store 0x4001024C := by
  unfold State.may; decide +kernel

theorem wit_LoopRegisters :
    up.may 0 false .store (slotBase 47 + 0x54) ∧ up.may 0 false .store (slotBase 47 + 0x60 + 4 * (8 : Fin 9).val) ∧
    up.may 0 false .store (slotBase 0 + 0x50) ∧ up.may 0 false .store (slotBase 0) ∧ up.may 0 false .store (slotBase 0 + 0x0C) ∧
    up.may 0 false .store (slotBase 0 + 0x44) ∧ 9 < (10 : Fin 16).val ∧ (0 : Fin 16).val = 0 ∧ (9 : Fin 16).val ≤ 9 ∧
    (let z := { goodSlot with en := true }
     goodSlot.en = false ∧ z.setupOk up.loops.points = true ∧ z.addrUsedOk = true ∧ z.staleN ≠ 0 ∧ z.goodK ≠ 0 ∧ z.banksOk = true ∧
     cascadesOk (vset up.loops.slots 0 z).toList = true) ∧
    (up.slot 0).en = false ∧ ({ up.slot 0 with en := true } : LoopSlot).setupOk up.loops.points = true ∧
    ({ up.slot 0 with en := true } : LoopSlot).staleN = 0 ∧
    (up.mapSlot 0 fun _ => { goodSlot with en := true }).isInner 0 = false ∧
    (let s := up.mapSlot 0 fun _ => { goodSlot with en := true, destKind := 2, destId := 1 }
     s.isInner 1 = true ∧ (s.slot 0).en = true ∧ (s.slot 0).setupOk s.loops.points = true) := by
  unfold State.may; decide +kernel

theorem wit_LoopTicks :
    up.awake = true ∧ up.loops.running = true ∧ (∀ m, (up.slot m).st = .off ∨ 1 < (up.slot m).due) ∧
    (∀ st ∈ [LoopSt.track, .closed],
      let s := up.mapSlot 3 fun _ => { goodSlot with en := true, st := st, due := 1 }
      (∀ m, m ≠ 3 → (s.slot m).st = .off) ∧ (s.slot 3).due ≤ 1 ∧ (s.slot 3).regAddr = 0 ∧ (s.slot 3).pend = false ∧
      0 < (s.slot 3).goodK ∧ (s.slotRead 3 (s.slot 3).fbAddr).1 = none ∧ (s.slot 3).destKind = 0 ∧ (s.slot 3).st = st ∧
      (s.slot 3).fallback = 0) := by decide +kernel

/-- Slot 3 CLOSED and due, its feedback 3.0 good and new, with a commit pending and region 0 of 2; and the same in direct mode. -/
def lawSlot (direct : Bool) : State :=
  (up.mapSram fun _ => { cells := [(2, 0x40), (3, 0x40), (4, 1), (6, 1)], tags := [0] }).mapSlot 3 fun _ =>
    { goodSlot with
      en := true, direct := direct, fbAddr := 0x20000000, st := .closed, due := 1, region := 0, regions := 1, pend := true, bank := 1
      stg := vget goodSlot.banks 0, t := #v[0x40000000, 0, 0], reg := 0x40400000 }

theorem wit_loop_law (direct : Bool) :
    let s := lawSlot direct
    s.awake = true ∧ s.loops.running = true ∧ (∀ k, k ≠ 3 → (s.slot k).st = .off) ∧ (s.slot 3).due ≤ 1 ∧ (s.slot 3).st = .closed ∧
    (s.slot 3).destKind = 0 ∧ (s.slot 3).destBad = false ∧ (s.slot 3).bank = (1 : Fin 4).val ∧ (s.slot 3).regAddr = 0 ∧
    s.slotRead 3 (s.slot 3).fbAddr = (some 0x40400000, s) ∧ s.slotRead 3 ((s.slot 3).fbAddr + 4) = (some 0x00010001, s) ∧
    bit (0x00010001 : Word) 7 = false ∧ bit (0x00010001 : Word) 0 = true ∧ finite 0x40400000 = true ∧
    (s.slot 3).lastSeq ≠ some (bits (0x00010001 : Word) 31 16) ∧ (s.slot 3).frzTime = 0 ∧ coefOk (s.slot 3).stg = true ∧
    (let x := s.slot 3
     (if strictly x.bounds && finite x.hys && !F32.lt (f32 x.hys) F32.zero && finite x.reg
      then moveRegion x.bounds (f32 x.hys) (f32 x.reg) (min x.region x.regions) else min x.region x.regions) = (1 : Fin 4).val) := by
  revert direct; decide +kernel

/-- A panel with the rail sequence of the worked case at Osterlin Street: rail 1, rail 0, rail 2. -/
def panel : Pnl := { on := true, railseq := [1, 0, 2] ++ List.replicate 13 0, inForce := [1, 0, 2] ++ List.replicate 13 0 }

def withPanel (p : Pnl) : State := up.mapPnl fun _ => p

theorem wit_PanelPower :
    up.may 0 false .store 0x40090000 ∧ (withPanel panel).pnl.on = true ∧ up.panelAllowed = true ∧
    (let s := up.mapPower fun p => { p with mode := .nightHold }
     s.panelAllowed = false ∧ s.may 0 false .store 0x40090000 ∧ s.may 0 false .store 0x40090040) ∧
    (let s := withPanel { panel with on := false }
     s.pnl.on = false ∧ s.pnl.crack = false ∧ s.panelAllowed = true ∧ s.pnl.st = .off ∧
     { s.pnl with inForce := s.pnl.railseq }.nextStep 0 ≠ 3 ∧ s.pnl.railseq ≠ List.replicate 16 0) ∧
    (let p := { panel with st := .live, timing := true }
     p.on = true ∧ p.st = .live ∧ p.timing = true) ∧
    (let p := { panel with st := .rails, step := 2 }
     p.st = .rails ∧ p.railOf p.step = some 2 ∧ p.driven = false) ∧
    (let p := { panel with st := .rails, step := 2, driven := true, rails := [1, 0, 2], good := 3 }
     p.railOf p.step = some 2 ∧ p.driven = true ∧ p.good.getLsbD (2 : Fin 3).val = false ∧ p.rails ≠ []) ∧
    (let p := { panel with st := .live, rails := [1, 0, 2], good := 7 }
     p.rails.contains (2 : Fin 3).val = true ∧ p.good.getLsbD (2 : Fin 3).val = true ∧ p.st = .live) ∧
    (let p := { panel with st := .rails, step := 3 }
     p.st = .rails ∧ p.step = 3) ∧
    (let p := { panel with st := .down, rails := [1, 0] }
     p.st = .down ∧ p.timing = false ∧ p.rails.dropLast ≠ []) ∧
    (let p := { panel with st := .down, rails := [1] }
     p.st = .down ∧ p.rails.dropLast = [] ∧ p.again = false) := by
  unfold State.may; decide +kernel

theorem wit_PanelFrames :
    (∀ st ∈ [PnlSt.black, .held, .down, .live],
      let s := withPanel { panel with st := st, timing := true, line := panel.cfg.lines }
      s.pnl.timing = true ∧ s.pnl.st = st ∧ s.pnl.resync = false ∧ s.pnl.cfg.lines ≤ s.pnl.line ∧ s.pnl.cfg = s.pnl.shadow) ∧
    panel.cfg.odEn ≠ { panel.shadow with odEn := true }.odEn ∧
    (withPanel { panel with st := .held, timing := true, resync := true }).pnl.resync = true ∧
    (let p := { panel with st := .live, timing := true, requests := true, line := 18, fifo := List.replicate 40 0 }
     let g := p.cfg
     g.vsw + g.vbp ≤ p.line ∧ p.line < g.vsw + g.vbp + g.vact ∧ p.line < g.lines ∧ p.requests = true ∧ g.odEn = false ∧ p.st = .live ∧
     g.hact / 8 ≤ p.fifo.length ∧ (p.fifo.drop 1).length < g.hact / 8 ∧
     { g with odEn := true }.hact / 4 ≤ (p.fifo ++ p.fifo).length) ∧
    up.may 0 false .store 0x40090000 ∧ up.may 0 false .store 0x40090040 ∧
    (let p := { panel with crack := true, crkLow := 10 }
     p.crack = true ∧ p.crkLow = 10) ∧ panel.crkLow ≠ 10 ∧ up.awake = true ∧
    (let p := { panel with lim := 50, crkHigh := 2 }
     p.lim ≠ 0 ∧ p.lim * 100 < 5001 ∧ p.crkHigh = 2 ∧ p.crack = false ∧ 5000 ≤ p.lim * 100) := by
  unfold State.may; decide +kernel

/-! ### Witnesses: accesses, memory and the mailboxes -/

/-- `up` with Lodger 0 allowed nothing. -/
def fenced : State := up.mapLodger 0 fun l => { l with regions := Vector.replicate 16 {} }

theorem wit_FenceFaults :
    fenced.lodgerActs 0 = true ∧ (fenced.lodger 0).permits false .store 0x20000000 = false ∧
    (fenced.lodger 0).permits false .load 0x20000000 = false ∧ (fenced.lodger 0).permits true .fetch 0x20000000 = false ∧
    (fenced.lodger 0).permits false .store 0x40001020 = false ∧ (windowOf 0x40001020).isSome = true ∧
    inWord 0x2000003C 4 = true ∧ inWord 0x20000000 8 = true ∧
    (fenced.lodger 0).permits false .load 0x3001FFFF = false ∧ inLedger 0x3001FFFF = true := by decide +kernel

/-- A region reaches to its LIMIT and no further (R33). -/
theorem test_region_limit :
    let l : Lodger := { regions := Vector.replicate 16 { base := 0x100, limit := 0x200, r := true } }
    [0xFF, 0x100, 0x1FF, 0x200].map (l.permits false .load) = [false, true, true, false] ∧ l.permits true .load 0x100 = false ∧
      l.permits false .store 0x100 = false := by decide +kernel

theorem wit_ReservedAccesses :
    up.may 0 false .load 0x40031054 ∧ mapped 0x40031054 = false ∧ up.may 0 false .fetch 0x40030000 ∧ inSram 0x40030000 = false ∧
    up.busUp = true ∧ (windowOf 0x40010002).isSome = true ∧ 0x40010002 % 4 ≠ 0 ∧
    ¬ (mapped 0x40010000 = false ∨ (AccessKind.load = .fetch ∧ inSram 0x40010000 = false) ∨
      (0x40000000 ≤ 0x40010000 ∧ (4 ≠ 4 ∨ 0x40010000 % 4 ≠ 0))) ∧
    (∀ n user, Requester.innkeeper ≠ .lodger n user) := by
  unfold State.may
  exact ⟨by decide +kernel, by decide +kernel, by decide +kernel, by decide +kernel, by decide +kernel, by decide +kernel, by decide,
    by decide +kernel, nofun⟩

theorem wit_SramWrites :
    mem.MemWf ∧ mem.may 0 false .store 0x20000004 ∧ inWord 0x20000004 (List.replicate 4 (1 : Byte)).length = true ∧
    mem.sram.state (wordOf 0x20000004) = .good ∧ mem.may 0 false .store 0x2007FFFF ∧
    inWord 0x2007FFFF [(1 : Byte)].length = true ∧ mem.sram.state (wordOf 0x2007FFFF) = .unwritten := by
  unfold State.MemWf State.may; decide +kernel

theorem wit_SramCorrects :
    mem.MemWf ∧ mem.may 0 false .load 0x2000000C ∧ inWord 0x2000000C 4 = true ∧ mem.sram.state (wordOf 0x2000000C) = .good ∧
    wordOf 0x2000000C ∈ mem.sram.singles ∧ mem.sram.state (wordOf 0x20000000) = .good ∧
    wordOf 0x20000000 ∉ mem.sram.singles := by
  unfold State.MemWf State.may; decide +kernel

theorem wit_SramReadErrors :
    mem.may 0 false .load 0x20000018 ∧ inWord 0x20000018 4 = true ∧ mem.sram.state (wordOf 0x20000018) = .unwritten ∧
    mem.may 0 false .load 0x20000010 ∧ mem.may 0 false .store 0x20000010 ∧ inWord 0x20000010 4 = true ∧
    mem.sram.state (wordOf 0x20000010) = .uncorrectable ∧ mem.awake = true ∧ mem.mem.scrubEn = true ∧ mem.MemWf ∧ up.MemWf ∧
    up.sram.tags = [] ∧ mem.sram.nextWritten mem.mem.scrubPos = some 0 ∧ 0 ∉ mem.sram.doubles ∧
    (mem.mapMem fun r => { r with scrubPos := 65535 }).sram.nextWritten 65535 = some 0 ∧ mem.sram.nextWritten 1 = some 1 ∧
    1 ∈ mem.sram.singles := by
  unfold State.MemWf State.may; decide +kernel

theorem wit_MemClears :
    mem.MemWf ∧ mem.may 0 false .store 0x40003014 ∧ (mem.lodger 0).permits false .store (0x20000014 : Word).toNat = true ∧
    inSram (0x20000014 : Word).toNat = true ∧
    (let s := mem.mapLodger 0 fun l => { l with regions := Vector.replicate 16 { openRegion with base := 0x40000000 } }
     s.MemWf ∧ s.may 0 false .store 0x40003014 ∧ (s.lodger 0).permits false .store (0x20000014 : Word).toNat = false) := by
  unfold State.MemWf State.may; decide +kernel

theorem wit_LedgerPoison :
    up.may 0 false .load 0x3001FFFC ∧ inLedger 0x3001FFFC = true ∧ Lines.get up.ledger.lines (ledgerLineOf 0x3001FFFC) = none ∧
    ledgerLineOf 0x3001FFFC ∉ up.ledger.bad := by
  unfold State.may; decide +kernel

/-- `up` with Lodger 0's request for a Ledger line under way: its record in slot 0, its line in the write buffer. -/
def writing : State :=
  ((up.mapWbl fun w => { w with
      ring := w.ring.set 0 { state := .issued, seq := 1, body := .ledgerLine 2048 (List.replicate 32 7) }, last := 0, nextSeq := 2 }).mapLedger
    fun l => { l with buf := [{ line := 2048, data := List.replicate 32 7, done := some 1 }] }).mapMbx 0 fun m =>
      { m with busy := true, job := .onRecord 1 0 }

theorem wit_LedgerAccess :
    (let s := up.mapLedger fun l => { l with lines := [(0, List.replicate 32 7)] }
     s.may 0 false .load 0x3000001C ∧ inLedger 0x3000001C = true ∧
     s.ledger.cell (ledgerLineOf 0x3000001C) = some (List.replicate 32 7)) ∧
    up.may 0 false .store 0x30000000 ∧ inLedger 0x30000000 = true ∧
    (writing.ledger.buf = { line := 2048, data := List.replicate 32 7, done := some 1 } :: [] ∧ writing.inkAlive = true ∧
      writing.seals.commit = none ∧ writing.windowOpen = true ∧ writing.ledger.waiting = [] ∧ (writing.wbl.find? 1).isSome = true ∧
      (writing.mbx 0).job = .onRecord 1 0) ∧
    (writing.mapThm fun t => { t with ledgerWin := false }).windowOpen = false ∧
    (let s := writing.mapMbx 0 fun m => { m with job := .onLine 2048 (List.replicate 32 7) 0 none }
     (s.mbx 0).job = .onLine 2048 (List.replicate 32 7) 0 none) ∧
    (let s := writing.mapLedger fun l => { l with buf := [], waiting := [{ line := 2048, data := List.replicate 32 7, done := some 1 }] }
     s.wbl.find? 1 = some { state := .issued, seq := 1, body := .ledgerLine 2048 (List.replicate 32 7) } ∧
     s.ledger.waiting.any (Rec.ownsLine { state := .issued, seq := 1, body := .ledgerLine 2048 (List.replicate 32 7) }) = true) ∧
    (let s := up.mapWbl fun w => { w with waiting := [⟨4, .logEntry 0 0x0103 []⟩] }
     s.wbl.waiting = ⟨4, .logEntry 0 0x0103 []⟩ :: [] ∧ s.wbl.nextFree = some 0) := by
  unfold State.may; decide +kernel

theorem wit_MailboxPosts :
    up.may 2 false .store (blockBase 2) ∧ (up.mbx 2).busy = false ∧
    ((up.mapMbx 2 fun m => { m with busy := true }).mbx 2).busy = true ∧ (0 : Byte).toNat = 0 ∧ 10 < (11 : Byte).toNat := by
  unfold State.may; decide +kernel

/-- `up` with 120 of the 128 ring slots in use. -/
def ringFull : State :=
  up.mapWbl fun w => { w with ring := Vector.ofFn fun i => if i.val < 120 then { state := .issued, seq := i.val + 1 } else {} }

theorem wit_MailboxServices :
    up.ready 1 false ∧ 30 ≤ 30 ∧ (up.outp 0).owner = .lodger ∧ (up.mapOutp 0 fun o => { o with ownerId := 1 }).ready 1 false ∧
    ((up.mapOutp 0 fun o => { o with ownerId := 1 }).outp 0).ownerId = (1 : Fin 4).val ∧
    (up.outp 0).ownerId ≠ (1 : Fin 4).val ∧ 8 < up.wbl.freeCount ∧ up.wbl.nextFree = some 0 ∧ ringFull.wbl.freeCount ≤ 8 ∧
    ringFull.ready 1 false ∧ up.windowOpen = true ∧ 2047 < 2048 ∧ (∀ n, (up.mbx n).job ≠ .posted) ∧
    (let s := up.mapThm fun t => { t with ledgerWin := false }
     s.ready 1 false ∧ s.windowOpen = false) ∧
    (let s := (up.mapMbx 1 fun m => { m with busy := true, cmdCode := 11, job := .posted }).mapInk fun k => { k with mbxNext := 1 }
     s.awake = true ∧ s.ink.mbxNext = (1 : Fin 4).val ∧ (s.mbx 1).job = .posted ∧ 10 < (s.mbx 1).cmdCode) ∧
    (∀ c ∈ [(6, 0), (5, 2047), (5, 2048), (7, 1), (10, 0xD1E5)],
      let s := (up.mapMbx 1 fun m => { m with
        busy := true, cmdCode := c.1, args := vset m.args 0 (BitVec.ofNat 32 c.2), job := .posted }).mapInk fun k => { k with mbxNext := 2 }
      s.awake = true ∧ s.ink.mbxNext < 4 ∧
      (∀ m : Fin 4, (m.val + 4 - s.ink.mbxNext) % 4 < ((1 : Fin 4).val + 4 - s.ink.mbxNext) % 4 → (s.mbx m).job ≠ .posted) ∧
      (s.mbx 1).job = .posted ∧ s.mbxArg 1 0 = c.2) ∧ up.power.mode.code = 1 := by
  unfold State.ready State.may; decide +kernel

theorem wit_RegisterWrites :
    up.blocksClocked = true ∧ (inPhase up .noImage).busUp = true ∧ (inPhase up .noImage).blocksClocked = false ∧
    (inPhase up .noImage).inkAlive = true ∧ (inPhase up .noImage).live = false ∧
    up.may 0 false .store 0x40010002 ∧ (windowOf 0x40010002).isSome = true ∧ 0x40010002 % 4 ≠ 0 ∧ up.panelAllowed = true ∧
    up.may 0 false .store 0x40010008 ∧ up.may 0 false .store 0x40010000 ∧ (windowOf 0x40010000).isSome = true := by
  unfold State.may; decide +kernel

/-! ### Witnesses: the Carder -/

/-- A channel of Lodger 0 that copies 64 beats from 0x2000_0000 to 0x2000_0100. -/
def chan0 : Chan := { owner := some 0, src := 0x20000000, dst := 0x20000100, beats := 64, srcInc := true, dstInc := true }

def withChan (h : Chan) : State := mem.mapChan 0 fun _ => h

theorem wit_DmaControl :
    (let s := withChan chan0
     s.may 0 false .store (chanBase 0) ∧ (s.chan 0).owner = some 0 ∧ (s.chan 0).st = .idle ∧ s.startRefused 0 = false ∧
     (s.chan 0).held = false) ∧
    (withChan { chan0 with beats := 0 }).startRefused 0 = true ∧ ((withChan { chan0 with st := .active }).chan 0).backoff = .none ∧
    ((withChan { chan0 with st := .halted }).chan 0).st = .halted ∧ ((withChan { chan0 with st := .done }).chan 0).st = .done ∧
    (let h := { chan0 with st := .paused, holdPause := true }
     h.st = .paused ∧ h.holdMode = false ∧ h.holdOrphan = false) ∧
    (mem.may 1 false .store (chanBase 0) ∧ ((withChan chan0).chan 0).owner ≠ some 1) ∧ (mem.chan 0).owner = none ∧
    (let h := { chan0 with st := .pausing, stopping := true }
     h.st = .pausing ∧ h.reads = [] ∧ h.stopping = true) := by
  unfold State.may; decide +kernel

/-- One read transaction with its only beat still to be read, at an address. -/
def oneRead (a : Nat) : DmaRead := { tag := some 63, addr := a, left := 1, inc := true, se := false }

theorem wit_DmaEngines :
    (let h := { chan0 with st := .active, trig := 1, req := true, readLeft := 64 }
     (withChan h).live = true ∧ h.st = .active ∧ h.blockLeft = 0 ∧ h.reads = [] ∧ 0 < h.readLeft) ∧
    (let s := withChan { chan0 with st := .active, readLeft := 64 }
     s.pick s.carder.readOrder s.canIssue = some 0 ∧ s.carder.freeTag = some 0) ∧
    (∀ a ∈ [0x20000000, 0x20000018],
      let s := withChan { chan0 with st := .active, reads := [oneRead a] }
      s.tagged 63 = some (0, oneRead a) ∧ (s.chan 0).reads = [oneRead a] ∧ inSram a = true ∧ (oneRead a).addr % 4 = 0 ∧
      (oneRead a).failed = false) ∧
    mem.sram.state (wordOf 0x20000000) = .good ∧ mem.sram.state (wordOf 0x20000018) = .unwritten ∧
    (let r : DmaRead := { oneRead 0x20000004 with tag := none, left := 0, got := [5] }
     let s := withChan { chan0 with st := .active, reads := [r] }
     s.MemWf ∧ s.live = true ∧ s.pick s.carder.writeOrder s.canWriteOut = some 0 ∧ r.err = none ∧ (s.chan 0).reads = [r] ∧
     (s.chan 0).burstWords = [5] ∧ 2 ≤ (s.chan 0).beats ∧ inSram (s.chan 0).dst = true ∧ (s.chan 0).dst % 4 = 0 ∧
     s.sram.state (wordOf (s.chan 0).dst) = .unwritten) ∧
    (let d : DmaDesc := { src := 0x20000000, dst := 0x20000200, next := 0, flags := 0x30004 }
     let r : DmaRead := { oneRead 0x20000004 with tag := none, left := 0, got := [5] }
     let s := withChan { chan0 with st := .active, beats := 1, reads := [r], desc := 0x20000040, next := some d }
     s.MemWf ∧ s.live = true ∧ s.pick s.carder.writeOrder s.canWriteOut = some 0 ∧ (s.chan 0).burstWords = [5] ∧
     (s.chan 0).beats = 1 ∧ (s.chan 0).desc ≠ 0 ∧ (s.chan 0).descs < 256 ∧ (s.chan 0).st = .active ∧ (s.chan 0).next = some d ∧
     (s.mapChan 0 fun h => { h with desc := 0 }).pick s.carder.writeOrder (s.mapChan 0 fun h => { h with desc := 0 }).canWriteOut = some 0) := by
  unfold State.MemWf; decide +kernel

/-- A read beat at a reserved address, and a burst to one (R634). -/
theorem wit_dma_reserved :
    (let s := withChan { chan0 with st := .active, retry := 0, reads := [oneRead 0x40031054] }
     s.busUp = true ∧ mapped 0x40031054 = false ∧ (s.chan 0).backoff = .none ∧ (s.chan 0).retry = 0 ∧
     (s.chan 0).reads = [oneRead 0x40031054] ∧ (oneRead 0x40031054).tag = some 63 ∧ (oneRead 0x40031054).failed = false ∧
     (oneRead 0x40031054).got = [] ∧ 0 < (oneRead 0x40031054).left ∧
     (∀ r ∈ (s.chan 0).reads, r.addr ≠ 0x40031058) ∧ (s.chan 0).dst ≠ 0x40031058) ∧
    (let s := withChan { chan0 with
       st := .active, retry := 0, dst := 0x40031054, reads := [{ oneRead 0x20000004 with tag := none, left := 0, got := [5] }] }
     s.canWriteOut 0 = true ∧ (s.chan 0).dst = 0x40031054) := by decide +kernel

theorem wit_dma_descriptors :
    (let s := (withChan { chan0 with st := .active, desc := 0x20000000 }).mapSram fun _ =>
       { cells := [(3, 0x20), (6, 0), (7, 0x20), (12, 1)], tags := [0, 1] }
     let w := (s.granted 0).descWords (.carder 0) 4 (s.chan 0).desc []
     s.live = true ∧ (s.chan 0).owner = some 0 ∧ (s.chan 0).backoff ≠ .read ∧ (s.chan 0).beats ≠ 0 ∧ (s.chan 0).readLeft = 0 ∧
     (s.chan 0).descs < 256 ∧ (s.chan 0).next = none ∧ inSram (s.chan 0).desc = true ∧ (s.chan 0).desc % 16 = 0 ∧ s.rangeOk 0 .load (s.chan 0).desc 4 true = true ∧
     w.1 = (none, [0x20000000, 0x20000000, 0, 1]) ∧
     w.2.descKind 0 { src := 0x20000000, dst := 0x20000000, next := 0, flags := 1 } = 0) ∧
    (let r := { oneRead 0x20000000 with failed := true }
     let s := withChan { chan0 with st := .active, backoff := .read, reads := [r] }
     s.live = true ∧ (s.chan 0).backoff = .read ∧ (s.chan 0).reads = [r] ∧ r.failed = true ∧ r.left = 1 ∧ r.tag.isSome = true ∧
     inSram r.addr = true ∧ r.addr % 4 = 0 ∧ s.sram.state (wordOf r.addr) = .good) := by decide +kernel

/-! ### Witnesses: temperature and Gridis -/

/-- A member of the group on segment 0 that agrees on digest 0. -/
def peer (n : Nat) : Member := { node := n, origin := 0, digest := 0, version := 0, tj := 572, flags := 0 }

/-- `up` whose image keeps keys 37 (hosted here, on output 5) and 38 (hosted by node 5), booking class 5 and nodes 1 and 7 in one
cabinet. -/
def grouped : State :=
  (up.mapImage fun _ => some
    { keymap := [⟨37, 1, 5, 3000⟩, ⟨38, 5, 0, 3000⟩], bookclass := [⟨5, true, 1200, 4⟩]
      nodes := [⟨1, 0, false, 0, 3⟩, ⟨7, 0, false, 0, 3⟩], neighbours := [⟨2, 7, 0⟩] }).mapGrd fun g => { g with members := [peer 7], latest := [{ peer 7 with heardAt := some 0 }] }

theorem wit_ThermalLevels :
    up.thmRuns = true ∧ up.thm.faulty = false ∧ up.thm.throttled = false ∧ up.thm.warn = false ∧ up.thm.thrReq = false ∧
    up.awake = true ∧ (1000 : Int) < 8 * (up.thm.levels.2.1 : Int) ∧ 8 * (up.thm.levels.1 : Int) ≤ 1000 ∧
    (1159 : Int) < 8 * (up.thm.levels.2.2.1 : Int) ∧ (inPhase up .tooHot).thmRuns = true ∧ (inPhase up .tooHot).power.phase = .tooHot ∧ 8 * (up.thm.levels.2.1 : Int) ≤ 1080 ∧
    (let s := up.mapThm fun t => { t with throttled := true, thrReq := true, graceRuns := true }
     s.thm.throttled = true ∧ (1039 : Int) < 8 * ((s.thm.levels.2.1 : Int) - hysOf s.thm.throttleHys) ∧ s.thm.graceRuns = true ∧
     s.thm.thrReq = true ∧ (s.lodger 3).run = .running ∧ s.thm.comply.getLsbD (3 : Fin 4).val = false) ∧
    (let s := up.mapThm fun t => { t with thrReq := true, graceRuns := true, comply := 15 }
     ∀ n : Fin 4, s.thm.comply.getLsbD n.val = true) ∧
    (let s := inPhase up .flushing
     s.thmRuns = true ∧ s.thm.ledgerWin = true ∧ windowAfter true 1000 (-240) 920 24 = false ∧ windowAfter false 0 (-240) 920 24 = true ∧
     (s.mapThm fun t => { t with ledgerWin := false }).thm.ledgerWin = false) ∧
    (inPhase up .latched).thmRuns = true ∧ (inPhase up .latched).power.phase = .latched := by decide +kernel

theorem wit_ThermalFaultsAndShutdown :
    up.thmRuns = true ∧ (inPhase up .flushing).thmRuns = true ∧ up.thm.selftest = false ∧ up.thm.range = false ∧ up.thm.faulty = false ∧
    (let s := up.mapThm fun t => { t with selftest := true, held := 800 }
     s.thm.selftest = true ∧ s.thm.faulty = true ∧ s.thm.levels = (125, 135, 145, false) ∧ s.thm.held < 1160 ∧
     s.thm.crossCheck = false) ∧
    (let s := up.mapThm fun t => { t with selftest := true, crossCheck := true, estimate := some 566 }
     s.thm.faulty = true ∧ s.thm.crossCheck = true ∧ s.thm.estimate = some 566) ∧
    (up.image.getD {}).neighbours.filterMap up.neighbourTemp = [] ∧
    (grouped.image.getD {}).neighbours.filterMap grouped.neighbourTemp = [572 * 2 ^ 146] ∧ grouped.thm.neighbour = false ∧
    8 * (up.thm.levels.2.2.1 : Int) ≤ 1160 ∧ up.power.phase ≠ .tooHot ∧ (inPhase up .shutdown).power.phase = .shutdown := by decide +kernel

/-- Whatever the free expected difference is, a step with it passes, and one as far from it as it is from 0 fails (R201). -/
theorem wit_selftest (s : State) : ∃ a b : Int, s.selftestPass 0 a = true ∧ s.selftestPass 0 b = false := by
  refine ⟨Config.selftestDelta s.thm.reading,
    2 * (Config.selftestDelta s.thm.reading : Int) + 1, ?_, ?_⟩ <;>
  simp only [State.selftestPass, decide_eq_true_eq, decide_eq_false_iff_not] <;> omega

/-- A frame of class 7 for everyone, from node 9. -/
def frame : Frame := { id := 7 * 2 ^ 26 + 9 * 2 ^ 18 + 5, fd := true, brs := true, payload := [3, 1, 0, 0, 0xAA] }

/-- The same as a waiting frame of a record. -/
def txOf (q : Nat) : TxFrame := { frame := frame, journal := q, lodger := some 2 }

theorem wit_GridisSending :
    lowestTx [txOf 0, { txOf 9 with frame := { frame with id := 5 } }] = some { txOf 9 with frame := { frame with id := 5 } } ∧
    (let s := (up.mapCan 0 fun k => { k with tx := [txOf 0] }).mapCan 1 fun k => { k with tx := [txOf 9], fwd := [{ frame with id := 1 }] }
     s.canSends 0 = true ∧ lowestTx (s.can 0).tx = some (txOf 0) ∧ (s.can 0).fwd = [] ∧ (s.can 0).backlog = [] ∧ s.canSends 1 = true ∧
     lowestTx (s.can 1).tx = some (txOf 9) ∧ (txOf 9).kept = false ∧ lowestFrame (s.can 1).fwd = some { frame with id := 1 } ∧ (1 < frame.id)) ∧
    { txOf 9 with kept := true }.kept = true ∧ up.grd.deferred = [] ∧ 1 ∉ up.named 9 ∧
    (let s := (up.mapCan 0 fun k => { k with tx := [txOf 1] }).mapWbl fun w =>
       { w with ring := w.ring.set 0 { state := .issued, seq := 1, body := .grdMsg frame.id 5 1 frame.payload } }
     (txOf 1).journal ≠ 0 ∧ 0 ∈ s.named 1 ∧ s.canSends 0 = true ∧ (txOf 1).lodger = some 2) ∧
    up.awake = true ∧ up.grd.started = true ∧ up.power.xtalRc = false ∧ (up.can 0).st = .active ∧ up.grd.bridge = false ∧
    ((up.can 0).tx.filter fun u => !isHeartbeat up.grd.node u.frame).length < 32 ∧
    up.may 3 false .store (0x40061044 + (3 : Fin 4).val * 0x100) ∧
    bits (0x1C000005 : Word) 28 26 = (7 : Fin 8).val ∧ bits (0x10000005 : Word) 28 26 = (4 : Fin 8).val ∧
    60 < bits (61 : Word) 5 0 ∧ bits (60 : Word) 5 0 ≤ 60 ∧ bit (0x5D : Word) 6 = true ∧ 28 < bits (0x5D : Word) 5 0 ∧
    bit (0x5C : Word) 6 = true ∧ bits (0x5C : Word) 5 0 ≤ 28 ∧ bits (0x5C : Word) 17 16 ≤ 1 ∧ bit (60 : Word) 6 = false ∧
    ringFull.wbl.freeCount ≤ 8 ∧ 8 < up.wbl.freeCount ∧ up.wbl.nextSeq ≠ 0 ∧ up.wbl.nextFree = some 0 ∧
    32 ≤ (List.replicate 32 (txOf 0)).length ∧
    (let s := up.mapTxm 3 fun m => { m with busy := true, waiting := some (txOf 0, 1) }
     (vget s.grd.txm 3).waiting = some (txOf 0, 1) ∧ (vget s.grd.txm 2).waiting = none) := by
  unfold State.may; decide +kernel

/-- A device with a kept record before its new messages, and a FOLLOW that waits for the SYNC of the same node and SEQ. -/
theorem wit_kept_and_follow :
    up.keptWait = false ∧
    (let g : Frame := { id := 2 * 2 ^ 26 + 9 * 2 ^ 18, fd := true, brs := true, payload := [7, 1, 0, 0] }
     let f : Frame := { g with id := g.id + 2 ^ 14, payload := [8, 1, 0, 0, 7] ++ List.replicate 15 0 }
     g.cls = 2 ∧ g.field = 0 ∧ f.cls = 2 ∧ f.field = 2 ^ 14 ∧ f.src = g.src ∧ fieldAt f.data 0 1 = g.seq ∧ 16 ≤ f.payload.length) := by
  decide +kernel

theorem wit_GridisControllers :
    ((up.can 0).st = .active ∨ (up.can 0).st = .passive) ∧ (1 : Fin 2) ≠ 0 ∧
    (∀ n ∈ [247, 248], (255 < ((up.mapCan 0 fun k => { k with txErr := n }).can 0).txErr + 8 ↔ n = 248)) ∧
    (up.mapGrd fun g => { g with bridge := true }).grd.bridge = true ∧
    (∀ n ∈ [6, 7],
      let s := up.mapCan 0 fun k => { k with st := .busoff, recoveries := List.replicate n 0 }
      (s.can 0).st = .busoff ∧ (s.now :: (s.can 0).recoveries.filter fun x => decide (s.now < x + 3600000000)).length = n + 1) ∧
    ((up.mapCan 1 fun k => { k with st := .recover }).can 1).st = .recover ∧ (up.can 0).st ≠ .busoff ∧ (up.can 0).st ≠ .off ∧
    (let s := (up.mapCan 1 fun k => { k with st := .recover }).mapCan 0 fun k => { k with st := .busoff, tx := [txOf 1] }
     (s.can 1).st = .recover ∧ (s.can 0).st = .busoff ∧ s.grd.bridge = false ∧ (s.can 0).backlog = [] ∧
     (∀ u ∈ (s.can 0).tx, u.pinned = false) ∧ (s.can 0).tx.Nodup ∧
     (∀ u ∈ (s.can 0).tx, u ∉ (s.can 1).tx ++ (s.can 1).backlog) ∧ (s.can 0).tx.length + (s.can 1).tx.length ≤ 32) ∧
    ((up.mapCan 0 fun k => { k with st := .off }).can 0).st = .off ∧
    ((up.mapCan 1 fun k => { k with st := .off }).can 1).st = .off ∧
    up.may 0 false .store (0x40060100 + (1 : Fin 2).val * 0x100) := by
  unfold State.may; decide +kernel

theorem wit_GridisReceiving :
    ({ rxErr := 127 } : Can).rxErr ≤ 127 ∧ 127 < ({ rxErr := 128 } : Can).rxErr ∧ 32 ≤ (List.replicate 32 (⟨frame, 0⟩ : RxFrame)).length ∧
    up.grouped = true ∧ (up.can 0).receives = true ∧ { frame with payload := [3, 2, 0, 0, 0xAA] }.lenOk = false ∧ frame.lenOk = true ∧
    frame.kindOk = true ∧ { frame with id := 2 ^ 17 }.kindOk = false ∧ { frame with id := 2 ^ 18 }.src = up.grd.node ∧
    { frame with id := 2 ^ 18 }.kindOk = true ∧ frame.src ≠ up.grd.node ∧ up.remembered 9 7 3 = false ∧ 5 ≤ frame.cls ∧
    (up.mapGrd fun g => { g with dups := [⟨9, 7, 3, 0⟩] }).remembered frame.src frame.cls frame.seq = true ∧
    frame.addressed = false ∧
    (let f := { frame with payload := [3, 1, 0x80, 1, 0xAA] }
     f.addressed = true ∧ f.dest = up.grd.node ∧ f.kindOk = true ∧ f.lenOk = true) ∧
    { frame with payload := [3, 1, 0x80, 2, 0xAA] }.dest ≠ up.grd.node ∧
    (let s := up.mapCan 0 fun k => { k with filters := Vector.replicate 16 (0x9C240005, 0x1FFFFFFF) }
     ∃ x : Fin 16, bit (vget (s.can 0).filters x).1 31 = true ∧
       frame.id &&& bits (vget (s.can 0).filters x).2 28 0 =
         bits (vget (s.can 0).filters x).1 28 0 &&& bits (vget (s.can 0).filters x).2 28 0) ∧
    frame.hops < 7 ∧ frame.origin ≠ 1 ∧ (up.can 0).rx.length < 32 ∧ 32 ≤ (List.replicate 32 (0 : Nat)).length ∧
    up.may 0 false .load (0x40060444 + (1 : Fin 2).val * 0x100) ∧
    (up.mapGrp fun g => { g with st := .joining }).isIn = false ∧ 9 ≠ up.grd.node ∧ up.member? 9 = none ∧
    (grouped.member? 7).isSome = true ∧ Marks.wfFrom 0 up.grd.trips = true ∧ up.may 0 false .store 0x40060014 ∧
    grouped.present (7 : Byte).toNat = true ∧ grouped.present (9 : Byte).toNat = false ∧ (0xFFFF : BitVec 16) ≠ 0 ∧
    (∀ c, (up.can c).tx.length < 32) ∧ up.grd.ownTrip = false ∧
    (up.mapGrd fun g => { g with ownTrip := true }).grd.ownTrip = true ∧
    ((up.mapCan 0 fun k => { k with st := .busoff }).can 0).st = .busoff ∧ up.awake = true := by
  unfold State.may; decide +kernel

/-! ### Witnesses: group, keys and bookings -/

theorem wit_GroupMembership :
    (let s := up.mapGrp fun g => { g with st := .joining }
     s.grouped = true ∧ s.grp.st ≠ .inGroup ∧ s.grp.st = .joining ∧ s.countVotes.apartCauses = 0) ∧
    up.grp.st = .inGroup ∧ up.countVotes.apartCauses = 0 ∧
    (let s := up.mapGrp fun g => { g with quorum := 2 }
     s.grouped = true ∧ s.grp.st = .inGroup ∧ s.countVotes.apartCauses ≠ 0) ∧
    (let s := up.mapGrp fun g => { g with st := .apart }
     s.grp.st = .apart ∧ s.grp.cause = 0 ∧ s.book.restore = false) ∧
    (up.mapGrp fun g => { g with st := .apart, cause := 4 }).grp.cause ≠ 0 := by decide +kernel

theorem wit_GroupTime :
    up.may 0 false .store 0x40068038 ∧ up.isMaster = true ∧ (up.mapGrp fun g => { g with master := some 7 }).isMaster = false ∧
    (let s := up.mapGrp fun g => { g with extS := 2 }
     2000000 ≤ (((s.grp.extS * 1000000 + s.grp.extUs : Nat) : Int) - s.grp.clock).natAbs) ∧
    (((up.grp.extS * 1000000 + up.grp.extUs : Nat) : Int) - up.grp.clock).natAbs < 2000000 ∧ up.live = true ∧ up.grouped = true ∧
    up.grd.bridge = false ∧ (up.can 0).st = .active ∧ (up.can 0).tx.length < 31 ∧ up.grp.onTime = true ∧ up.power.rtc = up.coachS ∧
    (up.mapPower fun p => { p with rtc := 1 }).power.rtc ≠ up.coachS ∧
    (let s := up.mapGrp fun g => { g with source := some 7, sync := some ⟨7, 3, 0⟩ }
     s.grp.source = some 7 ∧ 7 ≠ s.grd.node ∧ s.grp.sync = some ⟨7, 3, 0⟩) ∧ up.grp.sync = none ∧
    (((0 * 1000000 + 250000 : Nat) : Int) - 0).natAbs ≤ 250000 ∧ 250000 < (((0 * 1000000 + 250001 : Nat) : Int) - 0).natAbs ∧
    2000000 ≤ (((2 * 1000000 + 0 : Nat) : Int) - 0).natAbs ∧ up.may 0 false .load 0x40068020 ∧ up.grp.st ≠ .before ∧
    (up.mapGrp fun g => { g with st := .before }).grp.st = .before := by
  unfold State.may; decide +kernel

/-- `grouped` that has granted key 37 to node 7 at epoch 4. -/
def hosting : State := grouped.mapKeys fun k => { k with hosted := [⟨37, 7, 4, 0⟩] }

theorem wit_KeyHost :
    grouped.grouped = true ∧ 7 ≠ grouped.grd.node ∧ (grouped.mapGrp fun g => { g with st := .apart }).isIn = false ∧
    grouped.isIn = true ∧ grouped.hosted? 1023 = none ∧ grouped.keyEntry 1023 = none ∧ grouped.hosted? 37 = none ∧
    grouped.nodeApart 7 = false ∧ grouped.keyEntry 37 = some ⟨37, 1, 5, 3000⟩ ∧ (1 = grouped.grd.node) ∧ idx? 30 5 = some 5 ∧
    hosting.hosted? 37 = some ⟨37, 7, 4, 0⟩ ∧ hosting.isIn = true ∧ hosting.nodeApart 7 = false ∧ hosting.nodeApart 9 = false ∧
    hosting.keyOutput 37 = some 5 ∧ (hosting.outp 5).inRest = false ∧ hosting.gate.blank = false ∧
    hosting.now ≤ 0 + hosting.leaseUs 37 ∧
    (hosting.mapGrp fun g => { g with group := some 5 }).nodeApart 7 = true ∧ (hosting.can 0).tx.length < 31 ∧
    hosting.isLive 5 = true ∧
    (let s := hosting.mapNow fun _ => 3000001
     0 + s.leaseUs 37 < s.now ∧ s.hosted? 37 = some ⟨37, 7, 4, 0⟩) ∧
    (hosting.grd.bridge = false ∧ (hosting.can 0).st = .active ∧ (hosting.can 0).tx.length < 32) := by decide +kernel

/-- `grouped` with Lodger 0 waiting for the answer to its request for key 38. -/
def asking (n : Nat) : State :=
  let st : KeyStep := { key := 38, host := 5, op := .acquire, journal := 1, mbx := some 0, lodger := 0, repeats := n }
  (grouped.mapKeys fun k => { k with steps := [st] }).mapMbx 0 fun m => { m with busy := true, job := .acquire [38] 0 1 }

/-- `grouped` that holds key 38 of node 5 for Lodger 0. -/
def holding : State := grouped.mapKeys fun k => { k with held := [⟨38, 5, 4, 0, 3000, 0, 0⟩] }

theorem wit_KeyHolder :
    grouped.ready 0 false ∧ (grouped.mapGrp fun g => { g with st := .apart }).ready 0 false ∧
    (grouped.mapGrp fun g => { g with st := .apart }).isIn = false ∧ grouped.isIn = true ∧
    grouped.keyEntry 38 = some ⟨38, 5, 0, 3000⟩ ∧ 5 ≠ grouped.grd.node ∧ grouped.keys.held.length < 64 ∧ 8 < grouped.wbl.freeCount ∧
    grouped.wbl.nextFree = some 0 ∧ (grouped.keys.held.find? fun h => decide (h.key = 38 ∧ h.lodger = (0 : Fin 4).val)) = none ∧
    (holding.keys.held.find? fun h => decide (h.key = 38 ∧ h.lodger = (1 : Fin 4).val)) = none ∧ holding.ready 0 false ∧
    (holding.keys.held.find? fun h => decide (h.key = 38 ∧ h.lodger = (0 : Fin 4).val)) = some ⟨38, 5, 4, 0, 3000, 0, 0⟩ ∧
    (holding.keys.held.find? fun h => decide (h.key = 38)) = some ⟨38, 5, 4, 0, 3000, 0, 0⟩ ∧ holding.grouped = true ∧
    holding.step? (fun _ => true) 5 38 = none ∧ holding.wbl.nextFree = some 0 ∧
    (∀ n ∈ [2, 3],
      let st : KeyStep := { key := 38, host := 5, op := .acquire, journal := 1, mbx := some 0, lodger := 0, repeats := n }
      (asking n).grouped = true ∧ (asking n).step? StepOp.asks 5 38 = some st ∧ ((asking n).mbx 0).job = .acquire [38] 0 st.journal ∧
      ((asking n).keys.steps.find? fun x => decide (x.key = 38)) = some st ∧ st.host ≠ (asking n).grd.node) ∧
    (let st : KeyStep := { key := 38, host := 5, op := .release, epoch := 4, mbx := some 0, lodger := 0 }
     (grouped.mapKeys fun k => { k with steps := [st] }).step? StepOp.returns 5 38 = some st) ∧
    holding.may 0 false .store (0x40068120 + (3 : Fin 4).val * 8) ∧ bits (0x0BB80026 : Word) 9 0 = 38 ∧
    bit (0x0BB80026 : Word) 15 = false ∧ holding.may 0 false .store 0x40068104 := by
  unfold State.ready State.may; decide +kernel

/-- The booking of the worked case at Pell Quay: BKIND 5, DURATION 1 200 s, KEY 37, START 4 800 s ahead. -/
def booking : BookMbx := { start := 4800, dur := 0x000504B0, key := 37, value := 0x453B8000 }

/-- `grouped` with that in the registers of Lodger 0, and own booking 31 in a state. -/
def booked (x : BookState) : State :=
  (grouped.mapBook fun b => { b with mbx := b.mbx.set 0 booking }).mapOwn 31 fun b => { b with state := x }

theorem wit_OwnBookings :
    grouped.may 0 false .store (bookBase 3 + 0x10) ∧ (grouped.mapGrp fun g => { g with st := .apart }).isIn = false ∧
    (let s := grouped.mapGrp fun g => { g with onTime := false }
     s.isIn = true ∧ s.grp.onTime = false ∧ s.makeRefused booking = some 3) ∧
    grouped.makeRefused booking = none ∧ grouped.freeSlot = some 0 ∧ 8 < grouped.wbl.freeCount ∧ grouped.wbl.nextFree = some 0 ∧
    grouped.makeRefused { booking with start := 10 } = none ∧ grouped.makeRefused { booking with start := 9 } = some 2 ∧
    grouped.makeRefused { booking with start := 7200 } = none ∧ grouped.makeRefused { booking with start := 7201 } = some 2 ∧
    ringFull.wbl.freeCount ≤ 8 ∧
    (∀ x ∈ [BookState.planned, .confirmed, .withdrawn], ((booked x).own 31).state = x ∧ (booked x).grouped = true ∧
      (booked x).isIn = true ∧ (booked x).grp.onTime = true) ∧
    ((booked .planned).mapGrp fun g => { g with st := .apart }).isIn = false ∧ (booked .planned).book.restore = false ∧
    ((booked .planned).mapBook fun b => { b with restore := true }).book.restore = true := by
  unfold State.may; decide +kernel

theorem wit_booking_behind_kept :
    let s := (grouped.mapKeys fun k => { k with reclaims := [1] }).mapBook fun b => { b with mbx := b.mbx.set 0 booking }
    s.keptWait = true ∧ s.makeRefused booking = none ∧ s.freeSlot = some 0 ∧ 8 < s.wbl.freeCount ∧ s.wbl.nextFree = some 0 ∧
    s.may 0 false .store (bookBase 0 + 0x10) ∧ vget s.book.mbx 0 = booking := by
  unfold State.may; decide +kernel

/-- `grouped` with a tracked booking of node 7 in a state. -/
def tracking (x : BookState) : State :=
  grouped.mapBook fun b => { b with tracked := [{ Booking.ofData 7 31 [41, 0] with state := x }] }

theorem wit_TrackedBookings :
    grouped.grouped = true ∧ grouped.isIn = true ∧ grouped.nodeApart 7 = false ∧
    (grouped.mapGrp fun g => { g with group := some 5 }).nodeApart 7 = true ∧
    grouped.book.tracked.findIdx? (sameBooking (Booking.ofData 7 31 [41, 0])) = none ∧ grouped.book.tracked.length < 256 ∧
    (let l := List.replicate 256 { Booking.ofData 9 0 [1, 0] with state := .planned }
     let s := grouped.mapBook fun b => { b with tracked := l }
     256 ≤ s.book.tracked.length ∧ s.retireIdx = none) ∧
    (let l := List.replicate 256 { Booking.ofData 9 0 [1, 0] with state := .ended }
     let s := grouped.mapBook fun b => { b with tracked := l }
     256 ≤ s.book.tracked.length ∧ s.retireIdx = some 0) ∧
    (∀ x ∈ [BookState.planned, .confirmed],
      (tracking x).book.tracked.findIdx? (sameBooking (Booking.ofData 7 31 [41, 0])) = some 0 ∧
      (tracking x).book.tracked[0]? = some { Booking.ofData 7 31 [41, 0] with state := x }) ∧
    grouped.may 0 false .load (0x40069000 + (31 : Fin 32).val * 0x20) ∧ grouped.bookHold (0x1000 + (31 : Fin 32).val * 0x20) = none ∧
    grouped.may 0 false .load (0x4006A000 + 255 * 0x20) ∧ grouped.bookHold (0x2000 + 255 * 0x20) = none := by
  unfold State.may; decide +kernel

/-! ### Witnesses: serial ports -/

def withUart (u : Uart) : State := up.mapUart 2 fun _ => u

/-- An enabled port. -/
def port : Uart := { en := true, rxEn := true, txEn := true, rxOn := true }

theorem wit_SerialReceive :
    ({} : UartCfg).data8 = true ∧ ({} : UartCfg).parity = 0 ∧ ({} : UartCfg).stop2 = false ∧
    ((withUart port).awake = true ∧ ((withUart port).uart 2).rxOn = true ∧ ((withUart port).uart 2).busy = none ∧
      ((withUart port).uart 2).first = true) ∧
    port.rxEn = true ∧ port.de = false ∧ { port with rxEn := false }.rxEn = false ∧
    { port with de := true, rxWhileTx := true }.rxWhileTx = true ∧
    ((withUart { port with busy := some { gap := 3, discard := false }, invVotes := 3 }).uart 2).busy = some ⟨3, false, false⟩ ∧
    ((withUart { port with busy := some { gap := 3, discard := true } }).uart 2).busy = some ⟨3, true, false⟩ ∧
    64 ≤ (List.replicate 64 (0 : Nat)).length ∧
    (let smp (b : Byte) (inv : Bool) := (inv, inv, inv) :: ((List.range 8).map fun i => let v := b.getLsbD i != inv; (v, v, v)) ++ [(!inv, !inv, !inv)]
     let x := port.rxCfg.decode port.invRx (smp 0x55 true)
     let y := port.rxCfg.decode (!port.invRx) (smp 0x55 true)
     (x.fe || x.pe) = true ∧ (y.fe || y.pe) = false ∧ y.data = 0x55) ∧
    { port with quiet := true }.quiet = true ∧ port.cfg.polMode < 3 ∧ ¬ (true = false ∧ false = true) ∧ port.rxCfg.polMode = 0 ∧ port.lock = false ∧ { port with lock := true }.lock = true ∧
    up.may 0 false .load (uartBase 2) ∧ up.may 0 false .store (uartBase 2 + 0x0C) := by
  unfold State.may; decide +kernel

theorem wit_SerialTransmit :
    up.may 0 false .store (uartBase 2 + 0x04) ∧ 64 ≤ (List.replicate 64 (0 : Nat)).length ∧
    (let u := { port with tx := [0x41, 0x42], de := true }
     (withUart u).awake = true ∧ u.tx = 0x41 :: [0x42] ∧ u.en = true ∧ u.txEn = true ∧ u.de = true ∧ u.shift = none) ∧
    { port with tx := [0x41], de := true, shift := some 0x40 }.shift.isSome = true ∧ port.txCfg.polMode = 0 ∧
    { port with de := true }.tx = [] ∧ { port with de := true }.shift = none ∧ (up.uart 2).en = false ∧ port.en = true ∧
    port.busy = none ∧ up.may 0 false .store (uartBase 2 + 0x08) ∧ bits (0x0001008A : Word) 15 0 < 139 ∧
    bits (0x0001008B : Word) 15 0 = 139 ∧ bits (0x0001682B : Word) 15 0 = 26667 ∧ 26667 < bits (0x0001682C : Word) 15 0 ∧
    bits (0x00070683 : Word) 18 17 = 3 ∧ bits (0x00050683 : Word) 18 17 ≠ 3 := by
  unfold State.may; decide +kernel

/-! ### Witnesses: Lodgers, boot and the service port -/

theorem wit_LodgerWatchdogs :
    up.may 1 false .store (blockBase 0 + 0x84) ∧ (State.reset.lodger 0).run ≠ .running ∧ (up.lodger 0).run = .running ∧
    (let s := up.mapNow fun _ => 25000
     1000 * (s.lodger 0).timeout ≤ 4 * (s.now - (s.lodger 0).lastKick)) ∧
    (let s := up.mapNow fun _ => 24999
     4 * (s.now - (s.lodger 0).lastKick) < 1000 * (s.lodger 0).timeout) ∧ (0xA5C2 : BitVec 16) ≠ ~~~(up.lodger 0).token ∧
    (0xA5C3 : BitVec 16) = ~~~(up.lodger 0).token ∧
    (up.mapBoot fun b => { b with trial := true }).boot.trial = true ∧ up.boot.trial = false ∧
    (let s := (up.mapImage fun _ => some { confirm := 600, startMask := 15 }).mapNow fun _ => 600000000
     s.confirmed = true ∧ (s.mapNow fun _ => 599999999).confirmed = false ∧
     (s.mapLodger 2 fun l => { l with run := .halted }).confirmed = false) ∧
    (∀ c, (up.chan c).owner ≠ some 0) ∧ (up.outp 0).owner = .lodger ∧ (up.outp 0).ownerId = (0 : Fin 4).val ∧
    (∀ k ∈ [1, 2], ((up.mapLodger 0 fun l => { l with expiries := List.replicate k 0 }).lodger 0).expiries.length + 1 = k + 1) ∧
    (let s := (up.mapLodger 0 fun l => { l with run := .halted, orphanWait := [5] }).mapChan 5 fun h => { h with st := .pausing }
     (s.lodger 0).run = .halted ∧ s.orphansDrained 0 = false) ∧
    (let s := (up.mapLodger 0 fun l => { l with run := .halted, orphanWait := [5], holding := true }).mapChan 5 fun h =>
       { h with st := .paused }
     s.orphansDrained 0 = true ∧ (s.lodger 0).holding = true) ∧
    up.ready 0 false ∧ 4 ≤ 4 ∧ (3 : Fin 4) ≠ 0 ∧ (up.lodger 3).holding = false ∧ (∀ c, (up.chan c).owner ≠ some 3) ∧
    ((up.mapLodger 3 fun l => { l with run := .stopped }).lodger 3).run = .stopped ∧ up.live = true := by
  unfold State.ready State.may; decide +kernel

def zeros (n : Nat) : List Byte := List.replicate n 0
/-- Public key and signatures made by hand with private key 7 and a fixed nonce. -/
def keyX : Nat := 0x8e533b6fa0bf7b4625bb30667c01fb607ef9f8b8a80fef5b300628703187b2a3
def keyY : Nat := 0x73eb1dbde03318366d069f83a6f5900053c73633cb041b21c55e1a86c1f400b4
def sigR : Nat := 0xf9ebe464147cc102d92324d099d927c1a50e42d57a08a116ffec0a29819d8c65
def key64 : List Byte := leBytes 32 keyX ++ leBytes 32 keyY

/-- A whole image of 1 024 bytes (Tables 03-3 to 03-6): a header with ENROL_KEY, a group part that lists node 1, and one node
section with an empty table part. -/
def imageBytes : List Byte :=
  (leBytes 4 0x594C4849 ++ leBytes 2 1 ++ leBytes 2 256 ++ leBytes 4 1024 ++ leBytes 4 42 ++ zeros 4 ++ leBytes 2 0x0100 ++
    leBytes 2 1 ++ leBytes 2 600 ++ zeros 2 ++ leBytes 4 256 ++ leBytes 4 28 ++ leBytes 4 288 ++ zeros 8 ++ leBytes 4 1 ++ zeros 76 ++
    key64 ++ zeros 64) ++
  (leBytes 4 1 ++ leBytes 2 1 ++ leBytes 2 8 ++ leBytes 4 1 ++ leBytes 4 20 ++ zeros 4 ++ leBytes 8 1 ++ zeros 4) ++
  (leBytes 4 1 ++ leBytes 4 304 ++ leBytes 4 36 ++ zeros 4) ++ (leBytes 4 1 ++ leBytes 4 0x20000000 ++ zeros 28) ++
  List.replicate 620 0xFF ++ leBytes 32 sigR ++
  leBytes 32 0xc444cfaa57ca5fe856bf47bff50d4152a235f1f027205eb410a4a84be0007912

/-- That image in slot B. -/
def imageCells : List Host.Cell :=
  imageBytes.zipIdx.filterMap fun p => if p.1 = 0xFF then none else some ⟨0x400000 + p.2, p.1⟩

/-- `up` with that image staged in slot B. -/
def staged : State := up.mapBoot fun b => { b with nor := imageCells }

theorem image_length : imageBytes.length = 1024 := by decide +kernel

theorem image_cells : Memory.getMany 0xFF imageCells 0x400000 1024 = imageBytes := by decide +kernel

theorem image_in_nor {s : State} (hs : s.boot.nor = imageCells) (n : Nat) (h : n ≤ 1024) :
    s.norBytes (slotBase2 1) n = imageBytes.take n := by
  rw [← image_cells, State.norBytes, hs, show slotBase2 1 = 0x400000 from rfl, Memory.getMany, Memory.getMany, ← List.map_take,
    List.take_range, Nat.min_eq_left h]

def imageHead : Header :=
  { length := 1024, seq := 42, level := 0, keySlot := 0, version := 0x0100, count := 1, confirm := 600, groupOfs := 256, groupLen := 28
    dirOfs := 288, patchOfs := 0, patchLen := 0, enrol := key64 }

def imageTabs : Tabs := [(1, [[1, 0, 0, 0, 0, 0, 0, 0]])]
def imageSection : Section := { node := 1, bytes := leBytes 4 1 ++ leBytes 4 0x20000000 ++ zeros 28, tabs := [] }

theorem image_head : readHeader (imageBytes.take 256) = .ok imageHead := by decide +kernel

theorem image_digest : sha256 (imageBytes.take 960) =
    beBytes 32 0x2d7d06ec8c37eb512bd3595508d8a17a252a1a6ad16dbe382d9c61c18725d8c8 := by decide +kernel

theorem image_signed : ecdsaOk key64 (beBytes 32 0x2d7d06ec8c37eb512bd3595508d8a17a252a1a6ad16dbe382d9c61c18725d8c8) sigR
    0xc444cfaa57ca5fe856bf47bff50d4152a235f1f027205eb410a4a84be0007912 = true := by decide +kernel

theorem image_parts : readParts imageHead imageBytes = .ok (imageTabs, [imageSection]) := by decide +kernel

theorem signedBy_of {key img : List Byte} {n r v : Nat} (hr : leNat (slice img (n - 64) 32) = r)
    (hv : leNat (slice img (n - 32) 32) = v) (ho : p256InOrder r v = true)
    (hs : ecdsaOk key (sha256 (img.take (n - 64))) r v = true) : signedBy key n img = .ok true := by
  simp only [signedBy, hr, hv, ho, hs]
  rfl

theorem verify_of {s : State} {h : Header} {img key : List Byte} {e : NorEnv} (hk : s.imageKey h = key) (hne : key ≠ [])
    (hs : signedBy key h.length (overlay img e.first) = .ok true) (hl : ¬ h.level < fieldAt (s.bootSeal 5).value 0 1) :
    s.verify h img e = .ok (overlay img e.first) := by
  simp only [State.verify, hk, hs, if_neg hne, if_neg hl, bind, Except.bind, if_true]

theorem image_verifies {s : State} (hk : s.imageKey imageHead = key64)
    (hl : ¬ imageHead.level < fieldAt (s.bootSeal 5).value 0 1) : s.verify imageHead imageBytes {} = .ok imageBytes := by
  refine verify_of (key := key64) hk (by decide +kernel) (signedBy_of (r := sigR)
    (v := 0xc444cfaa57ca5fe856bf47bff50d4152a235f1f027205eb410a4a84be0007912) (by decide +kernel) (by decide +kernel)
    (by decide +kernel) ?_) hl
  rw [show imageHead.length - 64 = 960 from rfl, show overlay imageBytes ({} : NorEnv).first = imageBytes from rfl, image_digest]
  exact image_signed

theorem checkImage_of {s : State} {k : Nat} {e : NorEnv} {h : Header} {img : List Byte} {p : Tabs × List Section}
    (h1 : readHeader (s.norBytes (slotBase2 k) 256) = .ok h) (h2 : s.verify h (s.norBytes (slotBase2 k) h.length) e = .ok img)
    (h3 : readParts h img = .ok p) (h4 : (groupOk p.1 && p.2.all s.sectionOk) = true) (h5 : p.2.all envelopeEntriesOk = true)
    (h6 : h.patchOfs = 0) :
    ∃ d, s.checkImage k e = .ok { hdr := h, group := p.1, digest := d, secs := p.2 } := by
  simp only [State.checkImage, h1, h2, h3, h4, h5, h6, need, bind, Except.bind, pure, Except.pure]
  exact ⟨_, rfl⟩

theorem checkNode_of {s : State} {x : Section} {g : Tabs} (h : Header) (d : Nat) (h1 : (s.bootSeal 0).written = false)
    (h2 : ((g.get 0x01).any fun e => decide (fieldAt e 0 1 = x.node)) = true) (h3 : (s.seal 7).written = false)
    (h4 : keyOwnersOk g x x.envelopes = true) :
    s.checkNode { hdr := h, group := g, digest := d, secs := [x] } = .ok (some x) := by
  simp only [State.checkNode, State.chooseSection, h1, h2, h3, need, bind, Except.bind, pure, Except.pure]
  simp [h4]

theorem checkSlot_of {s : State} {k : Nat} {e : NorEnv} {h : Head} {x : Option Section} (h1 : s.checkImage k e = .ok h)
    (h2 : s.checkNode h = .ok x) : s.checkSlot k e = .ok () := by
  simp only [State.checkSlot, h1, h2, bind, Except.bind, pure, Except.pure]

/-- With the image in slot B, no image key enrolled and no level sealed, the checks that every device makes pass. -/
theorem image_checks {s : State} (hs : s.boot.nor = imageCells)
    (hk : s.imageKey imageHead = key64) (hl : ¬ imageHead.level < fieldAt (s.bootSeal 5).value 0 1)
    (ho : (groupOk imageTabs && [imageSection].all s.sectionOk) = true) :
    ∃ d, s.checkImage 1 {} = .ok { hdr := imageHead, group := imageTabs, digest := d, secs := [imageSection] } := by
  have h1 : s.norBytes (slotBase2 1) imageHead.length = imageBytes := by
    rw [show imageHead.length = 1024 from rfl, image_in_nor hs _ (Nat.le_refl _), ← image_length, List.take_length]
  exact checkImage_of (p := (imageTabs, [imageSection])) (by rw [image_in_nor hs 256 (by decide), image_head])
    (by rw [h1]; exact image_verifies hk hl) image_parts ho (by decide +kernel) rfl

/-- A commit of the image in slot B succeeds (R110). -/
theorem wit_commit_ok : staged.checkSlot staged.boot.otherSlot {} = .ok () := by
  have h0 : staged.boot.otherSlot = 1 := by decide +kernel
  obtain ⟨d, hd⟩ := image_checks (s := staged) rfl (by decide +kernel) (by decide +kernel) (by decide +kernel)
  rw [h0]
  exact checkSlot_of hd (checkNode_of (s := staged) (x := imageSection) (g := imageTabs) imageHead d (by decide +kernel)
    (by decide +kernel) (by decide +kernel) (by decide +kernel))

/-- A device after its first power-on, with that image in slot B, which is ACTIVE. -/
def stored : State :=
  State.reset.mapBoot fun b => { b with slotA := { state := .empty }, slotB := { state := .active }, nor := imageCells }

def bootEnv : BootEnv :=
  { tj := 200, bootsel := false, nor := true, sfdp := true, erase := 0x20, read := { lines := 4, mhz := 66 }, slotA := {}, slotB := {}
    torn := [], sweepUs := 900, ms := 700 }

/-- `stored` where slot choice begins. -/
def booting : State := ((stored.mapPower fun p => { p with vioOk := true, bootsel := false }).bootFirst bootEnv).bootSlots bootEnv

/-- The image in its slot B passes, and boot reaches running with it (Table 03-2). -/
theorem wit_boot_running :
    (stored.power.nrstLow = false ∧ stored.power.phase = .reset ∧ stored.power.thmLatch = false ∧ stored.ledger.lines = [] ∧
      stored.ledger.buf = [] ∧ stored.ledger.waiting = [] ∧ stored.thm = {} ∧ (stored.boot.slotRec 1).state = .active ∧
      (stored.boot.slotRec (1 - 1)).state = .empty) ∧
    ∃ h x, booting.checkHead 1 bootEnv.nor bootEnv.sfdp (if 1 = 0 then bootEnv.slotA else bootEnv.slotB) = .ok h ∧
      booting.checkNode h = .ok (some x) := by
  refine ⟨by decide +kernel, ?_⟩
  obtain ⟨d, hd⟩ := image_checks (s := booting) (by decide +kernel) (by decide +kernel) (by decide +kernel) (by decide +kernel)
  exact ⟨_, imageSection, hd, checkNode_of (x := imageSection) (g := imageTabs) imageHead d (by decide +kernel) (by decide +kernel)
    (by decide +kernel) (by decide +kernel)⟩

theorem wit_BootAndStaging :
    (let s := State.reset.mapBoot fun b => { b with slotA := { state := .empty }, slotB := { state := .rejected } }
     s.power.nrstLow = false ∧ s.power.phase = .reset ∧ s.power.thmLatch = false ∧ s.ledger.lines = [] ∧ s.ledger.buf = [] ∧
     s.ledger.waiting = [] ∧ s.thm = {} ∧ s.boot.slotA.state = .empty ∧ s.boot.slotB.state = .rejected) ∧
    (State.reset.mapPower fun p => { p with thmLatch := true }).power.thmLatch = true ∧
    up.power.phase ≠ .reset ∧
    (let s := ((inPhase State.reset .tooHot).mapBoot fun b =>
       { b with slotA := { state := .empty }, slotB := { state := .empty } }).mapThm fun t => { t with tj := 1119 }
     s.power.phase = .tooHot ∧ s.bootTooHot = false ∧ s.ledger.buf = [] ∧ 0 ∉ s.ledger.bad ∧ s.boot.slotA.state = .empty ∧
       s.boot.slotB.state = .empty) ∧
    (let s := ((inPhase State.reset .tooHot).mapThm fun t => { t with tj := 1119 }).mapLedger fun l =>
       { l with lines := [(0, padTo 32 [1])], bad := [0] }
     s.power.phase = .tooHot ∧ s.bootTooHot = false ∧ s.ledger.buf = [] ∧ s.ledger.waiting = [] ∧ s.wbl.waiting = [] ∧
     0 ∈ s.ledger.bad ∧ { bootEnv with nor := false }.nor = false) ∧ State.reset.power.mode ≠ .standby ∧ 0 ∉ State.reset.ledger.bad ∧
    ((inPhase State.reset .tooHot).mapThm fun t => { t with tj := 1120 }).bootTooHot = true ∧
    (let s := ((inPhase up .ledgerWait).mapThm fun t => { t with ledgerWin := false }).mapLedger fun l =>
       { l with lines := [(31, padTo 32 (markerLine 1 0 0 0 0))] }
     (s.mapPower fun p => { p with primary := 1, offWake := true }).ledgerHeld = true) ∧
    (inPhase up .ledgerWait).power.phase = .ledgerWait ∧ (inPhase up .ledgerWait).ledgerHeld = false ∧
    (inPhase up .noImage).power.phase = .noImage := by decide +kernel

theorem wit_staging :
    up.ready 0 false ∧ 4096 < 4097 ∧ 0x400001 % 4096 ≠ 0 ∧ slotBase2 up.boot.slot ≤ 0x3FF000 ∧
    0x3FF000 < slotBase2 up.boot.slot + 0x400000 ∧ up.stageDenied 0 0x400000 = false ∧ up.stageDenied 0 0x7FF000 = false ∧
    (up.mapBoot fun b => { b with stager := some 1 }).stageDenied 0 0x400000 = true ∧ up.stageDenied 0 0 = true ∧
    (up.mapBoot fun b => { b with trial := true }).boot.trial = true ∧ (1 : Fin 4) ≠ 0 ∧ ({ back := [(0, 1)] } : NorEnv).back ≠ [] ∧
    0x400000 = slotBase2 up.boot.otherSlot ∧ up.windowOpen = true ∧
    (up.mapThm fun t => { t with ledgerWin := false }).windowOpen = false := by
  unfold State.ready State.may; decide +kernel

theorem word_good {m : Sram} {w : Nat} (h1 : w ∈ m.tags) (h2 : m.doubles = []) : m.state w = .good := by simp [Sram.state, h1, h2]

/-- `up` with a staging buffer at 0x2000_1000 whose words are all written. -/
def buffered : State := (up.mapImage fun _ => some { stageBuf := 0x20001000 }).mapSram fun m => { m with tags := List.range 1024 }

theorem wit_stage_buffer :
    buffered.ready 0 false ∧ (buffered.image.getD {}).stageBuf = sramBase + 8 * 512 ∧ 8 * 512 + 4096 ≤ 0x80000 ∧ buffered.MemWf ∧
    buffered.stageDenied 0 0x400000 = false ∧
    ∀ j, j < 512 → buffered.sram.state (512 + j) = .good ∧ 512 + j ∉ buffered.sram.singles := by
  refine ⟨by unfold State.ready State.may; decide +kernel, by decide +kernel, by decide, by unfold State.MemWf; decide +kernel,
    by decide +kernel, fun j hj => ⟨word_good ?_ rfl, List.not_mem_nil⟩⟩
  have h : buffered.sram.tags = List.range 1024 := by decide +kernel
  rw [h]
  exact List.mem_range.mpr (by omega)

/-- A commit's boot record finds a free ring slot, and finds none. -/
theorem wit_commit_record :
    (up.wbl.nextFree.isSome = true ∧ up.wbl.waiting = [] ∧ up.ledger.waiting = [] ∧
      ∀ j, (vget up.wbl.ring j).notDone = true → (vget up.wbl.ring j).seq ≠ up.wbl.nextSeq) ∧
    (let s := up.mapWbl fun w => { w with ring := Vector.replicate 128 { state := .issued, seq := 1 } }
     s.wbl.nextFree = none ∧ s.ledger.buf = [] ∧ s.ledger.cell 0 = none) := by decide +kernel

/-- An erased slot fails with MAGIC. -/
theorem wit_commit_fails : up.checkSlot up.boot.otherSlot {} = .error .magic := by decide +kernel

/-- `up` with a service session in a state, INSPECTOR's key enrolled. -/
def session (x : SvcSt) (role : Nat) : State :=
  up.mapSvc fun v => { v with st := x, session := 9, role := role, challenge := zeros 16, node := 1, inspKey := key64 }

/-- An AUTH as role 2 over CHALLENGE, node number and role, signed with the key of slot 10 or 11 (R595). -/
def authPayload : List Byte :=
  leBytes 4 2 ++ leBytes 32 sigR ++ leBytes 32 0x7f005fe58be865b6fa93bda7f1e82893f0c673852d579d44dd024d31f114cad4

theorem wit_auth : (session .opening 0).authOk authPayload = true ∧ authPayload.length = 68 ∧ fieldAt authPayload 0 1 = 2 := by
  decide +kernel

theorem wit_ServiceSessions :
    up.inkAlive = true ∧ up.svc.flood = false ∧ up.svc.lockout = false ∧ up.asleep = false ∧ up.svc.st = .closed ∧
    (up.mapSvc fun v => { v with lockout := true }).svc.lockout = true ∧ (up.mapSvc fun v => { v with flood := true }).svc.flood = true ∧
    (session .opening 0).svcUp = true ∧ (session .opening 0).svc.st ≠ .closed ∧ (session .opening 0).svc.lastSeq ≠ some 255 ∧
    (authPayload.drop 1).length ≠ 68 ∧ (session .opening 0).authOk (leBytes 68 1) = false ∧ (leBytes 68 1).length = 68 ∧
    fieldAt (leBytes 68 1) 0 1 = 1 ∧ (session .opening 0).svc.fails < 2 ∧ (session .opening 0).pnl.crossing = [] ∧
    ((session .opening 0).mapSvc fun v => { v with fails := 2 }).svc.fails = 2 ∧ (session .open_ 2).hears 0 9 96 ∧
    (session .opening 0).deaf (frameHalves 68) = false ∧ up.detectorRuns = true ∧ up.seals.commit = none ∧
    (session .open_ 2).seals.commit = none ∧
    (let r : Palnyx := { type := 0x8B, seq := 5, session := 9, payload := [0, 0, 0, 0] }
     let s := (session .open_ 2).mapSvc fun v => { v with lastSeq := some 5, lastReply := some r, out := [r], closing := some r }
     s.svcUp = true ∧ s.svc.lastSeq = some 5 ∧ s.svc.lastReply = some r ∧ s.svc.out = r :: [] ∧ s.svc.closing = some r ∧
     s.svc.st = .open_ ∧ s.lineFree = true ∧ s.deaf (frameHalves 96) = false) ∧
    (let r : Palnyx := { type := 0x83, seq := 5, session := 9, payload := [0, 0, 0, 0] }
     let s := (session .open_ 2).mapSvc fun v => { v with out := [r] }
     s.svc.closing ≠ some r ∧ s.lineFree = true ∧ s.seals.resetDue = false ∧ (s.mapSeals fun x => { x with resetDue := true }).seals.resetDue = true ∧
     ∀ g ∈ ([] : List Palnyx), g.type ≠ 0x86) ∧
    (session .opening 0).svc.st = .opening ∧ ((session .open_ 1).mapSvc fun v => { v with flood := true }).svc.st ≠ .closed := by
  unfold State.hears; decide +kernel

/-- A phrase received in two parts, its bit period at the ends of R591, and the time until the line is free (R579, R584). -/
theorem wit_service_line :
    (let copy := carrierOf (lsbFirst 48 0xA6D23B1CE47F)
     let s := up.mapSvc fun v => { v with halves := [true, false] ++ copy ++ copy.take 5 }
     phraseAccepted (s.halvesAfter (copy.drop 5) 204167) = true ∧ phraseAccepted (up.halvesAfter (copy ++ copy) 212500) = true ∧
     phraseAccepted (s.halvesAfter (copy.drop 5) 204166) = false ∧ phraseAccepted (s.halvesAfter (copy.drop 4) 208333) = false ∧
     periodOk 204166 = false ∧ periodOk 212501 = false) ∧
    (let f : Palnyx := { type := 0x8B, seq := 5, session := 9, payload := [0, 0, 0, 0] }
     let s := (session .open_ 2).mapSvc fun v => { v with sent := some f }
     f.air.length = 14 ∧ s.svc.carrierHalves = 16 * 14 - 1 ∧ s.lineFree = false ∧
     (s.mapNow fun _ => 23645).lineFree = false ∧ (s.mapNow fun _ => 23646).lineFree = true ∧ s.deaf (frameHalves 0) = true) ∧
    (let copy := carrierOf (lsbFirst 48 0xA6D23B1CE47F)
     let late := (up.mapSvc fun v => { v with halves := copy }).mapNow fun _ => 3600000000
     let f : Palnyx := { type := 0x8B, seq := 5, session := 9, payload := [0, 0, 0, 0] }
     up.deaf 192 = false ∧ 2000 * (up.now - up.svc.halvesAt) ≤ (192 + 1) * 208333 ∧
     (96 + 1) * 208333 < 2000 * (late.now - late.svc.halvesAt) ∧ phraseAccepted (late.halvesAfter copy 208333) = false ∧
     afterPhrase ([true] ++ copy ++ copy ++ [false, true]) = some [false, true] ∧ phraseAccepted [false, true] = false ∧
     (phrasesIn 3 (copy ++ copy ++ copy ++ copy)).1 = 2 ∧ (up.mapSvc fun v => { v with sent := some f }).deaf 192 = true) ∧
    (inPhase up .off).detectorRuns = false ∧ 1000 ≤ 1000 ∧ up.svc.noise < 51 ∧ 50 ≤ up.svc.noise ∧ 999 < 1000 := by
  decide +kernel

theorem wit_ServiceRequests :
    (session .open_ 1).hears 0 9 96 ∧
    (let p : List Byte := [0, 4, 0, 0] ++ leBytes 4 0x3001FFFC
     p.length = 8 ∧ fieldAt p 0 1 = 0 ∧ fieldAt p 1 1 = 4 ∧ fieldAt p 4 4 % 4 = 0 ∧ inLedger (fieldAt p 4 4) = true ∧
     Lines.get up.ledger.lines (ledgerLineOf (fieldAt p 4 4)) = none ∧ ledgerLineOf (fieldAt p 4 4) ∉ up.ledger.bad) ∧
    (let p : List Byte := [1, 4, 0, 0] ++ leBytes 4 0x40002000
     p.length = 8 ∧ fieldAt p 0 1 = 1 ∧ fieldAt p 1 1 = 4 ∧ fieldAt p 4 4 = 0x40002000) ∧
    (let p : List Byte := [1, 4, 0, 0] ++ leBytes 4 0x400F03FC
     fieldAt p 0 1 = 1 ∧ fieldAt p 1 1 = 4 ∧ 0x400F0000 ≤ fieldAt p 4 4 ∧ fieldAt p 4 4 < 0x400F0400) ∧
    (session .open_ 1).windowOpen = true ∧ (session .open_ 1).power.offWakeSet = false ∧
    ((session .open_ 1).mapThm fun t => { t with ledgerWin := false }).windowOpen = false := by
  unfold State.hears; decide +kernel

theorem wit_service_plant :
    (let s := (session .open_ 1).mapFan 5 fun f => { f with st := .latched, kinds := 1 }
     (s.fan 5).st = .latched ∧ s.hears 0 9 1 ∧ (s.fan 0).st ≠ .latched) ∧
    (let s := (session .open_ 1).mapLodger 3 fun l => { l with run := .held }
     (s.lodger 3).run = .held ∧ s.hears 0 9 1 ∧ (s.lodger 0).run ≠ .held) ∧
    (let s := (session .open_ 1).mapPower fun p => { p with alarm := 1 }
     s.hears 0 9 4 ∧ s.power.holdOk = true ∧ s.power.offWakeSet = true) := by
  unfold State.hears; decide +kernel

theorem wit_service_app :
    (session .open_ 1).svc.owner = (0 : Fin 4).val ∧ (session .open_ 1).svc.app = none ∧ ((session .open_ 1).lodger 0).run = .running ∧
    (let s := (session .open_ 1).mapSvc fun v => { v with app := some (7, 0, 0) }
     s.svc.app.isSome = true ∧ s.may 0 false .store 0x40080024 ∧ s.svc.app = some (7, (0 : Fin 4).val, 0) ∧ s.svcUp = true) ∧
    bit (0x15F : Word) 8 = true ∧ bits (0x15F : Word) 6 0 = 95 := by
  unfold State.may; decide +kernel

/-- A change of seal slot 15, the watchdog timeouts, to 200 ms each. -/
def change15 : SealChange := { slot := 15, expect := 0, len := 8, bytes := [200, 0, 200, 0, 200, 0, 200, 0] }

theorem wit_SealChanges :
    (session .open_ 2).hears 0 9 96 ∧ (session .opening 0).svcUp = true ∧ (session .opening 0).svc.role = 0 ∧ fieldAt [15, 0, 8, 0] 0 1 = (15 : Fin 16).val ∧ ([15, 0, 8, 0] : List Byte).length = 4 ∧
    16 ≤ fieldAt [16, 0, 8, 0] 0 1 ∧ (session .open_ 2).seals.collect = none ∧ change15.bytes.length = change15.len ∧
    7 + ([1] : List Byte).length ≤ change15.len ∧ change15.len < 8 + ([1] : List Byte).length ∧
    (session .open_ 2).commitResult change15 (crc32 change15.bytes) = none ∧
    (session .open_ 2).commitResult change15 0 = some .badCrc ∧ (session .open_ 1).commitResult change15 0 = some .denied ∧
    (((session .open_ 2).mapThm fun t => { t with ledgerWin := false }).commitResult change15 (crc32 change15.bytes) =
      some .thermal) ∧
    ((session .open_ 2).seal 15).broken = false ∧ ((session .open_ 2).seal 15).changes < 15 ∧
    (session .open_ 2).badValue 15 change15.bytes = false ∧
    (let s := ((session .open_ 2).mapSeals fun x => { x with commit := some change15 }).mapLedger fun l =>
       { l with lines := ((session .open_ 2).changeLines change15).map fun x => (x.1, padTo 32 x.2) }
     s.seals.commit = some change15 ∧ change15.sent = none ∧ s.inkAlive = true ∧ s.power.phase ≠ .nodeHold ∧
     s.bankDone change15 = true ∧ 8 < s.wbl.freeCount ∧ s.wbl.waiting = [] ∧
     (∀ e ∈ s.ledger.buf ++ s.ledger.waiting, e.line ≠ sealHeaderLine (15 : Fin 16).val) ∧
     (∀ k, (vget s.wbl.ring k).notDone = true → (vget s.wbl.ring k).seq ∉
       [s.wbl.nextSeq, seqAfter s.wbl.nextSeq, seqAfter (seqAfter s.wbl.nextSeq)]) ∧
     s.windowOpen = true ∧ (s.mapThm fun t => { t with ledgerWin := false }).windowOpen = false ∧
     s.svc.closeWait = [] ∧ s.svc.phraseWait = false) := by
  unfold State.hears; decide +kernel

/-- `up` as it stands when the header of seal slot 15 waits in the buffer, the change done. -/
def headed : State :=
  let s := ((session .open_ 2).mapSeals fun x => { x with commit := some change15 }).mapLedger fun l =>
    { l with lines := ((session .open_ 2).changeLines change15).map fun x => (x.1, padTo 32 x.2) }
  let t := after .sealBankDone (s.mapThm fun t => { t with ledgerWin := false })
  (t.mapSeals fun x => { x with commit := none }).mapThm fun t => { t with ledgerWin := true }

/-- A sound header is drained later, and the value is in force (R422). -/
theorem wit_header_drained :
    (headed.ledger.buf.head?.map (·.line)) = some (sealHeaderLine (15 : Fin 16).val) ∧ headed.inkAlive = true ∧
    headed.seals.commit = none ∧ headed.windowOpen = true ∧
    (let t := after .ledgerLineWritten headed
     (t.readSeal 15).headerOk = true ∧ (t.readSeal 15).broken = false ∧ (t.seal 15).value = change15.bytes) := by decide +kernel

/-! ### What WellFormed refuses: for each check a term just outside it, and one at its boundary inside -/

theorem test_wf_words :
    ([.bootLedgerWaitEnd (2 ^ 32), .fenceFault 0 false .load (2 ^ 32), .gateWrite (.lodger 0) 0 65536, .mailboxServe (some 16) {},
      .keyAcquire 0 false 0 (2 ^ 32) [], .keyAcquire 0 false 0 1 [1, 2, 3, 4, 5], .keyAcquire 0 false 0 1 [2 ^ 32],
      .keyRelease 0 false 0 (2 ^ 32), .outJournal 0 false 0 (2 ^ 32) 0, .outJournal 0 false 0 0 (2 ^ 32),
      .ledgerWrite 0 false 0 (2 ^ 32) (Vector.replicate 5 0), .modeRequest 0 false 0 (2 ^ 32) none, .modeRequest 0 false 0 1 (some 16),
      .imageStage 0 false 0 (2 ^ 32) 0 {}, .imageStage 0 false 0 0 (2 ^ 32) {}, .imageCommit 0 false 0 (2 ^ 32) {},
      .lodgerRestart 0 false 0 (2 ^ 32), .deviceReset 0 false 0 (2 ^ 32)] : List Instr).map Instr.wf = List.replicate 18 false := by
  decide

/-- An access by a requester that was not refused before. -/
def by_ (who : Requester) : Access := { who := who }

theorem test_wf_accesses :
    ([.mainSramRead (by_ .innkeeper) false 0x1FFFFFFF 1 .none, .mainSramRead (by_ .innkeeper) false 0x20080000 1 .none,
      .mainSramRead (by_ .innkeeper) false 0x20000000 0 .none, .mainSramRead (by_ .innkeeper) false 0x20000005 4 .none,
      .mainSramWrite (by_ .innkeeper) 0x20000000 [] .none, .ledgerRead (by_ .innkeeper) 0x30020000 .none,
      .ledgerViewWrite (by_ .innkeeper) 0x2FFFFFFF, .registerWrite (by_ .innkeeper) (2 ^ 32) 4 0,
      .registerWrite (by_ .innkeeper) 0x40000000 3 0, .reservedAccess .innkeeper .load (2 ^ 32) 4,
      .reservedAccess .innkeeper .load 0 3] : List Instr).map Instr.wf = List.replicate 11 false := by decide

theorem test_wf_plant :
    ([.canWakeFrame 0 (some (2 ^ 29)), .holdMeasure 65536 true, .tjConversion 2048, .tjConversion (-1025), .catchEnd 0 false 65536 0,
      .alignEnd 0 65536, .aoReadback 0 65536, .uartCharacterReceived 0 [], .floodStart 1024 0, .floodEnd 1024 0] : List Instr).map Instr.wf =
      List.replicate 10 false ∧
    (Instr.uartCharacterReceived 0 (List.replicate 13 (true, true, true))).wf = false := by decide

theorem test_wf_gridis :
    ([.canFrameReceived 0 true 2048 true true [] 0, .canFrameReceived 0 false (2 ^ 29) true true [] 0,
      .canFrameReceived 0 false 0 true true (List.replicate 65 0) 0, .heartbeat 256 0 0 0 0 0, .heartbeat 0 256 0 0 0 0,
      .heartbeat 0 0 (2 ^ 64) 0 0 0, .heartbeat 0 0 0 65536 0 0, .heartbeat 0 0 0 0 65536 0, .heartbeat 0 0 0 0 0 256, .nodeAbsent 256,
      .leaving 256, .throttleNotice 256 0, .throttleNotice 0 256, .tripFrame 256 true, .sync 256 0 0 0, .sync 0 256 0 0, .sync 0 0 256 0,
      .follow 256 0 0 0 0 0, .follow 0 256 0 0 0 0, .follow 0 0 256 0 0 0, .follow 0 0 0 256 0 0, .follow 0 0 0 0 (2 ^ 32) 0,
      .follow 0 0 0 0 0 (2 ^ 32), .canBusError 0 false 256] : List Instr).map Instr.wf = List.replicate 24 false := by decide

theorem test_wf_keys :
    ([.acquire 256 0, .acquire 0 1024, .grant 256 0 0 0, .grant 0 1024 0 0, .grant 0 0 (2 ^ 32) 0, .grant 0 0 0 65536, .deny 256 0 0,
      .deny 0 1024 0, .deny 0 0 256, .renew 256 0 0, .renew 0 1024 0, .renew 0 0 (2 ^ 32), .renewed 256 0 0, .renewed 0 1024 0,
      .renewed 0 0 (2 ^ 32), .release 256 0 0, .release 0 1024 0, .release 0 0 256, .released 256 0, .released 0 1024,
      .reclaim 256 0 0 1, .reclaim 0 1024 0 1, .reclaim 0 0 (2 ^ 32) 1, .reclaim 0 0 0 256] : List Instr).map Instr.wf =
      List.replicate 24 false ∧
    ([.keyWriteFrame 256 0 0 0, .keyWriteFrame 0 1024 0 0, .keyWriteFrame 0 0 (2 ^ 32) 0, .keyWriteFrame 0 0 0 65536, .expired 256 0,
      .expired 0 1024, .keyAnswerTimeout 1024, .renewDue 1024, .holderLeaseExpiry 1024, .hostLeaseExpiry 1024] : List Instr).map
      Instr.wf = List.replicate 10 false := by decide

theorem test_wf_bookings :
    ([.announce 256 0 [], .announce 0 32 [], .announce 0 0 (List.replicate 61 0), .confirm 256 0 [], .confirm 0 32 [],
      .confirm 0 0 (List.replicate 61 0), .withdraw 256 0 [], .withdraw 0 32 [], .withdraw 0 0 (List.replicate 61 0),
      .bookFrameEnd 256 0 [], .bookFrameEnd 0 32 [], .bookFrameEnd 0 0 (List.replicate 61 0), .trackedLapse 256,
      .trackedDurationEnd 256, .bookingRecordRead 0 false true 32 0, .bookingRecordRead 0 false false 256 0] : List Instr).map Instr.wf =
      List.replicate 16 false := by decide

theorem test_wf_service (f : Nat → Nat → List Byte → Instr)
    (h : f ∈ [Instr.sealBegin, .sealPart, .sealCommit, .svcAuth, .svcRead, .fanClear, .lodgerStart, .svcOff, .svcApp, .svcClose]) :
    (f 256 0 []).wf = false ∧ (f 0 256 []).wf = false ∧ (f 0 0 (List.replicate 97 0)).wf = false ∧
    (f 255 255 (List.replicate 96 0)).wf = true := by
  simp only [List.mem_cons, List.not_mem_nil, or_false] at h
  rcases h with rfl | rfl | rfl | rfl | rfl | rfl | rfl | rfl | rfl | rfl <;> decide

theorem test_wf_bad_type :
    ([.palnyxBadType 256 0 0, .palnyxBadType 0 256 0, .palnyxBadType 0 0 256] : List Instr).map Instr.wf = List.replicate 3 false := by
  decide

theorem test_wf_boundary :
    ([.gateWrite (.lodger 0) 0 65535, .mailboxServe (some 15) {}, .keyAcquire 0 false 0 4 [1, 2, 3, 2 ^ 32 - 1],
      .mainSramRead (by_ .innkeeper) false 0x2007FFFF 1 .none, .mainSramWrite (by_ .innkeeper) 0x20000000 (List.replicate 8 0) .none,
      .ledgerRead (by_ .innkeeper) 0x3001FFFC .none, .registerWrite (by_ .innkeeper) 0xFFFFFFFF 2 0, .canWakeFrame 0 none,
      .tjConversion (-1024), .tjConversion 2047, .canFrameReceived 0 true 2047 false false (List.replicate 64 0) 0,
      .uartCharacterReceived 0 (List.replicate 12 (true, true, true)), .renewDue 1023, .trackedLapse 255,
      .bookingRecordRead 0 false true 31 0, .bookingRecordRead 0 false false 255 0, .counterRefresh] : List Instr).map Instr.wf =
      List.replicate 17 true := by decide

/-! ### The interface and the time of an empty queue -/

theorem test_no_word_spells : decodeTableWord 32 0 = none ∧ State.reset.withFetchWord 32 0 = State.reset := ⟨rfl, rfl⟩

theorem test_tick : (up.tick).now = 1 ∧ (up.tick).grp.clock = 1 ∧ (up.tick).uarts.clock = 1 ∧ (up.tick).ts = 10 ∧ (inPhase up .off).tick.grp.clock = 0 ∧
    (inPhase up .off).tick.uarts.clock = 0 := by decide +kernel

/-! ### Worked cases of the manual -/

/-- Pell Quay (chapter 0): a counter at 65 535 stays there (R20). -/
theorem test_counter_saturates : satInc 0xFFFF 65535 = 65535 ∧ satInc 0xFFFF 65534 = 65535 := by decide

/-- Pell Quay (chapter 6): the board thermistor at 48.0 °C with 176 steps and peer 7 at 71.5 °C give 70.75 °C; the diode at
91.0 °C is more than 15 °C away. -/
theorem test_neighbour_estimate :
    let s := (grouped.mapImage fun _ => some
        { nodes := [⟨1, 0, false, 0, 3⟩, ⟨7, 0, false, 0, 3⟩], neighbours := [⟨1, 14, 176⟩, ⟨2, 7, 0⟩] }).mapUi 14 fun u =>
      { u with type := 1, shown := { val := 0x42400000, valid := true } }
    let s := (s.mapThm fun t => { t with boardEn := true, boardUi := 14, crossCheck := true, reading := 728 }).neighbourCheck
    s.thm.estimate = some 566 ∧ s.thm.neighbour = true := by decide +kernel

/-- Varnham Cross (chapter 7): −12.4 mA through 100 Ω shows −512.5 Pa with REVERSED, +12.4 mA shows 262.5 Pa. -/
theorem test_current_loop :
    let u : UiIn := { type := 4, c0 := 0, c1 := 0x43FA0000 }
    u.convert 0 (-12400000) = 0xC4002000 ∧ vget (wiring 4 0 (-12400000) (u.convert 0 (-12400000)) (u.beyond 0)) 3 = true ∧
    u.convert 0 12400000 = 0x43834000 ∧ vget (wiring 4 0 12400000 (u.convert 0 12400000) (u.beyond 0)) 3 = false := by decide +kernel

/-- Varnham Cross (chapter 9): 2 006 mA against a baseline of 1 824 mA is 1 100 ‰. -/
theorem test_dmi : nearest (1000 * 2006) 1824 = 1100 := by decide +kernel

/-- Osterlin Street (chapter 9): bins 19 to 21 stand out of a median of 40 mA, and one band of 1 100 to 1 350 rpm is proposed. -/
theorem test_sweep_proposal :
    let bins := List.replicate 18 40 ++ [95, 135, 310, 150, 88] ++ List.replicate 41 40
    proposals 30 200 3400 bins = [(1100, 1350)] := by decide +kernel

/-- Varnham Cross (chapter 12): the hold-up test gives 80 mΩ and 0.100 F. -/
theorem test_hold_up : holdEsr 25000 24840 = 80 ∧ holdCap 25000 24840 24998 22982 = 1000 := by decide +kernel

/-- Pell Quay (chapter 12): the forecast from five weekly points of an impeller is 116 days, between 103 and 208. -/
theorem test_forecast :
    let pts := [(0, 1040), (7, 1046), (14, 1049), (21, 1057), (28, 1061)].map fun p =>
      ({ day := p.1, count := 7, value := (F32.ofNat p.2).toBits } : WearPoint)
    let i := ({ points := pts } : Indicator).predict { kind := 1, source := 4, flags := 0, window := 26, limit := 0 }
    (i.status, i.daysLeft, i.lo, i.hi) = (.predicting, 116, 103, 208) := by decide +kernel

/-- Pell Quay (chapter 8): slot 3 in direct mode with p = 160 and i = 240 clamps 400.8 to 400 and discards the step. -/
theorem test_loop_sample :
    let bank : Bank := #v[0x43480000, 0x41200000, 0, 0, 0x3F800000, 0, 0, 0x43C80000, 0x447A0000]
    let s := (up.mapSram fun _ => { cells := [(0, 0xCD), (1, 0xCC), (2, 0x0C), (3, 0x40), (4, 1), (6, 1)], tags := [0] }).mapSlot 3
      fun x => { x with
        en := true, direct := true, fbAddr := 0x20000000, staleN := 3, goodK := 5, sp := 0x40400000, st := .closed, due := 1
        banks := vset x.banks 0 bank, integ := 0x43700000, out := 0x43C80000, uPrev := 0x43C80000, lastSeq := some 0 }
    let t := s.loopTick 0 false
    ((t.slot 3).out, (t.slot 3).integ, (t.slot 3).st, (t.slot 3).due) = (0x43C80000, 0x43700000, .closed, 400) := by decide +kernel

/-- Osterlin Street (chapter 2): AO2 falls from 6 500 mV towards its Rest value of 2 000 mV by 500 mV in a second. -/
theorem test_ramp :
    let s := up.mapOutp 2 fun o => { o with slew := 500, max := 10000, target := 2000, applied := 6500 }
    ((s.gateRamp.outp 2).applied, (s.gateRamp.gateRamp.outp 2).applied) = (6500, 6499) := by decide +kernel

/-- Varnham Cross (chapter 19): FAN3_DMI is listed, the address behind channel 5 reads zero without a fault, and the one behind
channel 8 is reserved: a load access fault that FENCE_CNT does not count. -/
theorem test_fan_window :
    fanBase 3 + 0x54 = 0x40030654 ∧ mapped 0x40030C54 = true ∧ mapped 0x40031054 = false ∧
    (let s := up.access (.lodger 0 false) .load 0x40031054 fun s => s.reserved (.lodger 0 false) .load 0x40031054
     (s.lodger 0).trap = some (.load 0x40031054) ∧ (s.lodger 0).fenceCnt = 0) := by decide +kernel

/-- Osterlin Street (chapter 3 and R105): the SHA-256 of "abc" (FIPS 180-4) and the order of the P-256 base point. -/
theorem test_crypto :
    sha256 [0x61, 0x62, 0x63] = beBytes 32 0xba7816bf8f01cfea414140de5dae2223b00361a396177a9cb410ff61f20015ad ∧
    p256OnCurve p256Gx p256Gy = true ∧ p256OnCurve keyX keyY = true := by decide +kernel

/-- The CRC-32 of Table 04-4 over the digits 1 to 9. -/
theorem test_crc32 : crc32 [0x31, 0x32, 0x33, 0x34, 0x35, 0x36, 0x37, 0x38, 0x39] = 0xCBF43926 := by decide +kernel

end Sys2Proof.Tests
end

section
/-! PROOFS. Accesses that no target takes (R14, R450, R634, R635): the error response, the fault of a Lodger, and the course of a
Carder channel. -/

namespace Sys2Proof.Machine

/-! ### Who reaches the bus, and how an access ends -/

/-- A master that no Lodger is makes its access wherever the interconnect runs. -/
theorem State.access_master {s : State} {who : Requester} (hw : ∀ n user, who ≠ .lodger n user) (hb : s.busUp = true)
    (kind : AccessKind) (addr : Nat) (go : State → State) : s.access who kind addr go = go s := by
  cases who with
  | lodger n user => exact absurd rfl (hw n user)
  | _ => simp [State.access, hb]

/-- An access that was never refused reaches its target as it is. -/
theorem State.arbitrated_unrefused (s : State) (who : Requester) (kind : AccessKind) (addr : Nat) (go : State → State) :
    s.arbitrated { who := who } kind addr go = s.access who kind addr go := rfl

theorem State.answerError_lodger (s : State) (n : Fin 4) (user : Bool) (kind : AccessKind) (addr : Nat) :
    s.answerError (.lodger n user) kind addr = { s with
      bus := { data := 0, outcome := .error }
      lodgers := vset s.lodgers n { s.lodger n with trap := some (trapOf kind addr) } } := rfl

/-- The bus has answered with an error, and nothing else has happened. -/
def State.errored (s : State) : State := { s with bus := { data := 0, outcome := .error } }

/-- R634: to a master that is no Lodger the error response is all. -/
theorem State.answerError_master (s : State) {who : Requester} (hw : ∀ n user, who ≠ .lodger n user) (kind : AccessKind)
    (addr : Nat) : s.answerError who kind addr = s.errored := by
  cases who with
  | lodger n user => exact absurd rfl (hw n user)
  | _ => rfl

theorem inSram_eq_false_iff {addr : Nat} : inSram addr = false ↔ ¬ (0x20000000 ≤ addr ∧ addr < 0x20080000) :=
  decide_eq_false_iff_not

theorem inLedger_eq_false_iff {addr : Nat} : inLedger addr = false ↔ ¬ (0x30000000 ≤ addr ∧ addr < 0x30020000) :=
  decide_eq_false_iff_not

/-- R14, R634, R635: the three accesses that no target takes. -/
theorem unreachable_iff {kind : AccessKind} {addr size : Nat} :
    unreachable kind addr size = true ↔
      mapped addr = false ∨ (kind = .fetch ∧ inSram addr = false) ∨ (0x40000000 ≤ addr ∧ (size ≠ 4 ∨ addr % 4 ≠ 0)) := by
  simp only [unreachable, inSram_eq_false_iff, Bool.or_eq_true, Bool.not_eq_true', decide_eq_true_eq, or_assoc]

/-- Main SRAM and the Ledger's read view are regions of Table 19-1. -/
theorem no_memory_of_reserved {addr : Nat} (h : mapped addr = false) : inSram addr = false ∧ inLedger addr = false := by
  have outside : ∀ w ∈ windows, ¬ (w.1 ≤ addr ∧ addr < w.1 + w.2) := by simpa [mapped] using h
  rw [inSram_eq_false_iff, inLedger_eq_false_iff]
  exact ⟨outside (0x20000000, 0x80000) (by decide), outside (0x30000000, 0x20000) (by decide)⟩

/-! ### What changes of the Carder when one channel acts -/

/-- Of the channels only `c` may have changed, and outside the Carder nothing has. -/
def State.ChanOnly (c : Fin 24) (s t : State) : Prop :=
  (∀ d, d ≠ c → t.chan d = s.chan d) ∧ ∃ k, t = { s with carder := k }

theorem State.ChanOnly.trans {c : Fin 24} {s t u : State} (h : State.ChanOnly c s t) (h' : State.ChanOnly c t u) :
    State.ChanOnly c s u := by
  obtain ⟨hd, k, rfl⟩ := h
  obtain ⟨hd', k', rfl⟩ := h'
  exact ⟨fun d e => (hd' d e).trans (hd d e), k', rfl⟩

theorem State.mapChan_chanOnly (s : State) (c : Fin 24) (f : Chan → Chan) : State.ChanOnly c s (s.mapChan c f) :=
  ⟨fun d e => vget_vmod_ne s.carder.chans c d f e, _, rfl⟩

@[simp] theorem State.mapChan_chan_same (s : State) (c : Fin 24) (f : Chan → Chan) :
    (s.mapChan c f).chan c = f (s.chan c) := by simp [State.mapChan, State.chan]

theorem State.discard_chanOnly (s : State) (c : Fin 24) (rs : List DmaRead) : State.ChanOnly c s (s.discard c rs) :=
  (s.mapChan_chanOnly c _).trans ⟨fun _ _ => rfl, _, rfl⟩

@[simp] theorem State.discard_chan_reads (s : State) (c : Fin 24) (rs : List DmaRead) :
    ((s.discard c rs).chan c).reads = (s.chan c).reads := by
  change (((s.mapChan c _).chan c)).reads = _
  simp

/-- R453: channel `c` has halted with an error, its transactions given up. -/
def State.ChanHalted (c : Fin 24) (kind addr : Nat) (s t : State) : Prop :=
  (t.chan c).st = .halted ∧ (t.chan c).errKind = kind ∧ (t.chan c).errAddr = addr ∧ (t.chan c).reads = [] ∧
    (t.chan c).haltEv = true ∧ State.ChanOnly c s t

theorem State.dmaHalt_halted (s : State) (c : Fin 24) (kind addr : Nat) :
    State.ChanHalted c kind addr s (s.dmaHalt c kind addr) := by
  refine ⟨?_, ?_, ?_, ?_, ?_, (s.discard_chanOnly c _).trans (State.mapChan_chanOnly _ c _)⟩ <;> simp [State.dmaHalt]

theorem State.ChanHalted.after {c : Fin 24} {kind addr : Nat} {s t u : State} (h : State.ChanOnly c s t)
    (h' : State.ChanHalted c kind addr t u) : State.ChanHalted c kind addr s u := by
  obtain ⟨hst, hkind, haddr, hreads, hev, honly⟩ := h'
  exact ⟨hst, hkind, haddr, hreads, hev, h.trans honly⟩

/-! ### A beat at a reserved address (R634) -/

theorem State.busRead_reserved {addr : Nat} (h : mapped addr = false) (s : State) (who : Requester) :
    s.busRead who addr = (.error, 0, s) := by
  simp [State.busRead, no_memory_of_reserved h, h]

theorem State.busWrite_reserved {addr : Nat} (h : mapped addr = false) (s : State) (who : Requester) (w : Word) :
    s.busWrite who addr w = (.error, s) := by
  simp [State.busWrite, no_memory_of_reserved h, h]

theorem State.readBeats_reserved {addr : Nat} (h : mapped addr = false) {k : Nat} (hk : 0 < k) (s : State) (who : Requester)
    (inc : Bool) (got : List Word) : State.readBeats who inc k addr got s = (got, k, addr, .error, s) := by
  obtain ⟨k, rfl⟩ := Nat.exists_eq_succ_of_ne_zero hk.ne'
  simp [State.readBeats, State.busRead_reserved h]

theorem State.writeBeats_reserved {addr : Nat} (h : mapped addr = false) {ws : List Word} (hws : ws ≠ []) (s : State)
    (who : Requester) (inc : Bool) (k : Nat) : State.writeBeats who inc ws addr k s = (k, addr, .error, s) := by
  match ws with
  | [w] => simp [State.writeBeats, State.busWrite_reserved h]
  | w :: v :: ws => simp [State.writeBeats, State.busWrite_reserved h, no_memory_of_reserved h]

/-! ### The engines at a reserved address (R450, R453) -/

/-- The first transaction has an error and no beat before it to write: the channel halts. -/
theorem State.haltIfDue_due {s : State} {c : Fin 24} {r : DmaRead} {later : List DmaRead} {kind addr : Nat}
    (hr : (s.chan c).reads = r :: later) (hgot : r.got = []) (herr : r.err = some (kind, addr)) :
    s.haltIfDue c = s.dmaHalt c kind addr := by
  simp [State.haltIfDue, hr, hgot, herr]

/-- An error in the only transaction of a channel, with no beat before it to write, halts the channel at once. -/
theorem State.readError_only {s : State} {c : Fin 24} {p : DmaRead → Bool} {r : DmaRead} (hr : (s.chan c).reads = [r])
    (hp : p r = true) (hgot : r.got = []) (kind addr : Nat) :
    State.ChanHalted c kind addr s (s.readError c p kind addr) := by
  simp only [State.readError, hr, List.dropWhile_cons, hp, Bool.not_true, Bool.false_eq_true, if_false]
  rw [State.haltIfDue_due (r := { r with left := 0, tag := none, failed := false, err := some (kind, addr) }) (later := [])
    (by simp [hr, hp]) hgot rfl]
  exact .after ((s.discard_chanOnly c _).trans (State.mapChan_chanOnly _ c _)) (State.dmaHalt_halted _ c kind addr)

/-- R450 for a read: without retries, the only transaction of a channel, whose next beat stands at a reserved address, ends in
a halt with ERR_KIND 1. -/
theorem State.chanAccess_load_reserved {s : State} {c : Fin 24} {r : DmaRead} {k : Nat} (hm : mapped r.addr = false)
    (hb : (s.chan c).backoff = .none) (hretry : (s.chan c).retry = 0) (hr : (s.chan c).reads = [r]) (htag : r.tag = some k)
    (hf : r.failed = false) (hgot : r.got = []) (hleft : 0 < r.left) :
    State.ChanHalted c 1 r.addr s (s.chanAccess c .load r.addr) := by
  have found : s.chanAccess c .load r.addr = s.readOn c r false := by simp [State.chanAccess, hr, htag, hf]
  rw [found]
  simp only [State.readOn, State.readBeats_reserved hm hleft, hb, hretry]
  simp only [ne_eq, not_true_eq_false, false_and, if_false, Bool.false_eq_true, lt_irrefl]
  exact .after (s.mapChan_chanOnly c _) (State.readError_only (r := r) (by simp [hr]) (by simp) hgot 1 r.addr)

/-- R450 for a write: without retries, a burst to a reserved address ends in a halt with ERR_KIND 2. -/
theorem State.chanAccess_store_reserved {s : State} {c : Fin 24} (hm : mapped (s.chan c).dst = false)
    (hretry : (s.chan c).retry = 0) (hw : s.canWriteOut c = true) :
    State.ChanHalted c 2 (s.chan c).dst s (s.chanAccess c .store (s.chan c).dst) := by
  have words : (s.chan c).burstWords ≠ [] := by
    intro e
    simp [State.canWriteOut, e] at hw
  simp only [State.chanAccess, hw, decide_true, Bool.and_self, if_true, State.writeOut, State.writeBeats_reserved hm words]
  simp only [Bool.false_eq_true, if_false, Chan.advance, hretry, lt_irrefl]
  exact .after (s.mapChan_chanOnly c _) (State.dmaHalt_halted _ c 2 _)

/-- A channel that has nothing standing at an address makes no access there. -/
theorem State.chanAccess_none {s : State} {c : Fin 24} {addr : Nat} (hr : ∀ r ∈ (s.chan c).reads, r.addr ≠ addr)
    (hd : (s.chan c).dst ≠ addr) (kind : AccessKind) : s.chanAccess c kind addr = s := by
  cases kind with
  | load =>
    have : (s.chan c).reads.find? (fun r => r.tag.isSome && !r.failed && decide (r.addr = addr)) = none :=
      List.find?_eq_none.mpr fun r h => by simp [hr r h]
    simp [State.chanAccess, this]
  | store => simp [State.chanAccess, hd]
  | fetch => rfl

/-! ### RESERVED_ACCESS and REGISTER_WRITE -/

/-- A Lodger's permitted access that no target takes. -/
theorem exec_reservedAccess_lodger {s : State} {n : Fin 4} {user : Bool} {kind : AccessKind} {addr : Nat}
    (hmay : s.may n user kind addr) (size : Nat) :
    exec (.reservedAccess (.lodger n user) kind addr size) s =
      .next (if unreachable kind addr size then s.answerError (.lodger n user) kind addr else s) := by
  simp only [exec, execReservedAccess, State.access_lodger hmay, State.reserved]

/-- A Carder channel's, which then takes the course of the access that stands at the address. -/
theorem exec_reservedAccess_carder {s : State} (c : Fin 24) (hb : s.busUp = true) {kind : AccessKind} {addr size : Nat}
    (hu : unreachable kind addr size = true) :
    exec (.reservedAccess (.carder c) kind addr size) s = .next (s.errored.chanAccess c kind addr) := by
  have hw : ∀ n user, Requester.carder c ≠ .lodger n user := fun _ _ h => Requester.noConfusion h
  simp only [exec, execReservedAccess, State.access_master hw hb, hu, if_true, State.reserved, State.answerError_master s hw]

/-- R634: another master sees the error response and nothing else. -/
theorem exec_reservedAccess_master {s : State} {who : Requester} (hw : ∀ n user, who ≠ .lodger n user)
    (hc : ∀ c, who ≠ .carder c) (hb : s.busUp = true) {kind : AccessKind} {addr size : Nat} (hu : unreachable kind addr size = true) :
    exec (.reservedAccess who kind addr size) s = .next s.errored := by
  cases who with
  | lodger n user => exact absurd rfl (hw n user)
  | carder c => exact absurd rfl (hc c)
  | _ =>
    simp only [exec, execReservedAccess, State.access_master hw hb, hu, if_true, State.reserved,
      State.answerError_master s hw]

/-- R14: a Lodger's narrow or misaligned write of a register reaches nothing. -/
theorem exec_registerWrite_odd {s : State} {n : Fin 4} {user : Bool} {addr size : Nat} (hmay : s.may n user .store addr)
    (hwin : (windowOf addr).isSome = true) (hodd : size ≠ 4 ∨ addr % 4 ≠ 0) (w : Word) :
    exec (.registerWrite { who := .lodger n user } addr size w) s = .next (s.answerError (.lodger n user) .store addr) := by
  have hnone : (windowOf addr).isNone = false := by simpa using hwin
  have hmiss : ¬ (size = 4 ∧ addr % 4 = 0) := by omega
  simp only [exec, execRegisterWrite, hnone, State.arbitrated_unrefused, State.access_lodger hmay, hmiss, if_false,
    Bool.false_eq_true]

/-- A fetch outside main SRAM that a region permits (R635). -/
theorem exec_fenceFault_fetch {s : State} {n : Fin 4} {user : Bool} {addr : Nat} (hmay : s.may n user .fetch addr)
    (hout : inSram addr = false) :
    exec (.fenceFault n user .fetch addr) s = .next (s.answerError (.lodger n user) .fetch addr) := by
  simp only [exec, execFenceFault, State.access_lodger hmay, inSram_eq_false_iff.mp hout, not_false_eq_true, and_self, if_true]

/-- The channel's course, from the answer on the bus to the halted channel. -/
theorem State.ChanHalted.after_error {s u : State} {c : Fin 24} {kind addr : Nat}
    (h : State.ChanHalted c kind addr s.errored u) :
    (u.chan c).st = .halted ∧ (u.chan c).errKind = kind ∧ (u.chan c).errAddr = addr ∧ (u.chan c).reads = [] ∧
      (u.chan c).haltEv = true ∧ (∀ d, d ≠ c → u.chan d = s.chan d) ∧
      u = { s with bus := { data := 0, outcome := .error }, carder := u.carder } := by
  obtain ⟨hst, hkind, haddr, hreads, hev, hothers, k, rfl⟩ := h
  exact ⟨hst, hkind, haddr, hreads, hev, hothers, rfl⟩

/-- Settles O31: `unreachable` is the statement's `lost`; the error response is all that a master but the Carder sees, and a
standing beat or burst of a channel with RETRY 0 halts it (`chanAccess_load_reserved`, `chanAccess_store_reserved`). -/
theorem reservedAccesses : Obligations.ReservedAccesses := by
  unfold Obligations.ReservedAccesses
  intro lost
  refine ⟨?lodger, ?master, ?channel, ?taken, ?register⟩
  case lodger =>
    rintro s n user kind addr size hmay c (⟨rfl, hl⟩ | ⟨rfl, rfl, hout⟩)
    · rw [exec_reservedAccess_lodger hmay, if_pos (unreachable_iff.mpr hl), State.answerError_lodger]
    · rw [exec_fenceFault_fetch hmay hout, State.answerError_lodger]
  case master =>
    intro s who kind addr size hw hb hl hidle
    by_cases hc : ∀ c, who ≠ .carder c
    · exact exec_reservedAccess_master hw hc hb (unreachable_iff.mpr hl)
    · obtain ⟨c, rfl⟩ : ∃ c, who = .carder c := by simpa using hc
      obtain ⟨hr, hd⟩ := hidle c rfl
      rw [exec_reservedAccess_carder c hb (unreachable_iff.mpr hl), State.chanAccess_none (s := s.errored) hr hd]
      rfl
  case channel =>
    intro s c addr size hb hm hback hretry
    have unreached : ∀ kind, unreachable kind addr size = true := fun _ => unreachable_iff.mpr (.inl hm)
    constructor
    · rintro r k hr htag hf rfl hgot hleft
      exact ⟨_, exec_reservedAccess_carder c hb (unreached .load),
        (State.chanAccess_load_reserved (s := s.errored) hm hback hretry hr htag hf hgot hleft).after_error⟩
    · rintro hw rfl
      exact ⟨_, exec_reservedAccess_carder c hb (unreached .store),
        (State.chanAccess_store_reserved (s := s.errored) hm hretry hw).after_error⟩
  case taken =>
    intro s n user kind addr size hmay hl
    rw [exec_reservedAccess_lodger hmay, if_neg (mt unreachable_iff.mp hl)]
  case register =>
    intro s n user addr size w hmay hwin hodd
    rw [exec_registerWrite_odd hmay hwin hodd, State.answerError_lodger]
    rfl

end Sys2Proof.Machine
end

section
/-! PROOFS. A register written by its address (R13, R14, R636). -/

namespace Sys2Proof.Machine

/-! ### What a word written at an address reaches (Table 19-1) -/

/-- What an access comes to depends on what it does in the present state only. -/
theorem State.access_congr {s : State} {f g : State → State} (h : f s = g s) (who : Requester) (kind : AccessKind) (addr : Nat) :
    s.access who kind addr f = s.access who kind addr g := by
  cases who <;> simp [State.access, h]

/-- R13: an aligned word reaches its register once the access is permitted and granted. -/
theorem exec_registerWrite_word (a : Access) {addr : Nat} (hwin : (windowOf addr).isSome = true) (hal : addr % 4 = 0) (w : Word)
    (s : State) : exec (.registerWrite a addr 4 w) s =
      .next (s.arbitrated a .store addr fun s => (s.answer 0).regWrite a.who addr w) := by
  have hnone : (windowOf addr).isNone = false := by simpa using hwin
  simp only [exec, execRegisterWrite, hnone, hal, and_self, if_true, Bool.false_eq_true, if_false]

/-- The same for a Lodger's access that a region permits. -/
theorem exec_registerWrite_lodger {s : State} {n : Fin 4} {user : Bool} {addr : Nat} (hmay : s.may n user .store addr)
    (hwin : (windowOf addr).isSome = true) (hal : addr % 4 = 0) (w : Word) :
    exec (.registerWrite { who := .lodger n user } addr 4 w) s = .next ((s.answer 0).regWrite (.lodger n user) addr w) := by
  rw [exec_registerWrite_word _ hwin hal, State.arbitrated_unrefused, State.access_lodger hmay]

theorem State.regWrite_alarm (s : State) (who : Requester) (w : Word) : s.regWrite who 0x40001020 w = s.setAlarm w := rfl

theorem State.regWrite_doClr (s : State) (who : Requester) (w : Word) : s.regWrite who 0x4004030C w = s.doClear w := rfl

theorem State.regWrite_memClear (s : State) (n : Fin 4) (user : Bool) (w : Word) :
    s.regWrite (.lodger n user) 0x40003014 w = s.memClear n user w.toNat := rfl

theorem State.regWrite_pixel (s : State) (who : Requester) (w : Word) :
    s.regWrite who 0x40090040 w = s.panelBusWrite 0x40 w := rfl

/-- The windows behind the crossings of R636, each at one aligned register. -/
theorem crossing_register {base off : Nat} (h : (base, off) ∈ [(0x40010000, 0x8), (0x40020000, 0xC), (0x40030000, 0x1E8),
    (0x40060000, 0x10), (0x40070000, 0x40C)]) :
    (windowOf (base + off)).isSome = true ∧ (base + off) % 4 = 0 ∧
      ∀ (s : State) (who : Requester) (w : Word), s.regWrite who (base + off) w = s.crossingWrite base off w := by
  simp only [List.mem_cons, Prod.mk.injEq, List.not_mem_nil, or_false] at h
  obtain ⟨rfl, rfl⟩ | ⟨rfl, rfl⟩ | ⟨rfl, rfl⟩ | ⟨rfl, rfl⟩ | ⟨rfl, rfl⟩ := h <;> exact ⟨rfl, rfl, fun _ _ _ => rfl⟩

/-- With the SNS clock running, a write of the SNS window is the block's own. -/
theorem State.regWrite_sns {s : State} (hclk : s.blocksClocked = true) (who : Requester) (w : Word) :
    s.regWrite who 0x4001024C w = s.cntClear w ∧
    s.regWrite who 0x40010008 w = s.snsWrite 0x8 w ∧ s.regWrite who 0x40010000 w = s.snsWrite 0 w :=
  ⟨s.crossingWrite_through hclk 0x40010000 0x24C w, s.crossingWrite_through hclk 0x40010000 0x8 w,
    s.crossingWrite_through hclk 0x40010000 0 w⟩

theorem clampNat_bounds (x : Nat) {lo hi : Nat} (h : lo ≤ hi) : lo ≤ clampNat x lo hi ∧ clampNat x lo hi ≤ hi := by
  unfold clampNat
  split
  · omega
  · split <;> omega

/-! ### When the blocks' clocks run (R163, R636) -/

theorem State.blocksClocked_of_awake {s : State} (h : s.awake = true) : s.blocksClocked = true := by
  obtain ⟨hlive, hmode⟩ := Bool.and_eq_true_iff.mp h
  obtain hp | hp := of_decide_eq_true hlive <;> simpa [State.blocksClocked, hp] using hmode

/-- From the beginning of a boot to step 14 the blocks stand still. -/
theorem State.blocksClocked_of_booting {s : State} (hink : s.inkAlive = true) (hlive : s.live = false) :
    s.blocksClocked = false := by
  obtain ⟨hrun, hoff⟩ := not_or.mp (of_decide_eq_false hlive)
  cases hp : s.power.phase with
  | running => exact absurd hp hrun
  | offWait => exact absurd hp hoff
  | shutdown => simp [State.inkAlive, hp] at hink
  | _ => simp [State.blocksClocked, hp]

/-- A row of the table that is a Lodger's write of one register, and the write of that register by its address, are one. -/
theorem exec_registerWrite_row {s : State} {n : Fin 4} {user : Bool} {addr : Nat} {w : Word} {f : State → State}
    (hwin : (windowOf addr).isSome = true) (hal : addr % 4 = 0) (h : (s.answer 0).regWrite (.lodger n user) addr w = f s) :
    exec (.registerWrite { who := .lodger n user } addr 4 w) s = .next (s.access (.lodger n user) .store addr f) := by
  rw [exec_registerWrite_word _ hwin hal, State.arbitrated_unrefused]
  exact congrArg _ (State.access_congr h _ _ _)

/-- Settles O40: REGISTER_WRITE comes down to `regWrite` of the address (`exec_registerWrite_word`), which is what the row of
that register does. -/
theorem registerWrites : Obligations.RegisterWrites := by
  unfold Obligations.RegisterWrites
  refine ⟨?rows, ?odd, ?held, fun s => State.blocksClocked_of_awake, fun s => State.blocksClocked_of_booting, ?sense⟩
  case rows =>
    intro s n user w
    refine ⟨?alarm, fun hclk => ?cnt, ?dos, fun refused => ?clear, fun hpnl => ?pixel⟩
    case alarm => exact exec_registerWrite_row rfl rfl (State.regWrite_alarm _ _ _)
    case cnt => exact exec_registerWrite_row rfl rfl (State.regWrite_sns (s := s.answer 0) hclk _ _).1
    case dos => exact exec_registerWrite_row rfl rfl (State.regWrite_doClr _ _ _)
    case clear =>
      rw [exec_registerWrite_word _ rfl rfl]
      simp only [State.regWrite_memClear]
      rfl
    case pixel =>
      refine exec_registerWrite_row rfl rfl ?_
      have hpnl' : (s.answer 0).panelAllowed = true := hpnl
      simp only [State.regWrite_pixel, State.panelBusWrite, State.panelCommand, hpnl', if_true]
      rfl
  case odd =>
    intro s n user addr size w hmay hwin hodd
    rw [exec_registerWrite_odd hmay hwin hodd, State.answerError_lodger]
    rfl
  case held =>
    intro s who base off w hw hb hclk hreg
    obtain ⟨hwin, hal, hcross⟩ := crossing_register hreg
    rw [exec_registerWrite_word _ hwin hal, State.arbitrated_unrefused, State.access_master hw hb, hcross,
      State.crossingWrite_held (s := s.answer 0) hclk]
    simp only [decide_not]
    rfl
  case sense =>
    intro s n user w hclk
    obtain ⟨-, hint, hctl⟩ := State.regWrite_sns (s := s.answer 0) hclk (.lodger n user) w
    constructor
    · intro hmay
      rw [exec_registerWrite_lodger hmay rfl rfl, hint]
      rfl
    · intro hmay
      have period := clampNat_bounds (bits w 15 8) (lo := 5) (hi := 100) (by decide)
      have night := clampNat_bounds (bits w 23 16) (lo := 5) (hi := 100) (by decide)
      refine ⟨_, exec_registerWrite_lodger hmay rfl rfl w, ?_⟩
      rw [hctl]
      exact ⟨period.1, period.2, night.1, night.2, rfl, rfl, rfl, rfl, rfl⟩

end Sys2Proof.Machine
end

section
/-! PROOFS. What journaling, sending and booking leave unchanged. -/

namespace Sys2Proof.Machine

/-! ### The frames of journaling, sending and booking -/

/-- Only what a message leaves behind may have changed: the Waybill, the Ledger's write buffer and Gridis. -/
def State.MessageOnly (s t : State) : Prop := ∃ w l g, t = { s with wbl := w, ledger := l, grd := g }

/-- The same, and the bookings. -/
def State.BookOnly (s t : State) : Prop := ∃ w l g b, t = { s with wbl := w, ledger := l, grd := g, book := b }

theorem State.MessageOnly.refl (s : State) : State.MessageOnly s s := ⟨_, _, _, rfl⟩

theorem State.MessageOnly.trans {s t u : State} (h : State.MessageOnly s t) (h' : State.MessageOnly t u) : State.MessageOnly s u := by
  obtain ⟨w, l, g, rfl⟩ := h
  obtain ⟨w', l', g', rfl⟩ := h'
  exact ⟨w', l', g', rfl⟩

theorem State.BookOnly.refl (s : State) : State.BookOnly s s := ⟨_, _, _, _, rfl⟩

theorem State.BookOnly.trans {s t u : State} (h : State.BookOnly s t) (h' : State.BookOnly t u) : State.BookOnly s u := by
  obtain ⟨w, l, g, b, rfl⟩ := h
  obtain ⟨w', l', g', b', rfl⟩ := h'
  exact ⟨w', l', g', b', rfl⟩

theorem State.MessageOnly.bookOnly {s t : State} (h : State.MessageOnly s t) : State.BookOnly s t := by
  obtain ⟨w, l, g, rfl⟩ := h
  exact ⟨w, l, g, s.book, rfl⟩

/-- A fold of steps that each keep a frame keeps it. -/
theorem foldl_keeps {α : Type} {R : State → State → Prop} (refl : ∀ s, R s s) (trans : ∀ {s t u}, R s t → R t u → R s u)
    {f : State → α → State} (step : ∀ s a, R s (f s a)) (l : List α) (s : State) : R s (l.foldl f s) := by
  induction l generalizing s with
  | nil => exact refl s
  | cons a l ih => exact trans (step s a) (ih (f s a))

theorem State.mapWbl_messageOnly (s : State) (f : Waybill → Waybill) : State.MessageOnly s (s.mapWbl f) := ⟨_, _, _, rfl⟩

theorem State.mapGrd_messageOnly (s : State) (f : Grd → Grd) : State.MessageOnly s (s.mapGrd f) := ⟨_, _, _, rfl⟩

theorem State.writeRec_messageOnly (s : State) (k : Fin 128) (origin : Nat) (body : RecBody) :
    State.MessageOnly s (s.writeRec k origin body).2 := ⟨_, _, _, rfl⟩

theorem State.issued_messageOnly (s : State) (q : Nat) : State.MessageOnly s (s.issued q) := ⟨_, _, _, rfl⟩

theorem State.placeBody_messageOnly (s : State) (body : RecBody) : State.MessageOnly s (s.placeBody body).2 := by
  cases body <;> exact ⟨_, _, _, rfl⟩

theorem State.bufferLine_messageOnly (s : State) (e : BufEntry) : State.MessageOnly s (s.bufferLine e) := by
  simp only [State.bufferLine]
  split
  · split <;> exact ⟨_, _, _, rfl⟩
  · exact ⟨_, _, _, rfl⟩

theorem State.issueLines_messageOnly (s : State) (q : Nat) : State.MessageOnly s (s.issueLines q) := by
  simp only [State.issueLines]
  split
  · exact .refl s
  · split
    · exact s.bufferLine_messageOnly _
    · exact (s.bufferLine_messageOnly _).trans (State.bufferLine_messageOnly _ _)
    · exact .refl s

theorem State.inkRec_messageOnly (s : State) (origin : Nat) (body : RecBody) : State.MessageOnly s (s.inkRec origin body) := by
  simp only [State.inkRec]
  split
  · exact ((s.placeBody_messageOnly body).trans (State.writeRec_messageOnly _ _ origin _)).trans (State.issueLines_messageOnly _ _)
  · exact s.mapWbl_messageOnly _

theorem State.logEvent_messageOnly (s : State) (event : Nat) (body : List Byte) : State.MessageOnly s (s.logEvent event body) :=
  s.inkRec_messageOnly _ _

theorem State.enqueue_messageOnly (s : State) (c : Fin 2) (t : TxFrame) : State.MessageOnly s (s.enqueue c t) := ⟨_, _, _, rfl⟩

theorem State.nextSeqOf_messageOnly (s : State) (cls : Fin 8) : State.MessageOnly s (s.nextSeqOf cls).2 := ⟨_, _, _, rfl⟩

theorem State.placeFrame_messageOnly (s : State) (cs : List (Fin 2)) (t : TxFrame) : State.MessageOnly s (s.placeFrame cs t) := by
  have queued : State.MessageOnly s (cs.foldl (fun s c => s.enqueue c t) s) :=
    foldl_keeps .refl .trans (fun s c => s.enqueue_messageOnly c t) cs s
  simp only [State.placeFrame]
  split
  · exact queued
  · exact queued.trans (State.issued_messageOnly _ _)

theorem State.placeMust_messageOnly (s : State) (cs : List (Fin 2)) (t : TxFrame) : State.MessageOnly s (s.placeMust cs t) := by
  simp only [State.placeMust]
  split
  · exact s.mapGrd_messageOnly _
  · exact s.placeFrame_messageOnly cs t

theorem State.sendMust_messageOnly (s : State) (cls : Fin 8) (field : Nat) (data : List Byte) :
    State.MessageOnly s (s.sendMust cls field data) := by
  refine (s.nextSeqOf_messageOnly cls).trans ?_
  simp only [State.sendMust, State.sendJournaled]
  split
  · exact (State.writeRec_messageOnly _ _ _ _).trans (State.placeMust_messageOnly _ _ _)
  · exact (State.mapWbl_messageOnly _ _).trans (State.placeMust_messageOnly _ _ _)

theorem State.mapBook_bookOnly (s : State) (f : Book → Book) : State.BookOnly s (s.mapBook f) := ⟨_, _, _, _, rfl⟩

theorem State.mapOwn_bookOnly (s : State) (k : Fin 32) (f : Booking → Booking) : State.BookOnly s (s.mapOwn k f) :=
  s.mapBook_bookOnly _

theorem State.bookInt_bookOnly (s : State) (b : Nat) : State.BookOnly s (s.bookInt b) := s.mapBook_bookOnly _

theorem State.bookMust_bookOnly (s : State) (kind : Nat) (k : Fin 32) (cause : Nat) : State.BookOnly s (s.bookMust kind k cause) :=
  (s.sendMust_messageOnly _ _ _).bookOnly

theorem State.logWithdrawn_bookOnly (s : State) (k : Fin 32) (cause : Nat) : State.BookOnly s (s.logWithdrawn k cause) :=
  (s.logEvent_messageOnly _ _).bookOnly

theorem State.withdrawOwn_bookOnly (s : State) (k : Fin 32) (cause : Nat) : State.BookOnly s (s.withdrawOwn k cause) :=
  (s.mapOwn_bookOnly k _).trans (State.bookMust_bookOnly _ 2 k cause)

/-- R539: a booking is withdrawn by the device itself. -/
theorem State.withdrawDue_bookOnly (s : State) (k : Fin 32) (cause : Nat) : State.BookOnly s (s.withdrawDue k cause) :=
  ((s.withdrawOwn_bookOnly k cause).trans (State.logWithdrawn_bookOnly _ k cause)).trans (State.bookInt_bookOnly _ 4)

/-- R539: a booking is confirmed. -/
theorem State.confirmOwn_bookOnly (s : State) (k : Fin 32) : State.BookOnly s (s.confirmOwn k) :=
  ((s.mapOwn_bookOnly k _).trans (State.bookMust_bookOnly _ 1 k 0)).trans (State.bookInt_bookOnly _ 1)

/-- What a step of the clock brings about for the own bookings touches nothing but them, their messages and their log entries. -/
theorem State.stepBookings_bookOnly (s : State) : State.BookOnly s s.stepBookings := by
  simp only [State.stepBookings]
  split
  · exact .refl s
  · refine foldl_keeps .refl .trans (fun s k => ?_) _ s
    split
    · split
      · exact s.withdrawDue_bookOnly k 2
      · split
        · exact s.confirmOwn_bookOnly k
        · exact s.withdrawDue_bookOnly k 1
    · exact .refl s

end Sys2Proof.Machine
end

section
/-! PROOFS. Group time (R516 to R525). -/

namespace Sys2Proof.Machine

/-! ### The coaching clock moves (R521) -/

/-- The clock after a step, before what the step brings about. -/
def State.stepped (s : State) (off : Int) : State :=
  (s.mapGrp fun g => { g with
    clock := ((g.clock : Int) + off).toNat, slewLeft := 0, slewAcc := 0, steps := satInc 0xFFFF g.steps
    steppedAt := some s.now }).grpInt 1

theorem State.moveClock_slews (s : State) {off : Int} (h : off.natAbs < 2000000) :
    s.moveClock off = s.mapGrp fun g => { g with slewLeft := off, slewAcc := 0 } := if_neg (by omega)

theorem State.moveClock_steps (s : State) {off : Int} (h : 2000000 ≤ off.natAbs) :
    State.BookOnly (s.stepped off) (s.moveClock off) := by
  rw [State.moveClock, if_pos h]
  exact (State.logEvent_messageOnly (s.stepped off) _ _).bookOnly.trans (State.stepBookings_bookOnly _)

/-- A step shows in the clock, its count and GRP_INT.STEP. -/
theorem State.moveClock_steps_grp (s : State) {off : Int} (h : 2000000 ≤ off.natAbs) :
    (s.moveClock off).grp = { s.grp with
      clock := ((s.grp.clock : Int) + off).toNat, slewLeft := 0, slewAcc := 0, steps := satInc 0xFFFF s.grp.steps
      steppedAt := some s.now, int := s.grp.int ||| 2 } := by
  obtain ⟨w, l, g, b, e⟩ := s.moveClock_steps h
  rw [e]
  rfl

/-- However the clock moves, keys and outputs stay as they are, and what was heard of SYNC and FOLLOW. -/
theorem State.moveClock_keeps (s : State) (off : Int) :
    (s.moveClock off).keys = s.keys ∧ (s.moveClock off).gate = s.gate ∧ (s.moveClock off).grp.sync = s.grp.sync ∧
      (s.moveClock off).grp.goodAt = s.grp.goodAt := by
  by_cases h : off.natAbs < 2000000
  · rw [s.moveClock_slews h]
    exact ⟨rfl, rfl, rfl, rfl⟩
  · obtain ⟨w, l, g, b, e⟩ := s.moveClock_steps (not_lt.mp h)
    rw [e]
    exact ⟨rfl, rfl, rfl, rfl⟩

/-! ### Group time and the RTC (R522, R525) -/

/-- R522: the device is on group time, as the master, or within 3 s of a good FOLLOW. -/
def State.timeHolds (s : State) : Bool := s.isMaster || s.grp.goodAt.any fun t => decide (s.now ≤ t + 3000000)

theorem State.timeHolds_of_good {s : State} (h : s.grp.goodAt = some s.now) : s.timeHolds = true := by
  simp [State.timeHolds, h]

theorem State.timeHolds_of_lost {s : State} (h : s.grp.goodAt = none) : s.timeHolds = s.isMaster := by
  simp [State.timeHolds, h]

theorem State.judgeTime_eq (s : State) :
    s.judgeTime = s.mapGrp fun g => { g with
      onTime := s.timeHolds, int := if s.timeHolds = g.onTime then g.int else g.int ||| 4 } := by
  have judged : s.judgeTime = if s.timeHolds = s.grp.onTime then s
      else (s.mapGrp fun g => { g with onTime := s.timeHolds }).grpInt 2 := by
    unfold State.judgeTime State.timeHolds
    cases s.grp.goodAt <;> rfl
  rw [judged]
  by_cases h : s.timeHolds = s.grp.onTime
  · simp only [h, State.mapGrp, if_true]
  · simp only [h, State.grpInt, State.mapGrp, if_false]
    rfl

theorem State.setRtc_power_only (s : State) : ∃ p, s.setRtc = { s with power := p } := by
  unfold State.setRtc
  split
  · exact ⟨_, rfl⟩
  · exact ⟨_, rfl⟩

@[simp] theorem State.setRtc_grp (s : State) : s.setRtc.grp = s.grp := by
  obtain ⟨p, hp⟩ := s.setRtc_power_only
  rw [hp]

@[simp] theorem State.setRtc_grd (s : State) : s.setRtc.grd = s.grd := by
  obtain ⟨p, hp⟩ := s.setRtc_power_only
  rw [hp]

@[simp] theorem State.setRtc_keys (s : State) : s.setRtc.keys = s.keys := by
  obtain ⟨p, hp⟩ := s.setRtc_power_only
  rw [hp]

@[simp] theorem State.setRtc_gate (s : State) : s.setRtc.gate = s.gate := by
  obtain ⟨p, hp⟩ := s.setRtc_power_only
  rw [hp]

@[simp] theorem State.setRtc_can (s : State) (c : Fin 2) : s.setRtc.can c = s.can c := by
  simp [State.can]

theorem State.setRtc_sets {s : State} (hon : s.grp.onTime = true) (hrtc : s.power.rtc ≠ s.coachS) :
    s.setRtc.power = { s.power with rtc := s.coachS, rtcSet := true } := by
  simp [State.setRtc, hon, hrtc]

theorem State.setRtc_keeps {s : State} (h : s.grp.onTime = false ∨ s.power.rtc = s.coachS) : s.setRtc = s := by
  obtain h | h := h <;> simp [State.setRtc, h]

/-! ### SYNC and FOLLOW sent (R519, R520) -/

theorem State.tiers_self (s : State) (seg : Nat) : s.tiers seg seg = some 0 := by
  simp [State.tiers, List.range, List.range.loop, reach]

theorem State.segOf_own (s : State) : s.segOf s.grd.node = s.grd.seg := if_pos rfl

/-- A master that is no bridge serves its own segment, on controller A while that is ACTIVE. -/
theorem State.timeRoutes_master {s : State} (hm : s.grp.master = some s.grd.node) (hb : s.grd.bridge = false)
    (ha : (s.can 0).st = .active) : s.timeRoutes = [0] := by
  have source : s.sourceOf s.grd.seg = some s.grd.node := by simp [State.sourceOf, hm, s.segOf_own]
  simp [State.timeRoutes, hb, source, ha]

/-- A message for one controller with a free buffer is placed there under the next SEQ of its class. -/
theorem State.sendOn_one {s : State} {c : Fin 2} (hc : (s.can c).tx.length < 32) (cls : Fin 8) (field : Nat) (dest : Option Nat)
    (data : List Byte) : s.sendOn [c] cls field dest data false = s.mapGrd fun g => { g with
      seqs := vmod g.seqs cls fun q => (q + 1) % 256
      cans := vmod g.cans c fun k => { k with
        tx := k.tx ++ [{ frame := s.mkFrame cls.val field (vget s.grd.seqs cls) false dest data }] } } := by
  have placed : (vget s.grd.cans c).tx.length < 32 := hc
  simp only [State.sendOn, State.nextSeqOf, List.foldl_cons, List.foldl_nil, State.enqueue, State.mapCan, vmod, State.mapGrd, placed,
    if_true]
  rfl

/-- Data of the FOLLOW that goes after the next SYNC of the master itself, at tier 0 (Table 15-3). -/
def State.followData (s : State) : List Byte :=
  leBytes 1 (vget s.grd.seqs 2) ++ leBytes 1 s.followFlags ++ leBytes 1 s.grd.node ++ leBytes 1 0 ++ leBytes 4 s.coachS ++
    leBytes 4 (s.grp.clock % 1000000)

/-- A SYNC and its FOLLOW on controller A. -/
def State.syncPair (s : State) : State :=
  (s.sendOn [0] 2 0 none [] false).sendOn [0] 2 (2 ^ 14) none s.followData false

/-- R520: the master sends one SYNC and one FOLLOW, after R525 has set its RTC. -/
theorem State.syncSend_master {s : State} (hm : s.isMaster = true) (hb : s.grd.bridge = false) (ha : (s.can 0).st = .active)
    (hfree : (s.can 0).tx.length < 32) : s.syncSend = s.setRtc.syncPair := by
  have master : s.grp.master = some s.grd.node := of_decide_eq_true hm
  have hmaster : s.setRtc.grp.master = some s.setRtc.grd.node := by simp [master]
  have routes := State.timeRoutes_master hmaster (by simp [hb]) (by simp [ha])
  have first := State.sendOn_one (s := s.setRtc) (c := 0) (by simp [hfree]) 2 0 none []
  simp only [State.syncSend, hm, if_true, routes, List.foldl_cons, List.foldl_nil, hmaster, State.segOf_own, State.tiers_self,
    State.syncPair, first]
  simp only [State.mapGrd_grp, hmaster, Option.getD_some]
  rfl

/-- Both frames stand in buffers, under consecutive numbers, and nothing outside Gridis has changed. -/
theorem State.syncPair_sent {s : State} (hfree : (s.can 0).tx.length < 31) :
    (s.syncPair.can 0).tx = (s.can 0).tx ++
        [{ frame := s.mkFrame 2 0 (vget s.grd.seqs 2) false none [] },
         { frame := s.mkFrame 2 (2 ^ 14) ((vget s.grd.seqs 2 + 1) % 256) false none s.followData }] ∧
      ∃ g, s.syncPair = { s with grd := g } := by
  have second : ((s.sendOn [0] 2 0 none [] false).can 0).tx.length < 32 := by
    rw [State.sendOn_one (by omega)]
    simpa [State.can] using Nat.succ_lt_succ hfree
  rw [State.syncPair, State.sendOn_one second, State.sendOn_one (by omega)]
  refine ⟨?_, _, rfl⟩
  simp only [State.can, State.mapGrd_grd, vget_vmod_same, List.append_assoc, List.cons_append, List.nil_append]
  rfl

/-! ### A FOLLOW received (R521, R522, R525) -/

/-- What a FOLLOW that matches its SYNC leaves in the group registers, before the clock moves. -/
def State.followed (s : State) (off : Int) (flags : Nat) : State :=
  s.mapGrp fun g => { g with
    sync := none, offset := sat32 off, mext := flags % 2 = 1, mstepped := flags / 2 % 2 = 1
    goodAt := if off.natAbs ≤ 250000 then some s.now else g.goodAt }

/-- A FOLLOW that matched, to its end: the clock has moved by the offset, group time is judged, and the RTC follows. -/
def State.followDone (s : State) (off : Int) (flags : Nat) : State :=
  (((s.followed off flags).moveClock off).judgeTime).setRtc

theorem State.onFollow_matches {s : State} {y : SyncSeen} (hsync : s.grp.sync = some y) {src : Nat}
    (hsource : s.grp.source = some src) (hsrc : y.src = src) (flags secs micros : Nat) :
    s.onFollow src y.seq 0 flags secs micros =
      s.followDone (((secs * 1000000 + micros : Nat) : Int) - y.clock) flags := by
  simp only [State.onFollow, hsync, hsource, hsrc, and_self, if_true, State.followDone, State.followed]

/-- A FOLLOW that matches no kept SYNC, or does not come from the source of the segment, is ignored. -/
theorem State.onFollow_ignored {s : State} {src seq hops : Nat}
    (h : s.grp.sync = none ∨ hops ≠ 0 ∨ s.grp.source ≠ some src ∨ ∀ y, s.grp.sync = some y → y.src ≠ src ∨ y.seq ≠ seq)
    (flags secs micros : Nat) : s.onFollow src seq hops flags secs micros = s := by
  unfold State.onFollow
  cases hsync : s.grp.sync with
  | none => rfl
  | some y =>
    refine if_neg fun ⟨hhops, hsource, hsrc, hseq⟩ => ?_
    obtain h | h | h | h := h
    · exact absurd (hsync.symm.trans h) (by simp)
    · exact h hhops
    · exact h hsource
    · exact (h y hsync).elim (· hsrc) (· hseq)

theorem sat32_of_small {off : Int} (h : off.natAbs < 2000000) : sat32 off = off := by
  simp only [sat32]
  omega

/-- Whatever the offset, the wait for this FOLLOW is over, and keys and outputs stay. -/
theorem State.followDone_keeps (s : State) (off : Int) (flags : Nat) :
    (s.followDone off flags).grp.sync = none ∧ (s.followDone off flags).keys = s.keys ∧
      (s.followDone off flags).gate = s.gate ∧
      (s.followDone off flags).grp.goodAt = if off.natAbs ≤ 250000 then some s.now else s.grp.goodAt := by
  obtain ⟨hkeys, hgate, hsync, hgood⟩ := (s.followed off flags).moveClock_keeps off
  simp only [State.followDone, State.setRtc_grp, State.setRtc_keys, State.setRtc_gate, State.judgeTime_eq]
  exact ⟨hsync, hkeys, hgate, hgood⟩

/-- An offset below 2 s is slewed, and nothing but the group registers and the RTC changes. -/
theorem State.followDone_slews (s : State) {off : Int} (h : off.natAbs < 2000000) (flags : Nat) :
    (s.followDone off flags).grp.offset = off ∧ (s.followDone off flags).grp.slewLeft = off ∧
      (s.followDone off flags).grp.clock = s.grp.clock ∧
      s.followDone off flags = { s with grp := (s.followDone off flags).grp, power := (s.followDone off flags).power } := by
  have grp : (s.followDone off flags).grp.offset = sat32 off ∧ (s.followDone off flags).grp.slewLeft = off ∧
      (s.followDone off flags).grp.clock = s.grp.clock := by
    simp only [State.followDone, State.setRtc_grp, State.judgeTime_eq, State.moveClock_slews _ h, State.followed,
      State.mapGrp_grp, and_self]
  have judged : ∃ g, ((s.followed off flags).moveClock off).judgeTime = { s with grp := g } := by
    rw [State.judgeTime_eq, State.moveClock_slews _ h]
    exact ⟨_, rfl⟩
  obtain ⟨g, hg⟩ := judged
  obtain ⟨p, hp⟩ := State.setRtc_power_only { s with grp := g }
  rw [← hg] at hp
  refine ⟨grp.1.trans (sat32_of_small h), grp.2.1, grp.2.2, ?_⟩
  rw [State.followDone, hp, hg]

/-- An offset of 2 s or more steps the clock, which is counted and shown in GRP_INT. -/
theorem State.followDone_steps (s : State) {off : Int} (h : 2000000 ≤ off.natAbs) (flags : Nat) :
    ((s.followDone off flags).grp.clock : Int) = max 0 ((s.grp.clock : Int) + off) ∧
      (s.followDone off flags).grp.steps = satInc 0xFFFF s.grp.steps ∧
      (s.followDone off flags).grp.int.getLsbD 1 = true := by
  simp only [State.followDone, State.setRtc_grp, State.judgeTime_eq, State.mapGrp_grp, State.moveClock_steps_grp _ h]
  refine ⟨by rw [Int.toNat_eq_max, max_comm]; rfl, rfl, ?_⟩
  split <;> simp [State.followed]

/-- R522, R525: within 250 ms the device is on group time, and its RTC takes the coaching seconds. -/
theorem State.followDone_onTime (s : State) {off : Int} (h : off.natAbs ≤ 250000) (flags : Nat) :
    (s.followDone off flags).grp.onTime = true ∧
      (s.power.rtc ≠ s.coachS →
        (s.followDone off flags).power.rtc = s.coachS ∧ (s.followDone off flags).power.rtcSet = true) := by
  have good : ((s.followed off flags).moveClock off).timeHolds = true := by
    rw [State.moveClock_slews _ (by omega)]
    exact State.timeHolds_of_good (if_pos h)
  have on : (((s.followed off flags).moveClock off).judgeTime).grp.onTime = true := by rw [State.judgeTime_eq]; exact good
  refine ⟨by rw [State.followDone, State.setRtc_grp]; exact on, fun hrtc => ?_⟩
  have same : (((s.followed off flags).moveClock off).judgeTime).power = s.power ∧
      (((s.followed off flags).moveClock off).judgeTime).coachS = s.coachS := by
    rw [State.judgeTime_eq, State.moveClock_slews _ (by omega)]
    exact ⟨rfl, rfl⟩
  rw [State.followDone, State.setRtc_sets on (by rw [same.1, same.2]; exact hrtc), same.2]
  exact ⟨rfl, rfl⟩

/-- R522: without a good FOLLOW only the master stays on group time. -/
theorem State.timeLost_eq (s : State) : s.timeLost = s.mapGrp fun g => { g with
    goodAt := none, onTime := s.isMaster, int := if s.isMaster = g.onTime then g.int else g.int ||| 4 } := by
  rw [State.timeLost, State.judgeTime_eq, State.timeHolds_of_lost rfl]
  rfl

/-! ### The external source, and the commands of group time (R516, R518) -/

/-- The external time less the coaching clock. -/
def State.extOffset (s : State) : Int := ((s.grp.extS * 1000000 + s.grp.extUs : Nat) : Int) - s.grp.clock

/-- SET seen by the master: the source is valid, for the group too. -/
def State.extValid (s : State) : State := s.mapGrp fun g => { g with ext := true, mext := true }

theorem State.extSet_other {s : State} (hm : s.isMaster = false) : s.extSet = { s with grp := { s.grp with ext := true } } := by
  have hm' : (s.mapGrp fun g => { g with ext := true }).isMaster = false := hm
  simp only [State.extSet, hm', Bool.false_eq_true, if_false]
  rfl

theorem State.extSet_master {s : State} (hm : s.isMaster = true) : s.extSet = s.extValid.moveClock s.extOffset := by
  have hm' : (s.mapGrp fun g => { g with ext := true }).isMaster = true := hm
  simp only [State.extSet, hm', if_true]
  rfl

/-- Whichever way the clock moves, the source counts as valid. -/
theorem State.moveClock_ext (s : State) (off : Int) :
    (s.moveClock off).grp.ext = s.grp.ext ∧ (s.moveClock off).grp.mext = s.grp.mext := by
  by_cases h : off.natAbs < 2000000
  · rw [s.moveClock_slews h]
    exact ⟨rfl, rfl⟩
  · rw [s.moveClock_steps_grp (not_lt.mp h)]
    exact ⟨rfl, rfl⟩

/-- SET on the master makes the source valid and leaves keys and outputs alone, whatever the offset. -/
theorem State.extSet_keeps {s : State} (hm : s.isMaster = true) :
    s.extSet.grp.ext = true ∧ s.extSet.grp.mext = true ∧ s.extSet.keys = s.keys ∧ s.extSet.gate = s.gate := by
  rw [State.extSet_master hm]
  obtain ⟨hkeys, hgate, -⟩ := s.extValid.moveClock_keeps s.extOffset
  obtain ⟨hext, hmext⟩ := s.extValid.moveClock_ext s.extOffset
  exact ⟨hext, hmext, hkeys, hgate⟩

/-- An offset of 2 s or more takes the clock to the written time. -/
theorem State.extSet_steps {s : State} (hm : s.isMaster = true) (h : 2000000 ≤ s.extOffset.natAbs) :
    s.extSet.grp.clock = s.grp.extS * 1000000 + s.grp.extUs ∧ s.extSet.grp.steps = satInc 0xFFFF s.grp.steps ∧
      s.extSet.grp.int.getLsbD 1 = true ∧ s.extSet.grp.slewLeft = 0 := by
  rw [State.extSet_master hm, State.moveClock_steps_grp _ h]
  refine ⟨?_, rfl, by simp, rfl⟩
  change ((s.grp.clock : Int) + s.extOffset).toNat = _
  rw [State.extOffset]
  omega

/-- A smaller one is slewed. -/
theorem State.extSet_slews {s : State} (hm : s.isMaster = true) (h : s.extOffset.natAbs < 2000000) :
    s.extSet.grp.clock = s.grp.clock ∧ s.extSet.grp.slewLeft = s.extOffset ∧ s.extSet = { s with grp := s.extSet.grp } := by
  rw [State.extSet_master hm, State.moveClock_slews _ h]
  exact ⟨rfl, rfl, rfl⟩

theorem State.extEnd_eq (s : State) : s.extEnd = { s with grp := { s.grp with
    ext := false, mext := if s.isMaster then false else s.grp.mext } } := by
  simp only [State.extEnd, State.isMaster, decide_eq_true_eq]
  rfl

/-! ### The rows of group time -/

theorem State.onFrame_grouped {s : State} (h : s.grouped = true) (go : State → State) : s.onFrame go = go s := if_pos h

theorem State.onClock_grouped {s : State} (h : s.grouped = true) (go : State → State) : s.onClock go = go s := by
  obtain ⟨hawake, hstarted⟩ := Bool.and_eq_true_iff.mp h
  obtain ⟨hlive, -⟩ := Bool.and_eq_true_iff.mp hawake
  simp [State.onClock, hlive, hstarted]

theorem State.granted_timeShown (s : State) (refused : Nat) :
    (s.granted refused).grp = s.grp ∧ (s.granted refused).timeShown = s.timeShown := by
  unfold State.granted
  split <;> exact ⟨rfl, rfl⟩

/-- GRP_TIME_S shows the seconds, which saturate (R20), and a read latches the microseconds. -/
theorem State.readTime_eq (s : State) : (s.groupEffect 0x20).answer (s.groupRead 0x20) = { s with
    bus := { data := BitVec.ofNat 32 (min (s.timeShown / 1000000) (2 ^ 32 - 1)), outcome := .ok }
    grp := { s.grp with latchedUs := s.timeShown % 1000000 } } := by
  have shown : s.groupRead 0x20 = BitVec.ofNat 32 (min (s.timeShown / 1000000) (2 ^ 32 - 1)) := by
    change at_ 0 (satTo 32 (s.timeShown / 1000000)) = _
    simp only [at_, satTo, pow_zero, mul_one]
  rw [shown]
  rfl

theorem exec_extTimeSet {s : State} {n : Fin 4} {user : Bool} (h : s.may n user .store 0x40068038) :
    exec (.extTimeSet n user) s = .next (s.answer 0).extSet := by
  simp only [exec, execExtTimeSet, State.access_lodger h]

theorem exec_extTimeClear {s : State} {n : Fin 4} {user : Bool} (h : s.may n user .store 0x40068038) :
    exec (.extTimeClear n user) s = .next (s.answer 0).extEnd := by
  simp only [exec, execExtTimeClear, State.access_lodger h]

theorem exec_extValidExpiry {s : State} (h : s.live = true) : exec .extValidExpiry s = .next s.extEnd := by
  simp only [exec, execExtValidExpiry, h, if_true]

theorem exec_syncSend {s : State} (h : s.grouped = true) : exec .syncSend s = .next s.syncSend := by
  simp only [exec, execSyncSend, State.onFrame_grouped h]

theorem exec_sync {s : State} (h : s.grouped = true) (src seq hops ticks : Nat) :
    exec (.sync src seq hops ticks) s = .next (s.onSync src seq hops ticks) := by
  simp only [exec, execSync, State.onFrame_grouped h]

theorem exec_follow {s : State} (h : s.grouped = true) (src seq hops flags secs micros : Nat) :
    exec (.follow src seq hops flags secs micros) s = .next (s.onFollow src seq hops flags secs micros) := by
  simp only [exec, execFollow, State.onFrame_grouped h]

theorem exec_groupTimeLost {s : State} (h : s.grouped = true) : exec .groupTimeLost s = .next s.timeLost := by
  simp only [exec, execGroupTimeLost, State.onClock_grouped h]

theorem exec_grpTimeRead {s : State} {n : Fin 4} {user : Bool} (h : s.may n user .load 0x40068020) (refused : Nat) :
    exec (.grpTimeRead n user refused) s =
      .next (((s.granted refused).groupEffect 0x20).answer ((s.granted refused).groupRead 0x20)) := by
  simp only [exec, execGrpTimeRead, State.lodgerAccess, State.arbitrated, State.access_lodger h]

end Sys2Proof.Machine

namespace Sys2Proof

open Machine

/-- Settles O49: `moveClock_slews` and `moveClock_steps` say how an offset moves the clock, `syncSend_master` and
`syncPair_sent` what a master sends, `followDone_slews`, `followDone_steps` and `followDone_onTime` what a FOLLOW brings. -/
theorem groupTime : Obligations.GroupTime := by
  unfold Obligations.GroupTime
  refine ⟨?external, ?expiry, ?send, ?sync, ?follow, ?lost, ?read⟩
  case external =>
    intro s n user hmay
    rw [exec_extTimeSet hmay, exec_extTimeClear hmay, State.extEnd_eq]
    refine ⟨fun hm => ?_, fun hm => ?_, _, rfl, rfl, rfl⟩
    · rw [State.extSet_other (s := s.answer 0) hm]
      rfl
    · obtain ⟨hext, hmext, hkeys, hgate⟩ := State.extSet_keeps (s := s.answer 0) hm
      exact ⟨_, rfl, hext, hmext, hkeys, hgate, fun h => State.extSet_steps (s := s.answer 0) hm h,
        fun h => State.extSet_slews (s := s.answer 0) hm h⟩
  case expiry =>
    intro s hlive
    rw [exec_extValidExpiry hlive, State.extEnd_eq]
    exact ⟨_, rfl, rfl, fun hm => if_pos hm, rfl⟩
  case send =>
    rintro s q hgrouped hm hb ha hfree rfl
    rw [exec_syncSend hgrouped, State.syncSend_master hm hb ha (by omega)]
    obtain ⟨p, hp⟩ := s.setRtc_power_only
    obtain ⟨htx, g, hg⟩ := State.syncPair_sent (s := s.setRtc) (by simpa using hfree)
    have hpower : s.setRtc.syncPair.power = s.setRtc.power := by rw [hg]
    refine ⟨_, rfl, ?_, ?_, ?_, fun hon hrtc => hpower.trans (State.setRtc_sets hon hrtc),
      fun h => hpower.trans (by rw [State.setRtc_keeps h])⟩
    · rw [htx, hp]
      rfl
    · rw [hg, hp]
    · rw [hg, hp]
  case sync =>
    intro s src seq hops ticks hgrouped
    rw [exec_sync hgrouped]
    constructor
    · intro hhops hsource hother
      rw [State.onSync, if_pos ⟨hhops, hsource, hother⟩]
      rfl
    · intro h
      rw [State.onSync, if_neg (by tauto)]
  case follow =>
    intro s src seq hops flags secs micros hgrouped
    rw [exec_follow hgrouped]
    constructor
    · intro h
      rw [State.onFollow_ignored h]
    · rintro y hsync hsrc rfl rfl hsource off
      rw [State.onFollow_matches hsync hsource hsrc]
      obtain ⟨hnone, hkeys, hgate, hgood⟩ := s.followDone_keeps off flags
      refine ⟨_, rfl, hnone, hkeys, hgate, fun h => s.followDone_slews h flags, fun h => s.followDone_steps h flags,
        fun h => ?_, fun h => hgood.trans (if_neg (not_le.mpr h))⟩
      obtain ⟨hon, hrtc⟩ := s.followDone_onTime h flags
      exact ⟨hon, hgood.trans (if_pos h), hrtc⟩
  case lost =>
    intro s hgrouped
    rw [exec_groupTimeLost hgrouped, State.timeLost_eq]
    exact ⟨_, rfl, rfl, fun h => if_neg (Ne.symm h), fun h => if_pos h.symm, rfl⟩
  case read =>
    intro s n user refused hmay
    obtain ⟨hgrp, hshown⟩ := s.granted_timeShown refused
    rw [exec_grpTimeRead hmay, State.readTime_eq, hgrp, hshown]
    exact ⟨rfl, fun h => if_neg h, fun h => if_pos h⟩

end Sys2Proof
end

section
/-! PROOFS. What leaves the output gate as it is: one lemma for each operation that does not reach it, so that a proof about the
gate reads past them all. -/

namespace Sys2Proof.Machine

@[simp] theorem State.gate_ite (c : Prop) [Decidable c] (s t : State) :
    (if c then s else t).gate = if c then s.gate else t.gate := apply_ite ..

@[simp] theorem State.foldl_gate {α : Type} (f : State → α → State) (hf : ∀ s a, (f s a).gate = s.gate) (l : List α) (s : State) :
    (l.foldl f s).gate = s.gate := by
  induction l generalizing s with
  | nil => rfl
  | cons a l ih => exact (ih (f s a)).trans (hf s a)

/-! #### Access -/

@[simp] theorem State.mapLodger_gate (s : State) (n : Fin 4) (f : Lodger → Lodger) : (s.mapLodger n f).gate = s.gate := by
  simp [State.mapLodger]

@[simp] theorem State.answer_gate (s : State) (w : Word) : (s.answer w).gate = s.gate := by simp [State.answer]

@[simp] theorem State.answerError_gate (s : State) (who : Requester) (kind : AccessKind) (addr : Nat) :
    (s.answerError who kind addr).gate = s.gate := by
  simp only [State.answerError]
  split <;> simp

@[simp] theorem State.fenceFault_gate (s : State) (n : Fin 4) (kind : AccessKind) (addr : Nat) :
    (s.fenceFault n kind addr).gate = s.gate := by simp [State.fenceFault]

@[simp] theorem State.reserved_gate (s : State) (who : Requester) (kind : AccessKind) (addr : Nat) :
    (s.reserved who kind addr).gate = s.gate := by simp [State.reserved]

@[simp] theorem State.granted_gate (s : State) (refused : Nat) : (s.granted refused).gate = s.gate := by simp [State.granted]

/-! #### Waybill -/

@[simp] theorem State.writeRec_gate (s : State) (k : Fin 128) (origin : Nat) (body : RecBody) :
    (s.writeRec k origin body).2.gate = s.gate := by simp [State.writeRec]

@[simp] theorem State.lodgerRec_gate (s : State) (origin : Nat) (body : RecBody) : (s.lodgerRec origin body).2.gate = s.gate := by
  simp only [State.lodgerRec]
  (repeat' split) <;> simp

@[simp] theorem State.mapRec_gate (s : State) (q : Nat) (f : Rec → Rec) : (s.mapRec q f).gate = s.gate := by simp [State.mapRec]

@[simp] theorem State.issued_gate (s : State) (q : Nat) : (s.issued q).gate = s.gate := by simp [State.issued]

@[simp] theorem State.mbxDone_gate (s : State) (n : Fin 4) (result : Nat) : (s.mbxDone n result).gate = s.gate := by
  simp [State.mbxDone]

@[simp] theorem State.mbxRes0_gate (s : State) (n : Fin 4) (w : Word) : (s.mbxRes0 n w).gate = s.gate := by simp [State.mbxRes0]

@[simp] theorem State.mbxOnRecord_gate (s : State) (q : Nat) (body : RecBody) (result : Nat) :
    (s.mbxOnRecord q body result).gate = s.gate := by
  unfold State.mbxOnRecord
  refine State.foldl_gate _ (fun s a => ?_) _ s
  (repeat' split) <;> simp

@[simp] theorem State.mbxOnLine_gate (s : State) (line : Nat) (data : Line) : (s.mbxOnLine line data).gate = s.gate := by
  unfold State.mbxOnLine
  refine State.foldl_gate _ (fun s a => ?_) _ s
  (repeat' split) <;> simp

@[simp] theorem State.recDone_gate (s : State) (q reason : Nat) : (s.recDone q reason).gate = s.gate := by
  simp only [State.recDone]
  split <;> simp

@[simp] theorem State.recAbandon_gate (s : State) (q reason : Nat) : (s.recAbandon q reason).gate = s.gate := by
  simp [State.recAbandon]

@[simp] theorem State.bufferLine_gate (s : State) (e : BufEntry) : (s.bufferLine e).gate = s.gate := by
  simp only [State.bufferLine]
  (repeat' split) <;> simp

@[simp] theorem State.writeCells_gate (s : State) (line : Nat) (data : Line) : (s.writeCells line data).gate = s.gate := by
  simp [State.writeCells]

@[simp] theorem State.refill_gate (s : State) : s.refill.gate = s.gate := by
  simp only [State.refill]
  split <;> simp

@[simp] theorem State.writeOldest_gate (s : State) : s.writeOldest.gate = s.gate := by
  simp only [State.writeOldest]
  (repeat' split) <;> simp

@[simp] theorem State.ledgerLineWritten_gate (s : State) : s.ledgerLineWritten.gate = s.gate := by simp [State.ledgerLineWritten]

@[simp] theorem State.issueLines_gate (s : State) (q : Nat) : (s.issueLines q).gate = s.gate := by
  simp only [State.issueLines]
  (repeat' split) <;> simp

@[simp] theorem State.placeBody_gate (s : State) (x : RecBody) : (s.placeBody x).2.gate = s.gate := by
  simp only [State.placeBody]
  split <;> simp

@[simp] theorem State.inkRec_gate (s : State) (origin : Nat) (body : RecBody) : (s.inkRec origin body).gate = s.gate := by
  simp only [State.inkRec]
  split <;> simp

@[simp] theorem State.logEvent_gate (s : State) (event : Nat) (body : List Byte) : (s.logEvent event body).gate = s.gate := by
  simp [State.logEvent]

@[simp] theorem State.inkLine_gate (s : State) (line : Nat) (data : Line) : (s.inkLine line data).gate = s.gate := by
  simp [State.inkLine]

@[simp] theorem State.recordResume_gate (s : State) : s.recordResume.gate = s.gate := by
  simp only [State.recordResume]
  split <;> simp

@[simp] theorem State.drain_gate (n : Nat) (s : State) : (State.drain n s).gate = s.gate := by
  induction n generalizing s with
  | zero => rfl
  | succ n ih =>
    simp only [State.drain]
    split <;> simp [ih]

@[simp] theorem State.drained_gate (s : State) : s.drained.gate = s.gate := by simp [State.drained]

@[simp] theorem State.lineSoon_gate (s : State) (line : Nat) (data : Line) : (s.lineSoon line data).gate = s.gate := by
  simp [State.lineSoon]

@[simp] theorem State.logSoon_gate (s : State) (event : Nat) (body : List Byte) : (s.logSoon event body).gate = s.gate := by
  simp [State.logSoon]

@[simp] theorem State.bufferTimeout_gate (s : State) (n : Fin 4) : (s.bufferTimeout n).gate = s.gate := by
  simp only [State.bufferTimeout]
  (repeat' split) <;> simp

@[simp] theorem State.ledgerUpset_gate (s : State) (line : Nat) (u : Upset) : (s.ledgerUpset line u).gate = s.gate := by
  simp only [State.ledgerUpset]
  split <;> simp

@[simp] theorem State.ledgerWord_gate (s : State) (addr : Nat) : (s.ledgerWord addr).2.gate = s.gate := by
  simp only [State.ledgerWord]
  split <;> simp

/-! #### Gate -/

@[simp] theorem State.endTargets_gate (s : State) (i : Nat) (p : Rec → Bool) (st : RecState) (reason : Nat) :
    (s.endTargets i p st reason).gate = s.gate := by simp [State.endTargets]

@[simp] theorem State.targetReached_gate (s : State) (i : Fin 30) : (s.targetReached i).gate = s.gate := by
  simp [State.targetReached]

@[simp] theorem State.strokeStart_gate (s : State) (i : Fin 8) (before after goal : Nat) :
    (s.strokeStart i before after goal).gate = s.gate := by
  simp only [State.strokeStart]
  split <;> simp

@[simp] theorem State.strokeCheck_gate (s : State) (i : Fin 30) : (s.strokeCheck i).gate = s.gate := by
  simp only [State.strokeCheck]
  split <;> simp

@[simp] theorem State.countClose_gate (s : State) (k : Fin 12) : (s.countClose k).gate = s.gate := by simp [State.countClose]

@[simp] theorem State.heaterRestart_gate (s : State) (i : Fin 30) (duty : Nat) : (s.heaterRestart i duty).gate = s.gate := by
  unfold State.heaterRestart
  split
  · split <;> rfl
  · rfl

@[simp] theorem State.fanLeavesLive_gate (s : State) (i : Fin 30) : (s.fanLeavesLive i).gate = s.gate := by
  unfold State.fanLeavesLive
  split
  · split <;> rfl
  · rfl

/-! #### Sram -/

@[simp] theorem State.correctWord_gate (s : State) (w : Nat) : (s.correctWord w).gate = s.gate := by simp [State.correctWord]

@[simp] theorem State.noteWord_gate (s : State) (who : Requester) (w : Nat) (x : WordState) :
    (s.noteWord who w x).gate = s.gate := by
  simp only [State.noteWord]
  split <;> simp

@[simp] theorem State.sramRead_gate (s : State) (who : Requester) (addr n : Nat) : (s.sramRead who addr n).2.gate = s.gate := by
  simp [State.sramRead]

@[simp] theorem State.sramWord_gate (s : State) (who : Requester) (addr : Nat) : (s.sramWord who addr).2.gate = s.gate := by
  simp [State.sramWord]

@[simp] theorem State.sramWrite_gate (s : State) (who : Requester) (addr : Nat) (bs : List Byte) :
    (s.sramWrite who addr bs).2.gate = s.gate := by
  simp only [State.sramWrite]
  (repeat' split) <;> simp

@[simp] theorem State.scrubWord_gate (s : State) (w : Nat) : (s.scrubWord w).gate = s.gate := by simp [State.scrubWord]

@[simp] theorem State.scrubStep_gate (s : State) (refused : Nat) (u : Upset) : (s.scrubStep refused u).gate = s.gate := by
  simp only [State.scrubStep]
  (repeat' split) <;> simp

@[simp] theorem State.memClear_gate (s : State) (n : Fin 4) (user : Bool) (addr : Nat) :
    (s.memClear n user addr).gate = s.gate := by simp [State.memClear]

/-! #### Carder -/

@[simp] theorem State.mapChan_gate (s : State) (c : Fin 24) (f : Chan → Chan) : (s.mapChan c f).gate = s.gate := by
  simp [State.mapChan]

@[simp] theorem State.mapChans_gate (s : State) (f : Chan → Chan) : (s.mapChans f).gate = s.gate := by simp [State.mapChans]

@[simp] theorem State.dmaStart_gate (s : State) (c : Fin 24) : (s.dmaStart c).gate = s.gate := by
  simp only [State.dmaStart]
  split <;> simp

@[simp] theorem State.carderMode_gate (s : State) (b : Bool) : (s.carderMode b).gate = s.gate := by simp [State.carderMode]

@[simp] theorem State.orphanChannels_gate (s : State) (n : Fin 4) : (s.orphanChannels n).gate = s.gate := by
  simp [State.orphanChannels]

@[simp] theorem State.releaseOrphans_gate (s : State) (n : Fin 4) : (s.releaseOrphans n).gate = s.gate := by
  simp [State.releaseOrphans]

@[simp] theorem State.fetchBeat_gate (s : State) (c : Fin 24) (addr : Nat) : (s.fetchBeat c addr).gate = s.gate := by
  simp [State.fetchBeat]

@[simp] theorem State.fetchRest_gate (s : State) : s.fetchRest.gate = s.gate := by simp [State.fetchRest]

@[simp] theorem State.carderHalt_gate (s : State) : s.carderHalt.gate = s.gate := by simp [State.carderHalt]

@[simp] theorem State.raiseEdge_gate (s : State) (t : Nat) : (s.raiseEdge t).gate = s.gate := by simp [State.raiseEdge]

@[simp] theorem State.chanCtrl_gate (s : State) (c : Fin 24) (w : Word) : (s.chanCtrl c w).gate = s.gate := by
  simp [State.chanCtrl]

@[simp] theorem State.chanSetup_gate (s : State) (c : Fin 24) (f : Chan → Chan) : (s.chanSetup c f).gate = s.gate := by
  simp [State.chanSetup]

/-! #### Gridis -/

@[simp] theorem State.mapCan_gate (s : State) (c : Fin 2) (f : Can → Can) : (s.mapCan c f).gate = s.gate := by simp [State.mapCan]

@[simp] theorem State.grdInt_gate (s : State) (b : Nat) : (s.grdInt b).gate = s.gate := by simp [State.grdInt]

@[simp] theorem State.nextSeqOf_gate (s : State) (cls : Fin 8) : (s.nextSeqOf cls).2.gate = s.gate := by simp [State.nextSeqOf]

@[simp] theorem State.enqueue_gate (s : State) (c : Fin 2) (t : TxFrame) : (s.enqueue c t).gate = s.gate := by
  simp [State.enqueue]

@[simp] theorem State.sendOn_gate (s : State) (cs : List (Fin 2)) (cls : Fin 8) (field : Nat) (dest : Option Nat)
    (data : List Byte) (pinned : Bool) :
    (s.sendOn cs cls field dest data pinned).gate = s.gate := by simp [State.sendOn]

@[simp] theorem State.placeFrame_gate (s : State) (cs : List (Fin 2)) (t : TxFrame) : (s.placeFrame cs t).gate = s.gate := by
  simp [State.placeFrame]

@[simp] theorem State.placeMust_gate (s : State) (cs : List (Fin 2)) (t : TxFrame) : (s.placeMust cs t).gate = s.gate := by
  simp [State.placeMust]

@[simp] theorem State.sendDeferred_gate (s : State) : s.sendDeferred.gate = s.gate := by simp [State.sendDeferred]

@[simp] theorem State.sendJournaled_gate (s : State) (cs : List (Fin 2)) (f : Frame) : (s.sendJournaled cs f).gate = s.gate := by
  simp only [State.sendJournaled]
  split <;> simp

@[simp] theorem State.sendMust_gate (s : State) (cls : Fin 8) (field : Nat) (data : List Byte) :
    (s.sendMust cls field data).gate = s.gate := by simp [State.sendMust]

@[simp] theorem State.lodgerMust_gate (s : State) (n : Fin 4) (cls : Fin 8) (field : Nat) (dest : Option Nat) (data : List Byte) :
    (s.lodgerMust n cls field dest data).2.gate = s.gate := by
  simp only [State.lodgerMust]
  split <;> simp

@[simp] theorem State.resend_gate (s : State) (r : Rec) : (s.resend r).gate = s.gate := by
  simp only [State.resend]
  split <;> simp

@[simp] theorem State.delivered_gate (s : State) (c : Fin 2) (t : TxFrame) : (s.delivered c t).gate = s.gate := by
  simp only [State.delivered]
  (repeat' split) <;> simp

@[simp] theorem State.ownSent_gate (s : State) (c : Fin 2) (t : TxFrame) (ticks : Nat) : (s.ownSent c t ticks).gate = s.gate := by
  simp [State.ownSent]

@[simp] theorem State.frameSent_gate (s : State) (c : Fin 2) (ticks : Nat) : (s.frameSent c ticks).gate = s.gate := by
  simp only [State.frameSent]
  (repeat' split) <;> simp

@[simp] theorem State.mapTxm_gate (s : State) (n : Fin 4) (f : TxMbx → TxMbx) : (s.mapTxm n f).gate = s.gate := by
  simp [State.mapTxm]

@[simp] theorem State.txComplete_gate (s : State) (n : Fin 4) (result : Nat) : (s.txComplete n result).gate = s.gate := by
  simp [State.txComplete]

@[simp] theorem State.txQueue_gate (s : State) (n : Fin 4) (t : TxFrame) (ctrl : Nat) : (s.txQueue n t ctrl).gate = s.gate := by
  simp [State.txQueue]

@[simp] theorem State.txGo_gate (s : State) (n : Fin 4) : (s.txGo n).gate = s.gate := by
  simp only [State.txGo]
  (repeat' split) <;> simp

@[simp] theorem State.txResume_gate (s : State) (n : Fin 4) : (s.txResume n).gate = s.gate := by
  simp only [State.txResume]
  split <;> simp

@[simp] theorem State.heartbeatSend_gate (s : State) : s.heartbeatSend.gate = s.gate := by simp [State.heartbeatSend]

@[simp] theorem State.tripChange_gate (s : State) (f : Grd → Grd) : (s.tripChange f).gate = s.gate := by simp [State.tripChange]

@[simp] theorem State.nodeTrip_gate (s : State) (n : Nat) (on : Bool) : (s.nodeTrip n on).gate = s.gate := by
  simp [State.nodeTrip]

@[simp] theorem State.tripRaise_gate (s : State) (reason : Nat) : (s.tripRaise reason).gate = s.gate := by simp [State.tripRaise]

@[simp] theorem State.tripClear_gate (s : State) : s.tripClear.gate = s.gate := by simp [State.tripClear]

@[simp] theorem State.tripForget_gate (s : State) (n : Nat) : (s.tripForget n).gate = s.gate := by simp [State.tripForget]

@[simp] theorem State.moveFrames_go_gate (c : Fin 2) (n : Nat) (s : State) :
    (State.moveFrames.go c (otherCan c) n s).gate = s.gate := by
  induction n generalizing s with
  | zero => rfl
  | succ n ih =>
    simp only [State.moveFrames.go]
    (repeat' split) <;> simp [ih]

@[simp] theorem State.moveFrames_gate (s : State) (c : Fin 2) : (s.moveFrames c).gate = s.gate := by simp [State.moveFrames]

@[simp] theorem State.activeAgain_gate (s : State) (c : Fin 2) : (s.activeAgain c).gate = s.gate := by simp [State.activeAgain]

@[simp] theorem State.busOff_gate (s : State) (c : Fin 2) : (s.busOff c).gate = s.gate := by simp [State.busOff]

@[simp] theorem State.recovered_gate (s : State) (c : Fin 2) : (s.recovered c).gate = s.gate := by simp [State.recovered]

@[simp] theorem State.holdoffEnd_gate (s : State) (c : Fin 2) : (s.holdoffEnd c).gate = s.gate := by simp [State.holdoffEnd]

@[simp] theorem State.reen_gate (s : State) (c : Fin 2) : (s.reen c).gate = s.gate := by simp [State.reen]

@[simp] theorem State.busError_gate (s : State) (c : Fin 2) (transmitter : Bool) (rx : Nat) :
    (s.busError c transmitter rx).gate = s.gate := by simp [State.busError]

/-! #### Mailbox -/

@[simp] theorem State.mapMbx_gate (s : State) (n : Fin 4) (f : Mailbox → Mailbox) : (s.mapMbx n f).gate = s.gate := by
  simp [State.mapMbx]

@[simp] theorem State.mbxPost_gate (s : State) (n : Fin 4) (seq code : Nat) : (s.mbxPost n seq code).gate = s.gate := by
  simp [State.mbxPost]

@[simp] theorem State.takeTurn_gate (s : State) (n : Fin 4) : (s.takeTurn n).gate = s.gate := by simp [State.takeTurn]

@[simp] theorem State.mbxArgs_gate (s : State) (n : Fin 4) (args : List Nat) : (s.mbxArgs n args).gate = s.gate := by
  simp [State.mbxArgs]

/-! #### Keys -/

@[simp] theorem State.keyInt_gate (s : State) (b : Nat) : (s.keyInt b).gate = s.gate := by simp [State.keyInt]

@[simp] theorem State.sendKey_gate (s : State) (dest op key epoch lease cause rop : Nat) :
    (s.sendKey dest op key epoch lease cause rop).gate = s.gate := by simp [State.sendKey]

@[simp] theorem State.sendReclaim_gate (s : State) (t : KeyStep) : (s.sendReclaim t).gate = s.gate := by simp [State.sendReclaim]

@[simp] theorem State.freeKey_gate (s : State) (k : Nat) : (s.freeKey k).gate = s.gate := by simp [State.freeKey]

@[simp] theorem State.restartLease_gate (s : State) (k : Nat) : (s.restartLease k).gate = s.gate := by simp [State.restartLease]

@[simp] theorem State.hostRenew_gate (s : State) (src k epoch : Nat) : (s.hostRenew src k epoch).2.gate = s.gate := by
  simp only [State.hostRenew]
  (repeat' split) <;> simp

@[simp] theorem State.lostKey_gate (s : State) (k : Nat) : (s.lostKey k).gate = s.gate := by simp [State.lostKey]

@[simp] theorem State.dropHeld_gate (s : State) (k : Nat) : (s.dropHeld k).gate = s.gate := by simp [State.dropHeld]

@[simp] theorem State.holderExpired_gate (s : State) (src k : Nat) : (s.holderExpired src k).gate = s.gate := by
  simp only [State.holderExpired]
  split <;> simp

@[simp] theorem State.sendExpired_gate (s : State) (holder k epoch cause : Nat) :
    (s.sendExpired holder k epoch cause).gate = s.gate := by simp [State.sendExpired]

@[simp] theorem State.freeAllHosted_gate (s : State) (cause : Nat) : (s.freeAllHosted cause).gate = s.gate := by
  simp [State.freeAllHosted]

@[simp] theorem State.sendReply_gate (s : State) (dest k : Nat) (x : KeyReply) : (s.sendReply dest k x).gate = s.gate := by
  simp only [State.sendReply]
  split <;> simp

@[simp] theorem State.addStep_gate (s : State) (t : KeyStep) : (s.addStep t).gate = s.gate := by simp [State.addStep]

@[simp] theorem State.dropStep_gate (s : State) (t : KeyStep) : (s.dropStep t).gate = s.gate := by simp [State.dropStep]

@[simp] theorem State.keyRec_gate (s : State) (origin : Nat) (body : RecBody) : (s.keyRec origin body).2.gate = s.gate := by
  simp only [State.keyRec]
  split <;> simp

@[simp] theorem State.stepReleased_gate (s : State) (t : KeyStep) (result : Nat) : (s.stepReleased t result).gate = s.gate := by
  simp only [State.stepReleased]
  split <;> simp

@[simp] theorem State.recEpoch_gate (s : State) (q epoch : Nat) : (s.recEpoch q epoch).gate = s.gate := by simp [State.recEpoch]

@[simp] theorem State.takeGrant_gate (s : State) (t : KeyStep) (epoch lease : Nat) :
    (s.takeGrant t epoch lease).gate = s.gate := by simp [State.takeGrant]

@[simp] theorem State.abandonKeyTargets_gate (s : State) (k : Nat) : (s.abandonKeyTargets k).gate = s.gate := by
  simp [State.abandonKeyTargets]

/-! #### Book -/

@[simp] theorem State.bookInt_gate (s : State) (b : Nat) : (s.bookInt b).gate = s.gate := by simp [State.bookInt]

@[simp] theorem State.mapOwn_gate (s : State) (k : Fin 32) (f : Booking → Booking) : (s.mapOwn k f).gate = s.gate := by
  simp [State.mapOwn]

@[simp] theorem State.bookMust_gate (s : State) (kind : Nat) (k : Fin 32) (cause : Nat) :
    (s.bookMust kind k cause).gate = s.gate := by simp [State.bookMust]

@[simp] theorem State.bookSend_gate (s : State) (kind : Nat) (k : Fin 32) : (s.bookSend kind k).gate = s.gate := by
  simp [State.bookSend]

@[simp] theorem State.withdrawOwn_gate (s : State) (k : Fin 32) (cause : Nat) : (s.withdrawOwn k cause).gate = s.gate := by
  simp [State.withdrawOwn]

@[simp] theorem State.logWithdrawn_gate (s : State) (k : Fin 32) (cause : Nat) : (s.logWithdrawn k cause).gate = s.gate := by
  simp [State.logWithdrawn]

@[simp] theorem State.endOwn_gate (s : State) (k : Fin 32) : (s.endOwn k).gate = s.gate := by simp [State.endOwn]

@[simp] theorem State.confirmOwn_gate (s : State) (k : Fin 32) : (s.confirmOwn k).gate = s.gate := by simp [State.confirmOwn]

@[simp] theorem State.withdrawDue_gate (s : State) (k : Fin 32) (cause : Nat) : (s.withdrawDue k cause).gate = s.gate := by
  simp [State.withdrawDue]

@[simp] theorem State.bookStart_gate (s : State) (k : Fin 32) : (s.bookStart k).gate = s.gate := by simp [State.bookStart]

@[simp] theorem State.bookResult_gate (s : State) (n : Fin 4) (slot r : Nat) : (s.bookResult n slot r).gate = s.gate := by
  simp [State.bookResult]

@[simp] theorem State.bookMake_gate (s : State) (n : Fin 4) : (s.bookMake n).gate = s.gate := by
  simp only [State.bookMake]
  split <;> simp

@[simp] theorem State.bookClose_gate (s : State) (n : Fin 4) (k : Fin 32) : (s.bookClose n k).gate = s.gate := by
  simp only [State.bookClose]
  split <;> simp

@[simp] theorem State.withdrawApart_gate (s : State) : s.withdrawApart.gate = s.gate := by simp [State.withdrawApart]

@[simp] theorem State.restoreBookings_gate (s : State) : s.restoreBookings.gate = s.gate := by simp [State.restoreBookings]

@[simp] theorem State.stepBookings_gate (s : State) : s.stepBookings.gate = s.gate := by simp [State.stepBookings]

@[simp] theorem State.trackNew_gate (s : State) (b : Booking) : (s.trackNew b).gate = s.gate := by
  simp only [State.trackNew]
  (repeat' split) <;> simp

@[simp] theorem State.trackSet_gate (s : State) (i : Nat) (f : Booking → Booking) : (s.trackSet i f).gate = s.gate := by
  simp only [State.trackSet]
  split <;> simp

@[simp] theorem State.trackFrame_gate (s : State) (b : Booking) (st : BookState) : (s.trackFrame b st).gate = s.gate := by
  simp only [State.trackFrame]
  split <;> simp

@[simp] theorem State.bookFrame_gate (s : State) (src slot : Nat) (d : List Byte) (st : BookState) :
    (s.bookFrame src slot d st).gate = s.gate := by simp [State.bookFrame]

@[simp] theorem State.trackLapse_gate (s : State) (i : Nat) : (s.trackLapse i).gate = s.gate := by simp [State.trackLapse]

@[simp] theorem State.trackEnd_gate (s : State) (i : Nat) : (s.trackEnd i).gate = s.gate := by simp [State.trackEnd]

@[simp] theorem State.recordEffect_gate (s : State) (off : Nat) : (s.recordEffect off).gate = s.gate := by
  simp [State.recordEffect]

/-! #### Group -/

@[simp] theorem State.grpInt_gate (s : State) (b : Nat) : (s.grpInt b).gate = s.gate := by simp [State.grpInt]

@[simp] theorem State.nodeGone_gate (s : State) (n : Nat) : (s.nodeGone n).gate = s.gate := by simp [State.nodeGone]

@[simp] theorem State.memberAbsent_gate (s : State) (n : Nat) : (s.memberAbsent n).gate = s.gate := by simp [State.memberAbsent]

@[simp] theorem State.remember_gate (s : State) (src cls seq : Nat) : (s.remember src cls seq).gate = s.gate := by
  simp [State.remember]

@[simp] theorem State.countVotes_gate (s : State) : s.countVotes.gate = s.gate := by
  simp only [State.countVotes]
  split <;> simp

@[simp] theorem State.judgeTime_gate (s : State) : s.judgeTime.gate = s.gate := by simp [State.judgeTime]

@[simp] theorem State.judgeMaster_gate (s : State) : s.judgeMaster.gate = s.gate := by
  simp only [State.judgeMaster]
  split <;> simp

@[simp] theorem State.moveClock_gate (s : State) (off : Int) : (s.moveClock off).gate = s.gate := by simp [State.moveClock]

@[simp] theorem State.extSet_gate (s : State) : s.extSet.gate = s.gate := by simp [State.extSet]

@[simp] theorem State.extEnd_gate (s : State) : s.extEnd.gate = s.gate := by simp [State.extEnd]

@[simp] theorem State.syncSend_gate (s : State) : s.syncSend.gate = s.gate := by simp [State.syncSend]

@[simp] theorem State.onSync_gate (s : State) (src seq hops ticks : Nat) : (s.onSync src seq hops ticks).gate = s.gate := by
  simp [State.onSync]

@[simp] theorem State.onFollow_gate (s : State) (src syncSeq hops flags secs micros : Nat) :
    (s.onFollow src syncSeq hops flags secs micros).gate = s.gate := by
  simp only [State.onFollow]
  split <;> simp

@[simp] theorem State.timeLost_gate (s : State) : s.timeLost.gate = s.gate := by simp [State.timeLost]

@[simp] theorem State.groupEffect_gate (s : State) (off : Nat) : (s.groupEffect off).gate = s.gate := by simp [State.groupEffect]

/-! #### CanRx -/

@[simp] theorem State.forward_gate (s : State) (c : Fin 2) (f : Frame) : (s.forward c f).gate = s.gate := by
  simp only [State.forward]
  (repeat' split) <;> simp

@[simp] theorem State.toFifo_gate (s : State) (c : Fin 2) (f : Frame) (ticks : Nat) : (s.toFifo c f ticks).gate = s.gate := by
  simp [State.toFifo]

@[simp] theorem State.clashCheck_gate (s : State) (c : Fin 2) (f : Frame) : (s.clashCheck c f).gate = s.gate := by
  simp [State.clashCheck]

@[simp] theorem State.canHears_gate (s : State) (c : Fin 2) : (s.canHears c).gate = s.gate := by simp [State.canHears]

@[simp] theorem State.rxPop_gate (s : State) (c : Fin 2) : (s.rxPop c).gate = s.gate := by simp [State.rxPop]

@[simp] theorem State.grdEffect_gate (s : State) (off : Nat) : (s.grdEffect off).gate = s.gate := by simp [State.grdEffect]

@[simp] theorem State.tripWrite_gate (s : State) (w : Word) : (s.tripWrite w).gate = s.gate := by simp [State.tripWrite]

@[simp] theorem State.canWrite_gate (s : State) (c : Fin 2) (off : Nat) (w : Word) : (s.canWrite c off w).gate = s.gate := by
  simp only [State.canWrite]
  (repeat' split) <;> simp

@[simp] theorem State.txWrite_gate (s : State) (n : Fin 4) (off : Nat) (w : Word) : (s.txWrite n off w).gate = s.gate := by
  simp only [State.txWrite]
  (repeat' split) <;> simp

@[simp] theorem State.grdWrite_gate (s : State) (off : Nat) (w : Word) : (s.grdWrite off w).gate = s.gate := by
  simp only [State.grdWrite]
  (repeat' split) <;> simp

/-! #### Loop -/

@[simp] theorem State.mapSlot_gate (s : State) (n : Fin 48) (f : LoopSlot → LoopSlot) : (s.mapSlot n f).gate = s.gate := by
  simp [State.mapSlot]

@[simp] theorem State.slotErr_gate (s : State) (n : Fin 48) : (s.slotErr n).gate = s.gate := by simp [State.slotErr]

@[simp] theorem State.slotSet_gate (s : State) (n : Fin 48) (ok : LoopSlot → Bool) (f : LoopSlot → LoopSlot) :
    (s.slotSet n ok f).gate = s.gate := by simp [State.slotSet]

@[simp] theorem State.loopEvt_gate (s : State) (n : Fin 48) : (s.loopEvt n).gate = s.gate := by simp [State.loopEvt]

@[simp] theorem State.setSlotState_gate (s : State) (n : Fin 48) (st : LoopSt) : (s.setSlotState n st).gate = s.gate := by
  simp [State.setSlotState]

@[simp] theorem State.setpoint_gate (s : State) (n : Fin 48) (w : Word) : (s.setpoint n w).gate = s.gate := by
  simp [State.setpoint]

@[simp] theorem State.loopOut_gate (s : State) (n : Fin 48) (w : Word) : (s.loopOut n w).gate = s.gate := by simp [State.loopOut]

@[simp] theorem State.slotRead_gate (s : State) (n : Fin 48) (addr : Nat) : (s.slotRead n addr).2.gate = s.gate := by
  simp only [State.slotRead]
  split <;> simp

@[simp] theorem State.enterClosed_gate (s : State) (n : Fin 48) (y : Word) : (s.enterClosed n y).gate = s.gate := by
  simp [State.enterClosed]

@[simp] theorem State.numCheck_gate (s : State) (n : Fin 48) (c : Bank) (was : Bool) : (s.numCheck n c was).gate = s.gate := by
  simp [State.numCheck]

@[simp] theorem State.loopsWake_gate (s : State) : s.loopsWake.gate = s.gate := by simp [State.loopsWake]

/-! #### Wear -/

@[simp] theorem State.mapInd_gate (s : State) (m : Fin 32) (f : Indicator → Indicator) : (s.mapInd m f).gate = s.gate := by
  simp [State.mapInd]

@[simp] theorem State.mapInds_gate (s : State) (p : WearEntry → Bool) (f : Indicator → Indicator) :
    (s.mapInds p f).gate = s.gate := by simp [State.mapInds]

@[simp] theorem State.wearSample_gate (s : State) (kind source value : Nat) (p : WearEntry → Bool) :
    (s.wearSample kind source value p).gate = s.gate := by simp [State.wearSample]

@[simp] theorem State.writeHeader_gate (s : State) (m : Fin 32) : (s.writeHeader m).gate = s.gate := by simp [State.writeHeader]

@[simp] theorem State.clearHistory_gate (s : State) (m : Fin 32) (e : WearEntry) : (s.clearHistory m e).gate = s.gate := by
  refine (State.foldl_gate _ (fun s k => ?_) _ _).trans (by simp)
  dsimp only
  (repeat' split) <;> simp

@[simp] theorem State.clearDmiHistory_gate (s : State) (c : Nat) : (s.clearDmiHistory c).gate = s.gate := by
  unfold State.clearDmiHistory
  refine State.foldl_gate _ (fun s a => ?_) _ s
  (repeat' split) <;> simp

@[simp] theorem State.wearFlags_gate (s : State) (m : Fin 32) : (s.wearFlags m).gate = s.gate := by simp [State.wearFlags]

@[simp] theorem State.addPoint_gate (s : State) (m : Fin 32) (p : WearPoint) : (s.addPoint m p).gate = s.gate := by
  simp [State.addPoint]

@[simp] theorem State.nightDay_gate (s : State) (m : Fin 32) (e : WearEntry) : (s.nightDay m e).gate = s.gate := by
  simp [State.nightDay]

@[simp] theorem State.nightPoint_gate (s : State) (m : Fin 32) : (s.nightPoint m).gate = s.gate := by simp [State.nightPoint]

@[simp] theorem State.nightPredict_gate (s : State) (m : Fin 32) (e : WearEntry) : (s.nightPredict m e).gate = s.gate := by
  simp [State.nightPredict]

theorem State.eachIndicator_gate (s : State) (f : State → Fin 32 → WearEntry → State)
    (hf : ∀ s m e, (f s m e).gate = s.gate) : (s.eachIndicator f).gate = s.gate := by
  unfold State.eachIndicator
  refine State.foldl_gate _ (fun s m => ?_) _ s
  split <;> simp [hf]

@[simp] theorem State.nightRest_gate (s : State) : s.nightRest.gate = s.gate := by
  simp [State.nightRest, State.eachIndicator_gate]

@[simp] theorem State.nightlyUpdate_gate (s : State) (fRef fRun : Nat) : (s.nightlyUpdate fRef fRun).gate = s.gate := by
  simp only [State.nightlyUpdate]
  (repeat' split) <;> simp

@[simp] theorem State.holdEnds_gate (s : State) (result : Nat) : (s.holdEnds result).gate = s.gate := by simp [State.holdEnds]

@[simp] theorem State.holdTestFails_gate (s : State) : s.holdTestFails.gate = s.gate := by simp [State.holdTestFails]

@[simp] theorem State.counterRefresh_gate (s : State) : s.counterRefresh.gate = s.gate := by simp [State.counterRefresh]

@[simp] theorem State.writeCounters_gate (s : State) : s.writeCounters.gate = s.gate := by simp [State.writeCounters]

@[simp] theorem State.wearWrite_gate (s : State) (off : Nat) (w : Word) : (s.wearWrite off w).gate = s.gate := by
  simp only [State.wearWrite]
  split <;> simp

/-! #### Fan -/

@[simp] theorem State.mapFan_gate (s : State) (c : Fin 6) (f : Fan → Fan) : (s.mapFan c f).gate = s.gate := by simp [State.mapFan]

@[simp] theorem State.fanLog_gate (s : State) (event : Nat) (c : Fin 6) (x : Nat) : (s.fanLog event c x).gate = s.gate := by
  simp [State.fanLog]

@[simp] theorem State.fanBegin_gate (s : State) (c : Fin 6) (attempt : Bool) : (s.fanBegin c attempt).gate = s.gate := by
  simp [State.fanBegin]

@[simp] theorem State.fanStart_gate (s : State) (c : Fin 6) : (s.fanStart c).gate = s.gate := by simp [State.fanStart]

@[simp] theorem State.restartWaitEnd_gate (s : State) (c : Fin 6) : (s.restartWaitEnd c).gate = s.gate := by
  simp [State.restartWaitEnd]

@[simp] theorem State.fansVgd_gate (s : State) : s.fansVgd.gate = s.gate := by
  unfold State.fansVgd
  refine State.foldl_gate _ (fun s a => ?_) _ s
  (repeat' split) <;> simp

@[simp] theorem State.fanStop_gate (s : State) (c : Fin 6) : (s.fanStop c).gate = s.gate := by simp [State.fanStop]

@[simp] theorem State.stallTimeout_gate (s : State) (c : Fin 6) : (s.stallTimeout c).gate = s.gate := by simp [State.stallTimeout]

@[simp] theorem State.windowEnd_gate (s : State) (c : Fin 6) : (s.windowEnd c).gate = s.gate := by simp [State.windowEnd]

@[simp] theorem State.fanClear_gate (s : State) (c : Fin 6) : (s.fanClear c).gate = s.gate := by simp [State.fanClear]

@[simp] theorem State.phaseShort_gate (s : State) (c : Fin 6) : (s.phaseShort c).gate = s.gate := by simp [State.phaseShort]

@[simp] theorem State.fanOpen_gate (s : State) (c : Fin 6) : (s.fanOpen c).gate = s.gate := by simp [State.fanOpen]

@[simp] theorem State.fanReversed_gate (s : State) (c : Fin 6) : (s.fanReversed c).gate = s.gate := by simp [State.fanReversed]

@[simp] theorem State.hallChange_gate (s : State) (c : Fin 6) (code : BitVec 3) (ns : Nat) :
    (s.hallChange c code ns).gate = s.gate := by
  simp only [State.hallChange]
  split <;> simp

@[simp] theorem State.fanTick_gate (s : State) (c : Fin 6) (shunts : List (Int × Int)) : (s.fanTick c shunts).gate = s.gate := by
  simp [State.fanTick]

@[simp] theorem State.captureDone_gate (s : State) (c : Fin 6) (got : List (Nat × Nat × Nat)) :
    (s.captureDone c got).gate = s.gate := by simp [State.captureDone]

@[simp] theorem State.captureStart_gate (s : State) (c : Fin 6) : (s.captureStart c).gate = s.gate := by
  simp only [State.captureStart]
  (repeat' split) <;> simp

@[simp] theorem State.pointDone_gate (s : State) (c : Fin 6) : (s.pointDone c).gate = s.gate := by
  simp only [State.pointDone]
  (repeat' split) <;> simp

@[simp] theorem State.sweepStart_gate (s : State) (c : Fin 6) : (s.sweepStart c).gate = s.gate := by simp [State.sweepStart]

@[simp] theorem State.sweepEnd_gate (s : State) (c : Fin 6) : (s.sweepEnd c).gate = s.gate := by
  simp only [State.sweepEnd]
  split <;> simp

@[simp] theorem State.dmiUpdate_gate (s : State) (c : Fin 6) (k : Fin 8) : (s.dmiUpdate c k).gate = s.gate := by
  simp [State.dmiUpdate]

@[simp] theorem State.fanCmd_gate (s : State) (c : Fin 6) (w : Word) : (s.fanCmd c w).gate = s.gate := by simp [State.fanCmd]

@[simp] theorem State.fanRegWrite_gate (s : State) (c : Fin 6) (off : Nat) (w : Word) :
    (s.fanRegWrite c off w).gate = s.gate := by
  simp only [State.fanRegWrite]
  (repeat' split) <;> simp

@[simp] theorem State.fanWrite_gate (s : State) (off : Nat) (w : Word) : (s.fanWrite off w).gate = s.gate := by
  simp only [State.fanWrite]
  split <;> simp

/-! #### Reset -/

@[simp] theorem State.haltBlocks_gate (s : State) : s.haltBlocks.gate = s.gate := by simp [State.haltBlocks]

@[simp] theorem State.leaving_gate (s : State) (cause : Nat) : (s.leaving cause).gate = s.gate := by simp [State.leaving]

@[simp] theorem State.throttleNotice_gate (s : State) (enf : Nat) : (s.throttleNotice enf).gate = s.gate := by
  simp [State.throttleNotice]

/-! #### Panel -/

@[simp] theorem State.railFault_gate (s : State) (rail cause : Nat) : (s.railFault rail cause).gate = s.gate := by
  simp [State.railFault]

@[simp] theorem State.railTimeout_gate (s : State) : s.railTimeout.gate = s.gate := by
  simp only [State.railTimeout]
  split <;> simp

@[simp] theorem State.railLost_gate (s : State) (r : Fin 3) : (s.railLost r).gate = s.gate := by simp [State.railLost]

@[simp] theorem State.lineStart_gate (s : State) : s.lineStart.gate = s.gate := by simp [State.lineStart]

@[simp] theorem State.bandAtSwap_gate (s : State) : s.bandAtSwap.gate = s.gate := by
  simp only [State.bandAtSwap]
  split <;> simp

@[simp] theorem State.crackMeasure_gate (s : State) (ohms : Nat) : (s.crackMeasure ohms).gate = s.gate := by
  simp [State.crackMeasure]

@[simp] theorem State.crackClear_gate (s : State) : s.crackClear.gate = s.gate := by simp [State.crackClear]

@[simp] theorem State.panelOn_gate (s : State) : s.panelOn.gate = s.gate := by simp [State.panelOn]

@[simp] theorem State.panelOff_gate (s : State) : s.panelOff.gate = s.gate := by simp [State.panelOff]

@[simp] theorem State.panelCtrl_gate (s : State) (w : Word) : (s.panelCtrl w).gate = s.gate := by simp [State.panelCtrl]

@[simp] theorem State.panelWrite_gate (s : State) (off : Nat) (w : Word) : (s.panelWrite off w).gate = s.gate := by
  simp only [State.panelWrite]
  (repeat' split) <;> simp

@[simp] theorem State.panelApply_gate (s : State) (off : Nat) (w : Word) : (s.panelApply off w).gate = s.gate := by
  simp [State.panelApply]

@[simp] theorem State.panelBusWrite_gate (s : State) (off : Nat) (w : Word) : (s.panelBusWrite off w).gate = s.gate := by
  simp [State.panelBusWrite]

@[simp] theorem State.panelClockStop_gate (s : State) (thr : Bool) : (s.panelClockStop thr).gate = s.gate := by
  simp [State.panelClockStop]

@[simp] theorem State.panelClockStart_gate (s : State) : s.panelClockStart.gate = s.gate := by simp [State.panelClockStart]

/-! #### Out -/

@[simp] theorem State.mapAo_gate (s : State) (n : Fin 8) (f : AoOut → AoOut) : (s.mapAo n f).gate = s.gate := by
  simp [State.mapAo]

@[simp] theorem State.mapDo_gate (s : State) (k : Fin 12) (f : DoOut → DoOut) : (s.mapDo k f).gate = s.gate := by
  simp [State.mapDo]

@[simp] theorem State.outInt_gate (s : State) (b : BitVec 4) : (s.outInt b).gate = s.gate := by simp [State.outInt]

@[simp] theorem State.faultSet_gate (s : State) (was : Bool) : (s.faultSet was).gate = s.gate := by simp [State.faultSet]

@[simp] theorem State.outLog_gate (s : State) (i kind : Nat) : (s.outLog i kind).gate = s.gate := by simp [State.outLog]

@[simp] theorem State.readback_gate (s : State) (n : Fin 8) (mv : Nat) : (s.readback n mv).gate = s.gate := by
  simp [State.readback]

@[simp] theorem State.aoOvervolt_gate (s : State) (n : Fin 8) : (s.aoOvervolt n).gate = s.gate := by simp [State.aoOvervolt]

@[simp] theorem State.strokeResult_gate (s : State) (n : Fin 8) (opening : Bool) (start : Nat) :
    (s.strokeResult n opening start).gate = s.gate := by simp [State.strokeResult]

@[simp] theorem State.strokeSwap_gate (s : State) (n : Fin 8) : (s.strokeSwap n).gate = s.gate := by
  simp only [State.strokeSwap]
  (repeat' split) <;> simp

@[simp] theorem State.strokesAtSwap_gate (s : State) : s.strokesAtSwap.gate = s.gate := by simp [State.strokesAtSwap]

@[simp] theorem State.strokeTimeout_gate (s : State) (n : Fin 8) : (s.strokeTimeout n).gate = s.gate := by
  simp [State.strokeTimeout]

@[simp] theorem State.overcurrent_gate (s : State) (k : Fin 12) : (s.overcurrent k).gate = s.gate := by simp [State.overcurrent]

@[simp] theorem State.doRetry_gate (s : State) (k : Fin 12) : (s.doRetry k).gate = s.gate := by simp [State.doRetry]

@[simp] theorem State.doClear_gate (s : State) (w : Word) : (s.doClear w).gate = s.gate := by simp [State.doClear]

@[simp] theorem State.heaterStart_gate (s : State) (k : Fin 4) : (s.heaterStart k).gate = s.gate := by simp [State.heaterStart]

@[simp] theorem State.outStandby_gate (s : State) : s.outStandby.gate = s.gate := by simp [State.outStandby]

@[simp] theorem State.outWake_gate (s : State) : s.outWake.gate = s.gate := by simp [State.outWake]

@[simp] theorem State.aoCfg_gate (s : State) (n : Fin 8) (w : Word) : (s.aoCfg n w).gate = s.gate := by simp [State.aoCfg]

@[simp] theorem State.outWrite_gate (s : State) (off : Nat) (w : Word) : (s.outWrite off w).gate = s.gate := by
  simp only [State.outWrite]
  (repeat' split) <;> simp

/-! #### Thm -/

@[simp] theorem State.thmInt_gate (s : State) (b : Nat) : (s.thmInt b).gate = s.gate := by simp [State.thmInt]

@[simp] theorem State.raiseThrottle_gate (s : State) : s.raiseThrottle.gate = s.gate := by simp [State.raiseThrottle]

@[simp] theorem State.throttleResume_gate (s : State) : s.throttleResume.gate = s.gate := by simp [State.throttleResume]

@[simp] theorem State.throttleEntered_gate (s : State) : s.throttleEntered.gate = s.gate := by simp [State.throttleEntered]

@[simp] theorem State.throttleLeft_gate (s : State) : s.throttleLeft.gate = s.gate := by simp [State.throttleLeft]

@[simp] theorem State.thmLevels_gate (s : State) : s.thmLevels.gate = s.gate := by simp [State.thmLevels]

@[simp] theorem State.mapWindows_gate (s : State) (f : Thm → Thm) : (s.mapWindows f).gate = s.gate := by simp [State.mapWindows]

@[simp] theorem State.thmWindows_gate (s : State) : s.thmWindows.gate = s.gate := by simp [State.thmWindows]

@[simp] theorem State.boardCheck_gate (s : State) : s.boardCheck.gate = s.gate := by simp [State.boardCheck]

@[simp] theorem State.sensorFault_gate (s : State) (k : SensorFault) : (s.sensorFault k).gate = s.gate := by
  simp [State.sensorFault]

@[simp] theorem State.flushWindow_gate (s : State) (was : Bool) : (s.flushWindow was).gate = s.gate := by simp [State.flushWindow]

@[simp] theorem State.neighbourCheck_gate (s : State) : s.neighbourCheck.gate = s.gate := by
  simp only [State.neighbourCheck]
  (repeat' split) <;> simp

@[simp] theorem State.sensorClear_gate (s : State) : s.sensorClear.gate = s.gate := by simp [State.sensorClear]

@[simp] theorem State.graceExpiry_gate (s : State) : s.graceExpiry.gate = s.gate := by simp [State.graceExpiry]

@[simp] theorem State.thmWrite_gate (s : State) (off : Nat) (w : Word) : (s.thmWrite off w).gate = s.gate := by
  simp only [State.thmWrite]
  split <;> simp

/-! #### Sns -/

@[simp] theorem State.mapUi_gate (s : State) (n : Fin 16) (f : UiIn → UiIn) : (s.mapUi n f).gate = s.gate := by simp [State.mapUi]

@[simp] theorem State.snsInt_gate (s : State) (b : Nat) : (s.snsInt b).gate = s.gate := by simp [State.snsInt]

@[simp] theorem State.flagged_gate (s : State) (n : Fin 16) (k : Nat) : (s.flagged n k).gate = s.gate := by simp [State.flagged]

@[simp] theorem State.uiConversion_gate (s : State) (n : Fin 16) (res : Nat) (level : Int) (com : Bool) (raw : Nat) :
    (s.uiConversion n res level com raw).gate = s.gate := by simp [State.uiConversion]

@[simp] theorem State.doSwap_gate (s : State) : s.doSwap.gate = s.gate := by simp [State.doSwap]

@[simp] theorem State.scanSwap_gate (s : State) : s.scanSwap.gate = s.gate := by simp [State.scanSwap]

@[simp] theorem State.endHold_gate (s : State) : s.endHold.gate = s.gate := by simp [State.endHold]

@[simp] theorem State.snsStandby_gate (s : State) : s.snsStandby.gate = s.gate := by simp [State.snsStandby]

@[simp] theorem State.snsWake_gate (s : State) : s.snsWake.gate = s.gate := by simp [State.snsWake]

@[simp] theorem State.uiType_gate (s : State) (n : Fin 16) (t : Nat) : (s.uiType n t).gate = s.gate := by simp [State.uiType]

@[simp] theorem State.mapI2c_gate (s : State) (m : Fin 16) (f : I2cSlot → I2cSlot) : (s.mapI2c m f).gate = s.gate := by
  simp [State.mapI2c]

@[simp] theorem State.mapBus2_gate (s : State) (b : Fin 2) (f : I2cBus → I2cBus) : (s.mapBus2 b f).gate = s.gate := by
  simp [State.mapBus2]

@[simp] theorem State.i2cResult_gate (s : State) (m : Fin 16) (y : I2cSlot) : (s.i2cResult m y).gate = s.gate := by
  simp [State.i2cResult]

@[simp] theorem State.i2cStart_gate (s : State) (m : Fin 16) (x : Sda) : (s.i2cStart m x).gate = s.gate := by
  simp only [State.i2cStart]
  split <;> simp

@[simp] theorem State.i2cNext_gate (s : State) (b : Fin 2) (sda : Sda) (l : List Nat) : (s.i2cNext b sda l).gate = s.gate := by
  induction l generalizing s with
  | nil => rfl
  | cons k l ih =>
    simp only [State.i2cNext]
    split <;> simp [ih]

@[simp] theorem State.i2cDue_gate (s : State) (m : Fin 16) (sda : Sda) : (s.i2cDue m sda).gate = s.gate := by
  simp only [State.i2cDue]
  (repeat' split) <;> simp

@[simp] theorem State.i2cEnd_gate (s : State) (m : Fin 16) (e : I2cEnd) (next : Sda) : (s.i2cEnd m e next).gate = s.gate := by
  simp [State.i2cEnd]

@[simp] theorem State.i2cHold_gate (s : State) (m : Fin 16) : (s.i2cHold m).gate = s.gate := by simp [State.i2cHold]

@[simp] theorem State.diChange_gate (s : State) (n : Fin 8) (high : Bool) : (s.diChange n high).gate = s.gate := by
  simp [State.diChange]

@[simp] theorem State.counterEdge_gate (s : State) (k : Fin 2) (rising : Bool) : (s.counterEdge k rising).gate = s.gate := by
  simp [State.counterEdge]

@[simp] theorem State.cntClear_gate (s : State) (w : Word) : (s.cntClear w).gate = s.gate := by simp [State.cntClear]

@[simp] theorem State.snsEffect_gate (s : State) (off : Nat) : (s.snsEffect off).gate = s.gate := by
  simp only [State.snsEffect]
  (repeat' split) <;> simp

@[simp] theorem State.snsWrite_gate (s : State) (off : Nat) (w : Word) : (s.snsWrite off w).gate = s.gate := by
  simp only [State.snsWrite]
  (repeat' split) <;> simp

/-! #### UartPort -/

@[simp] theorem State.mapUart_gate (s : State) (k : Fin 3) (f : Uart → Uart) : (s.mapUart k f).gate = s.gate := by
  simp [State.mapUart]

@[simp] theorem State.uartsOwnerHalted_gate (s : State) (n : Fin 4) : (s.uartsOwnerHalted n).gate = s.gate := by
  simp [State.uartsOwnerHalted]

@[simp] theorem State.uartsWake_gate (s : State) : s.uartsWake.gate = s.gate := by simp [State.uartsWake]

@[simp] theorem State.uartEffect_gate (s : State) (off : Nat) : (s.uartEffect off).gate = s.gate := by
  simp only [State.uartEffect]
  split <;> simp

@[simp] theorem State.uartWrite_gate (s : State) (off : Nat) (w : Word) : (s.uartWrite off w).gate = s.gate := by
  simp only [State.uartWrite]
  split <;> simp

@[simp] theorem State.uartStep_gate (s : State) (k : Fin 3) (f : Uart → Uart) : (s.uartStep k f).gate = s.gate := by
  simp [State.uartStep]

/-! #### Seal -/

@[simp] theorem State.mapSeal_gate (s : State) (k : Fin 16) (f : SealSlot → SealSlot) : (s.mapSeal k f).gate = s.gate := by
  simp [State.mapSeal]

@[simp] theorem State.loadSeals_gate (s : State) : s.loadSeals.gate = s.gate := by simp [State.loadSeals]

@[simp] theorem State.sealIssue_gate (s : State) (k : Fin 16) (x : SealSlot) (actor oldCrc : Nat) :
    (s.sealIssue k x actor oldCrc).gate = s.gate := by simp [State.sealIssue]

@[simp] theorem State.sealStands_gate (s : State) (k : Fin 16) (x : SealSlot) : (s.sealStands k x).gate = s.gate := by
  simp [State.sealStands]

@[simp] theorem State.fillSeal_gate (s : State) (k : Fin 16) (v : List Byte) (actor : Nat) :
    (s.fillSeal k v actor).gate = s.gate := by simp [State.fillSeal]

@[simp] theorem State.loadMotors_gate (s : State) (v : List Byte) : (s.loadMotors v).gate = s.gate := by simp [State.loadMotors]

@[simp] theorem State.commitStart_gate (s : State) (c : SealChange) : (s.commitStart c).gate = s.gate := by
  simp [State.commitStart]

@[simp] theorem State.commitHeader_gate (s : State) (c : SealChange) : (s.commitHeader c).gate = s.gate := by
  simp [State.commitHeader]

/-! #### SvcCore -/

@[simp] theorem State.svcInt_gate (s : State) (b : Nat) : (s.svcInt b).gate = s.gate := by simp [State.svcInt]

@[simp] theorem State.svcReply_gate (s : State) (type seq : Nat) (payload : List Byte) :
    (s.svcReply type seq payload).gate = s.gate := by simp [State.svcReply]

@[simp] theorem State.openSession_gate (s : State) : s.openSession.gate = s.gate := by simp [State.openSession]

@[simp] theorem State.closeSession_gate (s : State) (cause : Nat) : (s.closeSession cause).gate = s.gate := by
  simp only [State.closeSession]
  (repeat' split) <;> simp

@[simp] theorem State.phrase_gate (s : State) : s.phrase.gate = s.gate := by simp [State.phrase]

@[simp] theorem State.afterCommit_gate (s : State) : s.afterCommit.gate = s.gate := by
  simp only [State.afterCommit]
  split <;> simp

@[simp] theorem State.appEnds_gate (s : State) (payload : List Byte) : (s.appEnds payload).gate = s.gate := by
  simp only [State.appEnds]
  split <;> simp

@[simp] theorem State.appOwnerReset_gate (s : State) (n : Fin 4) : (s.appOwnerReset n).gate = s.gate := by
  simp only [State.appOwnerReset]
  split <;> simp

/-! #### Lodger -/

@[simp] theorem State.bootLine_gate (s : State) : s.bootLine.gate = s.gate := by simp [State.bootLine]

@[simp] theorem State.startLodger_gate (s : State) (n : Fin 4) : (s.startLodger n).gate = s.gate := by simp [State.startLodger]

@[simp] theorem State.txmReset_gate (s : State) (n : Fin 4) : (s.txmReset n).gate = s.gate := by
  simp only [State.txmReset]
  split <;> simp

@[simp] theorem State.resetLodger_gate (s : State) (n : Fin 4) : (s.resetLodger n).gate = s.gate := by simp [State.resetLodger]

@[simp] theorem State.restartsDone_gate (s : State) (n : Fin 4) : (s.restartsDone n).gate = s.gate := by simp [State.restartsDone]

@[simp] theorem State.trialConfirm_gate (s : State) : s.trialConfirm.gate = s.gate := by simp [State.trialConfirm]

/-! #### Svc -/

@[simp] theorem State.authFailed_gate (s : State) (seq role : Nat) : (s.authFailed seq role).gate = s.gate := by
  simp [State.authFailed]

@[simp] theorem State.auth_gate (s : State) (seq : Nat) (p : List Byte) : (s.auth seq p).gate = s.gate := by simp [State.auth]

@[simp] theorem State.sealBegin_gate (s : State) (seq : Nat) (p : List Byte) : (s.sealBegin seq p).gate = s.gate := by
  simp only [State.sealBegin]
  split <;> simp

@[simp] theorem State.sealPart_gate (s : State) (seq : Nat) (p : List Byte) : (s.sealPart seq p).gate = s.gate := by
  simp only [State.sealPart]
  split <;> simp

@[simp] theorem State.sealCommit_gate (s : State) (seq : Nat) (p : List Byte) : (s.sealCommit seq p).gate = s.gate := by
  simp only [State.sealCommit]
  (repeat' split) <;> simp

@[simp] theorem State.svcFanClear_gate (s : State) (seq : Nat) (p : List Byte) : (s.svcFanClear seq p).gate = s.gate := by
  simp only [State.svcFanClear]
  split <;> simp

@[simp] theorem State.svcOff_gate (s : State) (seq : Nat) (p : List Byte) : (s.svcOff seq p).gate = s.gate := by
  simp [State.svcOff]

@[simp] theorem State.svcApp_gate (s : State) (seq : Nat) (p : List Byte) : (s.svcApp seq p).gate = s.gate := by
  simp only [State.svcApp]
  (repeat' split) <;> simp

@[simp] theorem State.appSend_gate (s : State) (n : Fin 4) (w : Word) : (s.appSend n w).gate = s.gate := by
  simp only [State.appSend]
  split <;> simp

@[simp] theorem State.svcClose_gate (s : State) (seq : Nat) (p : List Byte) : (s.svcClose seq p).gate = s.gate := by
  simp [State.svcClose]

@[simp] theorem State.floodStart_gate (s : State) (ambient noise : Nat) : (s.floodStart ambient noise).gate = s.gate := by
  simp [State.floodStart]

@[simp] theorem State.floodEnd_gate (s : State) (ambient noise : Nat) : (s.floodEnd ambient noise).gate = s.gate := by
  simp [State.floodEnd]

@[simp] theorem State.svcRegWrite_gate (s : State) (who : Requester) (off : Nat) (w : Word) :
    (s.svcRegWrite who off w).gate = s.gate := by
  simp only [State.svcRegWrite]
  (repeat' split) <;> simp

/-! #### Mode -/

@[simp] theorem State.stopClocks_gate (s : State) : s.stopClocks.gate = s.gate := by simp [State.stopClocks]

@[simp] theorem State.changeMode_gate (s : State) (m : Mode) : (s.changeMode m).gate = s.gate := by
  simp only [State.changeMode]
  split <;> simp

@[simp] theorem State.setAlarm_gate (s : State) (w : Word) : (s.setAlarm w).gate = s.gate := by simp [State.setAlarm]

/-! #### Replay -/

@[simp] theorem State.findSeq_gate (s : State) : s.findSeq.gate = s.gate := by simp [State.findSeq]

@[simp] theorem State.drainBuffer_gate (s : State) : s.drainBuffer.gate = s.gate := by
  unfold State.drainBuffer
  split
  · refine State.foldl_gate _ (fun s e => ?_) _ s
    dsimp only
    split <;> simp
  · rfl

@[simp] theorem State.writeRetained_gate (s : State) : s.writeRetained.gate = s.gate := by simp [State.writeRetained]

@[simp] theorem State.copyFlush_gate (s : State) : s.copyFlush.gate = s.gate := by simp [State.copyFlush]

/-! #### Supply -/

@[simp] theorem State.dropRetention_gate (s : State) : s.dropRetention.gate = s.gate := by simp [State.dropRetention]

@[simp] theorem State.loseRetention_gate (s : State) : s.loseRetention.gate = s.gate := by simp [State.loseRetention]

@[simp] theorem State.vaReturn_gate (s : State) : s.vaReturn.gate = s.gate := by simp [State.vaReturn]

@[simp] theorem State.holdMonitor_gate (s : State) (ok : Bool) : (s.holdMonitor ok).gate = s.gate := by simp [State.holdMonitor]

@[simp] theorem State.holdWire_gate (s : State) (differ : Bool) : (s.holdWire differ).gate = s.gate := by simp [State.holdWire]

@[simp] theorem State.crystalLoss_gate (s : State) : s.crystalLoss.gate = s.gate := by simp [State.crystalLoss]

/-! #### Boot -/

@[simp] theorem State.tear_gate (s : State) (x : RetEntry) : (s.tear x).gate = s.gate := by
  simp only [State.tear]
  split <;> simp

@[simp] theorem State.tearBuffer_gate (s : State) (torn : List RetEntry) : (s.tearBuffer torn).gate = s.gate := by
  simp [State.tearBuffer]

@[simp] theorem State.bootRetention_gate (s : State) (torn : List RetEntry) : (s.bootRetention torn).gate = s.gate := by
  simp [State.bootRetention]

@[simp] theorem State.bootLevels_gate (s : State) : s.bootLevels.gate = s.gate := by simp [State.bootLevels]

@[simp] theorem State.bootCauses_gate (s : State) (sweepUs : Nat) : (s.bootCauses sweepUs).gate = s.gate := by
  simp [State.bootCauses]

@[simp] theorem State.bootLogs_gate (s : State) : s.bootLogs.gate = s.gate := by simp [State.bootLogs]

@[simp] theorem State.trySlots_gate (e : BootEnv) (n : Nat) (tried : List Nat) (s : State) :
    (State.trySlots e n tried s).2.gate = s.gate := by
  induction n generalizing tried s with
  | zero => rfl
  | succ n ih =>
    simp only [State.trySlots]
    (repeat' split) <;> simp [ih]

@[simp] theorem State.crashRecord_gate (s : State) (slot : Nat) : (s.crashRecord slot).gate = s.gate := by
  simp [State.crashRecord]

@[simp] theorem State.fillSeals_gate (s : State) (g : Tabs) (x : Option Section) : (s.fillSeals g x).gate = s.gate := by
  unfold State.fillSeals
  refine State.foldl_gate _ (fun s a => ?_) _ s
  (repeat' split) <;> simp

@[simp] theorem State.compareSeals_gate (s : State) (g : Tabs) (x : Option Section) : (s.compareSeals g x).gate = s.gate := by
  simp [State.compareSeals]

@[simp] theorem State.inSlot_gate (s : State) (k : Nat) (h : Head) (x : Option Section) : (s.inSlot k h x).gate = s.gate := by
  simp [State.inSlot]

@[simp] theorem State.bootSlots_gate (s : State) (e : BootEnv) : (s.bootSlots e).gate = s.gate := by simp [State.bootSlots]

@[simp] theorem State.stageOpen_gate (s : State) (n : Fin 4) : (s.stageOpen n).gate = s.gate := by simp [State.stageOpen]

@[simp] theorem State.stageRead_gate (s : State) (base k : Nat) : (s.stageRead base k).2.gate = s.gate := by
  induction k with
  | zero => rfl
  | succ k ih =>
    simp only [State.stageRead]
    split <;> simp_all

@[simp] theorem State.serveStage_gate (s : State) (n : Fin 4) (e : NorEnv) : (s.serveStage n e).gate = s.gate := by
  simp only [State.serveStage]
  (repeat' split) <;> simp

@[simp] theorem State.doneWith_gate (s : State) (n : Fin 4) (line : Line) (result : Nat) (res0 : Option Word) :
    (s.doneWith n line result res0).gate = s.gate := by simp [State.doneWith]

@[simp] theorem State.serveCommit_gate (s : State) (n : Fin 4) (e : NorEnv) : (s.serveCommit n e).gate = s.gate := by
  simp only [State.serveCommit]
  (repeat' split) <;> simp

@[simp] theorem State.serveImage_gate (s : State) (n : Fin 4) (e : NorEnv) : (s.serveImage n e).gate = s.gate := by
  simp [State.serveImage]

/-! #### Serve -/

@[simp] theorem State.onLines_gate (s : State) (n : Fin 4) (q : Nat) : (s.onLines n q).gate = s.gate := by simp [State.onLines]

@[simp] theorem State.serveLogAppend_gate (s : State) (n : Fin 4) : (s.serveLogAppend n).gate = s.gate := by
  simp only [State.serveLogAppend]
  (repeat' split) <;> simp

@[simp] theorem State.serveLedgerWrite_gate (s : State) (n : Fin 4) : (s.serveLedgerWrite n).gate = s.gate := by
  simp only [State.serveLedgerWrite]
  (repeat' split) <;> simp

@[simp] theorem State.serveComply_gate (s : State) (n : Fin 4) : (s.serveComply n).gate = s.gate := by simp [State.serveComply]

/-! #### Regs -/

@[simp] theorem State.sysWrite_gate (s : State) (off : Nat) (w : Word) : (s.sysWrite off w).gate = s.gate := by
  simp [State.sysWrite]

@[simp] theorem State.pwrWrite_gate (s : State) (off : Nat) (w : Word) : (s.pwrWrite off w).gate = s.gate := by
  simp only [State.pwrWrite]
  (repeat' split) <;> simp

@[simp] theorem State.memWrite_gate (s : State) (who : Requester) (off : Nat) (w : Word) :
    (s.memWrite who off w).gate = s.gate := by
  simp only [State.memWrite]
  (repeat' split) <;> simp

@[simp] theorem State.regEffect_gate (s : State) (addr : Nat) : (s.regEffect addr).gate = s.gate := by
  simp only [State.regEffect]
  split <;> simp

@[simp] theorem State.busRead_gate (s : State) (who : Requester) (addr : Nat) : (s.busRead who addr).2.2.gate = s.gate := by
  simp only [State.busRead]
  (repeat' split) <;> simp

/-! #### Dma -/

@[simp] theorem State.discard_gate (s : State) (c : Fin 24) (rs : List DmaRead) : (s.discard c rs).gate = s.gate := by
  simp [State.discard]

@[simp] theorem State.dmaHalt_gate (s : State) (c : Fin 24) (kind addr : Nat) : (s.dmaHalt c kind addr).gate = s.gate := by
  simp [State.dmaHalt]

@[simp] theorem State.haltIfDue_gate (s : State) (c : Fin 24) : (s.haltIfDue c).gate = s.gate := by
  simp only [State.haltIfDue]
  (repeat' split) <;> simp

@[simp] theorem State.readError_gate (s : State) (c : Fin 24) (p : DmaRead → Bool) (kind addr : Nat) :
    (s.readError c p kind addr).gate = s.gate := by
  simp only [State.readError]
  split <;> simp

@[simp] theorem State.reqSample_gate (s : State) (c : Fin 24) : (s.reqSample c).gate = s.gate := by simp [State.reqSample]

@[simp] theorem State.readIssue_gate (s : State) (refused : Nat) : (s.readIssue refused).gate = s.gate := by
  simp only [State.readIssue]
  split <;> simp

@[simp] theorem State.readBeats_gate (who : Requester) (inc : Bool) (k a : Nat) (got : List Word) (s : State) :
    (State.readBeats who inc k a got s).2.2.2.2.gate = s.gate := by
  induction k generalizing a got s with
  | zero => rfl
  | succ k ih =>
    have read := s.busRead_gate who a
    simp only [State.readBeats]
    split <;> simp_all

@[simp] theorem State.readOn_gate (s : State) (c : Fin 24) (r : DmaRead) (again : Bool) : (s.readOn c r again).gate = s.gate := by
  simp only [State.readOn]
  split <;> simp

@[simp] theorem State.sramUpset_gate (s : State) (addr : Nat) (u : Upset) : (s.sramUpset addr u).gate = s.gate := by
  simp [State.sramUpset]

@[simp] theorem State.readComplete_gate (s : State) (t : Nat) (u : Upset) : (s.readComplete t u).gate = s.gate := by
  simp only [State.readComplete]
  split <;> simp

@[simp] theorem State.descWords_gate (who : Requester) (k a : Nat) (ws : List Nat) (s : State) :
    (State.descWords who k a ws s).2.gate = s.gate := by
  induction k generalizing a ws s with
  | zero => rfl
  | succ k ih =>
    have read := s.busRead_gate who a
    simp only [State.descWords]
    split <;> simp_all

@[simp] theorem State.descError_gate (s : State) (c : Fin 24) (kind addr : Nat) : (s.descError c kind addr).gate = s.gate := by
  simp [State.descError]

@[simp] theorem State.descriptorLoad_gate (s : State) (c : Fin 24) (refused : Nat) (u : Upset) :
    (s.descriptorLoad c refused u).gate = s.gate := by
  have read := State.descWords_gate (.carder c) 4 (s.chan c).desc [] ((s.granted refused).sramUpset (s.chan c).desc u)
  simp only [State.descriptorLoad]
  (repeat' split) <;> simp_all

/-! #### Inspect -/

@[simp] theorem State.inkWords_gate (k a : Nat) (bs : List Byte) (s : State) : (State.inkWords k a bs s).2.gate = s.gate := by
  induction k generalizing a bs s with
  | zero => rfl
  | succ k ih =>
    have read := s.busRead_gate .innkeeper a
    simp only [State.inkWords]
    split <;> simp_all

@[simp] theorem State.inkBytes_gate (s : State) (addr len : Nat) : (s.inkBytes addr len).2.gate = s.gate := by
  simp [State.inkBytes]

@[simp] theorem State.svcRead_gate (s : State) (seq : Nat) (p : List Byte) : (s.svcRead seq p).gate = s.gate := by
  have read := s.inkBytes_gate (fieldAt p 4 4) (fieldAt p 1 1)
  simp only [State.svcRead]
  (repeat' split) <;> simp_all

/-! #### Tick -/

@[simp] theorem State.tick_gate (s : State) : s.tick.gate = s.gate := by
  simp only [State.tick]
  (repeat' split) <;> simp

/-! #### Step -/

@[simp] theorem State.rest_gate (s : State) : s.rest.gate = s.gate := by simp [State.rest]

end Sys2Proof.Machine
end

section
/-! PROOFS. The two rules on applied values (R30, R45, R48, R49), and how the gate's own operations keep them (R38 to R65). -/

namespace Sys2Proof.Machine

/-! ### The two rules on applied values -/

/-- The two rules on applied values: in Blank nothing is applied (R30, R48), and in Rest the Rest value is (R45, R49). -/
inductive GateRule where
  | blank | rest

/-- An output follows a rule, in Blank or not. -/
def Output.Obeys (o : Output) (blank : Bool) : GateRule → Prop
  | .blank => blank = true → o.applied = 0
  | .rest => blank = false → o.inRest = true → o.applied = o.rest

/-- Every output of a gate follows a rule. -/
structure Gate.Obeys (g : Gate) (rule : GateRule) : Prop where
  output : ∀ i : Fin 30, (vget g.outs i).Obeys g.blank rule

theorem State.blankSafe_iff (s : State) : s.BlankSafe ↔ s.gate.Obeys .blank :=
  ⟨fun h => ⟨fun i b => h b i⟩, fun h b i => h.output i b⟩

theorem State.restHolds_iff (s : State) : (∀ i, s.RestHolds i) ↔ s.gate.Obeys .rest :=
  ⟨fun h => ⟨h⟩, fun h => h.output⟩

variable {rule : GateRule}

/-! ### What the rules ask of an output -/

/-- A rule speaks of APPLIED, of the Rest value and of whether the output is in Rest. -/
theorem Output.Obeys.congr {o p : Output} {b : Bool} (h : o.Obeys b rule) (ha : p.applied = o.applied) (hr : p.rest = o.rest)
    (hin : p.inRest = true → o.inRest = true) : p.Obeys b rule := by
  cases rule with
  | blank => exact fun hb => ha.trans (h hb)
  | rest => exact fun hb hp => ha.trans ((h hb (hin hp)).trans hr.symm)

/-- Outside Blank an output may apply anything while it is not in Rest, and its Rest value always. -/
theorem Output.obeys_of_live {o : Output} {b : Bool} (hb : b = false) (h : o.inRest = true → o.applied = o.rest) :
    o.Obeys b rule := by
  cases rule with
  | blank => exact fun hb' => absurd (hb.symm.trans hb') Bool.false_ne_true
  | rest => exact fun _ => h

/-- In Blank only APPLIED counts. -/
theorem Output.Obeys.inBlank {o p : Output} (h : o.Obeys true rule) (ha : p.applied = o.applied) : p.Obeys true rule := by
  cases rule with
  | blank => exact fun hb => ha.trans (h hb)
  | rest => exact fun hb => absurd hb.symm Bool.false_ne_true

theorem Output.obeys_zero {o : Output} (h : o.applied = 0) : o.Obeys true rule := by
  cases rule with
  | blank => exact fun _ => h
  | rest => exact fun hb => absurd hb.symm Bool.false_ne_true

/-! ### What the rules ask of a gate -/

/-- Of the gate's registers a rule reads the outputs and BLANK only. -/
@[simp] theorem Gate.obeys_registers (g : Gate) (cause rejIndex rejKind rejId clampCnt rejectCnt : Nat) (vgdLow : Bool)
    (env : Option (List Byte)) :
    (Gate.mk g.outs g.blank cause vgdLow rejIndex rejKind rejId env clampCnt rejectCnt).Obeys rule ↔ g.Obeys rule :=
  ⟨fun h => ⟨h.output⟩, fun h => ⟨h.output⟩⟩

@[simp] theorem Gate.obeys_ite (c : Prop) [Decidable c] (g h : Gate) :
    (if c then g else h).Obeys rule ↔ (c → g.Obeys rule) ∧ (¬ c → h.Obeys rule) := by
  split <;> simp [*]

/-- A gate as reset leaves it. -/
theorem Gate.obeys_reset : Gate.Obeys {} rule := ⟨fun _ => Output.obeys_zero (by simp [vget])⟩

theorem State.ite_obeys {c : Prop} [Decidable c] {s t : State} (hs : c → s.gate.Obeys rule) (ht : ¬ c → t.gate.Obeys rule) :
    (if c then s else t).gate.Obeys rule := by
  split
  next h => exact hs h
  next h => exact ht h

theorem State.foldl_obeys {α : Type} {f : State → α → State} {s : State} (h : s.gate.Obeys rule)
    (hf : ∀ s a, s.gate.Obeys rule → (f s a).gate.Obeys rule) (l : List α) : (l.foldl f s).gate.Obeys rule := by
  induction l generalizing s with
  | nil => exact h
  | cons a l ih => exact ih (hf s a h)

/-- What each step of a fold settles for one output, and keeps for the others, the fold settles for all. -/
theorem foldl_finRange_settles {n : Nat} {I : State → Prop} {P : Fin n → State → Prop} {f : State → Fin n → State}
    (inv : ∀ s i, I s → I (f s i)) (hit : ∀ s i, I s → P i (f s i)) (keep : ∀ s i j, j ≠ i → I s → P j s → P j (f s i))
    {s : State} (h : I s) (i : Fin n) : P i ((List.finRange n).foldl f s) := by
  have settled : ∀ (l : List (Fin n)) (s : State), I s → (i ∈ l ∨ P i s) → P i (l.foldl f s) := by
    intro l
    induction l with
    | nil => exact fun s _ hs => hs.resolve_left List.not_mem_nil
    | cons j l ih =>
      intro s h hs
      refine ih (f s j) (inv s j h) ?_
      by_cases hj : i = j
      · exact .inr (hj ▸ hit s j h)
      · exact hs.imp (fun hm => (List.mem_cons.mp hm).resolve_left hj) (keep s j i hj h)
  exact settled _ s h (.inl (List.mem_finRange i))

/-! ### The rules of the state: one output changes -/

theorem State.obeys_iff (s : State) : s.gate.Obeys rule ↔ ∀ i, (s.outp i).Obeys s.gate.blank rule :=
  ⟨Gate.Obeys.output, Gate.Obeys.mk⟩

@[simp] theorem State.mapOutp_blank (s : State) (i : Fin 30) (f : Output → Output) :
    (s.mapOutp i f).gate.blank = s.gate.blank := rfl

@[simp] theorem State.mapOutp_outp_same (s : State) (i : Fin 30) (f : Output → Output) : (s.mapOutp i f).outp i = f (s.outp i) :=
  vget_vmod_same ..

theorem State.mapOutp_outp_ne (s : State) {i j : Fin 30} (h : j ≠ i) (f : Output → Output) : (s.mapOutp i f).outp j = s.outp j :=
  vget_vmod_ne _ _ _ _ h

theorem State.outp_congr {s t : State} (h : s.gate = t.gate) (i : Fin 30) : s.outp i = t.outp i := by
  rw [State.outp, h, State.outp]

/-- Where one output changes, the rule has to be seen for that one. -/
theorem State.mapOutp_obeys {s : State} (h : s.gate.Obeys rule) (i : Fin 30) (f : Output → Output)
    (hf : (f (s.outp i)).Obeys s.gate.blank rule) : (s.mapOutp i f).gate.Obeys rule := by
  rw [State.obeys_iff] at h ⊢
  intro j
  by_cases hj : j = i
  · simpa [hj] using hf
  · simpa [s.mapOutp_outp_ne hj f] using h j

/-- A change that leaves APPLIED and the Rest value, and sends no output to Rest, keeps the rules. -/
theorem State.mapOutp_obeys_of_kept {s : State} (h : s.gate.Obeys rule) (i : Fin 30) {f : Output → Output}
    (ha : ∀ o, (f o).applied = o.applied) (hr : ∀ o, (f o).rest = o.rest) (hin : ∀ o, (f o).inRest = true → o.inRest = true) :
    (s.mapOutp i f).gate.Obeys rule :=
  State.mapOutp_obeys h i f ((h.output i).congr (ha _) (hr _) (hin _))

theorem State.isLive_iff {s : State} {i : Fin 30} : s.isLive i = true ↔ s.gate.blank = false ∧ (s.outp i).inRest = false := by
  unfold State.isLive State.outState
  cases s.gate.blank <;> cases (s.outp i).inRest <;> decide

/-! ### An applied value changes -/

/-- The gate after a change of an applied value: the output applies the value, and all else but its time of change stays. -/
theorem State.applyTo_gate (s : State) (i : Fin 30) (v : Nat) :
    ∃ t, (s.applyTo i v).gate = (s.mapOutp i fun o => { o with applied := v, changedAt := t }).gate := by
  by_cases h : (s.outp i).applied = v
  · refine ⟨(s.outp i).changedAt, ?_⟩
    have same : { s.outp i with applied := v, changedAt := (s.outp i).changedAt } = s.outp i := by rw [← h]
    have kept : s.applyTo i v = s := by simp [State.applyTo, h]
    have put : vset s.gate.outs i (s.outp i) = s.gate.outs := Vector.set_getElem_self _
    rw [kept, State.mapOutp, State.mapGate_gate, vmod]
    exact congrArg (fun outs => { s.gate with outs := outs }) ((congrArg _ same).trans put).symm
  · refine ⟨if isDo i.val then some s.now else (s.outp i).changedAt, ?_⟩
    unfold State.applyTo
    (repeat' split) <;> simp_all [State.mapOutp, vmod, State.outp]

/-- Outside Blank a value may be applied to an output that is not in Rest, and its Rest value to any. -/
theorem State.applyTo_obeys {s : State} (h : s.gate.Obeys rule) {i : Fin 30} {v : Nat} (hb : s.gate.blank = false)
    (hv : (s.outp i).inRest = true → v = (s.outp i).rest) : (s.applyTo i v).gate.Obeys rule := by
  obtain ⟨t, ht⟩ := s.applyTo_gate i v
  rw [ht]
  exact State.mapOutp_obeys h i _ (Output.obeys_of_live hb hv)

/-- A Live output may apply any value. -/
theorem State.applyTo_obeys_of_isLive {s : State} (h : s.gate.Obeys rule) {i : Fin 30} (hl : s.isLive i = true) (v : Nat) :
    (s.applyTo i v).gate.Obeys rule := by
  obtain ⟨hb, hin⟩ := State.isLive_iff.mp hl
  exact State.applyTo_obeys h hb fun h => absurd (hin.symm.trans h) Bool.false_ne_true

@[simp] theorem State.settle_obeys {s : State} (i : Fin 30) (h : s.gate.Obeys rule) : (s.settle i).gate.Obeys rule := by
  by_cases hl : s.isLive i = true
  · have applied := State.applyTo_obeys_of_isLive h hl (s.outp i).goal
    simp only [State.settle, hl, if_true]
    split <;> simp [applied, h]
  · simpa [State.settle, hl] using h

/-! ### Rest and Blank -/

/-- An output that goes to Rest applies its Rest value, unless Blank prevails. -/
theorem State.toRestValue_gate (s : State) (i : Fin 30) :
    ∃ v t, (v = if s.gate.blank then (s.outp i).applied else (s.outp i).rest) ∧ (s.toRestValue i).gate =
      (s.mapOutp i fun o => { o with inRest := true, carry := 0, applied := v, changedAt := t }).gate := by
  cases hb : s.gate.blank
  · obtain ⟨t, ht⟩ := ((s.mapOutp i fun o => { o with inRest := true, carry := 0 }).fanLeavesLive i).applyTo_gate i (s.outp i).rest
    refine ⟨_, t, rfl, ?_⟩
    simpa [State.toRestValue, hb, State.mapOutp] using ht
  · refine ⟨_, (s.outp i).changedAt, rfl, ?_⟩
    simp [State.toRestValue, hb, State.mapOutp, vmod, State.outp]

theorem State.toRestValue_outp_ne (s : State) {i j : Fin 30} (h : j ≠ i) : (s.toRestValue i).outp j = s.outp j := by
  obtain ⟨v, t, -, ht⟩ := s.toRestValue_gate i
  exact (State.outp_congr ht j).trans (s.mapOutp_outp_ne h _)

@[simp] theorem State.toRestValue_blank (s : State) (i : Fin 30) : (s.toRestValue i).gate.blank = s.gate.blank := by
  obtain ⟨v, t, -, ht⟩ := s.toRestValue_gate i
  rw [ht]
  rfl

/-- Whatever an output applied outside Blank, it follows the rules once it has gone to Rest. -/
theorem State.toRestValue_settles {s : State} (i : Fin 30) (hb : s.gate.blank = false) :
    ((s.toRestValue i).outp i).Obeys s.gate.blank rule := by
  obtain ⟨v, t, hv, ht⟩ := s.toRestValue_gate i
  rw [State.outp_congr ht i, State.mapOutp_outp_same]
  exact Output.obeys_of_live hb fun _ => by simpa [hb] using hv

@[simp] theorem State.toRestValue_obeys {s : State} (i : Fin 30) (h : s.gate.Obeys rule) : (s.toRestValue i).gate.Obeys rule := by
  obtain ⟨v, t, hv, ht⟩ := s.toRestValue_gate i
  rw [ht]
  refine State.mapOutp_obeys h i _ ?_
  cases hb : s.gate.blank with
  | false => exact Output.obeys_of_live rfl fun _ => by simpa [hb] using hv
  | true => exact (hb ▸ h.output i).inBlank (by simpa [hb, State.outp] using hv)

/-- R45: what a new Rest cause does before the output goes to Rest. -/
def State.causeNoted (s : State) (i : Fin 30) (c : RestCause) : State :=
  s.mapOutp i fun o => { o with causes := o.causes ||| c.mask, stale := o.stale || decide (c = .key ∨ c = .apart) }

theorem State.causeNoted_obeys {s : State} (i : Fin 30) (c : RestCause) (h : s.gate.Obeys rule) :
    (s.causeNoted i c).gate.Obeys rule :=
  State.mapOutp_obeys_of_kept h i (fun _ => rfl) (fun _ => rfl) fun _ => id

/-- An output takes a Rest cause, and goes to Rest with it unless it is there. -/
theorem State.setCause_gate (s : State) (i : Fin 30) (c : RestCause) :
    (s.setCause i c).gate = if (s.outp i).inRest then (s.causeNoted i c).gate else ((s.causeNoted i c).toRestValue i).gate := by
  simp only [State.setCause, State.gate_ite, State.endTargets_gate, ite_self]
  rfl

@[simp] theorem State.setCause_obeys {s : State} (i : Fin 30) (c : RestCause) (h : s.gate.Obeys rule) :
    (s.setCause i c).gate.Obeys rule := by
  have noted := State.causeNoted_obeys i c h
  rw [State.setCause_gate]
  split
  · exact noted
  · exact State.toRestValue_obeys i noted

@[simp] theorem State.setCause_blank (s : State) (i : Fin 30) (c : RestCause) : (s.setCause i c).gate.blank = s.gate.blank := by
  rw [State.setCause_gate]
  split
  · rfl
  · exact State.toRestValue_blank _ i

theorem State.setCause_outp_ne (s : State) {i j : Fin 30} (h : j ≠ i) (c : RestCause) : (s.setCause i c).outp j = s.outp j := by
  have noted : (s.causeNoted i c).outp j = s.outp j := s.mapOutp_outp_ne h _
  have gate := s.setCause_gate i c
  split at gate
  · exact (State.outp_congr gate j).trans noted
  · exact (State.outp_congr gate j).trans ((State.toRestValue_outp_ne _ h).trans noted)

@[simp] theorem State.clearCause_obeys {s : State} (i : Fin 30) (c : RestCause) (h : s.gate.Obeys rule) :
    (s.clearCause i c).gate.Obeys rule := by
  refine State.mapOutp_obeys_of_kept h i (fun _ => rfl) (fun _ => rfl) fun o hin => ?_
  dsimp only at hin
  split at hin
  · exact absurd hin Bool.false_ne_true
  · exact hin

@[simp] theorem State.setCauses_obeys {s : State} (c : RestCause) (p : Output → Bool) (h : s.gate.Obeys rule) :
    (s.setCauses c p).gate.Obeys rule := by
  refine State.foldl_obeys h (fun s i h => ?_) _
  split <;> simp [h]

@[simp] theorem State.clearCauses_obeys {s : State} (c : RestCause) (p : Output → Bool) (h : s.gate.Obeys rule) :
    (s.clearCauses c p).gate.Obeys rule := by
  refine State.foldl_obeys h (fun s i h => ?_) _
  split <;> simp [h]

/-- Blank comes from any state: nothing is applied any more (R30, R48). -/
@[simp] theorem State.gateBlank_obeys (s : State) (cause : Nat) : (s.gateBlank cause).gate.Obeys rule :=
  ⟨fun i => Output.obeys_zero (by simp [State.gateBlank])⟩

/-- Outside Blank, output `i` follows a rule. -/
def State.Settled (rule : GateRule) (i : Fin 30) (s : State) : Prop := s.gate.blank = false ∧ (s.outp i).Obeys false rule

/-- Blank ends in any state: every output goes to Rest, and applies its Rest value (R65, R71). -/
@[simp] theorem State.gateUnblank_obeys (s : State) : s.gateUnblank.gate.Obeys rule := by
  have blankOff : ∀ (s : State) (i : Fin 30), s.gate.blank = false → ((s.setCause i .boot).toRestValue i).gate.blank = false :=
    fun s i h => by simpa using h
  have settled : ∀ i, State.Settled rule i s.gateUnblank := by
    unfold State.gateUnblank
    refine foldl_finRange_settles (P := State.Settled rule) blankOff (fun s i h => ⟨blankOff s i h, ?_⟩)
      (fun s i j hj h hP => ⟨blankOff s i h, ?_⟩) rfl
    · have hb : (s.setCause i .boot).gate.blank = false := by simpa using h
      exact hb ▸ State.toRestValue_settles i hb
    · rw [State.toRestValue_outp_ne _ hj, State.setCause_outp_ne _ hj]
      exact hP.2
  exact ⟨fun i => (settled i).1 ▸ (settled i).2⟩

/-! ### Releases and writes -/

/-- R63: what a release makes of an output's Rest causes. -/
def Output.released (lost : Bool) (o : Output) : Output :=
  let m := if lost then o.causes &&& ~~~RestCause.journalLost.mask else o.causes
  let m := m &&& ~~~RestCause.boot.mask
  if m = 0 then { o with causes := 0, inRest := false, carry := if o.inRest then 0 else o.carry } else { o with causes := m }

theorem Output.released_kept (lost : Bool) (o : Output) :
    (o.released lost).applied = o.applied ∧ (o.released lost).rest = o.rest ∧
      ((o.released lost).inRest = true → o.inRest = true) := by
  unfold Output.released
  generalize (if lost then _ else _ : BitVec 7) = m
  dsimp only
  split
  · exact ⟨rfl, rfl, fun h => absurd h Bool.false_ne_true⟩
  · exact ⟨rfl, rfl, id⟩

theorem State.releaseOut_eq (s : State) (i : Fin 30) (lost : Bool) :
    s.releaseOut i lost =
      if (s.outp i).inRest && !((s.mapOutp i (Output.released lost)).outp i).inRest then
        ((s.mapOutp i (Output.released lost)).settle i).strokeCheck i
      else s.mapOutp i (Output.released lost) := rfl

@[simp] theorem State.releaseOut_obeys {s : State} (i : Fin 30) (lost : Bool) (h : s.gate.Obeys rule) :
    (s.releaseOut i lost).gate.Obeys rule := by
  have released : (s.mapOutp i (Output.released lost)).gate.Obeys rule :=
    State.mapOutp_obeys_of_kept h i (fun o => (o.released_kept lost).1) (fun o => (o.released_kept lost).2.1)
      fun o => (o.released_kept lost).2.2
  simp [State.releaseOut_eq, released]

@[simp] theorem State.gateReject_obeys {s : State} (i : Nat) (src : GateSource) (h : s.gate.Obeys rule) :
    (s.gateReject i src).gate.Obeys rule := by simpa [State.gateReject] using h

@[simp] theorem State.gateTarget_obeys {s : State} (i : Fin 30) (src : GateSource) (v own : Nat) (h : s.gate.Obeys rule) :
    (s.gateTarget i src v own).gate.Obeys rule := by
  have counted : (if (s.outp i).clamp v = v then s
      else s.mapGate fun g => { g with clampCnt := satInc 0xFFFF g.clampCnt }).gate.Obeys rule := by simp [h]
  have aimed := State.mapOutp_obeys_of_kept counted i (f := fun o => { o with target := (s.outp i).clamp v })
    (fun _ => rfl) (fun _ => rfl) fun _ => id
  simp only [State.gateTarget]
  split <;> simp [aimed, State.settle_obeys]

@[simp] theorem State.gateWrite_obeys {s : State} (src : GateSource) (i : Fin 30) (v : Nat) (h : s.gate.Obeys rule) :
    (s.gateWrite src i v).gate.Obeys rule := by simp [State.gateWrite, h]

@[simp] theorem State.lodgerRelease_obeys {s : State} (n : Fin 4) (i : Fin 30) (h : s.gate.Obeys rule) :
    (s.lodgerRelease n i).gate.Obeys rule := by simp [State.lodgerRelease, h]

@[simp] theorem State.gateRelease_obeys {s : State} (n : Fin 4) (rel : Word) (h : s.gate.Obeys rule) :
    (s.gateRelease n rel).gate.Obeys rule :=
  State.foldl_obeys h (fun s i h => by simp [h]) _

/-! ### Ramps, envelopes and Rest values -/

@[simp] theorem Output.park_applied (o : Output) : o.park.applied = o.applied := by
  unfold Output.park
  split <;> rfl

@[simp] theorem Output.park_rest (o : Output) : o.park.rest = o.rest := by
  unfold Output.park
  split <;> rfl

@[simp] theorem Output.park_inRest (o : Output) : o.park.inRest = o.inRest := by
  unfold Output.park
  split <;> rfl

theorem Gate.loadEnvelopes_obeys {g : Gate} (h : g.Obeys rule) (v : List Byte) : (g.loadEnvelopes v).Obeys rule := by
  have kept (i : Fin 30) : ((vget g.outs i).loadEnvelope (slice v (8 * i.val) 8)).Obeys g.blank rule :=
    (h.output i).congr (by simp [Output.loadEnvelope]) (by simp [Output.loadEnvelope]) (by simp [Output.loadEnvelope])
  exact ⟨by simpa [Gate.loadEnvelopes] using kept⟩

@[simp] theorem State.newEnvelopes_obeys {s : State} (h : s.gate.Obeys rule) : s.newEnvelopes.gate.Obeys rule := by
  unfold State.newEnvelopes
  split
  · exact State.foldl_obeys (by simpa using Gate.loadEnvelopes_obeys h _) (fun s i h => by simp [h]) _
  · exact h

@[simp] theorem State.gateRamp_obeys {s : State} (h : s.gate.Obeys rule) : s.gateRamp.gate.Obeys rule := by
  refine State.foldl_obeys (State.newEnvelopes_obeys h) (fun s i h => ?_) _
  split
  next hl =>
    simpa using State.mapOutp_obeys_of_kept (State.applyTo_obeys_of_isLive h hl ((s.outp i).ramp i.val).applied) i
      (f := fun o => { o with carry := ((s.outp i).ramp i.val).carry }) (fun _ => rfl) (fun _ => rfl) fun _ => id
  next => exact h

@[simp] theorem State.doInterval_obeys {s : State} (k : Fin 12) (h : s.gate.Obeys rule) : (s.doInterval k).gate.Obeys rule := by
  simp only [State.doInterval]
  split
  next hl => simpa using State.applyTo_obeys_of_isLive h hl _
  next => exact h

/-- A Rest value may change under an output that does not apply it: in Blank, or while it is not in Rest. -/
theorem State.newRest_obeys {s : State} (h : s.gate.Obeys rule) (i : Fin 30) (v : Nat)
    (hi : s.gate.blank = true ∨ (s.outp i).inRest = false) :
    (s.mapOutp i fun o => { o with rest := v }.park).gate.Obeys rule := by
  refine State.mapOutp_obeys h i _ ?_
  cases hb : s.gate.blank with
  | true => exact (hb ▸ h.output i).inBlank (Output.park_applied _)
  | false =>
    have live : (s.outp i).inRest = false := hi.resolve_left (hb ▸ Bool.false_ne_true)
    exact Output.obeys_of_live rfl (by simp [live])

/-- An output outside Blank steps to its new Rest value. -/
theorem State.newRest_applied_obeys {s : State} (h : s.gate.Obeys rule) (i : Fin 30) (v : Nat) (hb : s.gate.blank = false) :
    ((s.mapOutp i fun o => { o with rest := v }.park).applyTo i v).gate.Obeys rule := by
  obtain ⟨t, ht⟩ := (s.mapOutp i fun o => { o with rest := v }.park).applyTo_gate i v
  have once : (s.mapOutp i fun o => { { o with rest := v }.park with applied := v, changedAt := t }).gate.Obeys rule :=
    State.mapOutp_obeys h i _ (Output.obeys_of_live hb (by simp))
  rw [ht]
  simpa [State.mapOutp] using once

@[simp] theorem State.loadRests_obeys {s : State} (v : List Byte) (h : s.gate.Obeys rule) : (s.loadRests v).gate.Obeys rule := by
  refine State.foldl_obeys h (fun s i h => ?_) _
  dsimp only
  split
  next => exact h
  next =>
    cases hin : (s.outp i).inRest <;> cases hb : s.gate.blank <;>
      simp [hin, hb, State.newRest_obeys h, State.newRest_applied_obeys h]

end Sys2Proof.Machine
end

section
/-! PROOFS. Whatever reaches the gate reaches it through the operations above, and keeps the rules on applied values. A lemma
about an operation that carries on with another one (`go`, `serve`) asks for the state `t` that this one leaves by an equation: so
no proof has to compare two ways to write that state by running the operation. -/

namespace Sys2Proof.Machine

variable {rule : GateRule}

/-! #### Access -/

@[simp] theorem State.access_obeys {s : State} {go : State → State} (who : Requester) (kind : AccessKind) (addr : Nat)
    (hs : s.gate.Obeys rule) (hgo : ∀ t, t = go s → t.gate.Obeys rule) : (s.access who kind addr go).gate.Obeys rule := by
  simp only [State.access]
  split <;> simp [hs, hgo _ rfl]

@[simp] theorem State.arbitrated_obeys {s : State} {go : State → State} (a : Access) (kind : AccessKind) (addr : Nat)
    (hs : s.gate.Obeys rule) (hgo : ∀ t, t = go (s.granted a.refused) → t.gate.Obeys rule) :
    (s.arbitrated a kind addr go).gate.Obeys rule := by
  rw [State.arbitrated]
  exact State.access_obeys _ _ _ hs hgo

@[simp] theorem State.lodgerAccess_obeys {s : State} {go : State → State} (n : Fin 4) (user : Bool) (refused : Nat) (kind : AccessKind)
    (addr : Nat) (hs : s.gate.Obeys rule) (hgo : ∀ t, t = go (s.granted refused) → t.gate.Obeys rule) :
    (s.lodgerAccess n user refused kind addr go).gate.Obeys rule := by
  rw [State.lodgerAccess]
  exact State.arbitrated_obeys _ _ _ hs hgo

/-! #### Sram -/

@[simp] theorem State.mainSramRead_obeys {s : State} (a : Access) (fetch : Bool) (addr n : Nat) (u : Upset)
    (hs : s.gate.Obeys rule) : (s.mainSramRead a fetch addr n u).gate.Obeys rule := by
  rw [State.mainSramRead]
  refine State.arbitrated_obeys _ _ _ hs ?_
  rintro _ rfl
  dsimp only
  split <;> simp [hs]

@[simp] theorem State.mainSramWrite_obeys {s : State} (a : Access) (addr : Nat) (bs : List Byte) (u : Upset)
    (hs : s.gate.Obeys rule) : (s.mainSramWrite a addr bs u).gate.Obeys rule := by
  rw [State.mainSramWrite]
  refine State.arbitrated_obeys _ _ _ hs ?_
  simp [hs]

/-! #### Carder -/

@[simp] theorem State.ownedWrite_obeys {s : State} {go : State → State} (who : Requester) (c : Fin 24) (start : Bool)
    (hs : s.gate.Obeys rule) (hgo : ∀ t, t = go s → t.gate.Obeys rule) : (s.ownedWrite who c start go).gate.Obeys rule := by
  simp only [State.ownedWrite]
  split <;> simp [hs, hgo _ rfl]

@[simp] theorem State.carderWrite_obeys {s : State} (who : Requester) (off : Nat) (w : Word) (hs : s.gate.Obeys rule) :
    (s.carderWrite who off w).gate.Obeys rule := by
  simp only [State.carderWrite]
  split
  · split
    · exact hs
    · split
      · exact hs
      · refine State.ownedWrite_obeys _ _ _ hs ?_
        rintro _ rfl
        split <;> simp [hs]
  · exact hs

@[simp] theorem State.ctrlCommand_obeys {s : State} {go : State → State} (n : Fin 4) (user : Bool) (c : Fin 24) (start : Bool)
    (hs : s.gate.Obeys rule) (hgo : ∀ t, t = go (s.answer 0) → t.gate.Obeys rule) :
    (s.ctrlCommand n user c start go).gate.Obeys rule := by
  rw [State.ctrlCommand]
  refine State.access_obeys _ _ _ hs ?_
  rintro _ rfl
  exact State.ownedWrite_obeys _ _ _ (by simp [hs]) hgo

/-! #### Mailbox -/

@[simp] theorem State.taken_gate (s : State) (n : Fin 4) (seq code : Nat) (args : List Nat) :
    (s.taken n seq code args).gate = s.gate := by simp [State.taken]

@[simp] theorem State.mbxCommand_obeys {s : State} {serve : State → State} (n : Fin 4) (user : Bool) (seq code : Nat)
    (args : List Nat) (hs : s.gate.Obeys rule) (hserve : ∀ t, t = serve (s.taken n seq code args) → t.gate.Obeys rule) :
    (s.mbxCommand n user seq code args serve).gate.Obeys rule := by
  rw [State.mbxCommand]
  refine State.access_obeys _ _ _ hs ?_
  rintro _ rfl
  exact State.ite_obeys (fun _ => hserve _ rfl) fun _ => by simp [hs]

/-! #### Keys -/

@[simp] theorem State.keyCause_obeys {s : State} (k : Nat) (hs : s.gate.Obeys rule) : (s.keyCause k).gate.Obeys rule := by
  simp only [State.keyCause]
  split <;> simp [hs]

@[simp] theorem State.newGrant_obeys {s : State} (k src : Nat) (hs : s.gate.Obeys rule) :
    (s.newGrant k src).2.gate.Obeys rule := by
  simp only [State.newGrant]
  split
  · refine State.mapOutp_obeys_of_kept ?_ _ (fun _ => rfl) (fun _ => rfl) fun _ => id
    exact State.clearCause_obeys _ _ hs
  · exact hs

@[simp] theorem State.hostGrant_obeys {s : State} (src k : Nat) (hs : s.gate.Obeys rule) :
    (s.hostGrant src k).2.gate.Obeys rule := by
  simp only [State.hostGrant]
  (repeat' split) <;> simp [hs]

@[simp] theorem State.hostAcquire_obeys {s : State} (src k : Nat) (hs : s.gate.Obeys rule) :
    (s.hostAcquire src k).2.gate.Obeys rule := by
  simp only [State.hostAcquire]
  split <;> simp [hs]

@[simp] theorem State.holdApplied_obeys {s : State} (k : Nat) (hs : s.gate.Obeys rule) : (s.holdApplied k).gate.Obeys rule := by
  simp only [State.holdApplied]
  split
  next i _ =>
    have held := State.mapOutp_obeys_of_kept hs i (f := fun o => { o with target := o.applied }) (fun _ => rfl) (fun _ => rfl)
      fun _ => id
    split <;> simp [hs, held]
  next => exact hs

@[simp] theorem State.hostRelease_obeys {s : State} (src k cause : Nat) (hs : s.gate.Obeys rule) :
    (s.hostRelease src k cause).2.gate.Obeys rule := by
  simp only [State.hostRelease]
  (repeat' split) <;> simp [hs]

@[simp] theorem State.hostExpire_obeys {s : State} (h : HostedKey) (hs : s.gate.Obeys rule) :
    (s.hostExpire h).gate.Obeys rule := by simp [State.hostExpire, hs]

@[simp] theorem State.hostReclaim_obeys {s : State} (src k epoch rop : Nat) (hs : s.gate.Obeys rule) :
    (s.hostReclaim src k epoch rop).2.gate.Obeys rule := by
  simp only [State.hostReclaim]
  (repeat' split) <;> simp [hs]

@[simp] theorem State.hostWrite_obeys {s : State} (src k epoch value : Nat) (hs : s.gate.Obeys rule) :
    (s.hostWrite src k epoch value).gate.Obeys rule := by
  simp only [State.hostWrite]
  split <;> simp [hs]

@[simp] theorem State.askHost_obeys {s : State} (t : KeyStep) (hs : s.gate.Obeys rule) : (s.askHost t).2.gate.Obeys rule := by
  simp only [State.askHost]
  (repeat' split) <;> simp [hs]

@[simp] theorem State.releaseKey_obeys {s : State} (h : HeldKey) (cause journal : Nat) (mbx : Option (Fin 4))
    (hs : s.gate.Obeys rule) : (s.releaseKey h cause journal mbx).gate.Obeys rule := by
  simp only [State.releaseKey]
  split
  · rw [State.stepReleased_gate]
    exact State.askHost_obeys _ hs
  · rw [State.addStep_gate]
    exact State.askHost_obeys _ hs

@[simp] theorem State.releaseInk_obeys {s : State} (h : HeldKey) (cause : Nat) (hs : s.gate.Obeys rule) :
    (s.releaseInk h cause).gate.Obeys rule := by simp [State.releaseInk, hs]

@[simp] theorem State.releaseAll_obeys {s : State} (ks : List Nat) (cause : Nat) (hs : s.gate.Obeys rule) :
    (s.releaseAll ks cause).gate.Obeys rule := by
  refine State.foldl_obeys (by simp [hs]) (fun s a hs => ?_) _
  (repeat' split) <;> simp [hs]

@[simp] theorem State.acquireFailed_obeys {s : State} (t : KeyStep) (result : Nat) (hs : s.gate.Obeys rule) :
    (s.acquireFailed t result).gate.Obeys rule := by
  simp only [State.acquireFailed]
  (repeat' split) <;> simp [hs]

@[simp] theorem State.acquireFrom_obeys {s : State} (fuel : Nat) (n : Fin 4) (ks : List Nat) (i : Nat)
    (hs : s.gate.Obeys rule) : (State.acquireFrom fuel n ks i s).gate.Obeys rule := by
  induction fuel generalizing s i with
  | zero => exact hs
  | succ fuel ih =>
    simp only [State.acquireFrom]
    split
    · simp [hs]
    · split
      · simp [hs]
      · split
        · simp [hs]
        · split
          · simp [hs]
          · exact ih _ (by simp [hs])
          · simp [hs]

@[simp] theorem State.replayKeyTargets_obeys {s : State} (k : Nat) (hs : s.gate.Obeys rule) :
    (s.replayKeyTargets k).gate.Obeys rule := by
  refine State.foldl_obeys (by simp [hs]) (fun s a hs => ?_) _
  (repeat' split) <;> simp [hs]

@[simp] theorem State.reclaimRefused_obeys {s : State} (t : KeyStep) (cause : Nat) (hs : s.gate.Obeys rule) :
    (s.reclaimRefused t cause).gate.Obeys rule := by simp [State.reclaimRefused, hs]

@[simp] theorem State.reclaimAccepted_obeys {s : State} (t : KeyStep) (epoch lease : Nat) (hs : s.gate.Obeys rule) :
    (s.reclaimAccepted t epoch lease).gate.Obeys rule := by simp [State.reclaimAccepted, hs]

@[simp] theorem State.reclaimAnswer_obeys {s : State} (t : KeyStep) (x : KeyReply) (hs : s.gate.Obeys rule) :
    (s.reclaimAnswer t x).gate.Obeys rule := by
  simp only [State.reclaimAnswer]
  split <;> simp [hs]

@[simp] theorem State.reclaimNext_obeys {s : State} (fuel : Nat) (hs : s.gate.Obeys rule) :
    (State.reclaimNext fuel s).gate.Obeys rule := by
  induction fuel generalizing s with
  | zero => exact hs
  | succ fuel ih =>
    simp only [State.reclaimNext]
    split
    · simp [hs]
    · split
      · exact ih hs
      · split
        · split
          · simp [hs]
          · exact ih (by simp [hs])
        · exact ih (by simp [hs])

@[simp] theorem State.onGrant_obeys {s : State} (src k epoch lease : Nat) (hs : s.gate.Obeys rule) :
    (s.onGrant src k epoch lease).gate.Obeys rule := by
  simp only [State.onGrant]
  (repeat' split) <;> simp [hs]

@[simp] theorem State.onDeny_obeys {s : State} (src k cause : Nat) (hs : s.gate.Obeys rule) :
    (s.onDeny src k cause).gate.Obeys rule := by
  simp only [State.onDeny]
  (repeat' split) <;> simp [hs]

@[simp] theorem State.onRenewed_obeys {s : State} (src k epoch : Nat) (hs : s.gate.Obeys rule) :
    (s.onRenewed src k epoch).gate.Obeys rule := by
  simp only [State.onRenewed]
  split <;> simp [hs]

@[simp] theorem State.onReleased_obeys {s : State} (src k : Nat) (hs : s.gate.Obeys rule) :
    (s.onReleased src k).gate.Obeys rule := by
  simp only [State.onReleased]
  (repeat' split) <;> simp [hs]

@[simp] theorem State.stepTimeout_obeys {s : State} (k : Nat) (hs : s.gate.Obeys rule) : (s.stepTimeout k).gate.Obeys rule := by
  simp only [State.stepTimeout]
  split
  · exact hs
  · split
    · simp [hs]
    · split
      · simp [hs]
      · exact State.reclaimNext_obeys _ (State.reclaimRefused_obeys _ _ hs)
      · split <;> simp [hs]

@[simp] theorem State.renewDue_obeys {s : State} (k : Nat) (hs : s.gate.Obeys rule) : (s.renewDue k).gate.Obeys rule := by
  simp only [State.renewDue]
  (repeat' split) <;> simp [hs]

@[simp] theorem State.serveKeyAcquire_obeys {s : State} (n : Fin 4) (hs : s.gate.Obeys rule) :
    (s.serveKeyAcquire n).gate.Obeys rule := by simp [State.serveKeyAcquire, hs]

@[simp] theorem State.serveKeyRelease_obeys {s : State} (n : Fin 4) (hs : s.gate.Obeys rule) :
    (s.serveKeyRelease n).gate.Obeys rule := by
  simp only [State.serveKeyRelease]
  (repeat' split) <;> simp [hs]

@[simp] theorem State.keyWrite_obeys {s : State} (n m : Fin 4) (w : Word) (hs : s.gate.Obeys rule) :
    (s.keyWrite n m w).gate.Obeys rule := by
  simp only [State.keyWrite]
  (repeat' split) <;> simp [hs]

@[simp] theorem State.faultKeys_obeys {s : State} (n : Fin 4) (hs : s.gate.Obeys rule) : (s.faultKeys n).gate.Obeys rule := by
  exact State.foldl_obeys (by simp [hs]) (fun s a hs => by simp [hs]) _

@[simp] theorem State.apartKeys_obeys {s : State} (hs : s.gate.Obeys rule) : s.apartKeys.gate.Obeys rule := by
  refine State.foldl_obeys (State.foldl_obeys hs (fun s t hs => ?_) _) (fun s h hs => by simp [hs]) _
  split <;> simp [hs]

@[simp] theorem State.onFrame_obeys {s : State} {go : State → State} (hs : s.gate.Obeys rule)
    (hgo : ∀ t, t = go s → t.gate.Obeys rule) :
    (s.onFrame go).gate.Obeys rule := by simp [State.onFrame, hs, hgo _ rfl]

@[simp] theorem State.onClock_obeys {s : State} {go : State → State} (hs : s.gate.Obeys rule)
    (hgo : ∀ t, t = go s → t.gate.Obeys rule) :
    (s.onClock go).gate.Obeys rule := by simp [State.onClock, hs, hgo _ rfl]

/-! #### Book -/

@[simp] theorem State.applyApart_obeys {s : State} (n : Nat) (hs : s.gate.Obeys rule) : (s.applyApart n).gate.Obeys rule := by
  exact State.foldl_obeys (by simp [hs]) (fun s a hs => by simp [hs]) _

@[simp] theorem State.bookCmd_obeys {s : State} {go : State → State} (n : Fin 4) (user : Bool) (m : Fin 4) (hs : s.gate.Obeys rule)
    (hgo : ∀ t, t = go (s.answer 0) → t.gate.Obeys rule) : (s.bookCmd n user m go).gate.Obeys rule := by
  rw [State.bookCmd]
  exact State.access_obeys _ _ _ hs hgo

/-! #### Group -/

@[simp] theorem State.onHeartbeat_obeys {s : State} (m : Member) (hs : s.gate.Obeys rule) :
    (s.onHeartbeat m).gate.Obeys rule := by simp [State.onHeartbeat, hs]

@[simp] theorem State.dedup_obeys {s : State} {go : State → State} (src cls seq : Nat) (hs : s.gate.Obeys rule)
    (hgo : ∀ t, t = go (s.remember src cls seq) → t.gate.Obeys rule) : (s.dedup src cls seq go).gate.Obeys rule := by
  simp [State.dedup, hs, hgo _ rfl]

@[simp] theorem State.enterApart_obeys {s : State} (hs : s.gate.Obeys rule) : s.enterApart.gate.Obeys rule := by
  simp [State.enterApart, hs]

@[simp] theorem State.enterIn_obeys {s : State} (hs : s.gate.Obeys rule) : s.enterIn.gate.Obeys rule := by
  simp [State.enterIn, hs]

@[simp] theorem State.enterJoining_obeys {s : State} (hs : s.gate.Obeys rule) : s.enterJoining.gate.Obeys rule := by
  simp [State.enterJoining, hs]

@[simp] theorem State.evaluate_obeys {s : State} (hs : s.gate.Obeys rule) : s.evaluate.gate.Obeys rule := by
  have apart (t : State) (ht : t.gate.Obeys rule) :
      (t.grd.latest.foldl (fun s m => if s.nodeApart m.node then s.applyApart m.node else s) t).gate.Obeys rule :=
    State.foldl_obeys ht (fun s m hs => by simp [hs]) _
  have judged : (s.countVotes.mapGrp fun g => { g with cause := s.countVotes.apartCauses }).gate.Obeys rule := by simp [hs]
  simp only [State.evaluate, State.judgeMaster_gate]
  split
  · split
    · exact apart _ (State.enterApart_obeys judged)
    · exact State.enterApart_obeys judged
  · split
    · exact apart _ judged
    · exact judged

@[simp] theorem State.joiningEnd_obeys {s : State} (hs : s.gate.Obeys rule) : s.joiningEnd.gate.Obeys rule := by
  simp [State.joiningEnd, hs]

@[simp] theorem State.apartReturn_obeys {s : State} (hs : s.gate.Obeys rule) : s.apartReturn.gate.Obeys rule := by
  simp [State.apartReturn, hs]

@[simp] theorem State.groupWrite_obeys {s : State} (off : Nat) (w : Word) (hs : s.gate.Obeys rule) :
    (s.groupWrite off w).gate.Obeys rule := by
  simp only [State.groupWrite]
  (repeat' split) <;> simp [hs]

/-! #### CanRx -/

@[simp] theorem State.keyFrame_obeys {s : State} (f : Frame) (hs : s.gate.Obeys rule) : (s.keyFrame f).gate.Obeys rule := by
  simp only [State.keyFrame]
  (repeat' split) <;> simp [hs]

@[simp] theorem State.consume_obeys {s : State} (f : Frame) (ticks : Nat) (hs : s.gate.Obeys rule) :
    (s.consume f ticks).gate.Obeys rule := by
  simp only [State.consume]
  (repeat' split) <;> simp [hs]

@[simp] theorem State.takeIn_obeys {s : State} (c : Fin 2) (f : Frame) (ticks : Nat) (hs : s.gate.Obeys rule) :
    (s.takeIn c f ticks).gate.Obeys rule := by simp [State.takeIn, hs]

@[simp] theorem State.receive_obeys {s : State} (c : Fin 2) (std : Bool) (f : Frame) (ticks : Nat) (hs : s.gate.Obeys rule) :
    (s.receive c std f ticks).gate.Obeys rule := by simp [State.receive, hs]

/-! #### Loop -/

@[simp] theorem State.clearFeedback_obeys {s : State} (n : Fin 48) (hs : s.gate.Obeys rule) :
    (s.clearFeedback n).gate.Obeys rule := by
  simp only [State.clearFeedback]
  (repeat' split) <;> simp [hs]

@[simp] theorem State.slotOff_obeys {s : State} (n : Fin 48) (hs : s.gate.Obeys rule) : (s.slotOff n).gate.Obeys rule := by
  simp [State.slotOff, hs]

@[simp] theorem State.slotCtrl_obeys {s : State} (n : Fin 48) (y : LoopSlot → LoopSlot) (hs : s.gate.Obeys rule) :
    (s.slotCtrl n y).gate.Obeys rule := by simp [State.slotCtrl, hs]

@[simp] theorem State.slotWrite_obeys {s : State} (n : Fin 48) (u : Word) (hs : s.gate.Obeys rule) :
    (s.slotWrite n u).gate.Obeys rule := by
  simp only [State.slotWrite]
  (repeat' split) <;> simp [hs]

@[simp] theorem State.numBad_obeys {s : State} (n : Fin 48) (was : Bool) (hs : s.gate.Obeys rule) :
    (s.numBad n was).gate.Obeys rule := by simp [State.numBad, hs]

@[simp] theorem State.slotLaw_obeys {s : State} (n : Fin 48) (c : Bank) (h : F32) (y : Word) (restart realign hold was : Bool)
    (hs : s.gate.Obeys rule) : (s.slotLaw n c h y restart realign hold was).gate.Obeys rule := by
  simp only [State.slotLaw]
  split <;> simp [hs]

@[simp] theorem State.schedBad_obeys {s : State} (n : Fin 48) (c : Bank) (was : Bool) (hs : s.gate.Obeys rule) :
    (s.schedBad n c was).gate.Obeys rule := by simp [State.schedBad, hs]

@[simp] theorem State.slotSchedule_obeys {s : State} (n : Fin 48) (c : Bank) (h : F32) (was : Bool) (hs : s.gate.Obeys rule) :
    (s.slotSchedule n c h was).gate.Obeys rule := by
  simp only [State.slotSchedule]
  split <;> simp [hs]

@[simp] theorem State.slotFallback_obeys {s : State} (n : Fin 48) (c : Bank) (h : F32) (was : Bool) (hs : s.gate.Obeys rule) :
    (s.slotFallback n c h was).gate.Obeys rule := by
  simp only [State.slotFallback]
  (repeat' split) <;> simp [hs]

@[simp] theorem State.slotRelease_obeys {s : State} (n : Fin 48) (hs : s.gate.Obeys rule) :
    (s.slotRelease n).gate.Obeys rule := by
  simp only [State.slotRelease]
  split <;> simp [hs]

@[simp] theorem State.sample_obeys {s : State} (n : Fin 48) (div : Nat) (hs : s.gate.Obeys rule) :
    (s.sample n div).gate.Obeys rule := by
  unfold State.sample
  extract_lets x0 was restart hold x1 committed s1 ry rh s2 rz s3 s4 realign c h s5 cl fault x2 s6 y good faulted recovered released
  have h2 : s2.gate.Obeys rule := by simp [s2, rh, ry, s1, hs]
  have h3 : s3.gate.Obeys rule := by
    simp only [s3, rz]
    split <;> simp [h2]
  have h5 : s5.gate.Obeys rule := by simp [s5, s4, h3]
  have h6 : s6.gate.Obeys rule := h5
  have hfaulted : faulted.gate.Obeys rule := h6
  have hrecovered : recovered.gate.Obeys rule := State.clearFeedback_obeys n h6
  have hreleased : released.gate.Obeys rule := State.slotRelease_obeys n h6
  split
  · exact h6
  · exact State.ite_obeys (fun _ => by simp [hfaulted]) fun _ => by simp [h6]
  · exact State.ite_obeys (fun _ => State.ite_obeys (fun _ => by simp [hrecovered]) fun _ => by simp [hrecovered])
      fun _ => by simp [h6]
  · exact State.ite_obeys (fun _ => State.ite_obeys (fun _ => by simp [hreleased]) fun _ => by simp [hreleased])
      fun _ => by simp [h6]

@[simp] theorem State.slotTick_obeys {s : State} (n : Fin 48) (hs : s.gate.Obeys rule) : (s.slotTick n).gate.Obeys rule := by
  simp [State.slotTick, hs]

@[simp] theorem State.loopTick_obeys {s : State} (refused : Nat) (late : Bool) (hs : s.gate.Obeys rule) :
    (s.loopTick refused late).gate.Obeys rule := by
  simp only [State.loopTick]
  split
  · exact State.foldl_obeys (by simp [hs]) (fun s n hs => State.slotTick_obeys n hs) _
  · exact hs

@[simp] theorem State.slotRegWrite_obeys {s : State} (n : Fin 48) (off : Nat) (w : Word) (hs : s.gate.Obeys rule) :
    (s.slotRegWrite n off w).gate.Obeys rule := by
  simp only [State.slotRegWrite]
  (repeat' split) <;> simp [hs]

@[simp] theorem State.loopWrite_obeys {s : State} (off : Nat) (w : Word) (hs : s.gate.Obeys rule) :
    (s.loopWrite off w).gate.Obeys rule := by
  simp only [State.loopWrite]
  (repeat' split) <;> simp [hs]

/-! #### Wear -/

@[simp] theorem State.holdTestAbort_obeys {s : State} (hs : s.gate.Obeys rule) : s.holdTestAbort.gate.Obeys rule := by
  simp [State.holdTestAbort, hs]

@[simp] theorem State.holdTestEnd_obeys {s : State} (v1 v2 v3 v4 : Nat) (hs : s.gate.Obeys rule) :
    (s.holdTestEnd v1 v2 v3 v4).gate.Obeys rule := by simp [State.holdTestEnd, hs]

/-! #### Fan -/

@[simp] theorem State.vgdDoubt_obeys {s : State} (hs : s.gate.Obeys rule) : s.vgdDoubt.gate.Obeys rule := by
  simp [State.vgdDoubt, hs]

/-! #### Reset -/

/-- A whole-device reset leaves Blank, with nothing applied (R70). -/
@[simp] theorem State.resetWith_obeys (s : State) (c : BitVec 7) : (s.resetWith c).gate.Obeys rule := Gate.obeys_reset

@[simp] theorem State.deviceReset_obeys (s : State) (c : ResetCause) : (s.deviceReset c).gate.Obeys rule := s.resetWith_obeys _

@[simp] theorem State.inkReset_obeys (s : State) : s.inkReset.gate.Obeys rule := s.deviceReset_obeys _

@[simp] theorem State.thermalShutdown_obeys (s : State) (cause : Nat) : (s.thermalShutdown cause).gate.Obeys rule := by
  simp [State.thermalShutdown]

/-! #### Panel -/

@[simp] theorem State.panelCommand_obeys {s : State} {f : State → State} (off : Nat) (w : Word) (hs : s.gate.Obeys rule)
    (hf : ∀ t, t = f s → t.gate.Obeys rule) :
    (s.panelCommand off w f).gate.Obeys rule := by simp [State.panelCommand, hs, hf _ rfl]

/-! #### Thm -/

@[simp] theorem State.conversion_obeys {s : State} (reading : Int) (hs : s.gate.Obeys rule) :
    (s.conversion reading).gate.Obeys rule := by simp [State.conversion, hs]

@[simp] theorem State.tooHot_obeys {s : State} (hs : s.gate.Obeys rule) : s.tooHot.gate.Obeys rule := by simp [State.tooHot, hs]

/-! #### UartPort -/

@[simp] theorem State.uartCtrl_obeys {s : State} (n : Fin 4) (user : Bool) (k : Fin 3) (f : Word → Word)
    (hs : s.gate.Obeys rule) : (s.uartCtrl n user k f).gate.Obeys rule := by
  rw [State.uartCtrl]
  exact State.access_obeys _ _ _ hs (by simp [hs])

/-! #### Crossing -/

@[simp] theorem State.domainWrite_obeys {s : State} (base off : Nat) (w : Word) (hs : s.gate.Obeys rule) :
    (s.domainWrite base off w).gate.Obeys rule := by
  simp only [State.domainWrite]
  split <;> simp [hs]

@[simp] theorem State.crossingWrite_obeys {s : State} (base off : Nat) (w : Word) (hs : s.gate.Obeys rule) :
    (s.crossingWrite base off w).gate.Obeys rule := by simp [State.crossingWrite, hs]

@[simp] theorem State.crossingStart_obeys {s : State} (hs : s.gate.Obeys rule) : s.crossingStart.gate.Obeys rule := by
  exact State.foldl_obeys (by simp [hs]) (fun s a hs => by simp [hs]) _

/-! #### Seal -/

@[simp] theorem State.applySeal_obeys {s : State} (k : Fin 16) (v : List Byte) (hs : s.gate.Obeys rule) :
    (s.applySeal k v).gate.Obeys rule := by
  simp only [State.applySeal]
  split <;> simp [hs]

@[simp] theorem State.commitStands_obeys {s : State} (c : SealChange) (y : SealSlot) (hs : s.gate.Obeys rule) :
    (s.commitStands c y).gate.Obeys rule := by simp [State.commitStands, hs]

/-! #### SvcCore -/

/-- The service port with a request of a new SEQ taken. -/
def State.requestTaken (s : State) (seq : Nat) : State :=
  (s.mapSvc fun x => { x with frameAt := s.now }).mapSvc fun x => { x with lastSeq := some seq, lastReply := none }

@[simp] theorem State.requestTaken_gate (s : State) (seq : Nat) : (s.requestTaken seq).gate = s.gate := by
  simp [State.requestTaken]

@[simp] theorem State.svcRequest_obeys {s : State} {serve : State → State} (type seq session len : Nat) (any held : Bool)
    (hs : s.gate.Obeys rule) (hserve : ∀ t, t = serve (s.requestTaken seq) → t.gate.Obeys rule) :
    (s.svcRequest type seq session len any held serve).gate.Obeys rule := by
  unfold State.svcRequest
  extract_lets x t u
  have ht : t.gate.Obeys rule := hs
  have hu : u.gate.Obeys rule := hs
  refine State.ite_obeys (fun _ => hs) fun _ => State.ite_obeys (fun _ => ?_) fun _ => State.ite_obeys (fun _ => ?_) fun _ => ?_
  · split <;> exact ht
  · simp [hu]
  · exact hserve _ rfl

/-! #### Lodger -/

@[simp] theorem State.endFault_obeys {s : State} (n : Fin 4) (hs : s.gate.Obeys rule) : (s.endFault n).gate.Obeys rule := by
  simp [State.endFault, hs]

@[simp] theorem State.orphanResolve_obeys {s : State} (n : Fin 4) (hs : s.gate.Obeys rule) :
    (s.orphanResolve n).gate.Obeys rule := by simp [State.orphanResolve, hs]

@[simp] theorem State.faultSteps_obeys {s : State} (n : Fin 4) (restart : Nat) (hs : s.gate.Obeys rule) :
    (s.faultSteps n restart).gate.Obeys rule := by simp [State.faultSteps, hs]

@[simp] theorem State.lodgerFault_obeys {s : State} (n : Fin 4) (restart : Nat) (hs : s.gate.Obeys rule) :
    (s.lodgerFault n restart).gate.Obeys rule := by simp [State.lodgerFault, hs]

@[simp] theorem State.expiry_obeys {s : State} (n : Fin 4) (hs : s.gate.Obeys rule) : (s.expiry n).gate.Obeys rule := by
  simp [State.expiry, hs]

@[simp] theorem State.kick_obeys {s : State} (n : Fin 4) (v : BitVec 16) (hs : s.gate.Obeys rule) :
    (s.kick n v).gate.Obeys rule := by simp [State.kick, hs]

@[simp] theorem State.serveRestart_obeys {s : State} (n : Fin 4) (hs : s.gate.Obeys rule) :
    (s.serveRestart n).gate.Obeys rule := by
  simp only [State.serveRestart]
  (repeat' split) <;> simp [hs]

/-! #### Svc -/

@[simp] theorem State.sealHeaderDone_obeys {s : State} (hs : s.gate.Obeys rule) : s.sealHeaderDone.gate.Obeys rule := by
  simp only [State.sealHeaderDone]
  (repeat' split) <;> simp [hs]

@[simp] theorem State.headerStood_obeys {s : State} (line : Nat) (hs : s.gate.Obeys rule) :
    (s.headerStood line).gate.Obeys rule := by
  simp only [State.headerStood]
  split <;> simp [hs]

@[simp] theorem State.lineDrained_obeys {s : State} (hs : s.gate.Obeys rule) : s.lineDrained.gate.Obeys rule := by
  simp only [State.lineDrained]
  split <;> simp [hs]

@[simp] theorem State.sealBankDone_obeys {s : State} (hs : s.gate.Obeys rule) : s.sealBankDone.gate.Obeys rule := by
  simp only [State.sealBankDone]
  split <;> simp [hs]

@[simp] theorem State.svcLodgerStart_obeys {s : State} (seq : Nat) (p : List Byte) (hs : s.gate.Obeys rule) :
    (s.svcLodgerStart seq p).gate.Obeys rule := by
  simp only [State.svcLodgerStart]
  split <;> simp [hs]

@[simp] theorem State.replySend_obeys {s : State} (hs : s.gate.Obeys rule) : s.replySend.gate.Obeys rule := by
  simp only [State.replySend]
  split
  · exact hs
  · split
    · simp only [State.gate_ite, Gate.obeys_ite]
      simp [hs]
    · exact hs

/-! #### Mode -/

@[simp] theorem State.standbySteps_obeys {s : State} (hs : s.gate.Obeys rule) : s.standbySteps.gate.Obeys rule := by
  simp [State.standbySteps, hs]

@[simp] theorem State.wake_obeys {s : State} (src : Nat) (hs : s.gate.Obeys rule) : (s.wake src).gate.Obeys rule := by
  unfold State.wake
  extract_lets powered resumed moded woken
  have hresumed : resumed.gate.Obeys rule := by simp [resumed, powered, hs]
  have hmoded : moded.gate.Obeys rule := State.clearCauses_obeys _ _ (by simp [hresumed])
  have hwoken : woken.gate.Obeys rule := hmoded
  simp [hwoken]

@[simp] theorem State.wakeBy_obeys {s : State} (src : Nat) (hs : s.gate.Obeys rule) : (s.wakeBy src).gate.Obeys rule := by
  simp [State.wakeBy, hs]

@[simp] theorem State.serveMode_obeys {s : State} (n : Fin 4) (latched : Option Nat) (hs : s.gate.Obeys rule) :
    (s.serveMode n latched).gate.Obeys rule := by
  simp only [State.serveMode]
  (repeat' split) <;> simp [hs]

@[simp] theorem State.wakeOff_obeys (s : State) (src : Nat) : (s.wakeOff src).gate.Obeys rule := State.deviceReset_obeys _ _

@[simp] theorem State.wakeOffBy_obeys {s : State} (src : Nat) (hs : s.gate.Obeys rule) : (s.wakeOffBy src).gate.Obeys rule := by
  simp [State.wakeOffBy, hs]

@[simp] theorem State.rtcAlarm_obeys {s : State} (hs : s.gate.Obeys rule) : s.rtcAlarm.gate.Obeys rule := by
  simp only [State.rtcAlarm]
  split
  · split
    · exact State.wakeBy_obeys 0 hs
    · split
      · exact State.wakeOffBy_obeys 0 hs
      · split <;> exact hs
  · exact hs

@[simp] theorem State.rtcSecond_obeys {s : State} (hs : s.gate.Obeys rule) : s.rtcSecond.gate.Obeys rule := by
  simp [State.rtcSecond, hs]

@[simp] theorem State.canWake_obeys {s : State} (c : Fin 2) (id : Option Nat) (hs : s.gate.Obeys rule) :
    (s.canWake c id).gate.Obeys rule := by
  simp only [State.canWake]
  split <;> simp [hs]

@[simp] theorem State.diDebounced_obeys {s : State} (n : Fin 8) (high : Bool) (hs : s.gate.Obeys rule) :
    (s.diDebounced n high).gate.Obeys rule := by simp [State.diDebounced, hs]

@[simp] theorem State.acceptPhrase_obeys {s : State} (hs : s.gate.Obeys rule) : s.acceptPhrase.gate.Obeys rule := by
  simp only [State.acceptPhrase]
  split
  · exact hs
  · rw [State.phrase_gate]
    exact State.wakeBy_obeys 1 hs

@[simp] theorem State.wakePhrase_obeys {s : State} (halves : List Bool) (periodNs : Nat) (hs : s.gate.Obeys rule) :
    (s.wakePhrase halves periodNs).gate.Obeys rule := by
  simp only [State.wakePhrase]
  split
  · exact State.foldl_obeys (by simp [hs]) (fun s _ hs => State.acceptPhrase_obeys hs) _
  · exact hs

/-! #### Replay -/

@[simp] theorem State.replayTarget_obeys {s : State} (r : Rec) (i target : Nat) (kind owner : Nat) (hs : s.gate.Obeys rule) :
    (s.replayTarget r i target kind owner).gate.Obeys rule := by
  simp only [State.replayTarget]
  (repeat' split) <;> simp [hs]

@[simp] theorem State.replayRec_obeys {s : State} (r : Rec) (hs : s.gate.Obeys rule) : (s.replayRec r).gate.Obeys rule := by
  simp only [State.replayRec]
  (repeat' split) <;> simp [hs]

@[simp] theorem State.replay_obeys {s : State} (source : Nat) (hs : s.gate.Obeys rule) : (s.replay source).gate.Obeys rule := by
  exact State.foldl_obeys (by simp [hs]) (fun s a hs => by simp [hs]) _

@[simp] theorem State.discardJournal_obeys {s : State} (hs : s.gate.Obeys rule) : s.discardJournal.gate.Obeys rule := by
  exact State.foldl_obeys (by simp [hs]) (fun s a hs => by simp [hs]) _

@[simp] theorem State.journalStep_obeys {s : State} (hs : s.gate.Obeys rule) : s.journalStep.gate.Obeys rule := by
  simp only [State.journalStep]
  split <;> simp [hs]

@[simp] theorem State.issueKept_obeys {s : State} (hs : s.gate.Obeys rule) : s.issueKept.gate.Obeys rule := by
  rw [State.issueKept]
  exact State.reclaimNext_obeys _ hs

/-! #### Supply -/

@[simp] theorem State.inkFault_obeys {s : State} (c : ResetCause) (hs : s.gate.Obeys rule) : (s.inkFault c).gate.Obeys rule := by
  simp [State.inkFault, hs]

@[simp] theorem State.nrst_obeys {s : State} (low : Bool) (hs : s.gate.Obeys rule) : (s.nrst low).gate.Obeys rule := by
  simp only [State.nrst]
  split
  · split
    · exact hs
    · exact hs
    · exact hs
    · exact State.deviceReset_obeys _ _
  · exact hs

@[simp] theorem State.testPin_obeys {s : State} (high : Bool) (hs : s.gate.Obeys rule) : (s.testPin high).gate.Obeys rule := by
  unfold State.testPin
  extract_lets t
  have ht : t.gate.Obeys rule := hs
  refine State.ite_obeys (fun _ => ht) fun _ => State.ite_obeys (fun _ => ?_) fun _ => State.ite_obeys (fun _ => ht) fun _ => ht
  exact t.resetWith_obeys 0

@[simp] theorem State.vgdTrip_obeys {s : State} (hs : s.gate.Obeys rule) : s.vgdTrip.gate.Obeys rule := by
  rw [State.vgdTrip]
  exact State.vgdDoubt_obeys ((Gate.obeys_registers ..).mpr hs)

@[simp] theorem State.vgdRise_obeys {s : State} (hs : s.gate.Obeys rule) : s.vgdRise.gate.Obeys rule := by
  simp [State.vgdRise, hs]

@[simp] theorem State.vgdRecovered_obeys {s : State} (hs : s.gate.Obeys rule) : s.vgdRecovered.gate.Obeys rule := by
  simp [State.vgdRecovered, hs]

@[simp] theorem State.enterOff_obeys (s : State) : s.enterOff.gate.Obeys rule := by
  simp only [State.enterOff]
  split
  · exact State.wakeOff_obeys _ _
  · exact Gate.obeys_reset

@[simp] theorem State.flushCut_obeys {s : State} (k : Nat) (hs : s.gate.Obeys rule) : (s.flushCut k).gate.Obeys rule := by
  simp [State.flushCut, hs]

@[simp] theorem State.holdLost_obeys {s : State} (hs : s.gate.Obeys rule) : s.holdLost.gate.Obeys rule := by
  rw [State.holdLost]
  exact State.flushCut_obeys _ hs

@[simp] theorem State.powerOn_obeys {s : State} (va vao vgd hold : Bool) (hs : s.gate.Obeys rule) :
    (s.powerOn va vao vgd hold).gate.Obeys rule := by
  simp only [State.powerOn]
  split
  · exact hs
  · split
    · exact State.wakeOff_obeys _ _
    · split
      · exact hs
      · exact State.holdLost_obeys hs
    · exact State.deviceReset_obeys _ _

@[simp] theorem State.holdMeasure_obeys {s : State} (mv : Nat) (ok : Bool) (hs : s.gate.Obeys rule) :
    (s.holdMeasure mv ok).gate.Obeys rule := by simp [State.holdMeasure, hs]

@[simp] theorem State.flushDone_obeys {s : State} (hs : s.gate.Obeys rule) : s.flushDone.gate.Obeys rule := by
  simp [State.flushDone, hs]

@[simp] theorem State.failFrom2_obeys (s : State) : s.failFrom2.gate.Obeys rule := by
  simp [State.failFrom2]

@[simp] theorem State.powerFail_obeys {s : State} (vio : Bool) (hs : s.gate.Obeys rule) : (s.powerFail vio).gate.Obeys rule := by
  unfold State.powerFail
  extract_lets t
  have ht : t.gate.Obeys rule := State.ite_obeys (fun _ => hs) fun _ => hs
  refine State.ite_obeys (fun _ => ht) fun _ => ?_
  split
  · exact ht
  · exact ht
  · exact ht
  · exact t.failFrom2_obeys

@[simp] theorem State.offWaitEnd_obeys {s : State} (hs : s.gate.Obeys rule) : s.offWaitEnd.gate.Obeys rule := by
  simp only [State.offWaitEnd]
  split
  · exact State.failFrom2_obeys _
  · exact hs

@[simp] theorem State.pllLoss_obeys {s : State} (k : Fin 3) (hs : s.gate.Obeys rule) : (s.pllLoss k).gate.Obeys rule := by
  simp [State.pllLoss, hs]

/-! #### Boot -/

/-- R51, R65: whatever boot loads, outside Blank every output then applies its Rest value. -/
@[simp] theorem State.bootLoad_obeys (s : State) (h : Head) (x : Section) : (s.bootLoad h x).gate.Obeys rule := by
  rw [State.bootLoad]
  exact State.gateUnblank_obeys _

@[simp] theorem State.startGridis_obeys {s : State} (hs : s.gate.Obeys rule) : s.startGridis.gate.Obeys rule := by
  simp only [State.startGridis, State.mapBook_gate]
  refine State.enterJoining_obeys ?_
  rw [State.freeAllHosted_gate]
  exact State.issueKept_obeys hs

@[simp] theorem State.startBlocks_obeys {s : State} (x : List Nat) (panelOn : Bool) (hs : s.gate.Obeys rule) :
    (s.startBlocks x panelOn).gate.Obeys rule := by
  unfold State.startBlocks
  extract_lets a b c d enable e clocked started
  have hclocked : clocked.gate.Obeys rule := by
    simp only [clocked, State.panelClockStart_gate]
    exact State.crossingStart_obeys (State.startGridis_obeys hs)
  have hstarted : started.gate.Obeys rule := State.foldl_obeys hclocked (fun s c hs => by simp [hs]) _
  simp [hstarted]

@[simp] theorem State.startLodgers_obeys {s : State} (ms : Nat) (hs : s.gate.Obeys rule) :
    (s.startLodgers ms).gate.Obeys rule := by simp [State.startLodgers, hs]

@[simp] theorem State.bootJournal_obeys {s : State} (ms : Nat) (hs : s.gate.Obeys rule) : (s.bootJournal ms).gate.Obeys rule := by
  simp only [State.bootJournal]
  split
  · exact hs
  · exact State.startLodgers_obeys _ (State.startBlocks_obeys _ _ (State.journalStep_obeys hs))

@[simp] theorem State.bootChosen_obeys {s : State} (c : Chosen) (ms : Nat) (hs : s.gate.Obeys rule) :
    (s.bootChosen c ms).gate.Obeys rule := by
  simp only [State.bootChosen]
  split <;> simp [hs]

@[simp] theorem State.bootOn_obeys {s : State} (e : BootEnv) (hs : s.gate.Obeys rule) : (s.bootOn e).gate.Obeys rule := by
  simp [State.bootOn, hs]

@[simp] theorem State.bootHeat_obeys {s : State} (e : BootEnv) (hs : s.gate.Obeys rule) : (s.bootHeat e).gate.Obeys rule := by
  simp [State.bootHeat, hs]

@[simp] theorem State.bootFirst_obeys {s : State} (e : BootEnv) (hs : s.gate.Obeys rule) : (s.bootFirst e).gate.Obeys rule := by
  unfold State.bootFirst
  extract_lets t u
  have ht : t.gate.Obeys rule := by simp [t, hs]
  have hu : u.gate.Obeys rule := State.ite_obeys (fun _ => (Gate.obeys_registers ..).mpr ht) fun _ => ht
  refine State.conversion_obeys _ ?_
  simp [hu]

@[simp] theorem State.bootSequence_obeys {s : State} (e : BootEnv) (hs : s.gate.Obeys rule) :
    (s.bootSequence e).gate.Obeys rule := by
  simp only [State.bootSequence]
  split
  · exact State.bootHeat_obeys e (State.bootFirst_obeys e hs)
  · exact hs

@[simp] theorem State.ledgerWaitEnd_obeys {s : State} (ms : Nat) (hs : s.gate.Obeys rule) :
    (s.ledgerWaitEnd ms).gate.Obeys rule := by simp [State.ledgerWaitEnd, hs]

/-! #### Serve -/

@[simp] theorem State.serveOutJournal_obeys {s : State} (n : Fin 4) (hs : s.gate.Obeys rule) :
    (s.serveOutJournal n).gate.Obeys rule := by
  simp only [State.serveOutJournal]
  (repeat' split) <;> simp [hs]

@[simp] theorem State.serveReset_obeys {s : State} (n : Fin 4) (hs : s.gate.Obeys rule) : (s.serveReset n).gate.Obeys rule := by
  simp [State.serveReset, hs]

@[simp] theorem State.serveCode_obeys {s : State} (n : Fin 4) (code : Nat) (latched : Option Nat) (nor : NorEnv)
    (hs : s.gate.Obeys rule) : (s.serveCode n code latched nor).gate.Obeys rule := by
  simp only [State.serveCode]
  split <;> simp [hs]

@[simp] theorem State.mailboxServe_obeys {s : State} (latched : Option Nat) (nor : NorEnv) (hs : s.gate.Obeys rule) :
    (s.mailboxServe latched nor).gate.Obeys rule := by
  simp only [State.mailboxServe]
  (repeat' split) <;> simp [hs]

/-! #### Regs -/

@[simp] theorem State.blockWrite_obeys {s : State} (n : Fin 4) (off : Nat) (w : Word) (hs : s.gate.Obeys rule) :
    (s.blockWrite n off w).gate.Obeys rule := by
  simp only [State.blockWrite]
  (repeat' split) <;> simp [hs]

@[simp] theorem State.inkWrite_obeys {s : State} (who : Requester) (off : Nat) (w : Word) (hs : s.gate.Obeys rule) :
    (s.inkWrite who off w).gate.Obeys rule := by
  simp only [State.inkWrite]
  (repeat' split) <;> simp [hs]

@[simp] theorem State.groupBusWrite_obeys {s : State} (who : Requester) (off : Nat) (w : Word) (hs : s.gate.Obeys rule) :
    (s.groupBusWrite who off w).gate.Obeys rule := by
  simp only [State.groupBusWrite]
  split <;> simp [hs]

@[simp] theorem State.regWrite_obeys {s : State} (who : Requester) (addr : Nat) (w : Word) (hs : s.gate.Obeys rule) :
    (s.regWrite who addr w).gate.Obeys rule := by
  simp only [State.regWrite]
  (repeat' split) <;> simp [hs]

@[simp] theorem State.busWrite_obeys {s : State} (who : Requester) (addr : Nat) (w : Word) (hs : s.gate.Obeys rule) :
    (s.busWrite who addr w).2.gate.Obeys rule := by
  simp only [State.busWrite]
  (repeat' split) <;> simp [hs]

/-! #### Dma -/

@[simp] theorem State.writeBeats_obeys (who : Requester) (inc : Bool) : ∀ (ws : List Word) (a k : Nat) {s : State},
    s.gate.Obeys rule → (State.writeBeats who inc ws a k s).2.2.2.gate.Obeys rule
  | [], _, _, _, hs => hs
  | [w], a, _, s, hs => by
    have written := State.busWrite_obeys who a w hs
    simp only [State.writeBeats]
    split <;> simp_all
  | w :: v :: ws, a, _, s, hs => by
    have written := State.busWrite_obeys who a w hs
    simp only [State.writeBeats]
    split
    · exact State.writeBeats_obeys who inc ws _ _ (by simp [hs])
    · split
      next h => exact State.writeBeats_obeys who inc (v :: ws) _ _ (by simpa [h] using written)
      next h => simpa [h] using written

@[simp] theorem State.writeOut_obeys {s : State} (c : Fin 24) (again : Bool) (cut : Option Nat) (hs : s.gate.Obeys rule) :
    (s.writeOut c again cut).gate.Obeys rule := by
  simp only [State.writeOut]
  split <;> simp [hs]

@[simp] theorem State.writeBurst_obeys {s : State} (refused : Nat) (u : Upset) (cut : Option Nat) (hs : s.gate.Obeys rule) :
    (s.writeBurst refused u cut).gate.Obeys rule := by
  simp only [State.writeBurst]
  split <;> simp [hs]

@[simp] theorem State.chanAccess_obeys {s : State} (c : Fin 24) (kind : AccessKind) (addr : Nat) (hs : s.gate.Obeys rule) :
    (s.chanAccess c kind addr).gate.Obeys rule := by
  simp only [State.chanAccess]
  (repeat' split) <;> simp [hs]

@[simp] theorem State.dmaRetry_obeys {s : State} (c : Fin 24) (refused : Nat) (hs : s.gate.Obeys rule) :
    (s.dmaRetry c refused).gate.Obeys rule := by
  simp only [State.dmaRetry]
  (repeat' split) <;> simp [hs]

end Sys2Proof.Machine
end

section
/-! PROOFS. Blank is Blank and Rest is Rest, at every step (R30, R45, R48, R49, R70). -/

namespace Sys2Proof.Machine

/-- Every command ends in a state that follows the rules where the state before it did. -/
theorem exec_obeys {rule : GateRule} {s : State} (hs : s.gate.Obeys rule) (i : Instr) :
    Result.Is (exec i s) fun t => t.gate.Obeys rule := by
  cases i
  case brownout vcore =>
    refine ⟨_, rfl, ?_⟩
    dsimp only
    split
    · exact hs
    · exact hs
    · simp [hs]
    · simp
  case hostLeaseExpiry key =>
    refine ⟨_, rfl, State.onFrame_obeys hs ?_⟩
    rintro _ rfl
    split
    · simp [hs]
    · exact hs
  case reservedAccess who kind addr size =>
    refine ⟨_, rfl, State.access_obeys _ _ _ hs ?_⟩
    rintro _ rfl
    refine State.ite_obeys (fun _ => ?_) fun _ => hs
    split <;> simp [hs]
  all_goals exact ⟨_, rfl, by simp [hs]⟩

theorem step_obeys {rule : GateRule} {s t : State} (hs : s.gate.Obeys rule) (h : step s = .next t) :
    t.gate.Obeys rule := by
  unfold step at h
  split at h
  · cases h
    simp [hs]
  · obtain ⟨u, hu, hobeys⟩ := exec_obeys (rule := rule) (s := s.rest) (by simp [hs]) _
    cases hu.symm.trans h
    exact hobeys

/-- Settles O6: both clauses are the rules of `GateRule`, which every step keeps (`step_obeys`). -/
theorem stepKeepsBlank : Obligations.StepKeepsBlank := by
  unfold Obligations.StepKeepsBlank
  refine ⟨fun s t hs h => ?blank, fun s t hs h => ?rest⟩
  case blank => exact t.blankSafe_iff.mpr (step_obeys (s.blankSafe_iff.mp hs) h)
  case rest => exact t.restHolds_iff.mpr (step_obeys (s.restHolds_iff.mp hs) h)

end Sys2Proof.Machine
end

section
/-! PROOFS. Accesses that no region permits (R34, R35). -/

namespace Sys2Proof.Machine

theorem State.mapLodger_mapLodger (s : State) (n : Fin 4) (f g : Lodger → Lodger) :
    (s.mapLodger n f).mapLodger n g = s.mapLodger n fun l => g (f l) :=
  congrArg s.mapLodgers (funext fun l => vmod_vmod l n f g)

/-- R35: what a running Lodger's access comes to where no region permits it. -/
theorem State.access_refused {s : State} {n : Fin 4} {user : Bool} {kind : AccessKind} {addr : Nat} (ha : s.lodgerActs n = true)
    (hp : (s.lodger n).permits user kind addr = false) (go : State → State) :
    s.access (.lodger n user) kind addr go = s.fenceFault n kind addr := by
  simp [State.access, ha, hp]

/-- The same before arbitration: a refused access is never granted. -/
theorem State.arbitrated_refused {s : State} {n : Fin 4} {user : Bool} {kind : AccessKind} {addr : Nat} (ha : s.lodgerActs n = true)
    (hp : (s.lodger n).permits user kind addr = false) (refused : Nat) (go : State → State) :
    s.arbitrated { who := .lodger n user, refused := refused } kind addr go = s.fenceFault n kind addr :=
  State.access_refused ha hp _

/-- R35: the fault, its address and its count are the whole of a refused access. -/
theorem State.fenceFault_eq (s : State) (n : Fin 4) (kind : AccessKind) (addr : Nat) :
    s.fenceFault n kind addr = { s with
      bus := { data := 0, outcome := .error }
      lodgers := vset s.lodgers n { s.lodger n with
        trap := some (trapOf kind addr), faultAddr := addr, fenceCnt := satInc 0xFFFF (s.lodger n).fenceCnt } } :=
  State.mapLodger_mapLodger (s.mapBus fun _ => { data := 0, outcome := .error }) n _ _

/-- Settles O30: every one of the accesses comes down to `fenceFault` (`access_refused`), whose whole effect `fenceFault_eq`
gives. -/
theorem fenceFaults : Obligations.FenceFaults := by
  unfold Obligations.FenceFaults
  intro s n user addr ha fault
  have fenced (kind : AccessKind) : fault kind (s.fenceFault n kind addr) := by
    rw [State.fenceFault_eq]
    refine ⟨rfl, fun m hm => vget_vset_ne s.lodgers n m _ hm, ?_, rfl⟩
    cases kind <;> exact vget_vset_same s.lodgers n _
  refine ⟨fun kind hp => ⟨_, congrArg Host.Outcome.next (State.access_refused ha hp _), fenced kind⟩,
    fun hp => ⟨?register, ?write⟩, fun hp => ⟨?read, ?ledger⟩⟩
  case register =>
    intro size w hwin
    have inWindow : (windowOf addr).isNone = false := by simpa using hwin
    refine ⟨_, ?_, fenced .store⟩
    simp only [exec, execRegisterWrite, inWindow, Bool.false_eq_true, if_false, State.arbitrated_refused ha hp]
  case write =>
    intro bs u hin
    refine ⟨_, ?_, fenced .store⟩
    simp only [exec, execMainSramWrite, hin, if_true, State.mainSramWrite, State.arbitrated_refused ha hp]
  case read =>
    intro k u hin
    refine ⟨_, ?_, fenced .load⟩
    simp only [exec, execMainSramRead, hin, if_true, State.mainSramRead, Bool.false_eq_true, if_false, State.arbitrated_refused ha hp]
  case ledger =>
    intro u hin
    refine ⟨_, ?_, fenced .load⟩
    simp only [exec, execLedgerRead, hin, if_true, State.arbitrated_refused ha hp]

end Sys2Proof.Machine
end

section
/-! PROOFS. The mailboxes: what a change of one mailbox leaves, and how a request is posted (R52, R53). -/

namespace Sys2Proof.Machine

/-! ### A change of one mailbox -/

@[simp] theorem State.mapMbx_mbx_same (s : State) (n : Fin 4) (f : Mailbox → Mailbox) : (s.mapMbx n f).mbx n = f (s.mbx n) := by
  simp [State.mapMbx, State.mbx]

theorem State.mapMbx_lodger_same (s : State) (n : Fin 4) (f : Mailbox → Mailbox) :
    (s.mapMbx n f).lodger n = { s.lodger n with mbx := f (s.mbx n) } := s.mapLodger_lodger_same n _

theorem State.mapMbx_lodger_ne (s : State) {n m : Fin 4} (h : m ≠ n) (f : Mailbox → Mailbox) :
    (s.mapMbx n f).lodger m = s.lodger m := s.mapLodger_lodger_ne n m _ h

theorem State.mapMbx_mapMbx (s : State) (n : Fin 4) (f g : Mailbox → Mailbox) :
    (s.mapMbx n f).mapMbx n g = s.mapMbx n fun m => g (f m) := s.mapLodger_mapLodger n _ _

/-- Nothing but the mailbox of `n` has changed. -/
theorem State.mapMbx_onlyMbx (s : State) (n : Fin 4) (f : Mailbox → Mailbox) : onlyMbx s (s.mapMbx n f) n :=
  ⟨fun _ h => s.mapMbx_lodger_ne h f, by rw [s.mapMbx_lodger_same, s.mapMbx_mbx_same]⟩

theorem State.mbx_congr {s t : State} (h : t.lodgers = s.lodgers) (n : Fin 4) : t.mbx n = s.mbx n := by
  rw [State.mbx, State.lodger, h]
  rfl

theorem onlyMbx.of_lodgers {s t : State} {n : Fin 4} (h : t.lodgers = s.lodgers) : onlyMbx s t n :=
  ⟨fun _ _ => by rw [State.lodger, h, State.lodger], by rw [State.mbx_congr h, State.lodger, h]; rfl⟩

theorem onlyMbx.trans {s t u : State} {n : Fin 4} (h : onlyMbx s t n) (h' : onlyMbx t u n) : onlyMbx s u n :=
  ⟨fun m hm => (h'.1 m hm).trans (h.1 m hm), by rw [h'.2, h.2]⟩

/-! ### Posting a request -/

/-- While BUSY is set a command is ignored, and sets OVERRUN. -/
theorem State.mbxPost_busy {s : State} {n : Fin 4} (h : (s.mbx n).busy = true) (seq code : Nat) :
    s.mbxPost n seq code = s.mapMbx n fun m => { m with overrun := true } := if_pos h

theorem State.mbxPost_free {s : State} {n : Fin 4} (h : (s.mbx n).busy = false) (seq code : Nat) :
    s.mbxPost n seq code = s.mapMbx n fun m => { m with cmdSeq := seq, cmdCode := code, busy := true, job := .posted } :=
  if_neg (Bool.eq_false_iff.mp h)

/-- INK_MBXn_CMD is the first register of Lodger `n`'s block. -/
theorem blockBase_register (n : Fin 4) :
    (windowOf (blockBase n)).isSome = true ∧ blockBase n % 4 = 0 ∧
      ∀ (s : State) (who : Requester) (w : Word), s.regWrite who (blockBase n) w = s.mbxPost n (bits w 15 8) (bits w 7 0) := by
  have window : windowOf (blockBase n) = some 0x400F0000 := by
    revert n
    decide +kernel
  have offset : blockBase n - 0x400F0000 = n.val * 0x100 := Nat.add_sub_cancel_left ..
  have hlt : n.val * 0x100 < 0x400 := by omega
  have hoff : n.val * 0x100 % 0x100 = 0 := Nat.mul_mod_left ..
  have hidx : idx? 4 (n.val * 0x100 / 0x100) = some n := by
    rw [Nat.mul_div_cancel _ (by decide)]
    exact dif_pos n.isLt
  refine ⟨by rw [window]; rfl, by unfold blockBase; omega, fun s who w => ?_⟩
  simp only [State.regWrite, window, State.inkWrite, offset, hlt, if_true, hidx, hoff]
  rfl

theorem exec_registerWrite_cmd {s : State} {n : Fin 4} {user : Bool} (hmay : s.may n user .store (blockBase n)) (w : Word) :
    exec (.registerWrite { who := .lodger n user } (blockBase n) 4 w) s =
      .next ((s.answer 0).mbxPost n (bits w 15 8) (bits w 7 0)) := by
  obtain ⟨hwin, hal, hreg⟩ := blockBase_register n
  rw [exec_registerWrite_lodger hmay hwin hal, hreg]

/-- A request to a busy mailbox leaves its arguments and OVERRUN. -/
theorem State.mbxCommand_busy {s : State} {n : Fin 4} {user : Bool} (hmay : s.may n user .store (blockBase n))
    (hbusy : (s.mbx n).busy = true) (seq code : Nat) (args : List Nat) (serve : State → State) :
    s.mbxCommand n user seq code args serve = ((s.answer 0).mbxArgs n args).mapMbx n fun m => { m with overrun := true } := by
  have hbusy' : (((s.answer 0).mbxArgs n args).mbx n).busy = true := by
    rw [State.mbxArgs, State.mapMbx_mbx_same]
    exact hbusy
  rw [State.mbxCommand, State.access_lodger hmay]
  simp only [hbusy, Bool.not_true, Bool.false_and, Bool.false_eq_true, if_false, State.mbxPost_busy hbusy']

/-- Settles O38: a write of CMD is `mbxPost` (`exec_registerWrite_cmd`), and every request is `mbxCommand`, which a busy mailbox
answers with OVERRUN (`mbxCommand_busy`). -/
theorem mailboxPosts : Obligations.MailboxPosts := by
  unfold Obligations.MailboxPosts
  refine ⟨?register, ?requests⟩
  case register =>
    intro s n user w hmay
    rw [exec_registerWrite_cmd hmay]
    exact ⟨fun h => congrArg _ (State.mbxPost_busy (s := s.answer 0) h _ _),
      fun h => congrArg _ (State.mbxPost_free (s := s.answer 0) h _ _)⟩
  case requests =>
    intro s n user seq code x keys args data hmay hbusy hcode c hc
    have other : ¬ (1 ≤ code.toNat ∧ code.toNat ≤ 0x0A) := by omega
    obtain ⟨k, l, serve, hserve⟩ : ∃ k l serve, exec c s = .next (s.mbxCommand n user seq.toNat k l serve) := by
      simp only [List.mem_cons, List.not_mem_nil, or_false] at hc
      obtain rfl | rfl | rfl | rfl | rfl | rfl | rfl | rfl | rfl | rfl | rfl | rfl := hc
      case inr.inr.inr.inr.inr.inr.inr.inr.inr.inr.inr => exact ⟨_, _, _, congrArg _ (if_neg other)⟩
      all_goals exact ⟨_, _, _, rfl⟩
    rw [State.mbxCommand_busy hmay hbusy] at hserve
    refine ⟨_, hserve, ?_, ?_, rfl⟩
    · simp only [State.mbxArgs, State.mapMbx_mbx_same]
      rfl
    · rw [State.mbxArgs, State.mapMbx_mapMbx]
      exact (onlyMbx.of_lodgers (t := s.answer 0) rfl).trans (State.mapMbx_onlyMbx _ n _)

end Sys2Proof.Machine
end

section
/-! PROOFS. What the gate's operations do to one output, and what they leave (R38 to R47, R63, R356, R363, R365). -/

namespace Sys2Proof.Machine

/-! ### The frame of the gate -/

/-- Only the gate, the output block and the Waybill may have changed. -/
def State.GateFrame (s t : State) : Prop := t = { s with gate := t.gate, out := t.out, wbl := t.wbl }

theorem State.GateFrame.refl (s : State) : State.GateFrame s s := rfl

theorem State.GateFrame.trans {s t u : State} (h : State.GateFrame s t) (h' : State.GateFrame t u) : State.GateFrame s u := by
  rw [State.GateFrame] at *
  rw [h', h]

theorem State.mapGate_frame (s : State) (f : Gate → Gate) : State.GateFrame s (s.mapGate f) := rfl

theorem State.mapWbl_frame (s : State) (f : Waybill → Waybill) : State.GateFrame s (s.mapWbl f) := rfl

/-- Only the gate and the output block may have changed. -/
def State.OutFrame (s t : State) : Prop := t = { s with gate := t.gate, out := t.out }

theorem State.OutFrame.refl (s : State) : State.OutFrame s s := rfl

theorem State.OutFrame.trans {s t u : State} (h : State.OutFrame s t) (h' : State.OutFrame t u) : State.OutFrame s u := by
  rw [State.OutFrame] at *
  rw [h', h]

theorem State.OutFrame.gateFrame {s t : State} (h : State.OutFrame s t) : State.GateFrame s t := by
  rw [State.OutFrame] at h
  rw [h]
  rfl

theorem State.OutFrame.ite {c : Prop} [Decidable c] {s t u : State} (ht : State.OutFrame s t) (hu : State.OutFrame s u) :
    State.OutFrame s (if c then t else u) := by
  split
  · exact ht
  · exact hu

theorem State.mapOut_frame (s : State) (f : OutBlock → OutBlock) : State.OutFrame s (s.mapOut f) := rfl

theorem State.GateFrame.ite {c : Prop} [Decidable c] {s t u : State} (ht : State.GateFrame s t) (hu : State.GateFrame s u) :
    State.GateFrame s (if c then t else u) := by
  split
  · exact ht
  · exact hu

theorem State.mapOutp_frame (s : State) (i : Fin 30) (f : Output → Output) : State.OutFrame s (s.mapOutp i f) := rfl

theorem State.endTargets_frame (s : State) (i : Nat) (p : Rec → Bool) (st : RecState) (reason : Nat) :
    State.GateFrame s (s.endTargets i p st reason) := s.mapWbl_frame _

theorem State.targetReached_frame (s : State) (i : Fin 30) : State.GateFrame s (s.targetReached i) :=
  .ite (.refl s) (s.endTargets_frame ..)

theorem State.strokeStart_frame (s : State) (i : Fin 8) (before after goal : Nat) :
    State.OutFrame s (s.strokeStart i before after goal) := by
  simp only [State.strokeStart]
  split
  · exact .ite (s.mapOut_frame _) (.refl s)
  · exact .refl s

theorem State.strokeCheck_frame (s : State) (i : Fin 30) : State.OutFrame s (s.strokeCheck i) := by
  simp only [State.strokeCheck]
  split
  · exact .refl s
  · exact s.mapOut_frame _

theorem State.countClose_frame (s : State) (k : Fin 12) : State.OutFrame s (s.countClose k) := s.mapOut_frame _

theorem State.applyTo_frame (s : State) (i : Fin 30) (v : Nat) : State.OutFrame s (s.applyTo i v) := by
  simp only [State.applyTo]
  split
  · exact .refl s
  · have closed : ∀ u, State.OutFrame s u → State.OutFrame s (match idx? 12 (i.val - 8) with
        | some k => if isDo i.val && decide ((s.outp i).applied = 0 ∧ v = 1) then u.countClose k else u
        | none => u) := by
      intro u hu
      split
      · exact .ite (hu.trans (u.countClose_frame _)) hu
      · exact hu
    split
    · exact (closed _ (s.mapOutp_frame i _)).trans (State.strokeStart_frame _ _ _ _ _)
    · exact closed _ (s.mapOutp_frame i _)

/-! ### One output changes -/

@[simp] theorem vset_vset {α : Type} {n : Nat} (v : Vector α n) (i : Fin n) (a b : α) : vset (vset v i a) i b = vset v i b := by
  have both := vmod_vmod v i (fun _ => a) fun _ => b
  simpa only [vmod] using both

@[simp] theorem vset_vget {α : Type} {n : Nat} (v : Vector α n) (i : Fin n) : vset v i (vget v i) = v :=
  Vector.set_getElem_self _

/-- Of the gate only output `i` has changed, which is `o` now; the output block and the Waybill may have followed. -/
structure State.OutputSet (i : Fin 30) (o : Output) (s t : State) : Prop where
  gate : t.gate = { s.gate with outs := vset s.gate.outs i o }
  frame : State.GateFrame s t

namespace State.OutputSet

variable {i : Fin 30} {o p : Output} {s t u : State}

theorem same (h : State.OutputSet i o s t) : t.outp i = o := by simp [State.outp, h.gate]

theorem other (h : State.OutputSet i o s t) {j : Fin 30} (hj : j ≠ i) : t.outp j = s.outp j := by
  simp [State.outp, h.gate, vget_vset_ne _ _ _ _ hj]

theorem blank (h : State.OutputSet i o s t) : t.gate.blank = s.gate.blank := by rw [h.gate]

theorem isLive (h : State.OutputSet i o s t) : t.isLive i = true ↔ s.gate.blank = false ∧ o.inRest = false := by
  rw [State.isLive_iff, h.blank, h.same]

theorem trans (h : State.OutputSet i o s t) (h' : State.OutputSet i p t u) : State.OutputSet i p s u :=
  ⟨by rw [h'.gate, h.gate, vset_vset], h.frame.trans h'.frame⟩

theorem refl (s : State) (i : Fin 30) : State.OutputSet i (s.outp i) s s := ⟨by simp [State.outp], .refl s⟩

/-- What leaves the gate as it is may follow. -/
theorem followed (h : State.OutputSet i o s t) (hg : u.gate = t.gate) (hf : State.GateFrame t u) : State.OutputSet i o s u :=
  ⟨hg.trans h.gate, h.frame.trans hf⟩

end State.OutputSet

theorem State.mapOutp_outputSet (s : State) (i : Fin 30) (f : Output → Output) : State.OutputSet i (f (s.outp i)) s (s.mapOutp i f) :=
  ⟨rfl, (s.mapOutp_frame i f).gateFrame⟩

/-- The output with another applied value and time of its latest change. -/
def Output.apply (o : Output) (v : Nat) (changed : Option Nat) : Output := { o with applied := v, changedAt := changed }

theorem State.applyTo_outputSet (s : State) (i : Fin 30) (v : Nat) :
    State.OutputSet i ((s.outp i).apply v
      (if (s.outp i).applied ≠ v ∧ isDo i.val = true then some s.now else (s.outp i).changedAt)) s (s.applyTo i v) := by
  by_cases h : (s.outp i).applied = v
  · have same : (s.outp i).apply v (s.outp i).changedAt = s.outp i := by rw [← h]; rfl
    have kept : s.applyTo i v = s := by simp [State.applyTo, h]
    rw [if_neg fun e => e.1 h, same, kept]
    exact .refl s i
  · refine ⟨?_, (s.applyTo_frame i v).gateFrame⟩
    unfold State.applyTo
    (repeat' split) <;> simp_all [State.mapOutp, vmod, State.outp, Output.apply]

/-- A Live output steps to its goal or waits; one without a slew limit that is no DO output does not wait (R38, R44). -/
theorem State.settle_cases (s : State) (i : Fin 30) :
    (s.isLive i = true ∧ s.settle i = (s.applyTo i (s.outp i).goal).targetReached i) ∨
      (s.settle i = s ∧ ¬ (s.isLive i = true ∧ (s.outp i).slew = 0 ∧ isDo i.val = false)) := by
  unfold State.settle
  cases hl : s.isLive i with
  | false => exact .inr ⟨rfl, by simp⟩
  | true =>
    cases hd : isDo i.val with
    | true =>
      simp only [if_true]
      exact (ite_eq_or_eq ..).imp (fun h => ⟨trivial, h⟩) fun h => ⟨h, by simp⟩
    | false =>
      by_cases hs : (s.outp i).slew = 0
      · exact .inl ⟨rfl, by simp [hs]⟩
      · exact .inr ⟨by simp [hs], by simp [hs]⟩

theorem State.settle_outputSet (s : State) (i : Fin 30) : ∃ a c, State.OutputSet i ((s.outp i).apply a c) s (s.settle i) ∧
    (s.isLive i = true → (s.outp i).slew = 0 → isDo i.val = false → a = (s.outp i).goal) ∧
    (s.isLive i = false → a = (s.outp i).applied) := by
  obtain ⟨hl, h⟩ | ⟨h, hwait⟩ := s.settle_cases i <;> rw [h]
  · exact ⟨_, _, (s.applyTo_outputSet i _).followed (by simp) (State.targetReached_frame _ i), fun _ _ _ => rfl, by simp [hl]⟩
  · exact ⟨(s.outp i).applied, (s.outp i).changedAt, .refl s i, fun hl hs hd => absurd ⟨hl, hs, hd⟩ hwait, fun _ => rfl⟩

/-! ### Releases (R63) -/

/-- A release makes of an output what `Output.released` says; one that leaves Rest may then move. -/
theorem State.releaseOut_outputSet (s : State) (i : Fin 30) (lost : Bool) :
    ∃ a c, State.OutputSet i (((s.outp i).released lost).apply a c) s (s.releaseOut i lost) ∧
      ((s.outp i).inRest = ((s.outp i).released lost).inRest ∨ s.gate.blank = true → a = (s.outp i).applied) := by
  have hset := s.mapOutp_outputSet i (Output.released lost)
  have kept := ((s.outp i).released_kept lost).1
  rw [State.releaseOut_eq, hset.same]
  split
  next h =>
    obtain ⟨a, c, hs, -, hidle⟩ := State.settle_outputSet (s.mapOutp i (Output.released lost)) i
    rw [hset.same] at hs hidle
    refine ⟨a, c, (hset.trans hs).followed (by simp) (State.strokeCheck_frame _ i).gateFrame, ?_⟩
    rintro (e | hb)
    · simp [e] at h
    · exact (hidle (Bool.eq_false_iff.mpr fun hl => by simp [hset.isLive, hb] at hl)).trans kept
  next => exact ⟨_, _, hset, fun _ => kept⟩

/-- The mask that a release leaves. -/
def Output.releasedMask (lost : Bool) (o : Output) : BitVec 7 :=
  (if lost then o.causes &&& ~~~RestCause.journalLost.mask else o.causes) &&& ~~~RestCause.boot.mask

theorem Output.released_of_empty {o : Output} {lost : Bool} (h : o.releasedMask lost = 0) :
    o.released lost = { o with causes := 0, inRest := false, carry := if o.inRest then 0 else o.carry } := if_pos h

theorem Output.released_of_standing {o : Output} {lost : Bool} (h : o.releasedMask lost ≠ 0) :
    o.released lost = { o with causes := o.releasedMask lost } := if_neg h

/-- A release touches the causes, Rest and the ramp's carry, and sends no output to Rest. -/
theorem Output.released_form (lost : Bool) (o : Output) :
    ∃ m r c, o.released lost = { o with causes := m, inRest := r, carry := c } ∧ (o.inRest = false → r = false) := by
  by_cases h : o.releasedMask lost = 0
  · exact ⟨_, _, _, Output.released_of_empty h, fun _ => rfl⟩
  · exact ⟨_, _, _, Output.released_of_standing h, id⟩

/-! ### All outputs in turn -/

section fold
variable {f : State → Fin 30 → State} (other : ∀ s i j, j ≠ i → (f s i).outp j = s.outp j)
include other

theorem foldl_outp_of_not_mem {l : List (Fin 30)} {i : Fin 30} (h : i ∉ l) (s : State) : (l.foldl f s).outp i = s.outp i := by
  induction l generalizing s with
  | nil => rfl
  | cons j l ih =>
    obtain ⟨hj, hl⟩ := not_or.mp (mt List.mem_cons.mpr h)
    exact (ih hl _).trans (other s j i hj)

/-- What each step makes of its own output, the fold makes of every output. -/
theorem foldl_outputs {I : State → Prop} {R : Fin 30 → Output → Output → Prop} (inv : ∀ s i, I s → I (f s i))
    (own : ∀ s i, I s → R i (s.outp i) ((f s i).outp i)) {s : State} (hs : I s) (i : Fin 30) :
    R i (s.outp i) (((List.finRange 30).foldl f s).outp i) := by
  have listed : ∀ l : List (Fin 30), l.Nodup → i ∈ l → ∀ s, I s → R i (s.outp i) ((l.foldl f s).outp i) := by
    intro l
    induction l with
    | nil => exact fun _ h => absurd h List.not_mem_nil
    | cons j l ih =>
      intro hl hm s hs
      obtain ⟨hj, hl⟩ := List.nodup_cons.mp hl
      by_cases e : i = j
      · subst e
        rw [List.foldl_cons, foldl_outp_of_not_mem other hj]
        exact own s i hs
      · rw [← other s j i e]
        exact ih hl ((List.mem_cons.mp hm).resolve_left e) _ (inv s j hs)
  exact listed _ (List.nodup_finRange 30) (List.mem_finRange i) s hs

/-- A register that each step counts up for a test of its own output counts the outputs that pass. -/
theorem foldl_counts {reg : State → Nat} {c : Nat → Nat} {q : Fin 30 → Output → Bool}
    (step : ∀ s i, reg (f s i) = if q i (s.outp i) then c (reg s) else reg s) {l : List (Fin 30)} (hl : l.Nodup) (s : State) :
    reg (l.foldl f s) = c^[(l.filter fun i => q i (s.outp i)).length] (reg s) := by
  induction l generalizing s with
  | nil => rfl
  | cons j l ih =>
    obtain ⟨hj, hl⟩ := List.nodup_cons.mp hl
    have later : (l.filter fun i => q i ((f s j).outp i)) = l.filter fun i => q i (s.outp i) :=
      List.filter_congr fun i hi => by rw [other s j i fun e => hj (e ▸ hi)]
    rw [List.foldl_cons, ih hl, later, step, List.filter_cons]
    split
    · rw [List.length_cons, Function.iterate_succ_apply]
    · rfl

end fold

end Sys2Proof.Machine
end

section
/-! PROOFS. Writes to the gate: the clamp and its count, and rejection (R40 to R42, R47, R168). -/

namespace Sys2Proof.Machine

/-! ### An accepted write -/

/-- A write of `v` that the clamp of output `i` changes has been counted. -/
def State.clampCounted (s : State) (i : Fin 30) (v : Nat) : State :=
  if (s.outp i).clamp v = v then s else s.mapGate fun g => { g with clampCnt := satInc 0xFFFF g.clampCnt }

theorem State.clampCounted_gate (s : State) (i : Fin 30) (v : Nat) : (s.clampCounted i v).gate =
    { s.gate with clampCnt := if (s.outp i).clamp v = v then s.gate.clampCnt else satInc 0xFFFF s.gate.clampCnt } := by
  unfold State.clampCounted
  split <;> rfl

theorem State.clampCounted_frame (s : State) (i : Fin 30) (v : Nat) : State.GateFrame s (s.clampCounted i v) :=
  .ite (.refl s) (s.mapGate_frame _)

theorem State.clampCounted_outp (s : State) (i j : Fin 30) (v : Nat) : (s.clampCounted i v).outp j = s.outp j := by
  rw [State.outp, State.clampCounted_gate]
  rfl

theorem State.clampCounted_blank (s : State) (i : Fin 30) (v : Nat) : (s.clampCounted i v).gate.blank = s.gate.blank := by
  rw [State.clampCounted_gate]

/-- R46: a key's write under a grant that is not stale acts as a release. -/
def State.writeReleases (s : State) (i : Fin 30) (src : GateSource) (stale : Bool) : State :=
  match src with
  | .key _ => if stale then s else s.releaseOut i false
  | _ => s

/-- R380: the output has a new target, and its other journaled targets are superseded. -/
def State.aimed (s : State) (i : Fin 30) (t own : Nat) : State :=
  (s.mapOutp i fun o => { o with target := t }).endTargets i.val (fun r => decide (r.seq ≠ own)) .done 1

theorem State.aimed_outputSet (s : State) (i : Fin 30) (t own : Nat) :
    State.OutputSet i { s.outp i with target := t } s (s.aimed i t own) :=
  (s.mapOutp_outputSet i fun o => { o with target := t }).followed (State.endTargets_gate ..) (State.endTargets_frame ..)

theorem State.gateTarget_eq (s : State) (i : Fin 30) (src : GateSource) (v own : Nat) : s.gateTarget i src v own =
    ((((s.clampCounted i v).aimed i ((s.outp i).clamp v) own).writeReleases i src (s.outp i).stale).settle i).strokeCheck i := by
  cases src <;> rfl

/-- Whatever the source, the write itself leaves all of an output but its causes, Rest and carry; APPLIED moves only where
the output leaves Rest outside Blank. -/
theorem State.writeReleases_outputSet (s : State) (i : Fin 30) (src : GateSource) (stale : Bool) :
    ∃ m r k a c, State.OutputSet i { s.outp i with causes := m, inRest := r, carry := k, applied := a, changedAt := c } s
        (s.writeReleases i src stale) ∧
      ((s.outp i).inRest = false → r = false) ∧ ((s.outp i).inRest = false ∨ s.gate.blank = true → a = (s.outp i).applied) := by
  have idle : ∃ m r k a c, State.OutputSet i { s.outp i with causes := m, inRest := r, carry := k, applied := a, changedAt := c } s s ∧
      ((s.outp i).inRest = false → r = false) ∧ ((s.outp i).inRest = false ∨ s.gate.blank = true → a = (s.outp i).applied) :=
    ⟨_, _, _, _, _, .refl s i, id, fun _ => rfl⟩
  cases src with
  | key k =>
    simp only [State.writeReleases]
    split
    · exact idle
    · obtain ⟨m, r, k, hform, hrest⟩ := (s.outp i).released_form false
      obtain ⟨a, c, hset, ha⟩ := s.releaseOut_outputSet i false
      rw [hform] at hset ha
      refine ⟨m, r, k, a, c, hset, hrest, fun h => ha (h.imp_left fun hin => ?_)⟩
      rw [hin, hrest hin]
  | _ => exact idle

/-- R42: an accepted write sets the clamped target; a Live output that need not ramp or wait applies it at once. -/
theorem State.gateTarget_outputSet (s : State) (i : Fin 30) (src : GateSource) (v own : Nat) :
    ∃ o, State.OutputSet i o (s.clampCounted i v) (s.gateTarget i src v own) ∧ o.target = (s.outp i).clamp v ∧
      (s.isLive i = true → (s.outp i).slew = 0 → isDo i.val = false → (s.outp i).owner ≠ .none → o.applied = o.target) ∧
      (s.gate.blank = true → o.applied = (s.outp i).applied) := by
  have aimed := (s.clampCounted i v).aimed_outputSet i ((s.outp i).clamp v) own
  obtain ⟨m, r, k, a, c, hwrite, hr, ha⟩ :=
    ((s.clampCounted i v).aimed i ((s.outp i).clamp v) own).writeReleases_outputSet i src (s.outp i).stale
  rw [aimed.blank, s.clampCounted_blank] at ha
  rw [aimed.same, s.clampCounted_outp] at hwrite hr ha
  have written := aimed.trans hwrite
  obtain ⟨b, d, hsettle, hnow, hidle⟩ := State.settle_outputSet
    (((s.clampCounted i v).aimed i ((s.outp i).clamp v) own).writeReleases i src (s.outp i).stale) i
  rw [written.same] at hsettle hnow hidle
  have hlive := written.isLive
  rw [s.clampCounted_blank] at hlive
  refine ⟨_, s.gateTarget_eq i src v own ▸ (written.trans hsettle).followed (by simp) (State.strokeCheck_frame _ i).gateFrame, rfl, ?_, ?_⟩
  · intro hl hslew hdo howner
    obtain ⟨hb, hin⟩ := State.isLive_iff.mp hl
    have goal := hnow (hlive.mpr ⟨hb, hr hin⟩) hslew hdo
    simpa [Output.apply, Output.goal, hr hin, howner] using goal
  · intro hb
    exact (hidle (Bool.eq_false_iff.mpr fun h => by simp [hb] at hlive; simp [hlive] at h)).trans (ha (.inr hb))

/-- Settles O13: the write changes one output as `gateTarget_outputSet` says, beside the count of `clampCounted`. -/
theorem gateClamps : Obligations.GateClamps := by
  unfold Obligations.GateClamps
  intro s src i v hacts haccepts
  have write : exec (.gateWrite src i v) s = .next (s.gateTarget i src v 0) := by
    simp only [exec, execGateWrite, hacts, if_true, State.gateWrite, haccepts]
  obtain ⟨o, hset, htarget, hnow, hblank⟩ := s.gateTarget_outputSet i src v 0
  have frame := (s.clampCounted_frame i v).trans hset.frame
  refine ⟨_, write, ?_, ?_, ?_, ?_, frame, ?_, ?_⟩
  · rw [hset.same, htarget]
    rfl
  · rw [hset.same, htarget, hset.gate, s.clampCounted_gate]
  · rw [hset.gate, s.clampCounted_gate]
  · intro j hj
    rw [hset.other hj, s.clampCounted_outp]
  · rw [hset.same]
    exact hnow
  · rw [hset.same]
    exact hblank

/-! ### A rejected write -/

/-- Settles O14: the gate's answer is by cases on the source (`gateAccepts`, `sourceActs`). -/
theorem gateRejects : Obligations.GateRejects := by
  unfold Obligations.GateRejects
  refine ⟨?rejected, ?parked, ?idle, ?lodgerActs, ?loopActs, ?lodgerOwns, ?slotOwns, ?keyOwns⟩
  case rejected =>
    intro s src i v hacts haccepts
    simp only [exec, execGateWrite, hacts, if_true, State.gateWrite, haccepts, Bool.false_eq_true, if_false]
    cases src <;> rfl
  case parked =>
    intro s i src h
    cases src <;> simp [State.gateAccepts, h]
  case idle =>
    intro s src i v hacts
    simp only [exec, execGateWrite, hacts, Bool.false_eq_true, if_false]
  case lodgerActs => exact fun s n => decide_eq_true_iff
  case loopActs => exact fun s k => Bool.and_eq_true_iff
  case lodgerOwns => exact fun s i n => decide_eq_true_iff
  case slotOwns => exact fun s i k => decide_eq_true_iff
  case keyOwns =>
    intro s i k
    simp only [State.gateAccepts, State.keyHeld, Bool.and_eq_true, decide_eq_true_eq, List.any_eq_true, and_assoc]

end Sys2Proof.Machine
end

section
/-! PROOFS. Releases of Rest (R46, R63, R64, R73). -/

namespace Sys2Proof.Machine

/-! ### One output -/

/-- R64, R73: a release that another Lodger writes, and that finds no JOURNAL_LOST, is counted. -/
def Output.foreign (n : Fin 4) (o : Output) : Bool :=
  !decide (o.owner = .lodger ∧ o.ownerId = n.val) && !o.causes.getLsbD 6

theorem Output.foreign_iff {n : Fin 4} {o : Output} :
    o.foreign n = true ↔ ¬(o.owner = .lodger ∧ o.ownerId = n.val) ∧ o.causes.getLsbD 6 = false := by
  simp only [Output.foreign, Bool.and_eq_true, Bool.not_eq_true', decide_eq_false_iff_not]

/-- What a Lodger's release makes of an output. -/
structure Output.ReleasedBy (n : Fin 4) (o p : Output) : Prop where
  own : o.owner = .lodger → o.ownerId = n.val →
    (o.causes &&& 0x1F = 0 → p.causes = 0 ∧ p.inRest = false) ∧
    (o.causes &&& 0x1F ≠ 0 → p.causes = o.causes &&& 0x1F ∧ p.inRest = o.inRest ∧ p.applied = o.applied)
  foreign : ¬(o.owner = .lodger ∧ o.ownerId = n.val) →
    p.causes = o.causes &&& 0x3F ∧ p.applied = o.applied ∧ (o.owner ≠ .none ∨ o.causes.getLsbD 6 = false → p.inRest = o.inRest)

theorem journalLost_iff (m : BitVec 7) : m &&& RestCause.journalLost.mask ≠ 0 ↔ m.getLsbD 6 = true := by
  revert m
  decide

/-- The output with one Rest cause ended; a parked one leaves Rest with its last cause (R47). -/
def Output.cleared (c : RestCause) (o : Output) : Output :=
  { o with causes := o.causes &&& ~~~c.mask, inRest := if o.owner = .none ∧ o.causes &&& ~~~c.mask = 0 then false else o.inRest }

theorem State.clearCause_outputSet (s : State) (i : Fin 30) (c : RestCause) :
    State.OutputSet i ((s.outp i).cleared c) s (s.clearCause i c) := s.mapOutp_outputSet i (Output.cleared c)

theorem and_of_not_journalLost {m : BitVec 7} (h : m.getLsbD 6 = false) : m &&& 0x3F = m := by
  revert m
  decide

/-- A release by the owner leaves the causes but JOURNAL_LOST and BOOT. -/
theorem Output.releasedMask_true (o : Output) : o.releasedMask true = o.causes &&& 0x1F := by
  simp only [Output.releasedMask, if_true, BitVec.and_assoc]
  rfl

/-- The owner's write releases. -/
theorem State.lodgerRelease_own {s : State} {n : Fin 4} {i : Fin 30} (h : (s.outp i).owner = .lodger ∧ (s.outp i).ownerId = n.val) :
    ∃ p, State.OutputSet i p s (s.lodgerRelease n i) ∧ (s.outp i).ReleasedBy n p := by
  obtain ⟨a, c, hset, ha⟩ := s.releaseOut_outputSet i true
  refine ⟨_, (if_pos h : s.lodgerRelease n i = _) ▸ hset, fun _ _ => ⟨fun hm => ?_, fun hm => ?_⟩, fun hf => absurd h hf⟩
  · rw [Output.released_of_empty ((s.outp i).releasedMask_true.trans hm)]
    exact ⟨rfl, rfl⟩
  · have standing := Output.released_of_standing (lost := true) ((s.outp i).releasedMask_true ▸ hm)
    rw [standing] at ha ⊢
    exact ⟨(s.outp i).releasedMask_true, rfl, ha (.inl rfl)⟩

/-- Another Lodger's clears JOURNAL_LOST where it stands. -/
theorem State.lodgerRelease_lost {s : State} {n : Fin 4} {i : Fin 30} (h : ¬((s.outp i).owner = .lodger ∧ (s.outp i).ownerId = n.val))
    (hlost : (s.outp i).causes.getLsbD 6 = true) :
    ∃ p, State.OutputSet i p s (s.lodgerRelease n i) ∧ (s.outp i).ReleasedBy n p := by
  have step : s.lodgerRelease n i = s.clearCause i .journalLost := (if_neg h).trans (if_pos ((journalLost_iff _).mpr hlost))
  refine ⟨(s.outp i).cleared .journalLost, step ▸ s.clearCause_outputSet i _, fun ho hid => absurd ⟨ho, hid⟩ h,
    fun _ => ⟨rfl, rfl, fun hkept => if_neg fun e => ?_⟩⟩
  exact hkept.elim (· e.1) fun e => Bool.false_ne_true (e.symm.trans hlost)

/-- Where it does not stand the write is only counted. -/
theorem State.lodgerRelease_foreign {s : State} {n : Fin 4} {i : Fin 30}
    (h : ¬((s.outp i).owner = .lodger ∧ (s.outp i).ownerId = n.val)) (hlost : (s.outp i).causes.getLsbD 6 = false) :
    s.lodgerRelease n i = s.mapGate fun g => { g with rejectCnt := satInc 0xFFFF g.rejectCnt } :=
  (if_neg h).trans (if_neg fun e => Bool.false_ne_true (hlost.symm.trans ((journalLost_iff _).mp e)))

/-- Of the gate only the outputs and REJ_CNT have changed, with them the output block and the Waybill. -/
structure State.ReleaseFrame (s t : State) : Prop where
  gate : t.gate = { s.gate with outs := t.gate.outs, rejectCnt := t.gate.rejectCnt }
  frame : State.GateFrame s t

theorem State.ReleaseFrame.refl (s : State) : State.ReleaseFrame s s := ⟨rfl, .refl s⟩

theorem State.ReleaseFrame.trans {s t u : State} (h : State.ReleaseFrame s t) (h' : State.ReleaseFrame t u) : State.ReleaseFrame s u :=
  ⟨by rw [h'.gate, h.gate], h.frame.trans h'.frame⟩

/-- A release of one output: that output as `ReleasedBy` says, no other one, and a foreign release in REJ_CNT. -/
theorem State.lodgerRelease_spec (s : State) (n : Fin 4) (i : Fin 30) :
    State.ReleaseFrame s (s.lodgerRelease n i) ∧ (s.outp i).ReleasedBy n ((s.lodgerRelease n i).outp i) ∧
      (∀ j, j ≠ i → (s.lodgerRelease n i).outp j = s.outp j) ∧
      (s.lodgerRelease n i).gate.rejectCnt =
        if (s.outp i).foreign n then satInc 0xFFFF s.gate.rejectCnt else s.gate.rejectCnt := by
  have changed (p : Output) (hset : State.OutputSet i p s (s.lodgerRelease n i)) (hrel : (s.outp i).ReleasedBy n p)
      (hown : ¬ (s.outp i).foreign n = true) : State.ReleaseFrame s (s.lodgerRelease n i) ∧
      (s.outp i).ReleasedBy n ((s.lodgerRelease n i).outp i) ∧ (∀ j, j ≠ i → (s.lodgerRelease n i).outp j = s.outp j) ∧
      (s.lodgerRelease n i).gate.rejectCnt =
        if (s.outp i).foreign n then satInc 0xFFFF s.gate.rejectCnt else s.gate.rejectCnt := by
    refine ⟨⟨by rw [hset.gate], hset.frame⟩, hset.same ▸ hrel, fun j hj => hset.other hj, ?_⟩
    rw [hset.gate, if_neg hown]
  by_cases h : (s.outp i).owner = .lodger ∧ (s.outp i).ownerId = n.val
  · obtain ⟨p, hset, hrel⟩ := State.lodgerRelease_own h
    exact changed p hset hrel fun e => (Output.foreign_iff.mp e).1 h
  · cases hlost : (s.outp i).causes.getLsbD 6 with
    | true =>
      obtain ⟨p, hset, hrel⟩ := State.lodgerRelease_lost h hlost
      exact changed p hset hrel fun e => Bool.false_ne_true ((Output.foreign_iff.mp e).2.symm.trans hlost)
    | false =>
      rw [State.lodgerRelease_foreign h hlost]
      refine ⟨⟨rfl, rfl⟩, ⟨fun ho hid => absurd ⟨ho, hid⟩ h, fun _ => ⟨(and_of_not_journalLost hlost).symm, rfl, fun _ => rfl⟩⟩,
        fun _ _ => rfl, (if_pos (Output.foreign_iff.mpr ⟨h, hlost⟩)).symm⟩

/-! ### A write of several bits -/

theorem exec_gateRelease {s : State} {n : Fin 4} {user : Bool} (hmay : s.may n user .store 0x400F0404) (w : Word) :
    exec (.gateRelease n user w) s = .next ((s.gateRelease n w).answer 0) := by
  simp only [exec, execGateRelease, State.access_lodger hmay]

/-- The step of a write to GATE_RELEASE for one output. -/
def State.releaseBit (n : Fin 4) (w : Word) (s : State) (i : Fin 30) : State :=
  if w.getLsbD i.val then s.lodgerRelease n i else s

theorem State.releaseBit_other (n : Fin 4) (w : Word) (s : State) (i j : Fin 30) (hj : j ≠ i) :
    (s.releaseBit n w i).outp j = s.outp j := by
  unfold State.releaseBit
  split
  · exact (s.lodgerRelease_spec n i).2.2.1 j hj
  · rfl

theorem State.releaseBit_count (n : Fin 4) (w : Word) (s : State) (i : Fin 30) : (s.releaseBit n w i).gate.rejectCnt =
    if w.getLsbD i.val && (s.outp i).foreign n then satInc 0xFFFF s.gate.rejectCnt else s.gate.rejectCnt := by
  unfold State.releaseBit
  cases w.getLsbD i.val with
  | true => simpa using (s.lodgerRelease_spec n i).2.2.2
  | false => simp

theorem State.gateRelease_frame (s : State) (n : Fin 4) (w : Word) : State.ReleaseFrame s (s.gateRelease n w) := by
  refine foldl_keeps .refl .trans (fun s i => ?_) _ s
  split
  · exact (s.lodgerRelease_spec n i).1
  · exact .refl s

theorem State.gateRelease_outp (s : State) (n : Fin 4) (w : Word) (i : Fin 30) :
    (w.getLsbD i.val = false → (s.gateRelease n w).outp i = s.outp i) ∧
      (w.getLsbD i.val = true → (s.outp i).ReleasedBy n ((s.gateRelease n w).outp i)) := by
  refine foldl_outputs (f := State.releaseBit n w) (State.releaseBit_other n w) (I := fun _ => True)
    (R := fun i o p => (w.getLsbD i.val = false → p = o) ∧ (w.getLsbD i.val = true → o.ReleasedBy n p))
    (fun _ _ => id) (fun s i _ => ?_) trivial i
  unfold State.releaseBit
  cases w.getLsbD i.val with
  | true => exact ⟨nofun, fun _ => (s.lodgerRelease_spec n i).2.1⟩
  | false => exact ⟨fun _ => rfl, nofun⟩

theorem Nat.repeat_eq_iterate {α : Type} (f : α → α) (n : Nat) (a : α) : Nat.repeat f n a = f^[n] a := by
  induction n with
  | zero => rfl
  | succ n ih => rw [Nat.repeat, ih, Function.iterate_succ_apply']

/-- Foreign releases are counted one by one. -/
theorem State.gateRelease_rejectCnt (s : State) (n : Fin 4) (w : Word) : (s.gateRelease n w).gate.rejectCnt =
    Nat.repeat (satInc 0xFFFF) ((List.finRange 30).filter fun i => w.getLsbD i.val && (s.outp i).foreign n).length
      s.gate.rejectCnt := by
  rw [Nat.repeat_eq_iterate]
  exact foldl_counts (f := State.releaseBit n w) (State.releaseBit_other n w) (reg := fun s => s.gate.rejectCnt)
    (q := fun i o => w.getLsbD i.val && o.foreign n) (State.releaseBit_count n w) (List.nodup_finRange 30) s

/-- A write of one bit is the release of that output. -/
theorem State.gateRelease_one (s : State) (n : Fin 4) (i : Fin 30) :
    s.gateRelease n (BitVec.ofNat 32 (2 ^ i.val)) = s.lodgerRelease n i := by
  have bits : (List.finRange 30).filter (fun j => (BitVec.ofNat 32 (2 ^ i.val)).getLsbD j.val) = [i] := by
    revert i
    decide +kernel
  rw [State.gateRelease, ← List.foldl_filter, bits]
  rfl

/-- Settles O15: `gateRelease_outp` and `gateRelease_rejectCnt` follow a write of several bits output by output; of one bit it
is `lodgerRelease` (`gateRelease_one`). -/
theorem gateReleases : Obligations.GateReleases := by
  unfold Obligations.GateReleases
  refine ⟨fun s n user w hmay => ?several, fun s n user i hmay => ?one⟩
  case several =>
    have frame := s.gateRelease_frame n w
    have count := s.gateRelease_rejectCnt n w
    simp only [Output.foreign, ← Bool.and_assoc] at count
    refine ⟨_, exec_gateRelease hmay w, rfl, ?_, frame.gate, count, fun i => ?_⟩
    · exact congrArg (fun t : State => t.answer 0) frame.frame
    · obtain ⟨hkept, hrel⟩ := s.gateRelease_outp n w i
      exact ⟨hkept, fun hw => (hrel hw).own, fun hw => (hrel hw).foreign⟩
  case one =>
    rw [exec_gateRelease hmay, State.gateRelease_one]
    obtain ⟨frame, hrel, hothers, hcount⟩ := s.lodgerRelease_spec n i
    refine ⟨_, rfl, hothers, rfl, congrArg (fun t : State => t.answer 0) frame.frame, fun ho hid => ⟨?_, hrel.own ho hid⟩, fun hf => ?_⟩
    · exact hcount.trans (if_neg fun e => (Output.foreign_iff.mp e).1 ⟨ho, hid⟩)
    · obtain ⟨hcauses, happlied, hrest⟩ := hrel.foreign hf
      refine ⟨fun h => hrest (.inl h), happlied, fun hlost => ⟨hcauses, ?_⟩, fun hlost => ?_⟩
      · exact hcount.trans (if_neg fun e => Bool.false_ne_true ((Output.foreign_iff.mp e).2.symm.trans hlost))
      · rw [State.lodgerRelease_foreign hf hlost]
        rfl

end Sys2Proof.Machine
end

section
/-! PROOFS. Ramps, and the change interval of a DO output (R43, R44, R356). -/

namespace Sys2Proof.Machine

/-! ### One ramp interval of an output -/

/-- How far an output may move in this interval. -/
def Output.rampStep (o : Output) : Nat := (o.carry + o.slew) / 1000

theorem Output.ramp_of_do (o : Output) {i : Nat} (h : isDo i = true) : o.ramp i = o := if_pos (by simp [h])

/-- Without a slew limit the goal is reached at once (R38). -/
theorem applied_ramp_of_no_slew {o : Output} {i : Nat} (hd : isDo i = false) (hs : o.slew = 0) : (o.ramp i).applied = o.goal := by
  by_cases h : o.applied = o.goal <;> simp [Output.ramp, hd, hs, h]

/-- Upwards an output stops at its goal. -/
theorem applied_ramp_up {o : Output} {i : Nat} (hd : isDo i = false) (hs : o.slew ≠ 0) (h : o.applied ≤ o.goal) :
    (o.ramp i).applied = min o.goal (o.applied + o.rampStep) := by
  obtain e | hlt := h.eq_or_lt
  · simp [Output.ramp, e]
  · by_cases hreach : o.goal ≤ o.applied + o.rampStep
    · rw [min_eq_left hreach]
      simp only [Output.rampStep] at hreach
      simp [Output.ramp, hd, hs, hlt, hlt.ne, hreach]
    · rw [min_eq_right (le_of_not_ge hreach)]
      simp only [Output.rampStep] at hreach ⊢
      simp [Output.ramp, hd, hs, hlt, hlt.ne, hreach]

/-- Downwards too. -/
theorem applied_ramp_down {o : Output} {i : Nat} (hd : isDo i = false) (hs : o.slew ≠ 0) (h : o.goal < o.applied) :
    (o.ramp i).applied = max o.goal (o.applied - o.rampStep) := by
  have hup : ¬ o.applied < o.goal := by omega
  by_cases hreach : o.applied ≤ o.goal + o.rampStep
  · rw [max_eq_left (by omega)]
    simp only [Output.rampStep] at hreach
    simp [Output.ramp, hd, hs, h.ne', hup, hreach]
  · rw [max_eq_right (by omega)]
    simp only [Output.rampStep] at hreach ⊢
    simp [Output.ramp, hd, hs, h.ne', hup, hreach]

/-! ### GATE_RAMP_INTERVAL -/

/-- The step of a ramp interval for one output. -/
def State.rampOut (s : State) (i : Fin 30) : State :=
  if s.isLive i then
    (((s.applyTo i ((s.outp i).ramp i.val).applied).mapOutp i fun o =>
      { o with carry := ((s.outp i).ramp i.val).carry }).targetReached i)
  else s

theorem State.gateRamp_eq {s : State} (h : s.gate.envNext = none) : s.gateRamp = (List.finRange 30).foldl State.rampOut s := by
  unfold State.gateRamp State.newEnvelopes
  rw [h]
  rfl

theorem State.rampOut_live {s : State} {i : Fin 30} (h : s.isLive i = true) : ∃ c, State.OutputSet i
    { s.outp i with applied := ((s.outp i).ramp i.val).applied, carry := ((s.outp i).ramp i.val).carry, changedAt := c } s (s.rampOut i) := by
  have applied := s.applyTo_outputSet i ((s.outp i).ramp i.val).applied
  have carried := (s.applyTo i ((s.outp i).ramp i.val).applied).mapOutp_outputSet i
    fun o => { o with carry := ((s.outp i).ramp i.val).carry }
  rw [applied.same] at carried
  exact ⟨_, (if_pos h : s.rampOut i = _) ▸
    (applied.trans carried).followed (State.targetReached_gate _ i) (State.targetReached_frame _ i)⟩

theorem State.rampOut_idle {s : State} {i : Fin 30} (h : s.isLive i = false) : s.rampOut i = s :=
  if_neg (Bool.eq_false_iff.mp h)

theorem State.rampOut_keeps (s : State) (i : Fin 30) : State.GateFrame s (s.rampOut i) ∧
    (s.rampOut i).gate.blank = s.gate.blank ∧ ∀ j, j ≠ i → (s.rampOut i).outp j = s.outp j := by
  cases h : s.isLive i with
  | true =>
    obtain ⟨c, hset⟩ := State.rampOut_live h
    exact ⟨hset.frame, hset.blank, fun j hj => hset.other hj⟩
  | false =>
    rw [State.rampOut_idle h]
    exact ⟨.refl s, rfl, fun _ _ => rfl⟩

/-- What a ramp interval makes of output `i`, which is Live or not. -/
structure Output.RampedTo (i : Fin 30) (live : Bool) (o p : Output) : Prop where
  still : live = false ∨ isDo i.val = true → p.applied = o.applied
  goal : p.goal = o.goal
  moved : live = true → p.applied = (o.ramp i.val).applied

theorem State.rampOut_outp (s : State) (i : Fin 30) : (s.outp i).RampedTo i (s.isLive i) ((s.rampOut i).outp i) := by
  cases h : s.isLive i with
  | true =>
    obtain ⟨c, hset⟩ := State.rampOut_live h
    rw [hset.same]
    refine ⟨fun hd => ?_, rfl, fun _ => rfl⟩
    change ((s.outp i).ramp i.val).applied = _
    rw [Output.ramp_of_do _ (hd.resolve_left (by simp))]
  | false =>
    rw [State.rampOut_idle h]
    exact ⟨fun _ => rfl, rfl, nofun⟩

theorem State.gateRamp_outp {s : State} (h : s.gate.envNext = none) (i : Fin 30) :
    (s.outp i).RampedTo i (s.isLive i) (s.gateRamp.outp i) := by
  have live : ∀ (t : State) (j : Fin 30), t.gate.blank = s.gate.blank →
      t.isLive j = (!s.gate.blank && !(t.outp j).inRest) := by
    intro t j hb
    rw [Bool.eq_iff_iff, State.isLive_iff, hb]
    simp
  rw [State.gateRamp_eq h, live s i rfl]
  refine foldl_outputs (f := State.rampOut) (fun s i => (s.rampOut_keeps i).2.2) (I := fun t => t.gate.blank = s.gate.blank)
    (R := fun i o p => o.RampedTo i (!s.gate.blank && !o.inRest) p) (fun t j hb => ?_) (fun t j hb => ?_) rfl i
  · exact (t.rampOut_keeps j).2.1.trans hb
  · rw [← live t j hb]
    exact t.rampOut_outp j

/-! ### DO_CHANGE_INTERVAL -/

theorem isDo_doGate (k : Fin 12) : isDo (doGate k).val = true := decide_eq_true ⟨by simp [doGate], by simp [doGate]; omega⟩

theorem State.doInterval_eq {s : State} {k : Fin 12} (h : s.isLive (doGate k) = true) :
    s.doInterval k = (s.applyTo (doGate k) (s.outp (doGate k)).goal).targetReached (doGate k) := by
  have index : (⟨k.val + 8, by omega⟩ : Fin 30) = doGate k := Fin.ext (Nat.add_comm ..)
  unfold State.doInterval
  rw [index]
  exact if_pos h

theorem State.countClose_cyc (s : State) (k : Fin 12) : ((s.countClose k).dout k).cyc =
    if (s.dout k).driverOff = false ∧ (s.dout k).latched = false then satInc 0xFFFFFFFF (s.dout k).cyc else (s.dout k).cyc := by
  simp only [State.countClose, State.dout, State.mapOut_out, vget_vmod_same]
  split
  next h => exact (if_neg fun e => by simp [e] at h).symm
  next h => exact (if_pos (by simpa using h)).symm

theorem idx_doGate (k : Fin 12) : idx? 12 ((doGate k).val - 8) = some k ∧ idx? 8 (doGate k).val = none := by
  revert k
  decide

/-- A DO output changes; a relay that closes with it is counted. -/
theorem State.applyTo_doGate {s : State} {k : Fin 12} {v : Nat} (h : (s.outp (doGate k)).applied ≠ v) :
    s.applyTo (doGate k) v =
      (if (s.outp (doGate k)).applied = 0 ∧ v = 1 then
        (s.mapOutp (doGate k) fun o => { o with applied := v, changedAt := some s.now }).countClose k
      else s.mapOutp (doGate k) fun o => { o with applied := v, changedAt := some s.now }) := by
  obtain ⟨relay, noAnalog⟩ := idx_doGate k
  simp only [State.applyTo, h, if_false, relay, noAnalog, isDo_doGate, if_true, Bool.true_and, decide_eq_true_eq]

/-- R356: a closing of a relay whose driver is not held off is counted. -/
theorem State.applyTo_cyc (s : State) (k : Fin 12) (v : Nat) : ((s.applyTo (doGate k) v).dout k).cyc =
    if (s.outp (doGate k)).applied = 0 ∧ v = 1 ∧ (s.dout k).driverOff = false ∧ (s.dout k).latched = false
      then satInc 0xFFFFFFFF (s.dout k).cyc else (s.dout k).cyc := by
  by_cases h : (s.outp (doGate k)).applied = v
  · rw [if_neg fun e => absurd (e.1.symm.trans (h.trans e.2.1)) (by decide), State.applyTo, if_pos h]
  · rw [State.applyTo_doGate h]
    by_cases hc : (s.outp (doGate k)).applied = 0 ∧ v = 1
    · simp only [hc, and_self, if_true, true_and]
      exact State.countClose_cyc _ k
    · rw [if_neg hc, if_neg fun e => hc ⟨e.1, e.2.1⟩]
      rfl

theorem State.targetReached_out (s : State) (i : Fin 30) : (s.targetReached i).out = s.out := by
  unfold State.targetReached
  split <;> rfl

/-- Settles O16: every output ramps as `gateRamp_outp` and the lemmas on `Output.ramp` say; a DO output's interval is one
`applyTo`. -/
theorem gateRamps : Obligations.GateRamps := by
  unfold Obligations.GateRamps
  refine ⟨fun s hink henv => ?ramp, fun s k hlive => ?interval⟩
  case ramp =>
    have step : exec .gateRampInterval s = .next s.gateRamp := by simp only [exec, execGateRampInterval, hink, if_true]
    refine ⟨_, step, ?_, fun i hi => (State.gateRamp_outp henv i).still hi, fun i hlive hdo => ?_⟩
    · rw [State.gateRamp_eq henv]
      exact foldl_keeps State.GateFrame.refl State.GateFrame.trans (fun s i => (s.rampOut_keeps i).1) _ s
    · obtain ⟨-, hgoal, hmoved⟩ := State.gateRamp_outp henv i
      rw [hmoved hlive]
      exact ⟨hgoal, applied_ramp_of_no_slew hdo, applied_ramp_up hdo, applied_ramp_down hdo⟩
  case interval =>
    have applied := s.applyTo_outputSet (doGate k) (s.outp (doGate k)).goal
    have done := applied.followed (State.targetReached_gate _ (doGate k)) (State.targetReached_frame _ (doGate k))
    refine ⟨_, congrArg Host.Outcome.next (State.doInterval_eq hlive), ?_, fun j hj => done.other hj, fun h => ?_, ?_, done.frame⟩
    · rw [done.same]
      rfl
    · rw [done.same]
      exact if_pos ⟨h, isDo_doGate k⟩
    · rw [← State.applyTo_cyc, State.dout, State.targetReached_out]
      rfl

end Sys2Proof.Machine
end

section
/-! PROOFS. Rest and Blank: what they do to each output and what they leave (R45, R48, R65), and the supply monitors (R65, R66, R76,
R251, R370). -/

namespace Sys2Proof.Machine

/-! ### Going to Rest -/

/-- Only the gate, the fan channels and the output block may have changed. -/
def State.FanFrame (s t : State) : Prop := t = { s with gate := t.gate, fans := t.fans, out := t.out }

theorem State.FanFrame.refl (s : State) : State.FanFrame s s := rfl

theorem State.FanFrame.trans {s t u : State} (h : State.FanFrame s t) (h' : State.FanFrame t u) : State.FanFrame s u := by
  rw [State.FanFrame] at *
  rw [h', h]

theorem State.OutFrame.fanFrame {s t : State} (h : State.OutFrame s t) : State.FanFrame s t := by
  rw [State.OutFrame] at h
  rw [h]
  rfl

theorem State.fanLeavesLive_frame (s : State) (i : Fin 30) : State.FanFrame s (s.fanLeavesLive i) := by
  unfold State.fanLeavesLive
  split
  · split <;> rfl
  · rfl

theorem State.heaterRestart_frame (s : State) (i : Fin 30) (duty : Nat) : State.OutFrame s (s.heaterRestart i duty) := by
  unfold State.heaterRestart
  split
  · exact .ite (s.mapOut_frame _) (.refl s)
  · exact .refl s

theorem State.toRestValue_frame (s : State) (i : Fin 30) : State.FanFrame s (s.toRestValue i) := by
  have gone := (s.mapOutp_frame i fun o => { o with inRest := true, carry := 0 }).fanFrame.trans (State.fanLeavesLive_frame _ i)
  simp only [State.toRestValue]
  split
  · exact gone
  · exact gone.trans (((State.applyTo_frame _ i _).trans (State.heaterRestart_frame _ i _)).trans
      (State.strokeCheck_frame _ i)).fanFrame

/-- An output that goes to Rest, and its applied value outside Blank (R48). -/
theorem State.toRestValue_outp (s : State) (i : Fin 30) : ∃ v t,
    (s.toRestValue i).outp i = { s.outp i with inRest := true, carry := 0, applied := v, changedAt := t } ∧
      (s.gate.blank = false → v = (s.outp i).rest) := by
  obtain ⟨v, t, hv, hgate⟩ := s.toRestValue_gate i
  refine ⟨v, t, (State.outp_congr hgate i).trans (s.mapOutp_outp_same i _), fun hb => ?_⟩
  rw [hv, hb]
  rfl

theorem State.setCause_frame_of_quiet (s : State) (i : Fin 30) {c : RestCause}
    (hc : ¬ (c = .lodger ∨ c = .key ∨ c = .feedback ∨ c = .apart)) : State.FanFrame s (s.setCause i c) := by
  simp only [State.setCause, hc, decide_false, Bool.and_false, Bool.false_eq_true, if_false]
  split
  · exact (s.mapOutp_frame i _).fanFrame
  · exact (s.mapOutp_frame i _).fanFrame.trans (State.toRestValue_frame _ i)

/-- R45: an output that takes a cause is in Rest with it; of what stands in its envelope nothing changes. -/
theorem State.setCause_outp (s : State) (i : Fin 30) (c : RestCause) : ∃ a k t,
    (s.setCause i c).outp i = { s.outp i with
      inRest := true, causes := (s.outp i).causes ||| c.mask, stale := (s.outp i).stale || decide (c = .key ∨ c = .apart)
      applied := a, carry := k, changedAt := t } := by
  have gate := s.setCause_gate i c
  cases hin : (s.outp i).inRest with
  | true =>
    rw [hin, if_pos rfl] at gate
    refine ⟨(s.outp i).applied, (s.outp i).carry, (s.outp i).changedAt, (State.outp_congr gate i).trans ?_⟩
    rw [State.causeNoted, State.mapOutp_outp_same, ← hin]
  | false =>
    rw [hin, if_neg Bool.false_ne_true] at gate
    obtain ⟨v, t, hrest, -⟩ := (s.causeNoted i c).toRestValue_outp i
    refine ⟨v, 0, t, (State.outp_congr gate i).trans (hrest.trans ?_)⟩
    rw [State.causeNoted, State.mapOutp_outp_same]

/-! ### Blank ends (R65) -/

/-- What the end of Blank makes of every output. -/
def State.bootRest (s : State) (i : Fin 30) : State := (s.setCause i .boot).toRestValue i

theorem State.bootRest_frame (s : State) (i : Fin 30) : State.FanFrame s (s.bootRest i) :=
  (s.setCause_frame_of_quiet i (by decide)).trans (State.toRestValue_frame _ i)

theorem State.bootRest_outp_ne (s : State) (i j : Fin 30) (h : j ≠ i) : (s.bootRest i).outp j = s.outp j :=
  (State.toRestValue_outp_ne _ h).trans (s.setCause_outp_ne h _)

theorem State.bootRest_blank (s : State) (i : Fin 30) : (s.bootRest i).gate.blank = s.gate.blank :=
  (State.toRestValue_blank _ i).trans (s.setCause_blank i _)

/-- An output that a release has to bring out of Rest again. -/
structure Output.AtRest (o p : Output) : Prop where
  inRest : p.inRest = true
  boot : p.causes.getLsbD 5 = true
  applied : p.applied = o.rest

theorem State.bootRest_outp {s : State} (hb : s.gate.blank = false) (i : Fin 30) : (s.outp i).AtRest ((s.bootRest i).outp i) := by
  obtain ⟨a, k, t, hcause⟩ := s.setCause_outp i .boot
  obtain ⟨v, u, hrest, hv⟩ := (s.setCause i .boot).toRestValue_outp i
  rw [State.bootRest, hrest, hcause]
  refine ⟨rfl, ?_, ?_⟩
  · simp [RestCause.mask]
  · exact (hv ((s.setCause_blank i _).trans hb)).trans (by rw [hcause])

/-- Blank ends: its cause is gone, and the outputs stand as they are, in Rest. -/
def State.blankOver (s : State) : State :=
  s.mapGate fun g => { g with blank := false, blankCause := 0, outs := g.outs.map fun o => { o with inRest := true } }

theorem State.gateUnblank_eq (s : State) : s.gateUnblank = (List.finRange 30).foldl State.bootRest s.blankOver := rfl

theorem State.gateUnblank_frame (s : State) : State.FanFrame s s.gateUnblank := by
  rw [State.gateUnblank_eq]
  have begun : State.FanFrame s s.blankOver := rfl
  exact begun.trans (foldl_keeps State.FanFrame.refl State.FanFrame.trans State.bootRest_frame _ _)

theorem State.gateUnblank_blank (s : State) : s.gateUnblank.gate.blank = false := by
  rw [State.gateUnblank_eq]
  exact foldl_keeps (R := fun s t : State => t.gate.blank = s.gate.blank) (fun _ => rfl) (fun h h' => h'.trans h)
    State.bootRest_blank _ s.blankOver

theorem State.gateUnblank_outp (s : State) (i : Fin 30) : (s.outp i).AtRest (s.gateUnblank.outp i) := by
  have begun : s.blankOver.outp i = { s.outp i with inRest := true } := vget_map s.gate.outs i _
  obtain ⟨hin, hboot, happlied⟩ := foldl_outputs (f := State.bootRest) State.bootRest_outp_ne (I := fun t => t.gate.blank = false)
    (R := fun _ o p => o.AtRest p) (fun t j hb => (t.bootRest_blank j).trans hb) (fun t j hb => State.bootRest_outp hb j)
    (s := s.blankOver) rfl i
  rw [begun] at happlied
  exact ⟨hin, hboot, happlied⟩

/-! ### The supply monitors -/

theorem State.mapFans_frame (s : State) (f : Vector Fan 6 → Vector Fan 6) : State.FanFrame s (s.mapFans f) := rfl

theorem State.gateBlank_frame (s : State) (cause : Nat) : State.FanFrame s (s.gateBlank cause) := by
  have gate : ∀ f : Gate → Gate, State.OutFrame s (s.mapGate f) := fun _ => rfl
  unfold State.gateBlank
  exact ((gate _).fanFrame.trans (State.mapFans_frame _ _)).trans (State.mapOut_frame _ _).fanFrame

theorem State.gateBlank_gate (s : State) (cause : Nat) : (s.gateBlank cause).gate.blank = true ∧
    (s.gateBlank cause).gate.blankCause = cause ∧ (s.gateBlank cause).gate.vgdLow = s.gate.vgdLow ∧
      ∀ i, ((s.gateBlank cause).outp i).applied = 0 :=
  ⟨by simp [State.gateBlank], by simp [State.gateBlank], by simp [State.gateBlank],
    fun i => by simp [State.outp, State.gateBlank]⟩

/-- VGD has fallen below its threshold. -/
def State.vgdFallen (s : State) : State :=
  (s.mapPower fun p => { p.fell 3 with vgdOk := false }).mapGate fun g => { g with vgdLow := true }

theorem exec_vgdTrip {s : State} (h : s.power.vgdOk = true) : exec .vgdTrip s = .next s.vgdFallen.vgdDoubt := by
  simp only [exec, execVgdTrip, h, if_true]
  rfl

/-- R65, R66: where no channel switches, or the device is Blank already, a VGD trip Blanks nothing. -/
theorem State.vgdDoubt_kept {s : State} (h : s.fanSwitches = false ∨ s.gate.blank = true) : s.vgdDoubt = s := by
  refine if_neg ?_
  obtain h | h := h <;> simp [h]

theorem State.vgdDoubt_blanks {s : State} (hv : s.power.vgdOk = false) (hf : s.fanSwitches = true) (hb : s.gate.blank = false) :
    s.vgdDoubt = s.gateBlank 2 := if_pos (by simp [hv, hf, hb])

/-- Only the fan channels may have changed. -/
def State.FansOnly (s t : State) : Prop := t = { s with fans := t.fans }

theorem State.FansOnly.refl (s : State) : State.FansOnly s s := rfl

theorem State.FansOnly.trans {s t u : State} (h : State.FansOnly s t) (h' : State.FansOnly t u) : State.FansOnly s u := by
  rw [State.FansOnly] at *
  rw [h', h]

theorem State.fanBegin_fansOnly (s : State) (c : Fin 6) (attempt : Bool) : State.FansOnly s (s.fanBegin c attempt) := by
  unfold State.fanBegin
  split <;> rfl

theorem State.fanStart_fansOnly (s : State) (c : Fin 6) : State.FansOnly s (s.fanStart c) := by
  simp only [State.fanStart]
  split
  · exact s.fanBegin_fansOnly c _
  · exact .refl s

theorem State.restartWaitEnd_fansOnly (s : State) (c : Fin 6) : State.FansOnly s (s.restartWaitEnd c) := by
  unfold State.restartWaitEnd
  split
  · exact s.fanBegin_fansOnly c _
  · exact .refl s

theorem State.fansVgd_fansOnly (s : State) : State.FansOnly s s.fansVgd := by
  refine foldl_keeps State.FansOnly.refl State.FansOnly.trans (fun s c => ?_) _ s
  split
  · split
    · exact s.restartWaitEnd_fansOnly c
    · exact s.fanStart_fansOnly c
  · exact .refl s

/-- Settles O9: a trip and a return are a supply bit with what hangs on it: `vgdDoubt` for VGD, `gateUnblank` for the end of its
Blank, `deviceReset` for a brownout and power-on. -/
theorem supplyMonitors : Obligations.SupplyMonitors := by
  unfold Obligations.SupplyMonitors
  refine ⟨?trip, ?quiet, ?rise, ?recovered, ?vaTrip, ?vaReturn, ?vaoTrip, ?vaoReturn, ?brownout, ?powerOn⟩
  case trip =>
    intro s hok hb hf
    rw [exec_vgdTrip hok, State.vgdDoubt_blanks (s := s.vgdFallen) rfl hf hb]
    obtain ⟨hblank, hcause, hlow, happlied⟩ := s.vgdFallen.gateBlank_gate 2
    have frame := s.vgdFallen.gateBlank_frame 2
    rw [State.FanFrame] at frame
    refine ⟨_, rfl, hblank, hcause, hlow, happlied, ?_, ?_⟩ <;> rw [frame] <;> rfl
  case quiet =>
    intro s hok h
    rw [exec_vgdTrip hok, State.vgdDoubt_kept (s := s.vgdFallen) h]
    rfl
  case rise =>
    intro s hok
    have step : exec .vgdRise s = .next s.vgdRise := by simp only [exec, execVgdRise, hok, Bool.false_eq_true, if_false]
    rw [step, State.vgdRise]
    have fans := State.fansVgd_fansOnly
      ((s.mapPower fun p => { p with vgdOk := true }).mapGate fun g => { g with vgdLow := false })
    rw [State.FansOnly] at fans
    exact ⟨_, rfl, by rw [fans]; rfl, by rw [fans]; rfl, by rw [fans]; rfl⟩
  case recovered =>
    intro s hok hb hc
    have step : exec .vgdRecovered s = .next s.gateUnblank := by
      simp only [exec, execVgdRecovered, State.vgdRecovered, hok, hb, hc, decide_true, Bool.and_self, if_true]
    refine ⟨_, step, s.gateUnblank_blank, fun i => ?_, s.gateUnblank_frame⟩
    obtain ⟨hin, hboot, happlied⟩ := s.gateUnblank_outp i
    exact ⟨hin, hboot, happlied⟩
  case vaTrip =>
    intro s hok
    simp only [exec, execVaLowTrip, hok, if_true]
    rfl
  case vaReturn =>
    intro s hok
    have step : exec .vaReturn s = .next ((s.mapPower fun p => { p with vaOk := true }).mapSns fun b =>
        { b with vaWin := if s.scanning then 3 else 2 }) := by
      simp only [exec, execVaReturn, State.vaReturn, hok, Bool.false_eq_true, if_false]
    exact ⟨_, step, rfl, rfl, rfl⟩
  case vaoTrip =>
    intro s hok
    simp only [exec, execVaoLowTrip, hok, if_true]
    refine ⟨_, rfl, ?_⟩
    have same : (s.mapPower fun p => { p.fell 2 with vaoOk := false }).cutOffs = s.cutOffs := rfl
    rw [same]
    split <;> exact ⟨rfl, rfl, rfl⟩
  case vaoReturn => exact fun s => rfl
  case brownout =>
    intro s vcore hphase
    have step : exec (.brownout vcore) s = .next (s.deviceReset .brownout) := by simp only [exec, execBrownout, hphase]
    exact ⟨_, step, rfl, rfl, rfl⟩
  case powerOn =>
    intro s va vao vgd hold hphase hvio
    have step : exec (.powerOn va vao vgd hold) s = .next (State.wakeOff (s.mapPower fun p =>
        { p with vioOk := true, vaOk := va, vaoOk := vao, vgdOk := vgd, holdOk := hold }) 4) := by
      simp only [exec, execPowerOn, State.powerOn, hvio, Bool.false_eq_true, if_false, State.mapPower_power, hphase]
    exact ⟨_, step, rfl, rfl, rfl⟩

end Sys2Proof.Machine
end

section
/-! PROOFS. What journaling leaves of the Waybill and the Ledger: a record keeps its SEQ, ORIGIN and body, whatever becomes of its
action (R375, R380). -/

namespace Sys2Proof.Machine

/-- Every record keeps its SEQ, its ORIGIN and its body, and outside the ring the Waybill is as it was. -/
structure State.RecsKept (s t : State) : Prop where
  seq : ∀ k, (vget t.wbl.ring k).seq = (vget s.wbl.ring k).seq
  origin : ∀ k, (vget t.wbl.ring k).origin = (vget s.wbl.ring k).origin
  body : ∀ k, (vget t.wbl.ring k).body = (vget s.wbl.ring k).body
  registers : t.wbl = { s.wbl with ring := t.wbl.ring }

namespace State.RecsKept

variable {s t u : State}

theorem of_wbl (h : t.wbl = s.wbl) : State.RecsKept s t :=
  ⟨fun _ => by rw [h], fun _ => by rw [h], fun _ => by rw [h], by rw [h]⟩

theorem refl (s : State) : State.RecsKept s s := of_wbl rfl

theorem trans (h : State.RecsKept s t) (h' : State.RecsKept t u) : State.RecsKept s u :=
  ⟨fun k => (h'.seq k).trans (h.seq k), fun k => (h'.origin k).trans (h.origin k), fun k => (h'.body k).trans (h.body k),
    by rw [h'.registers, h.registers]⟩

end State.RecsKept

theorem State.OutFrame.recsKept {s t : State} (h : State.OutFrame s t) : State.RecsKept s t := .of_wbl (by rw [h])

theorem State.mapRec_recsKept (s : State) (q : Nat) {f : Rec → Rec} (hseq : ∀ r, (f r).seq = r.seq)
    (horigin : ∀ r, (f r).origin = r.origin) (hbody : ∀ r, (f r).body = r.body) : State.RecsKept s (s.mapRec q f) := by
  refine ⟨fun k => ?_, fun k => ?_, fun k => ?_, rfl⟩ <;> simp only [State.mapRec, State.mapWbl_wbl, vget_map] <;> split
  · exact hseq _
  · rfl
  · exact horigin _
  · rfl
  · exact hbody _
  · rfl

theorem State.issued_recsKept (s : State) (q : Nat) : State.RecsKept s (s.issued q) :=
  s.mapRec_recsKept q (fun _ => rfl) (fun _ => rfl) fun _ => rfl

/-- The record that `endTargets` makes of a record. -/
def Rec.targetEnded (i : Nat) (p : Rec → Bool) (st : RecState) (reason : Nat) (r : Rec) : Rec :=
  match r.body with
  | .outTarget j .. => if r.notDone && decide (j = i) && p r then { r with state := st, reason := reason } else r
  | _ => r

theorem Rec.targetEnded_kept (i : Nat) (p : Rec → Bool) (st : RecState) (reason : Nat) (r : Rec) :
    (r.targetEnded i p st reason).seq = r.seq ∧ (r.targetEnded i p st reason).origin = r.origin ∧
      (r.targetEnded i p st reason).body = r.body := by
  unfold Rec.targetEnded
  split
  · split <;> exact ⟨rfl, rfl, rfl⟩
  · exact ⟨rfl, rfl, rfl⟩

theorem State.endTargets_recsKept (s : State) (i : Nat) (p : Rec → Bool) (st : RecState) (reason : Nat) :
    State.RecsKept s (s.endTargets i p st reason) := by
  have ring (k : Fin 128) : vget (s.endTargets i p st reason).wbl.ring k = (vget s.wbl.ring k).targetEnded i p st reason :=
    vget_map s.wbl.ring k (Rec.targetEnded i p st reason)
  have kept (k : Fin 128) := (vget s.wbl.ring k).targetEnded_kept i p st reason
  exact ⟨fun k => by rw [ring, (kept k).1], fun k => by rw [ring, (kept k).2.1], fun k => by rw [ring, (kept k).2.2], rfl⟩

theorem State.targetReached_recsKept (s : State) (i : Fin 30) : State.RecsKept s (s.targetReached i) := by
  unfold State.targetReached
  split
  · exact .refl s
  · exact s.endTargets_recsKept ..

theorem State.settle_recsKept (s : State) (i : Fin 30) : State.RecsKept s (s.settle i) := by
  obtain ⟨-, h⟩ | ⟨h, -⟩ := s.settle_cases i <;> rw [h]
  · exact (s.applyTo_frame i _).recsKept.trans (State.targetReached_recsKept _ i)
  · exact .refl s

theorem State.releaseOut_recsKept (s : State) (i : Fin 30) (lost : Bool) : State.RecsKept s (s.releaseOut i lost) := by
  rw [State.releaseOut_eq]
  have released := (s.mapOutp_frame i (Output.released lost)).recsKept
  split
  · exact (released.trans (State.settle_recsKept _ i)).trans (State.strokeCheck_frame _ i).recsKept
  · exact released

theorem State.gateTarget_recsKept (s : State) (i : Fin 30) (src : GateSource) (v own : Nat) :
    State.RecsKept s (s.gateTarget i src v own) := by
  have written (u : State) : State.RecsKept u (u.writeReleases i src (s.outp i).stale) := by
    cases src with
    | key k =>
      simp only [State.writeReleases]
      split
      · exact .refl u
      · exact u.releaseOut_recsKept i false
    | _ => exact .refl u
  have counted : State.RecsKept s (s.clampCounted i v) := .of_wbl (by unfold State.clampCounted; split <;> rfl)
  have aimed : State.RecsKept (s.clampCounted i v) ((s.clampCounted i v).aimed i ((s.outp i).clamp v) own) :=
    ((s.clampCounted i v).mapOutp_frame i _).recsKept.trans (State.endTargets_recsKept ..)
  rw [State.gateTarget_eq]
  exact (((counted.trans aimed).trans (written _)).trans (State.settle_recsKept _ i)).trans (State.strokeCheck_frame _ i).recsKept

/-! ### A record's lines on their way to the cells -/

/-- Lines have gone to the write buffer or wait for it: the cells and every record's content are as they were. -/
structure State.LinesSent (s t : State) : Prop where
  recs : State.RecsKept s t
  cells : t.ledger.lines = s.ledger.lines
  frame : t = { s with ledger := t.ledger, wbl := t.wbl }

theorem State.LinesSent.refl (s : State) : State.LinesSent s s := ⟨.refl s, rfl, rfl⟩

theorem State.LinesSent.lodgers {s t : State} (h : State.LinesSent s t) : t.lodgers = s.lodgers := by rw [h.frame]

theorem State.LinesSent.trans {s t u : State} (h : State.LinesSent s t) (h' : State.LinesSent t u) : State.LinesSent s u :=
  ⟨h.recs.trans h'.recs, h'.cells.trans h.cells, by rw [h'.frame, h.frame]⟩

theorem State.issued_linesSent (s : State) (q : Nat) : State.LinesSent s (s.issued q) := ⟨s.issued_recsKept q, rfl, rfl⟩

theorem State.bufferLine_linesSent (s : State) (e : BufEntry) : State.LinesSent s (s.bufferLine e) := by
  have queued (f : Ledger → Ledger) (h : (f s.ledger).lines = s.ledger.lines) : State.LinesSent s (s.mapLedger f) :=
    ⟨.of_wbl rfl, h, rfl⟩
  simp only [State.bufferLine]
  split
  · split
    · exact (queued (fun l => { l with buf := l.buf ++ [e] }) rfl).trans (State.issued_linesSent _ _)
    · exact queued (fun l => { l with buf := l.buf ++ [e] }) rfl
  · exact queued (fun l => { l with waiting := l.waiting ++ [e] }) rfl

theorem State.issueLines_linesSent (s : State) (q : Nat) : State.LinesSent s (s.issueLines q) := by
  simp only [State.issueLines]
  split
  · exact .refl s
  · split
    · exact s.bufferLine_linesSent _
    · exact (s.bufferLine_linesSent _).trans (State.bufferLine_linesSent _ _)
    · exact .refl s

/-! ### A Lodger's record (R383) -/

theorem State.lodgerRec_full {s : State} (h : s.wbl.freeCount ≤ 8) (origin : Nat) (body : RecBody) :
    s.lodgerRec origin body = (none, s.mapWbl fun w => { w with refused := satInc 0xFFFF w.refused }) := if_pos h

theorem State.lodgerRec_written {s : State} (h : 8 < s.wbl.freeCount) {k : Fin 128} (hk : s.wbl.nextFree = some k) (origin : Nat)
    (body : RecBody) : s.lodgerRec origin body = (some s.wbl.nextSeq, (s.writeRec k origin body).2) := by
  simp only [State.lodgerRec, not_le.mpr h, if_false, hk]
  rfl

/-- The record of ring slot `k` is the one that SEQ, ORIGIN and body say. -/
structure State.HasRec (t : State) (k : Fin 128) (seq origin : Nat) (body : RecBody) : Prop where
  seq : (vget t.wbl.ring k).seq = seq
  origin : (vget t.wbl.ring k).origin = origin
  body : (vget t.wbl.ring k).body = body

theorem State.writeRec_hasRec (s : State) (k : Fin 128) (origin : Nat) (body : RecBody) :
    (s.writeRec k origin body).2.HasRec k s.wbl.nextSeq origin body := by
  constructor <;> simp [State.writeRec]

theorem State.HasRec.kept {s t : State} {k : Fin 128} {seq origin : Nat} {body : RecBody} (h : s.HasRec k seq origin body)
    (h' : State.RecsKept s t) : t.HasRec k seq origin body :=
  ⟨(h'.seq k).trans h.seq, (h'.origin k).trans h.origin, (h'.body k).trans h.body⟩

end Sys2Proof.Machine
end

section
/-! PROOFS. Mailbox services: a request that the Innkeeper has taken, and what completes it (R52, R54, R55, R142, R143, R149, R209,
R379, R383). -/

namespace Sys2Proof.Machine

/-! ### A request taken, and completed -/

theorem State.taken_mbx {s : State} {n : Fin 4} {user : Bool} (h : s.ready n user) (seq code : Nat) (args : List Nat) :
    (s.taken n seq code args).mbx n = (s.mbx n).taken seq code args := by
  rw [State.taken_eq h]
  exact congrArg Lodger.mbx (vget_vset_same s.lodgers n _)

/-- Of the Lodgers only the mailbox has changed, and beside it the answer and the Innkeeper's turn. -/
theorem State.taken_onlyMbx {s : State} {n : Fin 4} {user : Bool} (h : s.ready n user) (seq code : Nat) (args : List Nat) :
    onlyMbx s (s.taken n seq code args) n := by
  refine ⟨fun m hm => ?_, ?_⟩
  · rw [State.taken_eq h]
    exact vget_vset_ne s.lodgers n m _ hm
  · rw [State.taken_mbx h, State.taken_eq h]
    exact vget_vset_same s.lodgers n _

/-- An argument of a request is read as it was written. -/
theorem State.taken_mbxArg {s : State} {n : Fin 4} {user : Bool} (h : s.ready n user) (seq code : Nat) {args : List Nat} {i : Fin 6}
    {a : Nat} (ha : args[i.val]? = some a) (hlt : a < 2 ^ 32) : (s.taken n seq code args).mbxArg n i = a := by
  rw [State.mbxArg, State.taken_mbx h, Mailbox.taken, vget_ofFn]
  simp only [ha, BitVec.toNat_ofNat, Nat.mod_eq_of_lt hlt]

/-- R54: Lodger `n`'s posted request as the Innkeeper has taken it in its turn. -/
theorem State.takeTurn_eq (s : State) (n : Fin 4) : s.takeTurn n = { s with
    ink := { s.ink with mbxNext := (n.val + 1) % 4 }
    lodgers := vset s.lodgers n { s.lodger n with mbx := { s.mbx n with job := .idle } } } := rfl

theorem State.takeTurn_mbx (s : State) (n : Fin 4) : (s.takeTurn n).mbx n = { s.mbx n with job := .idle } :=
  State.mapMbx_mbx_same _ n _

theorem State.takeTurn_onlyMbx (s : State) (n : Fin 4) : onlyMbx s (s.takeTurn n) n :=
  (onlyMbx.of_lodgers (t := s.mapInk fun k => { k with mbxNext := (n.val + 1) % 4 }) rfl).trans (State.mapMbx_onlyMbx _ n _)

theorem State.takeTurn_mbxArg (s : State) (n : Fin 4) (i : Fin 6) : (s.takeTurn n).mbxArg n i = s.mbxArg n i := by
  rw [State.mbxArg, State.takeTurn_mbx]
  rfl

/-- A mailbox whose request has completed (R52). -/
def Mailbox.completed (m : Mailbox) (result : Nat) : Mailbox :=
  { m with busy := false, done := true, result := result, seq := m.cmdSeq, job := .idle }

theorem State.mbxDone_eq (s : State) (n : Fin 4) (result : Nat) : s.mbxDone n result = s.mapMbx n fun m => m.completed result := rfl

theorem State.mbxDone_mbx (s : State) (n : Fin 4) (result : Nat) : (s.mbxDone n result).mbx n = (s.mbx n).completed result :=
  State.mapMbx_mbx_same s n fun m => m.completed result

theorem State.mbxDone_onlyMbx (s : State) (n : Fin 4) (result : Nat) : onlyMbx s (s.mbxDone n result) n :=
  s.mapMbx_onlyMbx n fun m => m.completed result

/-- What has been done for a taken request before its completion leaves the mailbox of `n` alone. -/
theorem State.taken_served {s t : State} {n : Fin 4} {user : Bool} (h : s.ready n user) {seq : Byte} {code : Nat} {args : List Nat}
    (ht : t.lodgers = (s.taken n seq.toNat code args).lodgers) (result : Nat) :
    (t.mbxDone n result).served n seq result ∧ onlyMbx s (t.mbxDone n result) n := by
  refine ⟨?_, ((State.taken_onlyMbx h _ _ _).trans (.of_lodgers ht)).trans (t.mbxDone_onlyMbx n result)⟩
  rw [State.served, State.mbxDone_mbx, State.mbx_congr ht, State.taken_mbx h]
  exact ⟨rfl, rfl, rfl, rfl⟩

/-- The request completes with a result, and nothing else happens. -/
def State.OnlyServed (s : State) (n : Fin 4) (seq : Byte) (result : Nat) (t : State) : Prop :=
  t.served n seq result ∧ onlyMbx s t n ∧ t = { s with bus := t.bus, ink := t.ink, lodgers := t.lodgers }

theorem State.taken_done {s : State} {n : Fin 4} {user : Bool} (h : s.ready n user) (seq : Byte) (code : Nat) (args : List Nat)
    (result : Nat) : s.OnlyServed n seq result ((s.taken n seq.toNat code args).mbxDone n result) := by
  obtain ⟨hserved, honly⟩ := State.taken_served h rfl result
  refine ⟨hserved, honly, ?_⟩
  rw [State.taken_eq h]
  rfl

end Sys2Proof.Machine
end

section
/-! PROOFS. The journaled requests, the compliance report, a bad code, and the Innkeeper's turn (R54, R55, R142, R143, R149, R209, R379,
R383). -/

namespace Sys2Proof.Machine

/-! ### OUT_JOURNAL (R379) -/

theorem idx_of_fin {m : Nat} (i : Fin m) : idx? m i.val = some i := dif_pos i.isLt

theorem exec_outJournal {s : State} {n : Fin 4} {user : Bool} (h : s.ready n user) (seq : Byte) (index target : Nat) :
    exec (.outJournal n user seq index target) s =
      .next ((s.taken n seq.toNat 0x03 [index, target]).serveOutJournal n) := by
  simp only [exec, execOutJournal, State.mbxCommand_ready h]

/-- The record that OUT_JOURNAL writes for output `i`. -/
def Output.journal (o : Output) (i : Fin 30) (v : Nat) : RecBody := .outTarget i.val (o.clamp v) o.applied o.owner.code o.ownerId

section own
variable {s t : State} {n : Fin 4} {i : Fin 30} {v : Nat} (hi : s.mbxArg n 0 = i.val) (hv : s.mbxArg n 1 = v)
  (ho : (s.outp i).owner = .lodger) (hid : (s.outp i).ownerId = n.val)
include hi hv ho hid

/-- A Lodger's OUT_JOURNAL of one of its own outputs, where the ring takes no record. -/
theorem State.serveOutJournal_full (hr : s.lodgerRec n.val ((s.outp i).journal i v) = (none, t)) :
    s.serveOutJournal n = t.mbxDone n 4 := by
  have src : s.journalSource n i = .lodger n := if_neg (by simp [ho])
  have accepts : s.gateAccepts i (.lodger n) = true := decide_eq_true ⟨ho, hid⟩
  rw [Output.journal] at hr
  simp only [State.serveOutJournal, hi, idx_of_fin, src, accepts, if_true, hv, hr]

/-- The same from its record on. -/
theorem State.serveOutJournal_written {q : Nat} (hr : s.lodgerRec n.val ((s.outp i).journal i v) = (some q, t)) :
    s.serveOutJournal n = (((t.gateTarget i (.lodger n) v q).issued q).targetReached i).mbxDone n 0 := by
  have src : s.journalSource n i = .lodger n := if_neg (by simp [ho])
  have accepts : s.gateAccepts i (.lodger n) = true := decide_eq_true ⟨ho, hid⟩
  rw [Output.journal] at hr
  simp only [State.serveOutJournal, hi, idx_of_fin, src, accepts, if_true, hv, hr]

end own

theorem State.serveOutJournal_foreign {s : State} {n : Fin 4} {i : Fin 30} (hi : s.mbxArg n 0 = i.val)
    (ho : (s.outp i).owner = .lodger) (hid : (s.outp i).ownerId ≠ n.val) : s.serveOutJournal n = s.mbxDone n 3 := by
  have src : s.journalSource n i = .lodger n := if_neg (by simp [ho])
  have refuses : s.gateAccepts i (.lodger n) = false := decide_eq_false fun h => hid h.2
  simp only [State.serveOutJournal, hi, idx_of_fin, src, refuses, Bool.false_eq_true, if_false]

theorem State.serveOutJournal_none {s : State} {n : Fin 4} (h : 30 ≤ s.mbxArg n 0) : s.serveOutJournal n = s.mbxDone n 2 := by
  have none : idx? 30 (s.mbxArg n 0) = none := dif_neg (not_lt.mpr h)
  simp only [State.serveOutJournal, none]

/-- A journaled write, between its record and the request's completion. -/
def State.journalWrite (s : State) (k : Fin 128) (n : Fin 4) (i : Fin 30) (v : Nat) : State :=
  (((s.writeRec k n.val ((s.outp i).journal i v)).2.gateTarget i (.lodger n) v s.wbl.nextSeq).issued s.wbl.nextSeq).targetReached i

/-- It has its record, sets the clamped target, and leaves the other outputs. -/
theorem State.journalWrite_spec (s : State) (k : Fin 128) (n : Fin 4) (i : Fin 30) (v : Nat) :
    (s.journalWrite k n i v).HasRec k s.wbl.nextSeq n.val ((s.outp i).journal i v) ∧
      (s.journalWrite k n i v).wbl.nextSeq = seqAfter s.wbl.nextSeq ∧
      ((s.journalWrite k n i v).outp i).target = (s.outp i).clamp v ∧
      (∀ j, j ≠ i → (s.journalWrite k n i v).outp j = s.outp j) ∧ State.GateFrame s (s.journalWrite k n i v) := by
  have recs : State.RecsKept (s.writeRec k n.val ((s.outp i).journal i v)).2 (s.journalWrite k n i v) :=
    ((State.gateTarget_recsKept ..).trans (State.issued_recsKept ..)).trans (State.targetReached_recsKept ..)
  obtain ⟨o, hset, htarget, -, -⟩ := (s.writeRec k n.val ((s.outp i).journal i v)).2.gateTarget_outputSet i (.lodger n) v s.wbl.nextSeq
  have gate : (s.journalWrite k n i v).gate =
      ((s.writeRec k n.val ((s.outp i).journal i v)).2.gateTarget i (.lodger n) v s.wbl.nextSeq).gate := by
    simp [State.journalWrite]
  have wrote : (s.writeRec k n.val ((s.outp i).journal i v)).2.gate = s.gate := State.writeRec_gate ..
  refine ⟨(s.writeRec_hasRec k n.val _).kept recs, ?_, ?_, fun j hj => ?_, ?_⟩
  · rw [recs.registers]
    rfl
  · rw [State.outp_congr gate, hset.same, htarget, State.outp_congr wrote]
  · rw [State.outp_congr gate, hset.other hj, State.clampCounted_outp, State.outp_congr wrote]
  · have begun : State.GateFrame s (s.writeRec k n.val ((s.outp i).journal i v)).2 := rfl
    have issued : ∀ u : State, State.GateFrame u (u.issued s.wbl.nextSeq) := fun _ => rfl
    exact (((begun.trans (State.clampCounted_frame _ i v)).trans hset.frame).trans (issued _)).trans (State.targetReached_frame _ i)

/-! ### Requests that wait for their record (R142, R143, R149) -/

/-- A Lodger's journaled Ledger request: its record stands in ring slot `k`, and the mailbox waits for it. -/
structure State.Waits (s : State) (n : Fin 4) (k : Fin 128) (body : RecBody) (t : State) : Prop where
  journal : t.HasRec k s.wbl.nextSeq n.val body
  mbx : t.mbx n = { s.mbx n with job := .onRecord s.wbl.nextSeq s.now }
  only : onlyMbx s t n
  cells : t.ledger.lines = s.ledger.lines
  frame : t = { s with lodgers := t.lodgers, ledger := t.ledger, wbl := t.wbl }

/-- The mailbox waits for a record from now on. -/
def State.waitsOn (s : State) (n : Fin 4) (q : Nat) : State := s.mapMbx n fun m => { m with job := .onRecord q s.now }

theorem State.onLines_waits {s u : State} {n : Fin 4} {k : Fin 128} {body : RecBody} (hrec : u.HasRec k s.wbl.nextSeq n.val body)
    (hu : u = { s with wbl := u.wbl }) :
    s.Waits n k body (u.onLines n s.wbl.nextSeq) ∧ State.RecsKept u (u.onLines n s.wbl.nextSeq) := by
  have sent : State.LinesSent (u.waitsOn n s.wbl.nextSeq) (u.onLines n s.wbl.nextSeq) := State.issueLines_linesSent _ _
  have posted : State.RecsKept u (u.waitsOn n s.wbl.nextSeq) := .of_wbl rfl
  have recs := posted.trans sent.recs
  obtain ⟨w, rfl⟩ : ∃ w, u = { s with wbl := w } := ⟨_, hu⟩
  have lodgers := sent.lodgers
  have only := (State.mapMbx_onlyMbx { s with wbl := w } n fun m => { m with job := .onRecord s.wbl.nextSeq s.now }).trans
    (.of_lodgers lodgers)
  refine ⟨⟨hrec.kept recs, ?_, only, sent.cells, ?_⟩, recs⟩
  · exact (State.mbx_congr lodgers n).trans (State.mapMbx_mbx_same _ n fun m => { m with job := .onRecord s.wbl.nextSeq s.now })
  · exact sent.frame.trans (by rw [lodgers]; rfl)

end Sys2Proof.Machine
end

section
/-! PROOFS. A whole-device reset, and the services of the mailboxes in the Innkeeper's turn (R54, R55, R70, R158). -/

namespace Sys2Proof.Machine

/-! ### Main SRAM through a reset (R158, R160) -/

theorem sramKept.refl (s : State) : sramKept s s := ⟨rfl, rfl, rfl, fun _ => id⟩

theorem sramKept.trans {s t u : State} (h : sramKept s t) (h' : sramKept t u) : sramKept s u := by
  obtain ⟨hcells, htags, hdoubles, hsingles⟩ := h
  obtain ⟨hcells', htags', hdoubles', hsingles'⟩ := h'
  exact ⟨hcells'.trans hcells, htags'.trans htags, hdoubles'.trans hdoubles, fun w hw => hsingles w (hsingles' w hw)⟩

theorem sramKept.of_sram {s t : State} (h : t.sram = s.sram) : sramKept s t := by
  rw [sramKept, h]
  exact ⟨rfl, rfl, rfl, fun _ => id⟩

theorem Marks.mem_of_mem_del {x y : Nat} {l : List Nat} (h : y ∈ Marks.del x l) : y ∈ l := by
  induction l with
  | nil => exact h
  | cons z l ih =>
    simp only [Marks.del] at h
    split at h
    · exact List.mem_cons_of_mem z h
    · exact List.mem_cons.mpr ((List.mem_cons.mp h).imp_right ih)

theorem State.correctWord_sramKept (s : State) (w : Nat) : sramKept s (s.correctWord w) := by
  unfold State.correctWord
  split
  · exact ⟨rfl, rfl, rfl, fun _ => Marks.mem_of_mem_del⟩
  · exact .refl s

theorem State.noteWord_sramKept (s : State) (who : Requester) (w : Nat) (c : WordState) : sramKept s (s.noteWord who w c) := by
  cases c with
  | good => exact s.correctWord_sramKept w
  | unwritten => exact .of_sram rfl
  | uncorrectable => exact .of_sram rfl

theorem State.fetchBeat_sramKept (s : State) (c : Fin 24) (addr : Nat) : sramKept s (s.fetchBeat c addr) := by
  unfold State.fetchBeat
  split
  · exact s.noteWord_sramKept _ _ _
  · split
    · refine .of_sram ?_
      simp only [State.ledgerWord]
      split <;> rfl
    · exact .refl s

theorem State.fetchRest_sramKept (s : State) : sramKept s s.fetchRest :=
  foldl_keeps sramKept.refl sramKept.trans
    (fun s c => foldl_keeps sramKept.refl sramKept.trans (fun s a => s.fetchBeat_sramKept c a) _ s) _ s

theorem State.resetWith_sramKept (s : State) (c : BitVec 7) : sramKept s (s.resetWith c) :=
  s.fetchRest_sramKept.trans (.of_sram (by simp only [State.resetWith]))

/-- R70, R76: what a whole-device reset leaves is what `resetTo` says. -/
theorem State.resetWith_resetTo (s : State) (c : BitVec 7) : resetTo s c (s.resetWith c) :=
  ⟨rfl, rfl, rfl, rfl, rfl, rfl, rfl, rfl, rfl, rfl, rfl, rfl, rfl, rfl, rfl, rfl, rfl, rfl, rfl, rfl, rfl, rfl, s.resetWith_sramKept c,
    rfl, rfl, rfl, rfl, rfl, rfl, rfl, rfl⟩

/-! ### The arguments of a request -/

/-- Six words written are six arguments. -/
theorem State.taken_args {s : State} {n : Fin 4} {user : Bool} (h : s.ready n user) (seq code : Nat) {ws : List Word}
    (hlen : ws.length = 6) : ((s.taken n seq code (ws.map (·.toNat))).mbx n).args.toList = ws := by
  rw [State.taken_mbx h, Mailbox.taken]
  refine List.ext_getElem (by simp [hlen]) fun i h1 h2 => ?_
  simp [h2]

/-! ### LOG_APPEND and LEDGER_WRITE (R142, R143, R149) -/

theorem State.serveLogAppend_closed {s : State} (h : s.windowOpen = false) (n : Fin 4) : s.serveLogAppend n = s.mbxDone n 7 :=
  if_neg (Bool.eq_false_iff.mp h)

section journaled
variable {s : State} (n : Fin 4) {k : Fin 128} (hopen : s.windowOpen = true) (hfree : 8 < s.wbl.freeCount)
  (hk : s.wbl.nextFree = some k)
include hopen hfree hk

/-- In the window a log entry takes its place in the log, and the request waits for its record. -/
theorem State.serveLogAppend_open : s.Waits n k (.logEntry s.wbl.logPos 0 (s.argBytes n 0)) (s.serveLogAppend n) ∧
    (s.serveLogAppend n).wbl.logPos = (s.wbl.logPos + 1) % 512 := by
  have hrec := s.writeRec_hasRec k n.val (.logEntry s.wbl.logPos 0 (s.argBytes n 0))
  have step : s.serveLogAppend n = ((s.writeRec k n.val (.logEntry s.wbl.logPos 0 (s.argBytes n 0))).2.mapWbl fun w =>
      { w with logPos := (w.logPos + 1) % 512 }).onLines n s.wbl.nextSeq := by
    simp only [State.serveLogAppend, hopen, if_true, State.lodgerRec_written hfree hk]
  obtain ⟨waits, recs⟩ := State.onLines_waits (s := s)
    (u := (s.writeRec k n.val (.logEntry s.wbl.logPos 0 (s.argBytes n 0))).2.mapWbl fun w => { w with logPos := (w.logPos + 1) % 512 })
    ⟨hrec.seq, hrec.origin, hrec.body⟩ rfl
  rw [step]
  exact ⟨waits, by rw [recs.registers]; rfl⟩

/-- The line that LEDGER_WRITE journals (Table 04-4). -/
def State.lodgerLine (s : State) (n : Fin 4) : Line :=
  lodgerLineBytes (s.argBytes n 1) s.power.rtc (satInc 0xFFFF (s.lineWrites (lodgerLine0 + s.mbxArg n 0))) n.val

theorem State.serveLedgerWrite_open (hline : s.mbxArg n 0 ≤ 2047) :
    s.Waits n k (.ledgerLine (lodgerLine0 + s.mbxArg n 0) (s.lodgerLine n)) (s.serveLedgerWrite n) := by
  have hrec := s.writeRec_hasRec k n.val (.ledgerLine (lodgerLine0 + s.mbxArg n 0) (s.lodgerLine n))
  have step : s.serveLedgerWrite n =
      (s.writeRec k n.val (.ledgerLine (lodgerLine0 + s.mbxArg n 0) (s.lodgerLine n))).2.onLines n s.wbl.nextSeq := by
    simp only [State.serveLedgerWrite, not_lt.mpr hline, if_false, hopen, if_true, State.lodgerRec_written hfree hk, State.lodgerLine]
  rw [step]
  exact (State.onLines_waits hrec rfl).1

end journaled

theorem State.serveLedgerWrite_closed {s : State} {n : Fin 4} (hline : s.mbxArg n 0 ≤ 2047) (h : s.windowOpen = false) :
    s.serveLedgerWrite n = s.mbxDone n 7 := (if_neg (not_lt.mpr hline)).trans (if_neg (Bool.eq_false_iff.mp h))

theorem State.serveLedgerWrite_none {s : State} {n : Fin 4} (h : 2047 < s.mbxArg n 0) : s.serveLedgerWrite n = s.mbxDone n 2 := if_pos h

/-- A Lodger line is 32 bytes, and begins with the Lodger's own 20. -/
theorem lodgerLineBytes_spec {data : List Byte} (h : data.length = 20) (time writes lodger : Nat) :
    (lodgerLineBytes data time writes lodger).length = 32 ∧ (lodgerLineBytes data time writes lodger).take 20 = data := by
  have pad : padTo 20 data = data := by simp [padTo, slice, ← h]
  simp [lodgerLineBytes, pad, leBytes, h]

/-! ### THROTTLE_COMPLY (R209) -/

/-- R209: without a request compliance has no effect. -/
def Thm.complied (x : Thm) (n : Fin 4) : Thm :=
  { x with comply := if x.thrReq then x.comply ||| BitVec.ofNat 4 (2 ^ n.val) else x.comply }

theorem State.serveComply_eq (s : State) (n : Fin 4) : s.serveComply n = (s.mapThm fun x => x.complied n).mbxDone n 0 := by
  have kept : s.thm.thrReq = false → s = s.mapThm fun x => x.complied n := by
    intro h
    have same : s.thm.complied n = s.thm := by rw [Thm.complied, if_neg (Bool.eq_false_iff.mp h)]
    rw [State.mapThm, same]
  simp only [State.serveComply]
  cases h : s.thm.thrReq with
  | true => simp [Thm.complied, State.mapThm, h]
  | false => rw [if_neg Bool.false_ne_true, ← kept h]

/-! ### The Innkeeper's turn (R54, R55) -/

/-- The mailbox that the round robin reaches `i` places after `from_`. -/
def turnPlace (from_ i : Nat) : Fin 4 := ⟨(from_ + i) % 4, Nat.mod_lt _ (by decide)⟩

theorem State.nextPosted_eq (s : State) (from_ : Nat) : s.nextPosted from_ =
    [0, 1, 2, 3].findSome? fun i => if s.posted (turnPlace from_ i) then some (turnPlace from_ i) else none := by
  have place (i : Nat) : idx? 4 ((from_ + i) % 4) = some (turnPlace from_ i) := dif_pos _
  simp only [State.nextPosted, place]

theorem State.nextPosted_none {s : State} (h : ∀ n, (s.mbx n).job ≠ .posted) (from_ : Nat) : s.nextPosted from_ = none := by
  rw [State.nextPosted_eq, List.findSome?_eq_none_iff]
  exact fun i _ => if_neg (by simpa [State.posted] using h _)

/-- The first posted request from the present place on has its turn. -/
theorem State.nextPosted_first {s : State} {from_ : Nat} (hfrom : from_ < 4) {n : Fin 4}
    (before : ∀ m : Fin 4, (m.val + 4 - from_) % 4 < (n.val + 4 - from_) % 4 → (s.mbx m).job ≠ .posted)
    (hn : (s.mbx n).job = .posted) : s.nextPosted from_ = some n := by
  have reached : turnPlace from_ ((n.val + 4 - from_) % 4) = n := Fin.ext (by simp only [turnPlace]; omega)
  have passed (i : Nat) (hi : i < (n.val + 4 - from_) % 4) : s.posted (turnPlace from_ i) = false := by
    refine decide_eq_false (before _ ?_)
    simp only [turnPlace]
    omega
  have split : [0, 1, 2, 3] = List.range ((n.val + 4 - from_) % 4) ++ (n.val + 4 - from_) % 4 ::
      (List.range (3 - (n.val + 4 - from_) % 4)).map (· + ((n.val + 4 - from_) % 4 + 1)) := by
    have bound : (n.val + 4 - from_) % 4 < 4 := Nat.mod_lt _ (by decide)
    generalize (n.val + 4 - from_) % 4 = d at bound
    interval_cases d <;> rfl
  have posted : s.posted n = true := decide_eq_true hn
  rw [State.nextPosted_eq, split, List.findSome?_append]
  have none : (List.range ((n.val + 4 - from_) % 4)).findSome?
      (fun i => if s.posted (turnPlace from_ i) then some (turnPlace from_ i) else none) = none :=
    List.findSome?_eq_none_iff.mpr fun i hi => if_neg (by simp [passed i (List.mem_range.mp hi)])
  rw [none, Option.none_or, List.findSome?_cons, reached, if_pos posted]

theorem exec_mailboxServe {s : State} {n : Fin 4} (hawake : s.awake = true) (hfrom : s.ink.mbxNext < 4)
    (before : ∀ m : Fin 4, (m.val + 4 - s.ink.mbxNext) % 4 < (n.val + 4 - s.ink.mbxNext) % 4 → (s.mbx m).job ≠ .posted)
    (hn : (s.mbx n).job = .posted) (latched : Option Nat) (nor : NorEnv) :
    exec (.mailboxServe latched nor) s = .next ((s.takeTurn n).serveCode n (s.mbx n).cmdCode latched nor) := by
  simp only [exec, execMailboxServe, State.mailboxServe, hawake, if_true, State.nextPosted_first hfrom before hn]

/-- A code outside Table 02-2. -/
theorem State.serveCode_bad (s : State) (n : Fin 4) {code : Nat} (h : code = 0 ∨ 10 < code) (latched : Option Nat) (nor : NorEnv) :
    s.serveCode n code latched nor = s.mbxDone n 1 := by
  unfold State.serveCode
  split
  case h_11 => rfl
  all_goals omega

theorem Mode.ofCode_code (m : Mode) : Mode.ofCode m.code = some m := by cases m <;> rfl

/-- A request for the present mode completes at once. -/
theorem State.serveMode_same {s : State} {n : Fin 4} (h : s.mbxArg n 0 = s.power.mode.code) (latched : Option Nat) :
    s.serveMode n latched = s.mbxDone n 0 := by
  simp only [State.serveMode, h, Mode.ofCode_code, if_true]

/-- In its turn, a posted request has completed with a result. -/
structure State.TurnDone (s : State) (n : Fin 4) (result : Nat) (t : State) : Prop where
  ink : t.ink = { s.ink with mbxNext := (n.val + 1) % 4 }
  mbx : t.mbx n = ({ s.mbx n with job := .idle } : Mailbox).completed result
  only : onlyMbx s t n

theorem State.takeTurn_done {s t : State} {n : Fin 4} (hl : t.lodgers = (s.takeTurn n).lodgers) (hi : t.ink = (s.takeTurn n).ink)
    (result : Nat) : s.TurnDone n result (t.mbxDone n result) := by
  refine ⟨hi, ?_, ((s.takeTurn_onlyMbx n).trans (.of_lodgers hl)).trans (t.mbxDone_onlyMbx n result)⟩
  rw [State.mbxDone_mbx, State.mbx_congr hl, State.takeTurn_mbx]

/-- The same in the words of the statement. -/
theorem State.TurnDone.fields {s t : State} {n : Fin 4} {result : Nat} (h : s.TurnDone n result t) :
    t.ink = { s.ink with mbxNext := (n.val + 1) % 4 } ∧ (t.mbx n).busy = false ∧ (t.mbx n).done = true ∧
      (t.mbx n).result = result ∧ (t.mbx n).seq = (s.mbx n).cmdSeq ∧ (t.mbx n).job = .idle ∧ onlyMbx s t n := by
  rw [h.mbx]
  exact ⟨h.ink, rfl, rfl, rfl, rfl, rfl, h.only⟩

end Sys2Proof.Machine
end

section
/-! PROOFS. The journaled requests, the compliance report, a bad code, and the Innkeeper's turn: the statement (R54, R55, R142, R149,
R209, R379, R383). -/

namespace Sys2Proof.Machine

/-! ### The state in which a request is served -/

theorem State.taken_outp (s : State) (n : Fin 4) (seq code : Nat) (args : List Nat) (i : Fin 30) :
    (s.taken n seq code args).outp i = s.outp i := State.outp_congr (State.taken_gate ..) i

section ready
variable {s : State} {n : Fin 4} {user : Bool} (h : s.ready n user) (seq code : Nat) (args : List Nat)
include h

theorem State.taken_wbl : (s.taken n seq code args).wbl = s.wbl := by rw [State.taken_eq h]

theorem State.taken_ledger : (s.taken n seq code args).ledger = s.ledger := by rw [State.taken_eq h]

theorem State.taken_now : (s.taken n seq code args).now = s.now := by rw [State.taken_eq h]

theorem State.taken_windowOpen : (s.taken n seq code args).windowOpen = s.windowOpen := by
  rw [State.taken_eq h]
  rfl

/-- A request that waits for its record: what a ready Lodger finds of it. -/
theorem State.taken_waits {k : Fin 128} {body : RecBody} {t : State} (hw : (s.taken n seq code args).Waits n k body t) :
    t.HasRec k s.wbl.nextSeq n.val body ∧ (t.mbx n).busy = true ∧ (t.mbx n).job = .onRecord s.wbl.nextSeq s.now ∧ onlyMbx s t n ∧
      t.ledger.lines = s.ledger.lines ∧
      t = { s with bus := t.bus, ink := t.ink, lodgers := t.lodgers, ledger := t.ledger, wbl := t.wbl } := by
  obtain ⟨hrec, hmbx, honly, hcells, hframe⟩ := hw
  rw [State.taken_wbl h] at hrec hmbx
  rw [State.taken_now h] at hmbx
  refine ⟨hrec, ?_, ?_, (State.taken_onlyMbx h _ _ _).trans honly, by rw [hcells, State.taken_ledger h], ?_⟩
  · rw [hmbx, State.taken_mbx h]
    rfl
  · rw [hmbx]
  · rw [hframe, State.taken_eq h]

end ready

/-- The Lodger's data in a LEDGER_WRITE (R142). -/
theorem State.taken_lodgerLine {s : State} {n : Fin 4} {user : Bool} (h : s.ready n user) (seq code : Nat) {line : Nat}
    (hline : line < 2 ^ 32) (data : Vector Word 5) :
    ((s.taken n seq code (line :: data.toList.map (·.toNat))).lodgerLine n).length = 32 ∧
      ((s.taken n seq code (line :: data.toList.map (·.toNat))).lodgerLine n).take 20 =
        data.toList.flatMap fun w => leBytes 4 w.toNat := by
  have words : line :: data.toList.map (·.toNat) = (BitVec.ofNat 32 line :: data.toList).map (·.toNat) := by
    rw [List.map_cons, BitVec.toNat_ofNat, Nat.mod_eq_of_lt hline]
  have bytes : (s.taken n seq code (line :: data.toList.map (·.toNat))).argBytes n 1 =
      data.toList.flatMap fun w => leBytes 4 w.toNat := by
    rw [State.argBytes, words, State.taken_args h _ _ (by simp)]
    rfl
  have size : ((s.taken n seq code (line :: data.toList.map (·.toNat))).argBytes n 1).length = 20 := by
    rw [bytes]
    simp [List.length_flatMap, leBytes]
  have spec := lodgerLineBytes_spec size
  rw [bytes] at spec
  rw [State.lodgerLine, bytes]
  exact spec _ _ _

theorem exec_logAppend {s : State} {n : Fin 4} {user : Bool} (h : s.ready n user) (seq : Byte) (args : Vector Word 6) :
    exec (.logAppend n user seq args) s = .next ((s.taken n seq.toNat 0x04 (args.toList.map (·.toNat))).serveLogAppend n) := by
  simp only [exec, execLogAppend, State.mbxCommand_ready h]

theorem exec_ledgerWrite {s : State} {n : Fin 4} {user : Bool} (h : s.ready n user) (seq : Byte) (line : Nat) (data : Vector Word 5) :
    exec (.ledgerWrite n user seq line data) s =
      .next ((s.taken n seq.toNat 0x05 (line :: data.toList.map (·.toNat))).serveLedgerWrite n) := by
  simp only [exec, execLedgerWrite, State.mbxCommand_ready h]

/-- OUT_JOURNAL of an own output whose record is written (R379). -/
theorem State.taken_journalWrite {s : State} {n : Fin 4} {user : Bool} (h : s.ready n user) (seq : Byte) (code : Nat)
    (args : List Nat) {k : Fin 128} (i : Fin 30) (v : Nat) {t : State}
    (ht : t = ((s.taken n seq.toNat code args).journalWrite k n i v).mbxDone n 0) :
    t.served n seq 0 ∧ (t.outp i).target = (s.outp i).clamp v ∧ (∀ j, j ≠ i → t.outp j = s.outp j) ∧
      t.HasRec k s.wbl.nextSeq n.val ((s.outp i).journal i v) ∧ t.wbl.nextSeq = seqAfter s.wbl.nextSeq ∧ onlyMbx s t n ∧
      t = { s with bus := t.bus, ink := t.ink, lodgers := t.lodgers, gate := t.gate, out := t.out, wbl := t.wbl } := by
  subst ht
  have output := s.taken_outp n seq.toNat code args
  obtain ⟨hrec, hnext, htgt, hothers, hframe⟩ := (s.taken n seq.toNat code args).journalWrite_spec k n i v
  rw [State.taken_wbl h] at hrec hnext
  rw [output] at hrec htgt
  generalize (s.taken n seq.toNat code args).journalWrite k n i v = t at *
  obtain ⟨served, only⟩ := State.taken_served (t := t) (args := args) h (by rw [hframe]) 0
  refine ⟨served, htgt, fun j hj => (hothers j hj).trans (output j), ⟨hrec.seq, hrec.origin, hrec.body⟩, hnext, only, ?_⟩
  rw [State.mbxDone_eq, hframe, State.taken_eq h]
  rfl

/-- A Lodger's request for which the ring has no room (R383). -/
theorem State.taken_refused {s : State} {n : Fin 4} {user : Bool} (h : s.ready n user) (seq : Byte) (code : Nat)
    (args : List Nat) {t : State}
    (ht : t = ((s.taken n seq.toNat code args).mapWbl fun w => { w with refused := satInc 0xFFFF w.refused }).mbxDone n 4) :
    t.served n seq 4 ∧ t.wbl = { s.wbl with refused := satInc 0xFFFF s.wbl.refused } ∧ onlyMbx s t n ∧
      t = { s with bus := t.bus, ink := t.ink, lodgers := t.lodgers, wbl := t.wbl } := by
  subst ht
  obtain ⟨served, only⟩ := State.taken_served (args := args) (code := code) (seq := seq) (n := n)
    (t := (s.taken n seq.toNat code args).mapWbl fun w => { w with refused := satInc 0xFFFF w.refused }) h rfl 4
  refine ⟨served, ?_, only, ?_⟩
  · rw [State.taken_eq h]
    rfl
  · rw [State.mbxDone_eq, State.taken_eq h]
    rfl

/-- Settles O39: each request is the service of the taken request (`taken_eq`), and MAILBOX_SERVE that of the first posted one
(`exec_mailboxServe`); the services' own lemmas say what they come to. -/
theorem mailboxServices : Obligations.MailboxServices := by
  unfold Obligations.MailboxServices
  refine ⟨?journal, ?noOutput, ?logClosed, ?logOpen, ?ledger, ?requests, ?idle, ?turn⟩
  case journal =>
    intro s n user seq i target h htarget howner
    have index : (s.taken n seq.toNat 0x03 [i.val, target]).mbxArg n 0 = i.val := State.taken_mbxArg h _ _ rfl (by omega)
    have value : (s.taken n seq.toNat 0x03 [i.val, target]).mbxArg n 1 = target := State.taken_mbxArg h _ _ rfl htarget
    have output := s.taken_outp n seq.toNat 0x03 [i.val, target] i
    have ring := State.taken_wbl h seq.toNat 0x03 [i.val, target]
    have owner : ((s.taken n seq.toNat 0x03 [i.val, target]).outp i).owner = .lodger := by rw [output, howner]
    rw [exec_outJournal h]
    refine ⟨fun hid hfree k hk => ?own, fun hid hfull => ?full, fun hid => ?foreign⟩
    case own =>
      have written := State.lodgerRec_written (s := s.taken n seq.toNat 0x03 [i.val, target]) (by rw [ring]; exact hfree)
        (by rw [ring]; exact hk) n.val (((s.taken n seq.toNat 0x03 [i.val, target]).outp i).journal i target)
      obtain ⟨served, htgt, hothers, hrec, hnext, only, frame⟩ := State.taken_journalWrite h seq 0x03 [i.val, target] (k := k) i target rfl
      have journal : (s.outp i).journal i target =
          .outTarget i.val ((s.outp i).clamp target) (s.outp i).applied 1 (s.outp i).ownerId := by
        rw [Output.journal, howner]
        rfl
      rw [State.serveOutJournal_written index value owner (by rw [output, hid]) written]
      exact ⟨_, rfl, served, htgt, hothers, hrec.seq, hrec.origin, hrec.body.trans journal, hnext, only, frame⟩
    case full =>
      have refused := State.lodgerRec_full (s := s.taken n seq.toNat 0x03 [i.val, target]) (by rw [ring]; exact hfull) n.val
        (((s.taken n seq.toNat 0x03 [i.val, target]).outp i).journal i target)
      rw [State.serveOutJournal_full index value owner (by rw [output, hid]) refused]
      exact ⟨_, rfl, State.taken_refused h seq 0x03 [i.val, target] rfl⟩
    case foreign =>
      rw [State.serveOutJournal_foreign index owner (by rw [output]; exact hid)]
      exact ⟨_, rfl, State.taken_done h _ _ _ 3⟩
  case noOutput =>
    intro s n user seq index target h hindex hlt
    rw [exec_outJournal h, State.serveOutJournal_none (by rw [State.taken_mbxArg h _ _ rfl hlt]; exact hindex)]
    exact ⟨_, rfl, State.taken_done h _ _ _ 2⟩
  case logClosed =>
    intro s n user seq args h hclosed
    rw [exec_logAppend h, State.serveLogAppend_closed ((State.taken_windowOpen h _ _ _).trans hclosed)]
    exact ⟨_, rfl, State.taken_done h _ _ _ 7⟩
  case logOpen =>
    intro s n user seq args h hopen hfree k hk
    have ring := State.taken_wbl h seq.toNat 0x04 (args.toList.map (·.toNat))
    obtain ⟨waits, logPos⟩ := State.serveLogAppend_open (s := s.taken n seq.toNat 0x04 (args.toList.map (·.toNat))) n (k := k)
      ((State.taken_windowOpen h _ _ _).trans hopen) (by rw [ring]; exact hfree) (by rw [ring]; exact hk)
    obtain ⟨hrec, hbusy, hjob, only, cells, frame⟩ := State.taken_waits h _ _ _ waits
    have bytes : (s.taken n seq.toNat 0x04 (args.toList.map (·.toNat))).argBytes n 0 =
        args.toList.flatMap fun w => leBytes 4 w.toNat := by
      rw [State.argBytes, State.taken_args h _ _ args.length_toList]
      rfl
    rw [bytes, ring] at hrec
    rw [ring] at logPos
    rw [exec_logAppend h]
    exact ⟨_, rfl, hrec.body, hrec.origin, hrec.seq, logPos, hbusy, hjob, only, cells, frame⟩
  case ledger =>
    intro s n user seq line data h hline
    have arg : (s.taken n seq.toNat 0x05 (line :: data.toList.map (·.toNat))).mbxArg n 0 = line := State.taken_mbxArg h _ _ rfl hline
    rw [exec_ledgerWrite h]
    refine ⟨fun hbig => ?_, fun hsmall hclosed => ?_, fun hsmall hopen hfree k hk => ?_⟩
    · rw [State.serveLedgerWrite_none (by rw [arg]; exact hbig)]
      exact ⟨_, rfl, State.taken_done h _ _ _ 2⟩
    · rw [State.serveLedgerWrite_closed (by rw [arg]; exact hsmall) ((State.taken_windowOpen h _ _ _).trans hclosed)]
      exact ⟨_, rfl, State.taken_done h _ _ _ 7⟩
    · have ring := State.taken_wbl h seq.toNat 0x05 (line :: data.toList.map (·.toNat))
      have waits := State.serveLedgerWrite_open (s := s.taken n seq.toNat 0x05 (line :: data.toList.map (·.toNat))) n (k := k)
        ((State.taken_windowOpen h _ _ _).trans hopen) (by rw [ring]; exact hfree) (by rw [ring]; exact hk) (by rw [arg]; exact hsmall)
      obtain ⟨hrec, hbusy, hjob, only, cells, frame⟩ := State.taken_waits h _ _ _ waits
      obtain ⟨size, own⟩ := State.taken_lodgerLine h seq.toNat 0x05 hline data
      rw [arg] at hrec
      exact ⟨_, rfl, ⟨_, hrec.body, size, own⟩, hbusy, hjob, only, cells, frame⟩
  case requests =>
    intro s n user seq code h
    refine ⟨?comply, fun hcode => ?badCode⟩
    case comply =>
      have step : exec (.throttleComply n user seq) s = .next ((s.taken n seq.toNat 0x06 []).serveComply n) := by
        simp only [exec, execThrottleComply, State.mbxCommand_ready h]
      obtain ⟨served, only⟩ := State.taken_served (seq := seq) (code := 0x06) (args := [])
        (t := (s.taken n seq.toNat 0x06 []).mapThm fun x => x.complied n) h rfl 0
      rw [step, State.serveComply_eq]
      refine ⟨_, rfl, served, only, ?_, ?_⟩ <;> rw [State.mbxDone_eq, State.taken_eq h] <;> rfl
    case badCode =>
      have other : ¬ (1 ≤ code.toNat ∧ code.toNat ≤ 0x0A) := by omega
      have step : exec (.mailboxBadCmd n user seq code) s = .next ((s.taken n seq.toNat code.toNat []).mbxDone n 1) := by
        simp only [exec, execMailboxBadCmd, other, if_false, State.mbxCommand_ready h]
      exact ⟨_, step, State.taken_done h _ _ _ 1⟩
  case idle =>
    intro s latched nor h
    have same : s.mailboxServe latched nor = s := by
      obtain asleep | none := h
      · exact if_neg (Bool.eq_false_iff.mp asleep)
      · simp only [State.mailboxServe, State.nextPosted_none none, ite_self]
    simp only [exec, execMailboxServe, same]
  case turn =>
    intro s n latched nor hawake hnext before posted
    have mine (i : Fin 6) := s.takeTurn_mbxArg n i
    simp only [exec_mailboxServe hawake hnext before posted]
    refine ⟨fun hbad => ?badCode, fun hcode => ?comply, fun hcode hline hopen hfree k hk => ?ledger, fun hcode hline => ?noLine,
      fun hcode hmode => ?mode, fun hcode hword => ?reset⟩
    case badCode =>
      rw [State.serveCode_bad _ n hbad]
      exact ⟨_, rfl, (State.takeTurn_done rfl rfl 1).fields, rfl⟩
    case comply =>
      have code : (s.takeTurn n).serveCode n (s.mbx n).cmdCode latched nor = (s.takeTurn n).serveComply n := by rw [hcode]; rfl
      rw [code, State.serveComply_eq]
      exact ⟨_, rfl, (State.takeTurn_done rfl rfl 0).fields, rfl, rfl⟩
    case ledger =>
      have code : (s.takeTurn n).serveCode n (s.mbx n).cmdCode latched nor = (s.takeTurn n).serveLedgerWrite n := by rw [hcode]; rfl
      obtain ⟨hrec, hmbx, only, -, frame⟩ := State.serveLedgerWrite_open (s := s.takeTurn n) n hopen hfree hk ((mine 0).trans_le hline)
      rw [mine] at hrec
      rw [State.takeTurn_mbx] at hmbx
      rw [code]
      refine ⟨_, rfl, ?_, by rw [hmbx], by rw [hmbx]; rfl, hrec.origin, ⟨_, hrec.body⟩, (s.takeTurn_onlyMbx n).trans only, ?_⟩
      · rw [frame]
        rfl
      · exact frame.trans (by rw [frame]; rfl)
    case noLine =>
      have code : (s.takeTurn n).serveCode n (s.mbx n).cmdCode latched nor = (s.takeTurn n).serveLedgerWrite n := by rw [hcode]; rfl
      rw [code, State.serveLedgerWrite_none (by rw [mine]; exact hline)]
      exact ⟨_, rfl, (State.takeTurn_done rfl rfl 2).fields, rfl⟩
    case mode =>
      have code : (s.takeTurn n).serveCode n (s.mbx n).cmdCode latched nor = (s.takeTurn n).serveMode n latched := by rw [hcode]; rfl
      rw [code, State.serveMode_same ((mine 0).trans hmode)]
      exact ⟨_, rfl, (State.takeTurn_done rfl rfl 0).fields, rfl⟩
    case reset =>
      have code : (s.takeTurn n).serveCode n (s.mbx n).cmdCode latched nor = (s.takeTurn n).inkReset := by
        rw [hcode]
        exact if_pos ((mine 0).trans hword)
      rw [code]
      exact ⟨_, rfl, (s.takeTurn n).resetWith_resetTo 32⟩

end Sys2Proof.Machine
end

section
/-! PROOFS. What the Innkeeper does beside a Lodger's fault sequence, and what of the sequence it leaves alone: messages, records and
replies (`Quiet`), and the release of keys (`Aside`) (R68, R374, R380, R533, R546). -/

namespace Sys2Proof.Machine

/-! ### Messages, records and replies -/

/-- The Waybill, the Ledger's write buffer, Gridis, the keys, the serial ports and the service port may have changed; not the
Ledger's cells. -/
structure State.Quiet (s t : State) : Prop where
  frame : t = { s with wbl := t.wbl, ledger := t.ledger, grd := t.grd, keys := t.keys, uarts := t.uarts, svc := t.svc }
  cells : t.ledger.lines = s.ledger.lines

namespace State.Quiet

variable {s t u : State}

theorem refl (s : State) : State.Quiet s s := ⟨rfl, rfl⟩

theorem trans (h : State.Quiet s t) (h' : State.Quiet t u) : State.Quiet s u :=
  ⟨by rw [h'.frame, h.frame], h'.cells.trans h.cells⟩

theorem lodgers (h : State.Quiet s t) : t.lodgers = s.lodgers := by rw [h.frame]

theorem gate (h : State.Quiet s t) : t.gate = s.gate := by rw [h.frame]

theorem carder (h : State.Quiet s t) : t.carder = s.carder := by rw [h.frame]

end State.Quiet

theorem State.mapWbl_quiet (s : State) (f : Waybill → Waybill) : State.Quiet s (s.mapWbl f) := ⟨rfl, rfl⟩

theorem State.mapGrd_quiet (s : State) (f : Grd → Grd) : State.Quiet s (s.mapGrd f) := ⟨rfl, rfl⟩

theorem State.mapKeys_quiet (s : State) (f : Keys → Keys) : State.Quiet s (s.mapKeys f) := ⟨rfl, rfl⟩

theorem State.mapSvc_quiet (s : State) (f : Svc → Svc) : State.Quiet s (s.mapSvc f) := ⟨rfl, rfl⟩

theorem State.uartsOwnerHalted_quiet (s : State) (n : Fin 4) : State.Quiet s (s.uartsOwnerHalted n) := ⟨rfl, rfl⟩

theorem State.mapRec_quiet (s : State) (q : Nat) (f : Rec → Rec) : State.Quiet s (s.mapRec q f) := ⟨rfl, rfl⟩

theorem State.issued_quiet (s : State) (q : Nat) : State.Quiet s (s.issued q) := ⟨rfl, rfl⟩

theorem State.writeRec_quiet (s : State) (k : Fin 128) (origin : Nat) (body : RecBody) : State.Quiet s (s.writeRec k origin body).2 :=
  ⟨rfl, rfl⟩

theorem State.placeBody_quiet (s : State) (body : RecBody) : State.Quiet s (s.placeBody body).2 := by
  cases body <;> exact ⟨rfl, rfl⟩

theorem State.issueLines_quiet (s : State) (q : Nat) : State.Quiet s (s.issueLines q) := by
  have sent := s.issueLines_linesSent q
  exact ⟨by rw [sent.frame], sent.cells⟩

theorem State.inkRec_quiet (s : State) (origin : Nat) (body : RecBody) : State.Quiet s (s.inkRec origin body) := by
  unfold State.inkRec
  split
  · exact ((s.placeBody_quiet body).trans (State.writeRec_quiet ..)).trans (State.issueLines_quiet ..)
  · exact s.mapWbl_quiet _

theorem State.logEvent_quiet (s : State) (event : Nat) (body : List Byte) : State.Quiet s (s.logEvent event body) := s.inkRec_quiet _ _

theorem State.keyRec_quiet (s : State) (origin : Nat) (body : RecBody) : State.Quiet s (s.keyRec origin body).2 := by
  unfold State.keyRec
  split
  · exact (s.writeRec_quiet _ _ _).trans (State.issued_quiet ..)
  · exact ⟨rfl, rfl⟩

theorem State.enqueue_quiet (s : State) (c : Fin 2) (t : TxFrame) : State.Quiet s (s.enqueue c t) := ⟨rfl, rfl⟩

theorem State.sendKey_quiet (s : State) (dest op key epoch lease cause rop : Nat) :
    State.Quiet s (s.sendKey dest op key epoch lease cause rop) := by
  have counted : State.Quiet s (s.nextSeqOf 1).2 := ⟨rfl, rfl⟩
  exact counted.trans (foldl_keeps .refl .trans (fun s c => s.enqueue_quiet c _) _ _)

theorem State.placeMust_quiet (s : State) (cs : List (Fin 2)) (t : TxFrame) : State.Quiet s (s.placeMust cs t) := by
  have queued : State.Quiet s (cs.foldl (fun s c => s.enqueue c t) s) := foldl_keeps .refl .trans (fun s c => s.enqueue_quiet c t) cs s
  simp only [State.placeMust, State.placeFrame]
  split
  · exact s.mapGrd_quiet _
  · split
    · exact queued
    · exact queued.trans (State.issued_quiet ..)

theorem State.txmReset_quiet (s : State) (n : Fin 4) : State.Quiet s (s.txmReset n) := by
  have emptied : State.Quiet s (s.mapTxm n fun _ => {}) := ⟨rfl, rfl⟩
  simp only [State.txmReset]
  split
  · split
    · exact emptied
    · exact emptied.trans (State.placeMust_quiet ..)
  · exact emptied

theorem State.appOwnerReset_quiet (s : State) (n : Fin 4) : State.Quiet s (s.appOwnerReset n) := by
  have ended : State.Quiet s (s.appEnds (plain 5)) := by
    unfold State.appEnds
    split
    · exact (s.mapSvc_quiet _).trans (State.mapSvc_quiet ..)
    · exact .refl s
  unfold State.appOwnerReset
  split
  · split
    · exact ended
    · exact .refl s
  · exact .refl s

/-! ### What stands on an output and in the Lodgers -/

/-- An output keeps its owner and cause LODGER, and stays in Rest where it is. -/
structure Output.Stays (o p : Output) : Prop where
  owner : p.owner = o.owner
  ownerId : p.ownerId = o.ownerId
  inRest : o.inRest = true → p.inRest = true
  cause : p.causes &&& RestCause.lodger.mask = o.causes &&& RestCause.lodger.mask

theorem Output.Stays.refl (o : Output) : o.Stays o := ⟨rfl, rfl, id, rfl⟩

theorem Output.Stays.trans {o p q : Output} (h : o.Stays p) (h' : p.Stays q) : o.Stays q :=
  ⟨h'.owner.trans h.owner, h'.ownerId.trans h.ownerId, h'.inRest ∘ h.inRest, h'.cause.trans h.cause⟩

/-- What goes on while a Lodger's fault is dealt with: records complete other requests, keys put outputs in Rest. A request that waits
for a restart waits on. -/
structure State.Aside (s t : State) : Prop where
  frame : t = { s with
    gate := t.gate, fans := t.fans, out := t.out, wbl := t.wbl, ledger := t.ledger, grd := t.grd, keys := t.keys
    lodgers := t.lodgers, uarts := t.uarts, svc := t.svc }
  cells : t.ledger.lines = s.ledger.lines
  lodgers : ∀ m, t.lodger m = { s.lodger m with mbx := t.mbx m }
  waiting : ∀ m k, (s.mbx m).job = .restart k → t.mbx m = s.mbx m
  outputs : ∀ i, (s.outp i).Stays (t.outp i)

theorem State.Quiet.aside {s t : State} (h : State.Quiet s t) : State.Aside s t :=
  ⟨by rw [h.frame], h.cells, fun m => by rw [State.mbx_congr h.lodgers, State.lodger, h.lodgers]; rfl,
    fun m _ _ => State.mbx_congr h.lodgers m, fun i => by rw [State.outp_congr h.gate]; exact .refl _⟩

namespace State.Aside

variable {s t u : State}

theorem refl (s : State) : State.Aside s s := (State.Quiet.refl s).aside

theorem trans (h : State.Aside s t) (h' : State.Aside t u) : State.Aside s u :=
  ⟨by rw [h'.frame, h.frame], h'.cells.trans h.cells, fun m => by rw [h'.lodgers, h.lodgers],
    fun m k hk => (h'.waiting m k (by rw [h.waiting m k hk, hk])).trans (h.waiting m k hk),
    fun i => (h.outputs i).trans (h'.outputs i)⟩

/-- A step that changes the mailbox of `n`, where that waits for no restart. -/
theorem of_mbx (s : State) {n : Fin 4} (h : ∀ k, (s.mbx n).job ≠ .restart k) (f : Mailbox → Mailbox) : State.Aside s (s.mapMbx n f) := by
  refine ⟨rfl, rfl, fun m => ?_, fun m k hk => ?_, fun i => .refl _⟩
  · by_cases e : m = n
    · subst e
      rw [s.mapMbx_lodger_same, s.mapMbx_mbx_same]
    · rw [State.mbx, s.mapMbx_lodger_ne e]
  · have e : m ≠ n := fun e => h k (e ▸ hk)
    rw [State.mbx, s.mapMbx_lodger_ne e, State.mbx]

end State.Aside

/-! ### Records end -/

theorem State.mbxOnRecord_aside (s : State) (q : Nat) (body : RecBody) (result : Nat) : State.Aside s (s.mbxOnRecord q body result) := by
  refine foldl_keeps .refl .trans (fun s n => ?_) _ s
  split
  next job =>
    have free (k : Fin 4) : (s.mbx n).job ≠ .restart k := fun h => by cases job.symm.trans h
    have answered (w : Word) : State.Aside s (s.mbxRes0 n w) := .of_mbx s free fun m => { m with res := vset m.res 0 w }
    have kept (w : Word) (k : Fin 4) : ((s.mbxRes0 n w).mbx n).job ≠ .restart k := by
      rw [show (s.mbxRes0 n w).mbx n = _ from s.mapMbx_mbx_same n fun m => { m with res := vset m.res 0 w }]
      exact free k
    have done : State.Aside s (s.mbxDone n result) := .of_mbx s free fun m => m.completed result
    split
    · split
      · split
        · exact (answered _).trans (.of_mbx _ (kept _) fun m => m.completed result)
        · exact done
      · exact done
    · exact .refl s
  next => exact .refl s

theorem State.recDone_aside (s : State) (q reason : Nat) : State.Aside s (s.recDone q reason) := by
  unfold State.recDone
  split
  · exact .refl s
  · exact (s.mapRec_quiet q _).aside.trans (State.mbxOnRecord_aside ..)

/-! ### Keys are released (R533, R546) -/

/-- What taking or losing a Rest cause may change. -/
def State.CauseFrame (s t : State) : Prop := t = { s with gate := t.gate, fans := t.fans, out := t.out, wbl := t.wbl }

theorem State.CauseFrame.refl (s : State) : State.CauseFrame s s := rfl

theorem State.CauseFrame.trans {s t u : State} (h : State.CauseFrame s t) (h' : State.CauseFrame t u) : State.CauseFrame s u := by
  rw [State.CauseFrame] at *
  rw [h', h]

theorem State.FanFrame.causeFrame {s t : State} (h : State.FanFrame s t) : State.CauseFrame s t := by
  rw [State.FanFrame] at h
  rw [h]
  rfl

theorem State.setCause_frame (s : State) (i : Fin 30) (c : RestCause) : State.CauseFrame s (s.setCause i c) := by
  have ended (t : State) : State.CauseFrame t (t.endTargets i.val (fun _ => true) .abandoned 2) := rfl
  have noted (f : Output → Output) := (s.mapOutp_frame i f).fanFrame
  simp only [State.setCause]
  split <;> split
  · exact (noted _).causeFrame.trans (ended _)
  · exact ((noted _).trans (State.toRestValue_frame _ i)).causeFrame.trans (ended _)
  · exact (noted _).causeFrame
  · exact ((noted _).trans (State.toRestValue_frame _ i)).causeFrame

theorem State.setCause_key_aside (s : State) (i : Fin 30) : State.Aside s (s.setCause i .key) := by
  have frame := s.setCause_frame i .key
  have lodgers : (s.setCause i .key).lodgers = s.lodgers := by rw [frame]
  refine ⟨by rw [frame], by rw [frame], fun m => ?_, fun m _ _ => State.mbx_congr lodgers m, fun j => ?_⟩
  · rw [State.mbx_congr lodgers, State.lodger, lodgers]
    rfl
  · by_cases e : j = i
    · subst e
      obtain ⟨a, k, t, h⟩ := s.setCause_outp j .key
      rw [h]
      exact ⟨rfl, rfl, fun _ => rfl, by simp [BitVec.and_or_distrib_right, RestCause.mask]⟩
    · rw [s.setCause_outp_ne e]
      exact .refl _

theorem State.keyCause_aside (s : State) (k : Nat) : State.Aside s (s.keyCause k) := by
  unfold State.keyCause
  split
  · exact s.setCause_key_aside _
  · exact .refl s

/-- A release with cause fault, at the host. -/
theorem State.hostRelease_aside (s : State) (src k : Nat) : State.Aside s (s.hostRelease src k 1).2 := by
  have freed : State.Aside s (s.freeKey k) := (s.mapKeys_quiet _).aside
  unfold State.hostRelease
  split
  · split
    · exact (freed.trans (State.keyCause_aside _ k)).trans (State.logEvent_quiet ..).aside
    · exact .refl s
  · exact .refl s

theorem State.stepReleased_aside (s : State) {t : KeyStep} (ht : t.mbx = none) (result : Nat) :
    State.Aside s (s.stepReleased t result) := by
  simp only [State.stepReleased, ht]
  exact ((s.mapKeys_quiet _).aside.trans (State.recDone_aside ..)).trans
    (foldl_keeps .refl .trans (fun s q => s.recDone_aside q 0) _ _)

/-- R68 step 4: a key that goes with its Lodger. -/
theorem State.releaseInk_aside (s : State) (h : HeldKey) : State.Aside s (s.releaseInk h 1) := by
  have asked (u : State) {t : KeyStep} (hop : t.op = .release) (hcause : t.cause = 1) : State.Aside u (u.askHost t).2 := by
    simp only [State.askHost, hop, hcause]
    split
    · exact u.hostRelease_aside _ _
    · exact (u.sendKey_quiet ..).aside
  have released (u : State) (q : Nat) : State.Aside u (u.releaseKey h 1 q none) := by
    simp only [State.releaseKey]
    split
    · exact ((u.mapKeys_quiet _).aside.trans (asked _ rfl rfl)).trans (State.stepReleased_aside _ rfl 0)
    · exact ((u.mapKeys_quiet _).aside.trans (asked _ rfl rfl)).trans (State.mapKeys_quiet ..).aside
  simp only [State.releaseInk, if_true]
  exact (s.keyRec_quiet _ _).aside.trans (released _ _)

theorem State.faultKeys_aside (s : State) (n : Fin 4) : State.Aside s (s.faultKeys n) := by
  have dropped (u : State) (t : KeyStep) : State.Aside u ((u.dropStep t).recAbandon t.journal 6) :=
    ((u.mapKeys_quiet _).trans (State.mapRec_quiet ..)).aside
  simp only [State.faultKeys]
  exact ((foldl_keeps .refl .trans dropped _ s).trans (State.mapKeys_quiet ..).aside).trans
    (foldl_keeps .refl .trans (fun u h => u.releaseInk_aside h) _ _)

end Sys2Proof.Machine
end

section
/-! PROOFS. The fault sequence of a Lodger: its steps, the Lodger's reset, and its end (R68, R69, R456). -/

namespace Sys2Proof.Machine

/-! ### Outputs of the Lodger -/

theorem ownedBy_iff {n : Fin 4} {o : Output} : ownedBy n o = true ↔ o.owner = .lodger ∧ o.ownerId = n.val := decide_eq_true_iff

/-- An output that the fault sequence has put in Rest. -/
structure Output.Faulted (o p : Output) : Prop where
  owner : p.owner = o.owner
  ownerId : p.ownerId = o.ownerId
  inRest : p.inRest = true
  cause : p.causes &&& RestCause.lodger.mask = RestCause.lodger.mask

theorem Output.Faulted.stays {o p q : Output} (h : o.Faulted p) (h' : p.Stays q) : o.Faulted q :=
  ⟨h'.owner.trans h.owner, h'.ownerId.trans h.ownerId, h'.inRest h.inRest, h'.cause.trans h.cause⟩

theorem Output.Faulted.ownedBy {n : Fin 4} {o p : Output} (h : o.Faulted p) : ownedBy n p = ownedBy n o := by
  rw [Machine.ownedBy, h.owner, h.ownerId, Machine.ownedBy]

theorem State.setCauses_frame (s : State) (c : RestCause) (p : Output → Bool) : State.CauseFrame s (s.setCauses c p) := by
  refine foldl_keeps State.CauseFrame.refl State.CauseFrame.trans (fun s i => ?_) _ s
  split
  · exact s.setCause_frame i c
  · exact .refl s

theorem causes_or_mask (m k : BitVec 7) : (m ||| k) &&& k = k := by
  ext i
  simp only [BitVec.getElem_and, BitVec.getElem_or]
  cases k[i] <;> simp

/-- R68 step 3: every output of the Lodger goes to Rest with cause LODGER. -/
theorem State.setCauses_faulted (s : State) (n : Fin 4) (i : Fin 30) (h : ownedBy n (s.outp i) = true) :
    (s.outp i).Faulted ((s.setCauses .lodger (ownedBy n)).outp i) := by
  refine foldl_outputs (f := fun s i => if ownedBy n (s.outp i) then s.setCause i .lodger else s) (I := fun _ => True)
    (R := fun _ o p => ownedBy n o = true → o.Faulted p) (fun s i j hj => ?_) (fun _ _ => id) (fun s i _ hown => ?_) trivial i h
  · split
    · exact s.setCause_outp_ne hj _
    · rfl
  · obtain ⟨a, k, t, hset⟩ := s.setCause_outp i .lodger
    rw [if_pos hown, hset]
    exact ⟨rfl, rfl, rfl, causes_or_mask ..⟩

/-- Cause LODGER ends on the outputs of the Lodger, and the gate alone changes. -/
theorem State.clearCauses_spec (s : State) (n : Fin 4) :
    s.clearCauses .lodger (ownedBy n) = { s with gate := (s.clearCauses .lodger (ownedBy n)).gate } ∧
      ∀ i, ownedBy n (s.outp i) = true →
        (s.clearCauses .lodger (ownedBy n)).outp i = (s.outp i).cleared .lodger := by
  refine ⟨foldl_keeps (R := fun s t : State => t = { s with gate := t.gate }) (fun _ => rfl) (fun h h' => by rw [h', h])
    (fun s i => ?_) _ s, fun i h => ?_⟩
  · split <;> rfl
  · refine foldl_outputs (f := fun s i => if ownedBy n (s.outp i) then s.clearCause i .lodger else s) (I := fun _ => True)
      (R := fun _ o p => ownedBy n o = true → p = o.cleared .lodger) (fun s i j hj => ?_) (fun _ _ => id) (fun s i _ hown => ?_) trivial i h
    · split
      · exact s.mapOutp_outp_ne hj _
      · rfl
    · rw [if_pos hown]
      exact s.mapOutp_outp_same i (Output.cleared .lodger)

/-- A Lodger's output stays in Rest when its cause LODGER ends. -/
theorem Output.Faulted.cleared {n : Fin 4} {o p : Output} (h : o.Faulted p) (hown : Machine.ownedBy n o = true) :
    (p.cleared .lodger).inRest = true ∧ (p.cleared .lodger).causes &&& RestCause.lodger.mask = 0 := by
  obtain ⟨howner, -⟩ := ownedBy_iff.mp hown
  refine ⟨?_, by simp [Output.cleared, BitVec.and_assoc]⟩
  rw [Output.cleared]
  simp [h.owner, howner, h.inRest]

/-! ### Requests that wait for the restart -/

/-- A Lodger whose LODGER_RESTART of Lodger `n` has completed. -/
def Lodger.answered (n : Fin 4) (l : Lodger) : Lodger :=
  if l.mbx.job = .restart n then { l with mbx := l.mbx.completed 0 } else l

theorem Lodger.answered_of_waiting {n : Fin 4} {l : Lodger} (h : l.mbx.job = .restart n) :
    l.answered n = { l with mbx := l.mbx.completed 0 } := if_pos h

theorem Lodger.answered_of_not {n : Fin 4} {l : Lodger} (h : l.mbx.job ≠ .restart n) : l.answered n = l := if_neg h

theorem Lodger.answered_answered (n : Fin 4) (l : Lodger) : (l.answered n).answered n = l.answered n := by
  by_cases h : l.mbx.job = .restart n
  · rw [Lodger.answered_of_waiting h]
    exact Lodger.answered_of_not (by simp [Mailbox.completed])
  · rw [Lodger.answered_of_not h, Lodger.answered_of_not h]

theorem Lodger.answered_eq (n : Fin 4) (l : Lodger) : l.answered n = { l with mbx := (l.answered n).mbx } := by
  unfold Lodger.answered
  split <;> rfl

/-- One request of `restartsDone`. -/
def State.restartDone (n : Fin 4) (s : State) (m : Fin 4) : State := if (s.mbx m).job = .restart n then s.mbxDone m 0 else s

theorem State.restartDone_lodger (n : Fin 4) (s : State) (m q : Fin 4) :
    (s.restartDone n m).lodger q = if q = m then (s.lodger q).answered n else s.lodger q := by
  unfold State.restartDone
  by_cases e : q = m
  · subst e
    rw [if_pos rfl]
    by_cases job : (s.mbx q).job = .restart n
    · rw [if_pos job, Lodger.answered_of_waiting job]
      exact s.mapLodger_lodger_same q _
    · rw [if_neg job, Lodger.answered_of_not job]
  · rw [if_neg e]
    split
    · exact s.mapLodger_lodger_ne m q _ e
    · rfl

theorem State.restartsDone_lodger (s : State) (n q : Fin 4) : (s.restartsDone n).lodger q = (s.lodger q).answered n := by
  have fold : ∀ (l : List (Fin 4)) (s : State), (l.foldl (State.restartDone n) s).lodger q =
      if q ∈ l then (s.lodger q).answered n else s.lodger q := by
    intro l
    induction l with
    | nil => exact fun s => (if_neg List.not_mem_nil).symm
    | cons m l ih =>
      intro s
      rw [List.foldl_cons, ih, State.restartDone_lodger]
      by_cases e : q = m <;> by_cases hl : q ∈ l <;> simp [e, hl, Lodger.answered_answered]
  exact (fold _ s).trans (if_pos (List.mem_finRange q))

theorem State.restartsDone_frame (s : State) (n : Fin 4) : s.restartsDone n = { s with lodgers := (s.restartsDone n).lodgers } := by
  refine foldl_keeps (R := fun s t : State => t = { s with lodgers := t.lodgers }) (fun _ => rfl) (fun h h' => by rw [h', h])
    (fun s m => ?_) _ s
  split <;> rfl

/-! ### The end of the sequence (R68 steps 7 and 8, R69) -/

/-- The Lodger as the end of its sequence leaves it, apart from its mailbox. -/
def Lodger.faultEnded (now : Nat) (l : Lodger) : Lodger :=
  if l.holding then { l with orphanWait := [], run := .held, holding := false }
  else { l with orphanWait := [], run := .running, startedAt := now, lastKick := now, trap := none, wakeIrq := false, holding := false }

/-- The sequence has ended, apart from the requests that waited for it. -/
structure State.FaultResolved (s : State) (n : Fin 4) (t : State) : Prop where
  frame : t = { s with
    gate := t.gate, wbl := t.wbl, ledger := t.ledger, grd := t.grd, keys := t.keys, uarts := t.uarts, svc := t.svc
    carder := t.carder, lodgers := t.lodgers }
  cells : t.ledger.lines = s.ledger.lines
  lodger : t.lodger n = (s.lodger n).faultEnded s.now
  others : ∀ m, m ≠ n → t.lodger m = s.lodger m
  channels : ∀ c, (s.chan c).owner = some n → (t.chan c).holdOrphan = false
  kept : (s.lodger n).holding = true → ∀ i, t.outp i = s.outp i
  cleared : (s.lodger n).holding = false → ∀ i, ownedBy n (s.outp i) = true → t.outp i = (s.outp i).cleared .lodger

theorem Chan.endTransfer_holdOrphan (h : Chan) : h.endTransfer.holdOrphan = h.holdOrphan := by
  unfold Chan.endTransfer
  split
  · split
    · rfl
    · split <;> rfl
  · rfl

theorem Chan.resumeIfFree_holdOrphan (h : Chan) : h.resumeIfFree.holdOrphan = h.holdOrphan := by
  unfold Chan.resumeIfFree
  split
  · rfl
  · split
    · rfl
    · split
      · rfl
      · exact Chan.endTransfer_holdOrphan _
    · rfl

theorem Chan.stop_holdOrphan {h : Chan} (hst : h.st = .paused) : h.stop.holdOrphan = false := by simp only [Chan.stop, hst]

/-- R456 step 7: none of the Lodger's channels keeps the ORPHAN hold. -/
theorem State.releaseOrphans_chan (s : State) {n : Fin 4} {c : Fin 24} (h : (s.chan c).owner = some n) :
    ((s.releaseOrphans n).chan c).holdOrphan = false := by
  have chan (f : Chan → Chan) : (s.mapChans f).chan c = f (s.chan c) := vget_map s.carder.chans c f
  refine (congrArg Chan.holdOrphan (chan _)).trans ?_
  rw [if_pos h]
  dsimp only
  split
  next paused => exact Chan.stop_holdOrphan paused.1
  next => exact Chan.resumeIfFree_holdOrphan _

/-! ### The end is reached -/

theorem State.releaseOrphans_lodger (s : State) (n : Fin 4) :
    (s.releaseOrphans n).lodger n = { s.lodger n with orphanWait := [] } := State.mapLodger_lodger_same _ n _

theorem State.releaseOrphans_lodger_ne (s : State) {n m : Fin 4} (h : m ≠ n) : (s.releaseOrphans n).lodger m = s.lodger m :=
  State.mapLodger_lodger_ne _ n m _ h

/-- The end of the sequence before the requests that waited for it complete. -/
def State.faultSettled (s : State) (n : Fin 4) : State :=
  if (s.lodger n).holding then
    ((s.releaseOrphans n).mapLodger n fun l => { l with run := .held, holding := false }).logEvent 0x0111 (leBytes 1 n.val)
  else ((s.releaseOrphans n).startLodger n).clearCauses .lodger (ownedBy n)

theorem State.endFault_eq (s : State) (n : Fin 4) : s.endFault n = (s.faultSettled n).restartsDone n := by
  have holding : ((s.releaseOrphans n).lodger n).holding = (s.lodger n).holding := by rw [s.releaseOrphans_lodger]
  simp only [State.endFault, State.faultSettled, holding]
  split <;> rfl

theorem State.faultSettled_held {s : State} {n : Fin 4} (h : (s.lodger n).holding = true) : s.FaultResolved n (s.faultSettled n) := by
  have ended : s.faultSettled n = _ := if_pos h
  have log := ((s.releaseOrphans n).mapLodger n fun l => { l with run := .held, holding := false }).logEvent_quiet 0x0111
    (leBytes 1 n.val)
  rw [← ended] at log
  refine ⟨by rw [log.frame]; rfl, log.cells, ?_, fun m hm => ?_, fun c hc => ?_, fun _ i => ?_, fun h' => ?_⟩
  · rw [State.lodger, log.lodgers]
    refine (State.mapLodger_lodger_same _ n _).trans ?_
    rw [s.releaseOrphans_lodger, Lodger.faultEnded, h, if_pos rfl]
  · rw [State.lodger, log.lodgers]
    exact (State.mapLodger_lodger_ne _ n m _ hm).trans (s.releaseOrphans_lodger_ne hm)
  · rw [State.chan, log.carder]
    exact s.releaseOrphans_chan hc
  · exact State.outp_congr log.gate i
  · exact absurd (h.symm.trans h') (by decide)

theorem State.faultSettled_started {s : State} {n : Fin 4} (h : (s.lodger n).holding = false) : s.FaultResolved n (s.faultSettled n) := by
  have ended : s.faultSettled n = _ := if_neg (Bool.eq_false_iff.mp h)
  obtain ⟨frame, cleared⟩ := ((s.releaseOrphans n).startLodger n).clearCauses_spec n
  rw [← ended] at frame cleared
  refine ⟨by rw [frame]; rfl, by rw [frame]; rfl, ?_, fun m hm => ?_, fun c hc => ?_, fun h' => ?_, fun _ => cleared⟩
  · rw [State.lodger, frame]
    refine (State.mapLodger_lodger_same _ n _).trans ?_
    rw [s.releaseOrphans_lodger, Lodger.faultEnded, h, if_neg Bool.false_ne_true]
    rfl
  · rw [State.lodger, frame]
    exact (State.mapLodger_lodger_ne _ n m _ hm).trans (s.releaseOrphans_lodger_ne hm)
  · rw [State.chan, frame]
    exact s.releaseOrphans_chan hc
  · exact absurd (h.symm.trans h') (by decide)

theorem State.faultSettled_resolved (s : State) (n : Fin 4) : s.FaultResolved n (s.faultSettled n) := by
  cases h : (s.lodger n).holding with
  | true => exact State.faultSettled_held h
  | false => exact State.faultSettled_started h

/-! ### Steps 1 to 5 (R68) -/

/-- Steps 1 to 5 have been taken. -/
structure State.Stepped (s : State) (n : Fin 4) (t : State) : Prop where
  frame : t = { s with
    gate := t.gate, fans := t.fans, out := t.out, wbl := t.wbl, ledger := t.ledger, grd := t.grd, keys := t.keys
    lodgers := t.lodgers, uarts := t.uarts, svc := t.svc, carder := t.carder }
  cells : t.ledger.lines = s.ledger.lines
  lodger : t.lodger n = { s.lodger n with run := .halted, orphanWait := (t.lodger n).orphanWait, mbx := t.mbx n }
  others : ∀ m, m ≠ n → t.lodger m = { s.lodger m with mbx := t.mbx m }
  waiting : ∀ m k, (s.mbx m).job = .restart k → t.mbx m = s.mbx m
  idle : (∀ c, (s.chan c).owner ≠ some n) → (t.lodger n).orphanWait = []
  owned : ∀ i, ownedBy n (s.outp i) = true → (s.outp i).Faulted (t.outp i)

/-- The first three steps: the Lodger is halted, its ports are told and its outputs are in Rest. -/
def State.haltedParked (s : State) (n : Fin 4) : State :=
  ((s.mapLodger n fun l => { l with run := .halted }).uartsOwnerHalted n).setCauses .lodger (ownedBy n)

theorem State.haltedParked_frame (s : State) (n : Fin 4) : ∃ g f o w u, s.haltedParked n =
    { (s.mapLodger n fun l => { l with run := .halted }) with gate := g, fans := f, out := o, wbl := w, uarts := u } := by
  have frame : State.CauseFrame _ (s.haltedParked n) := State.setCauses_frame ..
  exact ⟨_, _, _, _, _, frame⟩

theorem State.orphanChannels_lodger (s : State) (n : Fin 4) : ∃ wait,
    (s.orphanChannels n).lodger n = { s.lodger n with orphanWait := wait } ∧
      ((∀ c, (s.chan c).owner ≠ some n) → wait = []) := by
  refine ⟨_, State.mapLodger_lodger_same _ n _, fun h => ?_⟩
  simp [h]

/-- What goes on beside the sequence leaves its steps taken. -/
theorem State.Stepped.aside {s t u : State} {n : Fin 4} (h : s.Stepped n t) (h' : State.Aside t u) : s.Stepped n u :=
  ⟨by rw [h'.frame, h.frame], h'.cells.trans h.cells, by rw [h'.lodgers, h.lodger], fun m hm => by rw [h'.lodgers, h.others m hm],
    fun m k hk => (h'.waiting m k (by rw [h.waiting m k hk, hk])).trans (h.waiting m k hk), fun hi => by rw [h'.lodgers, h.idle hi],
    fun i hi => (h.owned i hi).stays (h'.outputs i)⟩

/-- The orphaned channels, where the first three steps have been taken. -/
theorem State.Stepped.of_parked {s p : State} {n : Fin 4}
    (parked : ∃ g f o w u, p =
      { (s.mapLodger n fun l => { l with run := .halted }) with gate := g, fans := f, out := o, wbl := w, uarts := u })
    (faulted : ∀ i, ownedBy n (s.outp i) = true → (s.outp i).Faulted (p.outp i)) : s.Stepped n (p.orphanChannels n) := by
  obtain ⟨wait, orphaned, idle⟩ := p.orphanChannels_lodger n
  have lodgers : p.lodgers = (s.mapLodger n fun l => { l with run := .halted }).lodgers := by
    obtain ⟨g, f, o, w, u, rfl⟩ := parked
    rfl
  have halted : p.lodger n = { s.lodger n with run := .halted } := by
    rw [State.lodger, lodgers]
    exact s.mapLodger_lodger_same n _
  have others (m : Fin 4) (hm : m ≠ n) : (p.orphanChannels n).lodger m = s.lodger m := by
    refine (State.mapLodger_lodger_ne _ n m _ hm).trans ((congrArg (vget · m) lodgers).trans ?_)
    exact s.mapLodger_lodger_ne n m _ hm
  have lodger : (p.orphanChannels n).lodger n = { s.lodger n with run := .halted, orphanWait := wait } := by rw [orphaned, halted]
  have mbx (m : Fin 4) : (p.orphanChannels n).mbx m = s.mbx m := by
    by_cases e : m = n
    · subst e
      rw [State.mbx, lodger, State.mbx]
    · rw [State.mbx, others m e, State.mbx]
  have chans : p.carder = s.carder := by
    obtain ⟨g, f, o, w, u, rfl⟩ := parked
    rfl
  refine ⟨?_, ?_, ?_, fun m hm => ?_, fun m _ _ => mbx m, fun h => ?_, faulted⟩
  · obtain ⟨g, f, o, w, u, rfl⟩ := parked
    rfl
  · obtain ⟨g, f, o, w, u, rfl⟩ := parked
    rfl
  · rw [mbx, lodger, State.mbx]
  · rw [mbx, others m hm, State.mbx]
  · rw [lodger]
    exact idle fun c => by rw [State.chan, chans]; exact h c

theorem State.faultSteps_stepped (s : State) (n : Fin 4) (restart : Nat) : s.Stepped n (s.faultSteps n restart) :=
  (State.Stepped.of_parked (s.haltedParked_frame n)
    (State.setCauses_faulted ((s.mapLodger n fun l => { l with run := .halted }).uartsOwnerHalted n) n)).aside
    ((State.faultKeys_aside _ n).trans (State.logEvent_quiet ..).aside)

end Sys2Proof.Machine
end

section
/-! PROOFS. The whole fault sequence of a Lodger, from its first step to its end or to the drains that it waits for (R68, R69, R213). -/

namespace Sys2Proof.Machine

/-! ### The Lodger's reset (R68 step 6) -/

/-- A Lodger that has been reset. -/
def Lodger.wiped (l : Lodger) : Lodger :=
  { l with token := 0x5A3C, fenceCnt := 0, faultAddr := 0, trap := none, wakeIrq := false, mbx := {} }

/-- Lodger `n` has been reset. -/
structure State.Wiped (s : State) (n : Fin 4) (t : State) : Prop where
  frame : t = { s with
    lodgers := t.lodgers, thm := t.thm, boot := t.boot, wbl := t.wbl, ledger := t.ledger, grd := t.grd, keys := t.keys
    uarts := t.uarts, svc := t.svc }
  cells : t.ledger.lines = s.ledger.lines
  lodger : t.lodger n = (s.lodger n).wiped
  others : ∀ m, m ≠ n → t.lodger m = s.lodger m
  comply : t.thm.comply.getLsbD n.val = false

/-- The Lodger's reset before its transmit mailbox and its exchange of the service port go. -/
def State.wipe (s : State) (n : Fin 4) : State :=
  ((s.mapLodger n Lodger.wiped).mapThm fun t => { t with comply := t.comply &&& ~~~(BitVec.ofNat 4 (2 ^ n.val)) }).mapBoot fun b =>
    { b with stager := if b.stager = some n then none else b.stager }

/-- R213: the reset takes the Lodger's compliance away. -/
theorem comply_cleared (m : BitVec 4) (n : Fin 4) : (m &&& ~~~(BitVec.ofNat 4 (2 ^ n.val))).getLsbD n.val = false := by
  revert m n
  decide

theorem State.resetLodger_wiped (s : State) (n : Fin 4) : s.Wiped n (s.resetLodger n) := by
  have reset : State.Quiet (s.wipe n) (s.resetLodger n) := (State.txmReset_quiet _ n).trans (State.appOwnerReset_quiet ..)
  refine ⟨?_, reset.cells, ?_, fun m hm => ?_, ?_⟩
  · rw [reset.frame]
    rfl
  · exact (congrArg (vget · n) reset.lodgers).trans (s.mapLodger_lodger_same n Lodger.wiped)
  · exact (congrArg (vget · m) reset.lodgers).trans (s.mapLodger_lodger_ne n m Lodger.wiped hm)
  · rw [reset.frame]
    exact comply_cleared _ n

/-! ### The sequence as a whole -/

/-- No channel is the Lodger's: then no drain is waited for. -/
def State.noChannel (s : State) (n : Fin 4) : Prop := ∀ c, (s.chan c).owner ≠ some n

/-- What a fault sequence of Lodger `n` leaves, whether its end has come or not. -/
structure State.FaultDone (s : State) (n : Fin 4) (t : State) : Prop where
  power : t.power = s.power
  sram : t.sram = s.sram
  cells : t.ledger.lines = s.ledger.lines
  comply : t.thm.comply.getLsbD n.val = false
  counts : (t.lodger n).expiryCnt = (s.lodger n).expiryCnt ∧ (t.lodger n).expiries = (s.lodger n).expiries
  reset : (t.lodger n).mbx = {} ∧ (t.lodger n).token = 0x5A3C ∧ (t.lodger n).regions = (s.lodger n).regions
  others : ∀ m, m ≠ n → (t.lodger m).run = (s.lodger m).run ∧ (t.lodger m).regions = (s.lodger m).regions
  owned : ∀ i, ownedBy n (s.outp i) = true → (t.outp i).inRest = true

/-- What the end of the sequence adds to it (R68 step 8, R69). -/
structure State.FaultOver (s : State) (n : Fin 4) (t : State) : Prop where
  started : (s.lodger n).holding = false → (t.lodger n).run = .running ∧ (t.lodger n).lastKick = s.now ∧
    ∀ i, ownedBy n (s.outp i) = true → (t.outp i).causes &&& RestCause.lodger.mask = 0
  held : (s.lodger n).holding = true → (t.lodger n).run = .held ∧
    ∀ i, ownedBy n (s.outp i) = true → (t.outp i).causes &&& RestCause.lodger.mask ≠ 0
  answered : ∀ m, m ≠ n → (s.mbx m).job = .restart n → t.mbx m = (s.mbx m).completed 0

/-- Steps 1 to 6 of the sequence. -/
def State.faultBegun (s : State) (n : Fin 4) (restart : Nat) : State := (s.faultSteps n restart).resetLodger n

section begun
variable (s : State) (n : Fin 4) (restart : Nat)

theorem State.faultBegun_lodger : ∃ wait, (s.faultBegun n restart).lodger n =
    { (s.lodger n).wiped with run := .halted, orphanWait := wait } ∧ (s.noChannel n → wait = []) := by
  have steps := s.faultSteps_stepped n restart
  refine ⟨_, ?_, steps.idle⟩
  rw [State.faultBegun, (State.resetLodger_wiped _ n).lodger, steps.lodger]
  rfl

theorem State.faultBegun_others {m : Fin 4} (hm : m ≠ n) :
    (s.faultBegun n restart).lodger m = { s.lodger m with mbx := (s.faultBegun n restart).mbx m } ∧
      ∀ k, (s.mbx m).job = .restart k → (s.faultBegun n restart).mbx m = s.mbx m := by
  have steps := s.faultSteps_stepped n restart
  have kept : (s.faultBegun n restart).lodger m = (s.faultSteps n restart).lodger m := (State.resetLodger_wiped _ n).others m hm
  refine ⟨?_, fun k hk => ?_⟩
  · rw [State.mbx, kept, steps.others m hm]
  · rw [State.mbx, kept]
    exact steps.waiting m k hk

theorem State.faultBegun_outp (i : Fin 30) (h : ownedBy n (s.outp i) = true) :
    (s.outp i).Faulted ((s.faultBegun n restart).outp i) := by
  have same : (s.faultBegun n restart).gate = (s.faultSteps n restart).gate := State.resetLodger_gate ..
  rw [State.outp_congr same]
  exact (s.faultSteps_stepped n restart).owned i h

theorem State.faultBegun_done : s.FaultDone n (s.faultBegun n restart) := by
  have steps := s.faultSteps_stepped n restart
  have wiped : State.Wiped _ n (s.faultBegun n restart) := State.resetLodger_wiped ..
  obtain ⟨wait, lodger, -⟩ := s.faultBegun_lodger n restart
  refine ⟨?_, ?_, wiped.cells.trans steps.cells, wiped.comply, ?_, ?_, fun m hm => ?_, fun i hi => (s.faultBegun_outp n restart i hi).inRest⟩
  · rw [wiped.frame, steps.frame]
  · rw [wiped.frame, steps.frame]
  · rw [lodger]
    exact ⟨rfl, rfl⟩
  · rw [lodger]
    exact ⟨rfl, rfl, rfl⟩
  · rw [(s.faultBegun_others n restart hm).1]
    exact ⟨rfl, rfl⟩

theorem State.faultBegun_now : (s.faultBegun n restart).now = s.now := by
  have wiped : State.Wiped _ n (s.faultBegun n restart) := State.resetLodger_wiped ..
  rw [wiped.frame, (s.faultSteps_stepped n restart).frame]

end begun

/-! ### Its end -/

theorem State.endFault_lodger (s : State) (n m : Fin 4) : (s.endFault n).lodger m = ((s.faultSettled n).lodger m).answered n := by
  rw [State.endFault_eq, State.restartsDone_lodger]

theorem State.endFault_outp (s : State) (n : Fin 4) (i : Fin 30) : (s.endFault n).outp i = (s.faultSettled n).outp i := by
  rw [State.endFault_eq, State.restartsDone_frame]
  rfl

theorem State.endFault_frame (s : State) (n : Fin 4) : s.endFault n = { s.faultSettled n with lodgers := (s.endFault n).lodgers } := by
  rw [State.endFault_eq]
  exact State.restartsDone_frame ..

/-- A Lodger that has been reset waits for no restart. -/
theorem State.endFault_lodger_same {s : State} {n : Fin 4} (h : (s.lodger n).mbx = {}) :
    (s.endFault n).lodger n = (s.lodger n).faultEnded s.now := by
  have free : ((s.lodger n).faultEnded s.now).mbx.job ≠ .restart n := by
    rw [Lodger.faultEnded]
    split <;> (dsimp only; rw [h]; nofun)
  rw [State.endFault_lodger, (s.faultSettled_resolved n).lodger]
  exact Lodger.answered_of_not free

/-- The end of a sequence keeps what its steps have done. -/
theorem State.FaultDone.ended {s u : State} {n : Fin 4} (h : s.FaultDone n u)
    (owned : ∀ i, ownedBy n (s.outp i) = true → (s.outp i).Faulted (u.outp i)) : s.FaultDone n (u.endFault n) := by
  have resolved := u.faultSettled_resolved n
  have settled := u.endFault_frame n
  have lodger := State.endFault_lodger_same h.reset.1
  refine ⟨?_, ?_, ?_, ?_, ?_, ?_, fun m hm => ?_, fun i hi => ?_⟩
  · rw [settled, resolved.frame]
    exact h.power
  · rw [settled, resolved.frame]
    exact h.sram
  · rw [settled]
    exact resolved.cells.trans h.cells
  · rw [settled, resolved.frame]
    exact h.comply
  · rw [lodger, Lodger.faultEnded]
    split <;> exact h.counts
  · rw [lodger, Lodger.faultEnded]
    split <;> exact h.reset
  · rw [State.endFault_lodger, resolved.others m hm, Lodger.answered_eq]
    exact h.others m hm
  · have mine := owned i hi
    rw [State.endFault_outp]
    cases hh : (u.lodger n).holding with
    | true => rw [resolved.kept hh]; exact mine.inRest
    | false => rw [resolved.cleared hh i (mine.ownedBy.trans hi)]; exact (mine.cleared hi).1

theorem State.faultBegun_over (s : State) (n : Fin 4) (restart : Nat) : s.FaultOver n ((s.faultBegun n restart).endFault n) := by
  have resolved := (s.faultBegun n restart).faultSettled_resolved n
  obtain ⟨wait, lodger, -⟩ := s.faultBegun_lodger n restart
  have holding : ((s.faultBegun n restart).lodger n).holding = (s.lodger n).holding := by rw [lodger]; rfl
  have ended : ((s.faultBegun n restart).endFault n).lodger n = ((s.faultBegun n restart).lodger n).faultEnded s.now := by
    rw [State.endFault_lodger_same (s.faultBegun_done n restart).reset.1, s.faultBegun_now]
  refine ⟨fun hh => ⟨?_, ?_, fun i hi => ?_⟩, fun hh => ⟨?_, fun i hi => ?_⟩, fun m hm job => ?_⟩
  · rw [ended, Lodger.faultEnded, if_neg (by rw [holding, hh]; decide)]
  · rw [ended, Lodger.faultEnded, if_neg (by rw [holding, hh]; decide)]
  · have mine := s.faultBegun_outp n restart i hi
    rw [State.endFault_outp, resolved.cleared (holding.trans hh) i (mine.ownedBy.trans hi)]
    exact (mine.cleared hi).2
  · rw [ended, Lodger.faultEnded, if_pos (holding.trans hh)]
  · have mine := s.faultBegun_outp n restart i hi
    rw [State.endFault_outp, resolved.kept (holding.trans hh) i, mine.cause]
    decide
  · obtain ⟨-, waiting⟩ := s.faultBegun_others n restart hm
    have same := waiting n job
    rw [State.mbx, State.endFault_lodger, resolved.others m hm]
    exact (congrArg Lodger.mbx (Lodger.answered_of_waiting (l := (s.faultBegun n restart).lodger m) (by
      rw [← job, ← same, State.mbx]))).trans (congrArg (Mailbox.completed · 0) same)

/-- R68, R69: the sequence, and its end where the Lodger has no channel. -/
theorem State.lodgerFault_done (s : State) (n : Fin 4) (restart : Nat) :
    s.FaultDone n (s.lodgerFault n restart) ∧ (s.noChannel n → s.FaultOver n (s.lodgerFault n restart)) := by
  have step : s.lodgerFault n restart = (s.faultBegun n restart).orphanResolve n := rfl
  have begun := s.faultBegun_done n restart
  rw [step, State.orphanResolve]
  by_cases h : (decide (((s.faultBegun n restart).lodger n).run = .halted) && (s.faultBegun n restart).orphansDrained n) = true
  · rw [if_pos h]
    exact ⟨begun.ended (s.faultBegun_outp n restart), fun _ => s.faultBegun_over n restart⟩
  · rw [if_neg h]
    refine ⟨begun, fun idle => absurd ?_ h⟩
    obtain ⟨wait, lodger, none⟩ := s.faultBegun_lodger n restart
    simp [State.orphansDrained, lodger, none idle]

end Sys2Proof.Machine
end

section
/-! PROOFS. The Lodger watchdogs: the statement (R58, R59, R60, R68, R69, R88, R89). -/

namespace Sys2Proof.Machine

/-! ### Ledger lines that the Innkeeper waits for (R143, R149, R374) -/

/-- Records end and requests complete; of the Lodgers only mailboxes change. -/
structure State.Serviced (s t : State) : Prop where
  frame : t = { s with
    gate := t.gate, fans := t.fans, out := t.out, wbl := t.wbl, ledger := t.ledger, grd := t.grd, keys := t.keys
    lodgers := t.lodgers, uarts := t.uarts, svc := t.svc }
  lodgers : ∀ m, t.lodger m = { s.lodger m with mbx := t.mbx m }

theorem State.Aside.serviced {s t : State} (h : State.Aside s t) : State.Serviced s t := ⟨h.frame, h.lodgers⟩

namespace State.Serviced

variable {s t u : State}

theorem refl (s : State) : State.Serviced s s := (State.Aside.refl s).serviced

theorem trans (h : State.Serviced s t) (h' : State.Serviced t u) : State.Serviced s u :=
  ⟨by rw [h'.frame, h.frame], fun m => by rw [h'.lodgers, h.lodgers]⟩

theorem of_ledger (s : State) (f : Ledger → Ledger) : State.Serviced s (s.mapLedger f) := ⟨rfl, fun _ => rfl⟩

theorem of_mbx (s : State) (n : Fin 4) (f : Mailbox → Mailbox) : State.Serviced s (s.mapMbx n f) := by
  obtain ⟨others, own⟩ := s.mapMbx_onlyMbx n f
  refine ⟨rfl, fun m => ?_⟩
  by_cases e : m = n
  · rw [e]
    exact own
  · rw [State.mbx, others m e]

theorem of_lodgers {s t : State} (h : t = { s with gate := t.gate, fans := t.fans, out := t.out, wbl := t.wbl, ledger := t.ledger })
    : State.Serviced s t := by
  have lodgers : t.lodgers = s.lodgers := by rw [h]
  exact ⟨by rw [h], fun m => by rw [State.mbx_congr lodgers, State.lodger, lodgers]; rfl⟩

theorem run (h : State.Serviced s t) (m : Fin 4) : (t.lodger m).run = (s.lodger m).run := by rw [h.lodgers]

end State.Serviced

theorem State.mbxOnLine_serviced (s : State) (line : Nat) (data : Line) : State.Serviced s (s.mbxOnLine line data) := by
  refine foldl_keeps .refl .trans (fun s n => ?_) _ s
  have done (u : State) (result : Nat) : State.Serviced u (u.mbxDone n result) := .of_mbx u n fun m => m.completed result
  have answered (w : Word) : State.Serviced s (s.mbxRes0 n w) := .of_mbx s n fun m => { m with res := vset m.res 0 w }
  split
  · split
    · split
      · exact (answered _).trans (done _ _)
      · exact done s _
    · exact .refl s
  · exact .refl s

theorem State.refill_serviced (s : State) : State.Serviced s s.refill := by
  unfold State.refill
  split
  · exact .refl s
  · split
    · have sent := State.bufferLine_linesSent
      exact (State.Serviced.of_ledger s _).trans (.of_lodgers (by rw [(sent _ _).frame]))
    · exact .refl s

theorem State.writeOldest_serviced (s : State) : State.Serviced s s.writeOldest := by
  unfold State.writeOldest
  split
  · exact .refl s
  · have written (u : State) (f : Ledger → Ledger) (line : Nat) (data : Line) : State.Serviced u ((u.mapLedger f).writeCells line data) :=
      ⟨rfl, fun _ => rfl⟩
    dsimp only
    split
    · exact (((written ..).trans (State.recDone_aside ..).serviced).trans (State.mbxOnLine_serviced ..)).trans (State.refill_serviced _)
    · exact ((written ..).trans (State.mbxOnLine_serviced ..)).trans (State.refill_serviced _)

theorem State.recordResume_serviced (s : State) : State.Serviced s s.recordResume := by
  unfold State.recordResume
  split
  · exact ((s.mapWbl_quiet _).trans (State.inkRec_quiet ..)).aside.serviced
  · exact .refl s

theorem State.drain_serviced (k : Nat) (s : State) : State.Serviced s (State.drain k s) := by
  induction k generalizing s with
  | zero => exact .refl s
  | succ k ih =>
    unfold State.drain
    split
    · exact s.writeOldest_serviced.trans (ih _)
    · exact s.recordResume_serviced.trans (ih _)
    · exact .refl s

theorem State.drained_serviced (s : State) : State.Serviced s s.drained := by
  unfold State.drained
  split
  · exact State.drain_serviced ..
  · exact .refl _

theorem State.lineSoon_serviced (s : State) (line : Nat) (data : Line) : State.Serviced s (s.lineSoon line data) :=
  (s.inkRec_quiet 4 _).aside.serviced.trans (State.drained_serviced _)

/-- The boot record is written: beside its line, one draw of its layout. -/
theorem State.bootLine_serviced (s : State) : State.Serviced (s.mapDraws (· + 1)) s.bootLine := State.lineSoon_serviced ..

/-! ### An expiry (R60, R68, R69, R89) -/

/-- The expiry as it is counted: the times of the last 60 min, the hold after the third, and LDG_WDOG. -/
def State.expiryCounted (s : State) (n : Fin 4) : State :=
  (s.mapLodger n fun l => { l with
      expiryCnt := satInc 15 l.expiryCnt, expiries := s.now :: recentExpiries s.now (s.lodger n).expiries
      holding := decide (3 ≤ (s.now :: recentExpiries s.now (s.lodger n).expiries).length) }).mapPower fun p =>
    { p with ldgWdog := p.ldgWdog ||| BitVec.ofNat 4 (2 ^ n.val) }

theorem State.expiryCounted_lodger (s : State) (n : Fin 4) : (s.expiryCounted n).lodger n = { s.lodger n with
    expiryCnt := satInc 15 (s.lodger n).expiryCnt, expiries := s.now :: recentExpiries s.now (s.lodger n).expiries
    holding := decide (3 ≤ (s.now :: recentExpiries s.now (s.lodger n).expiries).length) } := s.mapLodger_lodger_same n _

theorem State.expiryCounted_lodger_ne (s : State) {n m : Fin 4} (h : m ≠ n) : (s.expiryCounted n).lodger m = s.lodger m :=
  s.mapLodger_lodger_ne n m _ h

/-- Outside a trial an expiry is the fault sequence. -/
theorem State.expiry_of_no_trial {s : State} (h : s.boot.trial = false) (n : Fin 4) :
    s.expiry n = (s.expiryCounted n).lodgerFault n 0 := if_neg (Bool.eq_false_iff.mp h)

/-- In a trial the device resets after step 5 (R89). -/
theorem State.expiry_of_trial {s : State} (h : s.boot.trial = true) (n : Fin 4) :
    s.expiry n = ((s.expiryCounted n).faultSteps n 0).trialReverted.inkReset := if_pos h

/-- A slot as the end of its trial leaves it (R89). -/
def SlotRec.reverted (r : SlotRec) : SlotRec := if r.state = .trial then { state := .rejected, attempts := 0, code := 15 } else r

theorem State.trialReverted_kept (s : State) : s.trialReverted.power = s.power ∧ s.trialReverted.sram = s.sram ∧
    s.trialReverted.boot = { s.boot with slotA := s.boot.slotA.reverted, slotB := s.boot.slotB.reverted } := by
  have line : State.Serviced ((s.mapBoot fun b => { b with slotA := b.slotA.reverted, slotB := b.slotB.reverted }).mapDraws (· + 1))
    s.trialReverted := State.bootLine_serviced _
  rw [line.frame]
  exact ⟨rfl, rfl, rfl⟩

theorem State.expiry_reset {s : State} (h : s.boot.trial = true) (n : Fin 4) :
    (s.expiry n).power.phase = (if s.power.testHigh then .test else .reset) ∧
      (s.expiry n).power.latchedCauses.getLsbD 5 = true ∧ (s.expiry n).boot.nor = s.boot.nor ∧
      (s.expiry n).boot.slotA = s.boot.slotA.reverted ∧ (s.expiry n).boot.slotB = s.boot.slotB.reverted ∧
      sramKept s (s.expiry n) := by
  have steps := (s.expiryCounted n).faultSteps_stepped n 0
  obtain ⟨power, sram, boot⟩ := ((s.expiryCounted n).faultSteps n 0).trialReverted_kept
  rw [State.expiry_of_trial h]
  generalize (s.expiryCounted n).faultSteps n 0 = t at *
  have stepPower : t.power = (s.expiryCounted n).power := by rw [steps.frame]
  have stepSram : t.sram = s.sram := by rw [steps.frame]; rfl
  have stepBoot : t.boot = s.boot := by rw [steps.frame]; rfl
  rw [stepPower] at power
  rw [stepSram] at sram
  rw [stepBoot] at boot
  have reset : t.trialReverted.inkReset = t.trialReverted.resetWith 32 := rfl
  have kept : sramKept s t.trialReverted := .of_sram sram
  obtain ⟨phase, latched, -⟩ := t.trialReverted.resetWith_resetTo 32
  have nor := congrArg Boot.nor boot
  have slotA := congrArg Boot.slotA boot
  have slotB := congrArg Boot.slotB boot
  rw [reset]
  refine ⟨phase.trans (by rw [power]; rfl), ?_, nor, slotA, slotB, kept.trans (State.resetWith_sramKept _ _)⟩
  rw [latched]
  simp

/-- A fault sequence that has been counted as an expiry (R60, R68, R69). -/
theorem State.expiry_done {s : State} (h : s.boot.trial = false) (n : Fin 4) :
    (s.expiryCounted n).FaultDone n (s.expiry n) ∧ ((s.expiryCounted n).noChannel n → (s.expiryCounted n).FaultOver n (s.expiry n)) := by
  rw [State.expiry_of_no_trial h]
  exact State.lodgerFault_done ..

/-! ### A kick (R58, R59) -/

theorem exec_inkLdgKick {s : State} {n b : Fin 4} {user : Bool} (h : s.may n user .store (blockBase b + 0x84)) (v : BitVec 16) :
    exec (.inkLdgKick n user b v) s = .next ((s.answer 0).kick b v) := by
  simp only [exec, execInkLdgKick, State.access_lodger h]

theorem State.kick_idle {s : State} {b : Fin 4} (h : (s.lodger b).run ≠ .running) (v : BitVec 16) : s.kick b v = s := if_pos h

theorem State.kick_expiry {s : State} {b : Fin 4} {v : BitVec 16} (h : (s.lodger b).run = .running)
    (bad : v ≠ ~~~(s.lodger b).token ∨ 4 * (s.now - (s.lodger b).lastKick) < 1000 * (s.lodger b).timeout) :
    s.kick b v = s.expiry b := (if_neg (not_not.mpr h)).trans (if_pos bad)

theorem State.kick_good {s : State} {b : Fin 4} {v : BitVec 16} (h : (s.lodger b).run = .running) (hv : v = ~~~(s.lodger b).token)
    (ht : 1000 * (s.lodger b).timeout ≤ 4 * (s.now - (s.lodger b).lastKick)) :
    s.kick b v = (s.mapDraws (· + 1)).mapLodger b fun l =>
      { l with token := Config.freshToken s.draws, lastKick := s.now, timeout := l.timeoutNext } :=
  (if_neg (not_not.mpr h)).trans (if_neg (not_or.mpr ⟨not_not.mpr hv, not_lt.mpr ht⟩))

/-! ### LODGER_RESTART (R213, Table 02-2) -/

theorem exec_lodgerRestart {s : State} {n : Fin 4} {user : Bool} (h : s.ready n user) (seq : Byte) (x : Nat) :
    exec (.lodgerRestart n user seq x) s = .next ((s.taken n seq.toNat 0x09 [x]).serveRestart n) := by
  simp only [exec, execLodgerRestart, State.mbxCommand_ready h]

theorem State.serveRestart_none {s : State} {n : Fin 4} (h : 4 ≤ s.mbxArg n 0 ∨ s.mbxArg n 0 = n.val) :
    s.serveRestart n = s.mbxDone n 2 := by
  obtain h | h := h
  · have none : idx? 4 (s.mbxArg n 0) = none := dif_neg (not_lt.mpr h)
    simp only [State.serveRestart, none]
  · simp only [State.serveRestart, h, idx_of_fin, if_true]

/-- The request of `n` to restart `m` waits for the end of the sequence. -/
def State.restartAsked (s : State) (n m : Fin 4) : State := s.mapMbx n fun b => { b with job := .restart m }

section restart
variable {s : State} {n m : Fin 4} (arg : s.mbxArg n 0 = m.val) (other : m ≠ n)
include arg other

theorem State.serveRestart_stopped (h : (s.lodger m).run = .stopped) : s.serveRestart n = s.mbxDone n 3 := by
  simp only [State.serveRestart, arg, idx_of_fin, other, if_false, h]

theorem State.serveRestart_running (h : (s.lodger m).run = .running) :
    s.serveRestart n = (s.restartAsked n m).lodgerFault m 1 := by
  simp only [State.serveRestart, arg, idx_of_fin, other, if_false, h, State.restartAsked]

end restart

/-- A Lodger without channels that is not to be held has been restarted, and the request has completed. -/
theorem State.restartAsked_done {s : State} {n m : Fin 4} (other : m ≠ n) (hhold : (s.lodger m).holding = false)
    (idle : s.noChannel m) {t : State} (ht : t = (s.restartAsked n m).lodgerFault m 1) :
    t.mbx n = ({ s.mbx n with job := .restart m } : Mailbox).completed 0 ∧ (t.lodger m).run = .running ∧
      (t.lodger m).lastKick = s.now ∧ (t.lodger m).mbx = {} ∧ (t.lodger m).expiryCnt = (s.lodger m).expiryCnt ∧
      t.power = s.power ∧ t.sram = s.sram := by
  have same : (s.restartAsked n m).lodger m = s.lodger m := s.mapMbx_lodger_ne other _
  have waits : (s.restartAsked n m).mbx n = { s.mbx n with job := .restart m } := s.mapMbx_mbx_same n _
  obtain ⟨done, ended⟩ := (s.restartAsked n m).lodgerFault_done m 1
  obtain ⟨run, kicked, -⟩ := (ended idle).started (by rw [same, hhold])
  have answered := (ended idle).answered n other.symm (by rw [waits])
  rw [← ht] at *
  rw [waits] at answered
  exact ⟨answered, run, kicked, done.reset.1, done.counts.1.trans (congrArg Lodger.expiryCnt same), done.power, done.sram⟩

/-! ### The end of a trial (R88) -/

/-- A slot as the confirmation leaves it. -/
def SlotRec.confirmed (r : SlotRec) : SlotRec :=
  match r.state with
  | .trial => { r with state := .active, attempts := 0 }
  | .active => { r with state := .inactive }
  | _ => r

/-- The trial is confirmed, before the boot record is written. -/
def State.trialEnded (s : State) : State :=
  s.mapBoot fun b => { b with slotA := b.slotA.confirmed, slotB := b.slotB.confirmed, trial := false, trialLeft := 0 }

theorem State.confirmed_iff (s : State) : s.confirmed = true ↔
    ∀ n : Fin 4, (s.image.getD {}).startMask.testBit n.val = true ∨ (s.lodger n).run ≠ .stopped →
      (s.lodger n).run = .running ∧ (s.lodger n).startedAt + 1000000 * (s.image.getD {}).confirm ≤ s.now := by
  simp only [State.confirmed, List.all_eq_true, List.mem_finRange, true_implies]
  refine forall_congr' fun n => ?_
  by_cases h : (s.image.getD {}).startMask.testBit n.val = true ∨ (s.lodger n).run ≠ .stopped
  · simp [h]
  · simp [h]

/-! ### The statement -/

/-- Settles O56: what an expiry and a restart leave is read off the fault sequence (`lodgerFault_done`) and its end
(`faultSettled_resolved`); in a trial it is the reset's (`expiry_reset`). -/
theorem lodgerWatchdogs : Obligations.LodgerWatchdogs := by
  unfold Obligations.LodgerWatchdogs
  intro idle reverted expired
  have expires (s : State) (n : Fin 4) : expired s n (s.expiry n) := by
    refine ⟨fun h => State.expiry_reset h n, fun h => ?_⟩
    obtain ⟨done, atEnd⟩ := State.expiry_done h n
    obtain ⟨cnt, times⟩ := done.counts
    obtain ⟨mbx, token, regions⟩ := done.reset
    have counted := s.expiryCounted_lodger n
    have mine (i : Fin 30) (ho : (s.outp i).owner = .lodger) (hid : (s.outp i).ownerId = n.val) :
        ownedBy n ((s.expiryCounted n).outp i) = true := ownedBy_iff.mpr ⟨ho, hid⟩
    refine ⟨cnt.trans (congrArg Lodger.expiryCnt counted), times.trans (congrArg Lodger.expiries counted), done.power, mbx, token,
      regions.trans (by rw [counted]), done.comply, done.sram, done.cells, fun m hm => ?_,
      fun i ho hid => done.owned i (mine i ho hid), fun hidle => ⟨fun hfew => ?_, fun hmany => ?_⟩⟩
    · obtain ⟨run, regions⟩ := done.others m hm
      rw [s.expiryCounted_lodger_ne hm] at run regions
      exact ⟨run, regions⟩
    · obtain ⟨run, kicked, clear⟩ := (atEnd hidle).started (by rw [counted]; exact decide_eq_false (not_le.mpr hfew))
      exact ⟨run, kicked, fun i ho hid => clear i (mine i ho hid)⟩
    · obtain ⟨run, stand⟩ := (atEnd hidle).held (by rw [counted]; exact decide_eq_true hmany)
      exact ⟨run, fun i ho hid => stand i (mine i ho hid)⟩
  refine ⟨fun s n b user v h => ⟨fun hrun => ?idleKick, fun hrun hv ht => ?goodKick, fun hrun bad => ?badKick⟩,
    fun s n hawake => ⟨fun hrun => ?expiry, fun hrun => ?noExpiry⟩,
    fun s n => ⟨fun hrun => ?notHalted, fun hrun hdrain => ?draining, fun hrun hdrain => ?resolved⟩,
    fun s n m user seq h => ⟨fun x hx hbad => ?noLodger, fun other hrun => ?stopped, fun other hrun hhold hidle => ?restarted⟩,
    fun s => ⟨fun htrial => ?noTrial, fun hconf => ?unconfirmed, s.confirmed_iff, fun hlive htrial hconf => ?confirmed⟩⟩
  case idleKick =>
    rw [exec_inkLdgKick h, State.kick_idle (s := s.answer 0) hrun]
    rfl
  case goodKick =>
    rw [exec_inkLdgKick h, State.kick_good (s := s.answer 0) hrun hv ht]
    rfl
  case badKick =>
    rw [exec_inkLdgKick h, State.kick_expiry (s := s.answer 0) hrun bad]
    exact ⟨_, rfl, expires (s.answer 0) b⟩
  case expiry =>
    have step : exec (.lodgerWdogExpiry n) s = .next (s.expiry n) := by
      simp [exec, execLodgerWdogExpiry, hawake, hrun]
    exact ⟨_, step, expires s n⟩
  case noExpiry => simp [exec, execLodgerWdogExpiry, hrun]
  case notHalted => simp [exec, execOrphanResolve, State.orphanResolve, hrun]
  case draining => simp [exec, execOrphanResolve, State.orphanResolve, hdrain]
  case resolved =>
    have step : exec (.orphanResolve n) s = .next (s.endFault n) := by
      simp [exec, execOrphanResolve, State.orphanResolve, hrun, hdrain]
    have atEnd := s.faultSettled_resolved n
    have lodger : (s.endFault n).lodger n = ((s.lodger n).faultEnded s.now).answered n := by rw [State.endFault_lodger, atEnd.lodger]
    rw [Lodger.answered_eq] at lodger
    refine ⟨_, step, ?_, fun m hm => ?_, fun c hc => ?_, fun hhold => ?_, fun hhold => ?_⟩
    · rw [lodger, Lodger.faultEnded]
      split <;> rfl
    · rw [State.endFault_lodger, atEnd.others m hm, Lodger.answered_eq]
    · rw [State.endFault_frame]
      exact atEnd.channels c hc
    · rw [lodger, Lodger.faultEnded, if_neg (Bool.eq_false_iff.mp hhold)]
      exact ⟨rfl, rfl⟩
    · rw [lodger, Lodger.faultEnded, if_pos hhold]
  case noLodger =>
    have arg : (s.taken n seq.toNat 0x09 [x]).mbxArg n 0 = x := State.taken_mbxArg h _ _ rfl hx
    rw [exec_lodgerRestart h, State.serveRestart_none (by rw [arg]; exact hbad)]
    exact ⟨_, rfl, State.taken_done h _ _ _ 2⟩
  case stopped =>
    have arg : (s.taken n seq.toNat 0x09 [m.val]).mbxArg n 0 = m.val := State.taken_mbxArg h _ _ rfl (by omega)
    have run : ((s.taken n seq.toNat 0x09 [m.val]).lodger m).run = .stopped := by
      rw [(State.taken_onlyMbx h _ _ _).1 m other, hrun]
    rw [exec_lodgerRestart h, State.serveRestart_stopped arg other run]
    exact ⟨_, rfl, State.taken_done h _ _ _ 3⟩
  case restarted =>
    have arg : (s.taken n seq.toNat 0x09 [m.val]).mbxArg n 0 = m.val := State.taken_mbxArg h _ _ rfl (by omega)
    have same : (s.taken n seq.toNat 0x09 [m.val]).lodger m = s.lodger m := (State.taken_onlyMbx h _ _ _).1 m other
    rw [exec_lodgerRestart h, State.serveRestart_running arg other (by rw [same, hrun])]
    obtain ⟨mbx, run, kicked, wiped, count, power, sram⟩ := State.restartAsked_done other (s := s.taken n seq.toNat 0x09 [m.val])
      (by rw [same, hhold]) (by rw [State.taken_eq h]; exact hidle) rfl
    rw [State.taken_mbx h] at mbx
    refine ⟨_, rfl, ?_, run, kicked.trans (State.taken_now h _ _ _), wiped, by rw [count, same], ?_, ?_⟩
    · rw [State.served, mbx]
      exact ⟨rfl, rfl, rfl, rfl⟩
    · rw [power, State.taken_eq h]
    · rw [sram, State.taken_eq h]
  case noTrial => simp [exec, execTrialConfirm, State.trialConfirm, htrial]
  case unconfirmed => simp [exec, execTrialConfirm, State.trialConfirm, hconf]
  case confirmed =>
    have step : exec .trialConfirm s = .next s.trialEnded.bootLine := by
      simp only [exec, execTrialConfirm, State.trialConfirm, hlive, htrial, hconf, Bool.and_self, if_true]
      rfl
    have line := s.trialEnded.bootLine_serviced
    have boot : s.trialEnded.bootLine.boot = s.trialEnded.boot := by rw [line.frame]; rfl
    have power : s.trialEnded.bootLine.power = s.power := by rw [line.frame]; rfl
    exact ⟨_, step, by rw [boot]; rfl, by rw [boot]; rfl, by rw [boot]; rfl, power, line.run, State.bootLine_gate _⟩

end Sys2Proof.Machine
end

section
/-! PROOFS. Off and the power-fail sequence: what a fetch of bursts, the halt of the blocks, the lines of a flush and the entry to Off
leave (Table 05-6, Table 11-9, R158, R160, R161, R190, R197). -/

namespace Sys2Proof.Machine

/-! ### Bursts fetched to their end (R158) -/

/-- Only main SRAM and the registers about it may have changed. -/
def State.FetchFrame (s t : State) : Prop := t = { s with sram := t.sram, mem := t.mem }

theorem State.FetchFrame.refl (s : State) : State.FetchFrame s s := rfl

theorem State.FetchFrame.trans {s t u : State} (h : State.FetchFrame s t) (h' : State.FetchFrame t u) : State.FetchFrame s u := by
  rw [State.FetchFrame] at *
  rw [h', h]

theorem State.noteWord_fetchFrame (s : State) (who : Requester) (w : Nat) (c : WordState) :
    State.FetchFrame s (s.noteWord who w c) := by
  cases c with
  | good =>
    simp only [State.noteWord, State.correctWord]
    split <;> rfl
  | unwritten => rfl
  | uncorrectable => rfl

theorem State.fetchBeat_fetchFrame (s : State) (c : Fin 24) (addr : Nat) : State.FetchFrame s (s.fetchBeat c addr) := by
  unfold State.fetchBeat
  split
  · exact s.noteWord_fetchFrame _ _ _
  · split
    · simp only [State.ledgerWord]
      split <;> rfl
    · exact .refl s

theorem State.fetchRest_fetchFrame (s : State) : State.FetchFrame s s.fetchRest :=
  foldl_keeps .refl .trans (fun s c => foldl_keeps .refl .trans (fun s a => s.fetchBeat_fetchFrame c a) _ s) _ s

section fetched
variable (s : State)
@[simp] theorem State.fetchRest_now : s.fetchRest.now = s.now := by rw [s.fetchRest_fetchFrame]
@[simp] theorem State.fetchRest_power : s.fetchRest.power = s.power := by rw [s.fetchRest_fetchFrame]
@[simp] theorem State.fetchRest_boot : s.fetchRest.boot = s.boot := by rw [s.fetchRest_fetchFrame]
@[simp] theorem State.fetchRest_ledger : s.fetchRest.ledger = s.ledger := by rw [s.fetchRest_fetchFrame]
@[simp] theorem State.fetchRest_wbl : s.fetchRest.wbl = s.wbl := by rw [s.fetchRest_fetchFrame]
@[simp] theorem State.fetchRest_thm : s.fetchRest.thm = s.thm := by rw [s.fetchRest_fetchFrame]
@[simp] theorem State.fetchRest_lodgers : s.fetchRest.lodgers = s.lodgers := by rw [s.fetchRest_fetchFrame]
end fetched

theorem Sram.eq_empty {m : Sram} (cells : m.cells = []) (tags : m.tags = []) (singles : m.singles = []) (doubles : m.doubles = []) :
    m = {} := by
  cases m
  subst cells tags singles doubles
  rfl

/-- Main SRAM without supply holds nothing that a reset could keep. -/
theorem sramKept.empty {s t : State} (h : sramKept s t) (hs : s.sram = {}) : t.sram = {} := by
  obtain ⟨hcells, htags, hdoubles, hsingles⟩ := h
  rw [hs] at hcells htags hdoubles hsingles
  have singles : t.sram.singles = [] := List.eq_nil_iff_forall_not_mem.mpr fun w hw => List.not_mem_nil (hsingles w hw)
  exact Sram.eq_empty hcells htags singles hdoubles

/-! ### The blocks halted, and the sequence up to its checks (Table 05-6 steps 2 to 5) -/

/-- The blocks halt: the Lodgers stop, the charger is off, and the memories, the ring and the temperatures stay. -/
structure State.BlocksHalted (s t : State) : Prop where
  run : ∀ n, (t.lodger n).run = .stopped
  power : t.power = { s.power with chg := 0 }
  boot : t.boot = s.boot
  ledger : t.ledger = s.ledger
  wbl : t.wbl = s.wbl
  thm : t.thm = s.thm
  now : t.now = s.now
  sram : sramKept s t

theorem State.haltBlocks_halted (s : State) : State.BlocksHalted s s.haltBlocks := by
  refine ⟨fun n => ?run, ?power, ?boot, ?ledger, ?wbl, ?thm, ?now, ?sram⟩
  case run =>
    simp only [State.haltBlocks, State.carderHalt, State.lodger]
    simp [vget_map]
  case sram =>
    have stopped : sramKept s ((s.mapLodgers fun l => l.map fun x => { x with run := .stopped }).mapLoops fun l =>
      { l with running := false }) := .of_sram rfl
    refine (stopped.trans (State.fetchRest_sramKept _)).trans (.of_sram ?_)
    simp [State.haltBlocks, State.carderHalt]
  all_goals simp [State.haltBlocks, State.carderHalt]

theorem State.holdTestFails_wear (s : State) : ∃ w, s.holdTestFails = { s with wear := w } := by
  unfold State.holdTestFails
  split <;> exact ⟨_, rfl⟩

/-- The device in the power-fail sequence, before the checks of step 5. -/
def State.failed (s : State) : State :=
  let t := (s.gateBlank 4).haltBlocks.holdTestFails.mapGrd Grd.halt
  t.mapPower fun p => { p with failedAt := t.now }

/-- Steps 2 to 4: every output is Blank, the Lodgers are stopped, and the memories stay. -/
structure State.FailBegun (s t : State) : Prop where
  blank : t.gate.blank = true
  cause : t.gate.blankCause = 4
  applied : ∀ i, (t.outp i).applied = 0
  run : ∀ n, (t.lodger n).run = .stopped
  power : t.power = { s.power with chg := 0, failedAt := s.now }
  boot : t.boot = s.boot
  ledger : t.ledger = s.ledger
  wbl : t.wbl = s.wbl
  thm : t.thm = s.thm
  sram : sramKept s t

theorem State.failed_begun (s : State) : State.FailBegun s s.failed := by
  obtain ⟨blank, cause, -, applied⟩ := s.gateBlank_gate 4
  have frame := s.gateBlank_frame 4
  rw [State.FanFrame] at frame
  have blanked : sramKept s (s.gateBlank 4) := .of_sram (by rw [frame])
  obtain ⟨run, power, boot, ledger, wbl, thm, now, sram⟩ := (s.gateBlank 4).haltBlocks_halted
  have gate := (s.gateBlank 4).haltBlocks_gate
  obtain ⟨wear, tested⟩ := (s.gateBlank 4).haltBlocks.holdTestFails_wear
  simp only [State.failed, tested]
  generalize (s.gateBlank 4).haltBlocks = halted at *
  exact {
    blank := (congrArg Gate.blank gate).trans blank
    cause := (congrArg Gate.blankCause gate).trans cause
    applied := fun i => (congrArg Output.applied (State.outp_congr gate i)).trans (applied i)
    run := run
    power := (congrArg₂ (fun (p : Power) n => { p with failedAt := n }) power now).trans (by rw [frame])
    boot := boot.trans (by rw [frame])
    ledger := ledger.trans (by rw [frame])
    wbl := wbl.trans (by rw [frame])
    thm := thm.trans (by rw [frame])
    sram := blanked.trans (sram.trans (.of_sram rfl)) }

theorem State.failFrom2_eq (s : State) : s.failFrom2 =
    if !s.live then s.failed.enterOff
    else if !s.failed.power.holdOk then (s.failed.flushResult 2 0).enterOff
    else if !s.failed.windowOpen then (s.failed.flushResult 3 0).enterOff
    else s.failed.mapPower fun p => { p with phase := .flushing, flushRuns := true, pllLock := 0 } := rfl

/-- A trip before step 13 of boot goes straight to Off (R124). -/
theorem State.failFrom2_boot {s : State} (h : s.live = false) : s.failFrom2 = s.failed.enterOff := by
  rw [State.failFrom2_eq, h, Bool.not_false, if_pos rfl]

/-- In a running device each check of step 5 decides (R197). -/
theorem State.failFrom2_live {s : State} (h : s.live = true) : s.failFrom2 =
    if s.power.holdOk = false then (s.failed.flushResult 2 0).enterOff
    else if s.windowOpen = false then (s.failed.flushResult 3 0).enterOff
    else s.failed.mapPower fun p => { p with phase := .flushing, flushRuns := true, pllLock := 0 } := by
  have begun := s.failed_begun
  have hold : s.failed.power.holdOk = s.power.holdOk := by rw [begun.power]
  have window : s.failed.windowOpen = s.windowOpen := by rw [State.windowOpen, begun.thm, State.windowOpen]
  simp only [State.failFrom2_eq, h, hold, window, Bool.not_true, Bool.false_eq_true, if_false, Bool.not_eq_true']

/-! ### Off (Table 05-6 step 7, R190, R198) -/

/-- Off, before the device wakes at once where VIO is present. -/
def State.inOff (s : State) : State :=
  let s := s.mapPower fun p => { p with phase := .off, offWake := true, flushRuns := false, pllLock := 0 }
  { s.resetWith 0 with power := s.power, sram := {}, svc := { prev := s.svc.prev } }

/-- R190, R223, R602: the device wakes as soon as it is in Off. -/
def Power.wakesAtOnce (p : Power) : Bool := p.vioOk && !p.offCmd && !p.thmLatch

theorem State.enterOff_eq (s : State) : s.enterOff = if s.power.wakesAtOnce then s.inOff.wakeOff 4 else s.inOff := rfl

theorem State.wakeOff_resetTo (s : State) (src : Nat) : resetTo s 1 (s.wakeOff src) :=
  State.resetWith_resetTo (s.mapPower fun p => { p with npWakeSrc := BitVec.ofNat 16 (2 ^ src), offCmd := false }) 1

/-- What the entry to Off leaves, whether or not the device wakes at once. -/
structure State.OffEntered (s t : State) : Prop where
  sram : t.sram = {}
  gate : t.gate = {}
  lodgers : t.lodgers = Vector.replicate 4 {}
  cells : t.ledger.lines = s.ledger.lines
  nor : t.boot.nor = s.boot.nor
  result : t.wbl.flushResult = s.wbl.flushResult
  count : t.wbl.flushCount = s.wbl.flushCount
  offWake : t.power.offWake = true
  supplies : t.power.vioOk = s.power.vioOk ∧ t.power.vaOk = s.power.vaOk ∧ t.power.vaoOk = s.power.vaoOk ∧
    t.power.vgdOk = s.power.vgdOk ∧ t.power.holdOk = s.power.holdOk
  stays : s.power.wakesAtOnce = false → t.power.phase = .off
  wakes : s.power.wakesAtOnce = true → t.power.phase = (if s.power.testHigh then .test else .reset) ∧
    t.power.latchedCauses = s.power.latchedCauses ||| 1 ∧ t.power.npWakeSrc = 16

theorem State.enterOff_entered (s : State) : s.OffEntered s.enterOff := by
  rw [State.enterOff_eq]
  cases h : s.power.wakesAtOnce with
  | false =>
    exact {
      sram := rfl, gate := rfl, lodgers := rfl, cells := rfl, nor := rfl, result := rfl, count := rfl, offWake := rfl
      supplies := ⟨rfl, rfl, rfl, rfl, rfl⟩
      stays := fun _ => rfl
      wakes := fun h' => by simp [h] at h' }
  | true =>
    have kept := State.resetWith_sramKept (s.inOff.mapPower fun p => { p with npWakeSrc := BitVec.ofNat 16 (2 ^ 4), offCmd := false }) 1
    exact {
      sram := kept.empty rfl
      gate := rfl, lodgers := rfl, cells := rfl, nor := rfl, result := rfl, count := rfl, offWake := rfl
      supplies := ⟨rfl, rfl, rfl, rfl, rfl⟩
      stays := fun h' => by simp [h] at h'
      wakes := fun _ => ⟨rfl, rfl, rfl⟩ }

namespace State.OffEntered

variable {s t : State} (h : s.OffEntered t)
include h

/-- In Off and after it nothing is applied, and no Lodger runs. -/
theorem harmless : (∀ i, (t.outp i).applied = 0) ∧ t.gate.blank = true ∧ ∀ n, (t.lodger n).run = .stopped := by
  refine ⟨fun i => ?_, by rw [h.gate], fun n => ?_⟩
  · rw [State.outp, h.gate]
    simp [vget]
  · rw [State.lodger, h.lodgers]
    simp [vget]

/-- Without VIO the device stays in Off. -/
theorem off (hvio : s.power.vioOk = false) : t.power.phase = .off := h.stays (by rw [Power.wakesAtOnce, hvio]; rfl)

end State.OffEntered

/-! ### The lines of a flush (Table 11-9) -/

theorem State.flushEntry_serviced (s : State) (e : BufEntry) : State.Serviced s (s.flushEntry e) := by
  have written : State.Serviced s ((s.mapLedger fun l => { l with buf := l.buf.drop 1 }).writeCells e.line e.data) :=
    ⟨rfl, fun _ => rfl⟩
  simp only [State.flushEntry]
  split
  · exact (written.trans (State.recDone_aside ..).serviced).trans (State.mbxOnLine_serviced ..)
  · exact written.trans (State.mbxOnLine_serviced ..)

theorem State.flushBuffer_serviced (s : State) (limit : Nat) : State.Serviced s (s.flushBuffer limit) :=
  foldl_keeps .refl .trans State.flushEntry_serviced _ s

theorem State.flushLine_serviced (s : State) (line : Nat) (data : Line) : State.Serviced s (s.flushLine line data) :=
  (State.Serviced.of_ledger s _).trans (State.flushEntry_serviced ..)

theorem State.flushLine_power (s : State) (line : Nat) (data : Line) : (s.flushLine line data).power = s.power := by
  rw [(s.flushLine_serviced line data).frame]

theorem State.writeLines_serviced (s : State) (l : List (Nat × Line)) : State.Serviced s (s.writeLines l) :=
  foldl_keeps (R := State.Serviced) .refl .trans (fun s (x : Nat × Line) => s.flushLine_serviced x.1 x.2) l s

/-- An empty write buffer leaves step 1 nothing to do. -/
theorem State.flushBuffer_empty {s : State} (h : s.ledger.buf = []) (limit : Nat) : s.flushBuffer limit = s := by
  rw [State.flushBuffer, h, List.take_nil]
  rfl

theorem State.mbxOnLine_ledger (s : State) (line : Nat) (data : Line) : (s.mbxOnLine line data).ledger = s.ledger := by
  refine foldl_keeps (R := fun s t => t.ledger = s.ledger) (fun _ => rfl) (fun h h' => h'.trans h) (fun s n => ?_) _ s
  split
  · split
    · split <;> rfl
    · rfl
  · rfl

theorem Lines.get_set_same (l : List (Nat × List Byte)) (a : Nat) (d : List Byte) : Lines.get (Lines.set l a d) a = some d := by
  induction l with
  | nil => simp [Lines.set, Lines.get]
  | cons x l ih =>
    obtain ⟨k, v⟩ := x
    simp only [Lines.set]
    split
    · simp [Lines.get]
    · split
      · simp [Lines.get]
      · rw [Lines.get, if_neg (by omega), ih]

/-- A line of the flush stands in the cells. -/
theorem State.flushLine_get (s : State) (line : Nat) (data : Line) :
    Lines.get (s.flushLine line data).ledger.lines line = some (padTo 32 data) := by
  simp only [State.flushLine, State.flushEntry, State.mbxOnLine_ledger]
  exact Lines.get_set_same _ _ _

/-! ### A flush that ends early (R197) -/

/-- The HOLD monitor shows an output; LOW keeps a fall (Table 05-12). -/
def Power.holdShown (p : Power) (ok : Bool) : Power :=
  { p with holdOk := ok, low := if p.holdOk && !ok then p.low ||| 16 else p.low }

theorem State.holdMonitor_shown {s : State} (h : s.monitored = true) (ok : Bool) :
    s.holdMonitor ok = s.mapPower fun p => p.holdShown ok := by
  simp only [State.holdMonitor, h, if_true, State.mapPower, Power.holdShown]
  split <;> rfl

/-- HOLD low in a flush: some lines have been written, RESULT is 4, and the device goes to Off. Where none was written the cells are as
they were. -/
theorem State.flushCut_ends {s : State} (h : s.power.phase = .flushing) (k : Nat) : ∃ w : State, s.flushCut k = w.enterOff ∧
    w.power = s.power.holdShown false ∧ w.wbl.flushResult = 4 ∧ (k = 0 → w.ledger.lines = s.ledger.lines) := by
  obtain ⟨u, r, hu, lines, cut⟩ : ∃ u r, State.Serviced s u ∧ (k = 0 → u.ledger.lines = s.ledger.lines) ∧
      s.flushCut k = ((u.flushResult 4 r).holdMonitor false).enterOff := by
    simp only [State.flushCut, h, if_true]
    refine ⟨_, _, (State.flushBuffer_serviced ..).trans (State.writeLines_serviced ..), fun hk => ?_, rfl⟩
    subst hk
    simp [State.flushBuffer, State.writeLines]
  have power : (u.flushResult 4 r).power = s.power := by
    rw [hu.frame]
    rfl
  have monitored : (u.flushResult 4 r).monitored = true := by rw [State.monitored, power, h]
  refine ⟨_, cut, ?_, ?_, fun hk => ?_⟩ <;> rw [State.holdMonitor_shown monitored]
  · rw [State.mapPower_power, power]
  · rfl
  · exact lines hk

theorem exec_holdLowInFlush (s : State) (k : Nat) : exec (.holdLowInFlush k) s = .next (s.flushCut k) := rfl

end Sys2Proof.Machine
end

section
/-! PROOFS. The reset sources: the statement (R76, R77, R190, R197, R198, R662, R663). -/

namespace Sys2Proof.Machine

/-! ### Reset sources -/

/-- Where the Innkeeper runs, a fault of it is the reset of its cause. -/
theorem State.inkFault_runs {s : State} (h : s.inkRuns = true) (c : ResetCause) : s.inkFault c = s.resetWith c.mask := if_pos h

/-- NRST at a level, before it resets anything. -/
def State.nrstAt (s : State) (low : Bool) : State := s.mapPower fun p => { p with nrstLow := low }

/-- Off, the flush and TEST keep NRST from resetting. -/
theorem exec_externalReset_held {s : State} (h : s.power.phase = .off ∨ s.power.phase = .test ∨ s.power.phase = .flushing) :
    exec (.externalReset true) s = .next (s.nrstAt true) := by
  obtain h | h | h := h <;> simp [exec, execExternalReset, State.nrst, h, State.nrstAt]

theorem exec_externalReset_resets {s : State} (hoff : s.power.phase ≠ .off) (htest : s.power.phase ≠ .test)
    (hflush : s.power.phase ≠ .flushing) : exec (.externalReset true) s = .next ((s.nrstAt true).resetWith 4) := by
  simp only [exec, execExternalReset, State.nrst, if_true, State.mapPower_power]
  rfl

/-- A brownout resets in every phase outside Off and TEST, in a flush where VCORE has it (Table 05-5). -/
theorem exec_brownout_resets {s : State} {vcore : Bool} (hoff : s.power.phase ≠ .off) (htest : s.power.phase ≠ .test)
    (hflush : s.power.phase = .flushing → vcore = true) : exec (.brownout vcore) s = .next (s.resetWith 2) := by
  simp only [exec, execBrownout]
  split
  · exact absurd ‹_› hoff
  · exact absurd ‹_› htest
  · rw [hflush ‹_›]
    rfl
  · rfl

theorem exec_testMode_high {s : State} (h : s.power.phase ≠ .off) : exec (.testMode true) s =
    .next (((s.mapPower fun p => { p with testHigh := true }).resetWith 0).mapPower fun p => { p with phase := .test }) := by
  simp only [exec, execTestMode, State.testPin, State.mapPower_power, h, if_false, if_true]

/-! ### Power-on (R76, R190, R197, R198) -/

/-- VIO is present, and the other supplies stand as given. -/
def State.supplied (s : State) (va vao vgd hold : Bool) : State :=
  s.mapPower fun p => { p with vioOk := true, vaOk := va, vaoOk := vao, vgdOk := vgd, holdOk := hold }

section powerOn
variable {s : State} (hvio : s.power.vioOk = false) (va vao vgd hold : Bool)
include hvio

theorem exec_powerOn_off (h : s.power.phase = .off) :
    exec (.powerOn va vao vgd hold) s = .next ((s.supplied va vao vgd hold).wakeOff 4) := by
  simp [exec, execPowerOn, State.powerOn, hvio, h, State.supplied]

/-- In a flush VIO withdraws an Off command; with HOLD low the flush ends. -/
theorem exec_powerOn_flushing (h : s.power.phase = .flushing) : exec (.powerOn va vao vgd hold) s =
    .next (if hold then (s.supplied va vao vgd hold).mapPower fun p => { p with offCmd := false }
      else ((s.supplied va vao vgd hold).mapPower fun p => { p with offCmd := false }).holdLost) := by
  simp [exec, execPowerOn, State.powerOn, hvio, h, State.supplied]

theorem exec_powerOn_else (hoff : s.power.phase ≠ .off) (hflush : s.power.phase ≠ .flushing) :
    exec (.powerOn va vao vgd hold) s = .next ((s.supplied va vao vgd hold).resetWith 1) := by
  simp only [exec, execPowerOn, State.powerOn, hvio, Bool.false_eq_true, if_false, State.mapPower_power]
  rfl

end powerOn

/-- HOLD lost in a flush: the device goes to Off with RESULT 4, and wakes at once where it may. -/
theorem State.holdLost_ends {s : State} (h : s.power.phase = .flushing) : ∃ w : State, s.holdLost = w.enterOff ∧
    w.power = s.power.holdShown false ∧ w.wbl.flushResult = 4 := by
  obtain ⟨w, hcut, hpower, hresult, -⟩ := State.flushCut_ends (s := s.mapDraws (· + 1)) h (Config.flushedLines s.draws)
  exact ⟨w, hcut, hpower, hresult⟩

theorem exec_deviceReset {s : State} {n : Fin 4} {user : Bool} (h : s.ready n user) (seq : Byte) {w : Nat} (hw : w < 2 ^ 32) :
    exec (.deviceReset n user seq w) s = .next (if w = 0xD1E5 then (s.taken n seq.toNat 0x0A [w]).resetWith 32
      else (s.taken n seq.toNat 0x0A [w]).mbxDone n 2) := by
  have arg : (s.taken n seq.toNat 0x0A [w]).mbxArg n 0 = w := State.taken_mbxArg h _ _ rfl hw
  simp only [exec, execDeviceReset, State.mbxCommand_ready h, State.serveReset, arg]
  rfl

/-- Settles O8: each source is `resetWith` with its cause, which `resetWith_resetTo` describes; a power-on that finds HOLD low in a flush
ends that (`holdLost_ends`), and the entry to Off wakes (`enterOff_entered`). -/
theorem resetSources : Obligations.ResetSources := by
  unfold Obligations.ResetSources
  refine ⟨?inkFaults, ?brownout, ?nrst, ?nrstKept, ?powerOn, ?testHigh, ?testLow, ?command⟩
  case inkFaults =>
    intro s h
    refine ⟨⟨_, ?_, s.resetWith_resetTo 16⟩, ⟨_, ?_, s.resetWith_resetTo 32⟩,
      fun hphase => ⟨_, ?_, s.resetWith_resetTo 8⟩, fun hphase => ?_⟩
    · simp only [exec, execLockstepMismatch, State.inkFault_runs h, ResetCause.mask]
    · simp only [exec, execInkSramEccError, State.inkFault_runs h, ResetCause.mask]
    · simp only [exec, execInkWatchdogExpiry, hphase, if_false, State.inkFault_runs h, ResetCause.mask]
    · simp only [exec, execInkWatchdogExpiry, hphase, if_true]
  case brownout =>
    intro s vcore hoff htest hflush
    exact ⟨_, exec_brownout_resets hoff htest hflush, s.resetWith_resetTo 2⟩
  case nrst =>
    intro s hoff htest hflush
    exact ⟨_, exec_externalReset_resets hoff htest hflush, (s.nrstAt true).resetWith_resetTo 4, rfl⟩
  case nrstKept => exact fun s => ⟨rfl, exec_externalReset_held⟩
  case powerOn =>
    intro s va vao vgd hold hvio
    by_cases hoff : s.power.phase = .off
    · have flushes : s.power.phase ≠ .flushing := by rw [hoff]; decide
      exact ⟨_, exec_powerOn_off hvio va vao vgd hold hoff, rfl, rfl, rfl, rfl, rfl,
        fun _ => (s.supplied va vao vgd hold).wakeOff_resetTo 4, fun h => absurd h flushes, fun h => absurd h flushes,
        fun _ => ⟨rfl, rfl⟩⟩
    · by_cases hflush : s.power.phase = .flushing
      · refine ⟨_, exec_powerOn_flushing hvio va vao vgd hold hflush, ?_⟩
        cases hold with
        | true =>
          exact ⟨rfl, rfl, rfl, rfl, rfl, fun h => absurd hflush h, fun _ _ => ⟨rfl, hflush⟩, fun _ h => by simp at h,
            fun h => absurd h hoff⟩
        | false =>
          obtain ⟨w, hlost, hpower, hresult⟩ := State.holdLost_ends
            (s := (s.supplied va vao vgd false).mapPower fun p => { p with offCmd := false }) hflush
          obtain ⟨sram, -, -, -, -, result, -, -, ⟨vio, va', vao', vgd', hold'⟩, -, wakes⟩ := w.enterOff_entered
          rw [hpower] at vio va' vao' vgd' hold' wakes
          rw [if_neg Bool.false_ne_true, hlost]
          refine ⟨vio, va', vao', vgd', hold', fun h => absurd hflush h, fun _ h => by simp at h, fun _ _ => ?_,
            fun h => absurd h hoff⟩
          refine ⟨result.trans hresult, sram, fun hlatch => ?_⟩
          obtain ⟨phase, -, source⟩ := wakes (by simp [Power.wakesAtOnce, Power.holdShown, State.supplied, hlatch])
          exact ⟨source, phase⟩
      · exact ⟨_, exec_powerOn_else hvio va vao vgd hold hoff hflush, rfl, rfl, rfl, rfl, rfl,
          fun _ => (s.supplied va vao vgd hold).resetWith_resetTo 1, fun h => absurd h hflush, fun h => absurd h hflush,
          fun h => absurd h hoff⟩
  case testHigh =>
    intro s h
    have kept := (s.mapPower fun p => { p with testHigh := true }).resetWith_sramKept 0
    exact ⟨_, exec_testMode_high h, rfl, rfl, rfl,
      (sramKept.of_sram (s.mapPower_sram _)).trans (kept.trans (.of_sram (State.mapPower_sram ..))), rfl⟩
  case testLow =>
    intro s h
    simp [exec, execTestMode, State.testPin, h, State.mapPower]
  case command =>
    intro s n user seq h
    refine ⟨⟨_, exec_deviceReset h seq (by norm_num), ?_⟩, fun w hw hne => ⟨_, exec_deviceReset h seq hw, ?_⟩⟩
    · obtain ⟨b, i, l, taken⟩ : ∃ b i l, s.taken n seq.toNat 0x0A [0xD1E5] = { s with bus := b, ink := i, lodgers := l } :=
        ⟨_, _, _, State.taken_eq h ..⟩
      rw [if_pos rfl, taken]
      exact State.resetWith_resetTo { s with bus := b, ink := i, lodgers := l } 32
    · rw [if_neg hne]
      exact State.taken_done h seq 0x0A [w] 2

end Sys2Proof.Machine
end

section
/-! PROOFS. Crystals and PLLs: the statement (R76, R192 to R195, R374, R384, R662). -/

namespace Sys2Proof.Machine

/-! ### An inspection log entry (R374, R384, R423) -/

/-- The record of an inspection log entry raised by the Innkeeper: the position is taken before the record is written. -/
def State.logWritten (s : State) (k : Fin 128) (event : Nat) (body : List Byte) : State :=
  ((s.mapWbl fun w => { w with logPos := (w.logPos + 1) % 512 }).writeRec k 4 (.logEntry s.wbl.logPos event (padTo 24 body))).2

theorem State.logEvent_free {s : State} {k : Fin 128} (h : s.wbl.nextFree = some k) (event : Nat) (body : List Byte) :
    s.logEvent event body = (s.logWritten k event body).issueLines s.wbl.nextSeq := by
  simp only [State.logEvent, State.inkRec, h]
  rfl

theorem State.logEvent_full {s : State} (h : s.wbl.nextFree = none) (event : Nat) (body : List Byte) :
    s.logEvent event body = s.mapWbl fun w => { w with waiting := w.waiting ++ [⟨4, .logEntry 0 event (padTo 24 body)⟩] } := by
  simp only [State.logEvent, State.inkRec, h]

/-- A log entry touches nothing but the Waybill and the Ledger. -/
theorem State.logEvent_frame (s : State) (event : Nat) (body : List Byte) :
    s.logEvent event body = { s with wbl := (s.logEvent event body).wbl, ledger := (s.logEvent event body).ledger } := by
  cases h : s.wbl.nextFree with
  | none => rw [State.logEvent_full h]; rfl
  | some k =>
    have sent := (s.logWritten k event body).issueLines_linesSent s.wbl.nextSeq
    rw [State.logEvent_free h, sent.frame]
    rfl

theorem State.logEvent_logs (s : State) (event : Nat) (body : List Byte) : logs s event body (s.logEvent event body) := by
  unfold logs
  split
  next k h =>
    have sent := (s.logWritten k event body).issueLines_linesSent s.wbl.nextSeq
    have written := State.writeRec_hasRec (s.mapWbl fun w => { w with logPos := (w.logPos + 1) % 512 }) k 4
      (.logEntry s.wbl.logPos event (padTo 24 body))
    obtain ⟨seq, origin, body⟩ := written.kept sent.recs
    rw [State.logEvent_free h]
    refine ⟨body, seq, origin, ?_, ?_⟩ <;> rw [sent.recs.registers] <;> rfl
  next h => rw [State.logEvent_full h]; exact ⟨rfl, rfl⟩

/-! ### The statement -/

/-- The crystal stands as lost, and the loss is counted (R192). -/
def State.crystalLost (s : State) : State :=
  s.mapPower fun p => { p with xtalRc := true, xtalLossCnt := satInc 0xFF p.xtalLossCnt }

theorem exec_crystalLoss {s : State} (hclk : s.clocked = true) (hrc : s.power.xtalRc = false) :
    exec .crystalLoss s = .next (s.crystalLost.logEvent 0x0103 [0]) := by
  simp only [exec, execCrystalLoss, State.crystalLoss, hclk, hrc, Bool.not_false, Bool.and_self, if_true]
  rfl

theorem exec_pllLockLoss {s : State} {k : Fin 3} (hclk : s.clocked = true) (hlock : s.power.pllLock.getLsbD k.val = true) :
    exec (.pllLockLoss k) s = .next ((s.logEvent 0x0103 [BitVec.ofNat 8 (k.val + 1)]).resetWith 32) := by
  have body : leBytes 1 (k.val + 1) = [BitVec.ofNat 8 (k.val + 1)] := by simp [leBytes]
  simp only [exec, execPllLockLoss, State.pllLoss, hclk, hlock, Bool.and_self, if_true, body]
  rfl

theorem State.awake_clocked {s : State} (h : s.awake = true) : s.clocked = true := by
  simp only [State.awake, State.live, Bool.and_eq_true, decide_eq_true_eq] at h
  obtain ⟨hphase | hphase, hmode⟩ := h <;> simp [State.clocked, hphase, hmode]

/-- Settles O10: the losses are a log entry (`logEvent_logs`) beside the bit, and a PLL's loss is followed by a reset. -/
theorem crystalsAndPlls : Obligations.CrystalsAndPlls := by
  unfold Obligations.CrystalsAndPlls
  refine ⟨fun _ => rfl, fun _ => rfl, fun _ => State.awake_clocked, ?loss, ?recovery, ?resets, ?test, ?pll⟩
  case loss =>
    intro s hclk hrc
    have frame := s.crystalLost.logEvent_frame 0x0103 [0]
    refine ⟨_, exec_crystalLoss hclk hrc, ?_, s.crystalLost.logEvent_logs 0x0103 [0], ?_⟩ <;> rw [frame] <;> rfl
  case recovery =>
    intro s hclk
    simp only [exec, execCrystalRecovery, hclk, if_true]
    rfl
  case resets =>
    intro s i c hphase hmem
    have runs : s.inkRuns = true := by simp [State.inkRuns, hphase]
    simp only [List.mem_cons, Prod.mk.injEq, List.not_mem_nil, or_false] at hmem
    obtain ⟨low, step⟩ : ∃ low, exec i s = .next ((s.nrstAt low).resetWith c) := by
      obtain ⟨rfl, rfl⟩ | ⟨rfl, rfl⟩ | ⟨rfl, rfl⟩ | ⟨rfl, rfl⟩ := hmem
      · exact ⟨s.power.nrstLow, congrArg _ (State.inkFault_runs runs .lockstep)⟩
      · refine ⟨s.power.nrstLow, ?_⟩
        simp only [exec, execInkWatchdogExpiry, hphase, reduceCtorEq, if_false]
        exact congrArg _ (State.inkFault_runs runs .hwWatchdog)
      · exact ⟨s.power.nrstLow, congrArg _ (State.inkFault_runs runs .inkRequest)⟩
      · exact ⟨true, exec_externalReset_resets (by simp [hphase]) (by simp [hphase]) (by simp [hphase])⟩
    exact ⟨_, step, rfl, rfl, rfl, rfl⟩
  case test =>
    intro s hphase
    exact ⟨_, exec_testMode_high (by rw [hphase]; decide), rfl, rfl⟩
  case pll =>
    intro s k hclk hlock
    have frame := s.logEvent_frame 0x0103 [BitVec.ofNat 8 (k.val + 1)]
    have logged := s.logEvent_logs 0x0103 [BitVec.ofNat 8 (k.val + 1)]
    refine ⟨_, exec_pllLockLoss hclk hlock, ?_⟩
    generalize s.logEvent 0x0103 [BitVec.ofNat 8 (k.val + 1)] = t at frame logged
    obtain ⟨w, l, rfl⟩ : ∃ w l, t = { s with wbl := w, ledger := l } := ⟨_, _, frame⟩
    have kept : sramKept s { s with wbl := w, ledger := l } := .of_sram rfl
    refine ⟨rfl, rfl, rfl, kept.trans (State.resetWith_sramKept _ 32), fun j hj => ?_⟩
    rw [logs, hj] at logged
    exact logged.1

end Sys2Proof.Machine
end

section
/-! PROOFS. HOLD, the power-fail sequence, its flush and its end in Off: the statement (R124, R180 to R183, R189, R190, R196 to
R198, R223, R224, R601). -/

namespace Sys2Proof.Machine

/-! ### HOLD (R180 to R183) -/

/-- Wherever the Innkeeper is alive the supply monitors are shown, and no flush runs. -/
theorem State.inkAlive_monitored {s : State} (h : s.inkAlive = true) : s.monitored = true ∧ s.power.phase ≠ .flushing := by
  revert h
  simp only [State.inkAlive, State.monitored]
  cases s.power.phase <;> simp

theorem exec_holdMeasure {s : State} (h : s.inkAlive = true) (mv : Nat) (ok : Bool) : exec (.holdMeasure mv ok) s =
    .next (s.mapPower fun p => { p.holdShown ok with holdMv := satTo 12 mv, chg := s.charge mv }) := by
  obtain ⟨hmon, hflush⟩ := State.inkAlive_monitored h
  have alive : (s.mapPower fun p => p.holdShown ok).inkAlive = true := h
  have charge : (s.mapPower fun p => p.holdShown ok).charge mv = s.charge mv := rfl
  simp only [exec, execHoldMeasure, State.holdMeasure, hflush, false_and, if_false, State.holdMonitor_shown hmon, alive, if_true,
    charge]
  rfl

theorem State.charge_off {s : State} (h : s.power.chargerEn = false ∨ s.power.vioOk = false ∨ s.wear.testing = true) (mv : Nat) :
    s.charge mv = 0 := by
  refine if_pos ?_
  obtain h | h | h := h <;> simp [h]

theorem State.charge_on {s : State} (hen : s.power.chargerEn = true) (hvio : s.power.vioOk = true) (htest : s.wear.testing = false)
    (mv : Nat) : s.charge mv = if s.thm.chgWin = false then 3 else if s.power.chargeTarget ≤ mv then 2 else 1 := by
  simp [State.charge, hen, hvio, htest]

theorem exec_holdWireDetect {s : State} (h : s.inkAlive = true) (hchg : s.power.chg ≠ 1) (differ : Bool) :
    exec (.holdWireDetect differ) s = .next { s with power := { s.power with
      holdWire := differ, low := if s.power.holdWire && !differ then s.power.low ||| 32 else s.power.low } } := by
  simp only [exec, execHoldWireDetect, State.holdWire, (State.inkAlive_monitored h).1, hchg, ne_eq, not_false_eq_true, decide_true,
    Bool.and_self, if_true, State.mapPower]
  split <;> rfl

/-! ### A power failure (R189, R196) -/

/-- A trip of VIO shows in VIO_OK and LOW. -/
def State.tripped (s : State) (vio : Bool) : State :=
  if vio && s.power.vioOk then s.mapPower fun p => { p.fell 0 with vioOk := false } else s

theorem State.tripped_eq (s : State) (vio : Bool) : s.tripped vio = { s with power :=
    if vio && s.power.vioOk then { s.power with low := s.power.low ||| 1, vioOk := false } else s.power } := by
  unfold State.tripped
  split <;> rfl

/-- After a trip VIO is absent; LOW keeps a VIO that was present. -/
theorem State.tripped_vio (s : State) : s.tripped true = { s with power := { s.power with
    vioOk := false, low := if s.power.vioOk then s.power.low ||| 1 else s.power.low } } := by
  rw [State.tripped_eq, Bool.true_and]
  split
  · rfl
  next h => rw [← Bool.eq_false_iff.mpr h]

theorem State.powerFail_eq (s : State) (vio : Bool) : s.powerFail vio =
    if s.power.thmLatch = true ∨ s.power.phase = .off ∨ s.power.phase = .flushing ∨ s.power.phase = .test then s.tripped vio
    else (s.tripped vio).failFrom2 := by
  have latch : (s.tripped vio).power.thmLatch = s.power.thmLatch := by rw [State.tripped_eq]; dsimp only; split <;> rfl
  have phase : (s.tripped vio).power.phase = s.power.phase := by rw [State.tripped_eq]; dsimp only; split <;> rfl
  have unfolded : s.powerFail vio = if (s.tripped vio).power.thmLatch then s.tripped vio
      else match (s.tripped vio).power.phase with
        | .off | .flushing | .test => s.tripped vio
        | _ => (s.tripped vio).failFrom2 := rfl
  rw [unfolded, latch, phase]
  cases hlatch : s.power.thmLatch <;> cases hphase : s.power.phase <;> simp

theorem State.live_fails {s : State} (h : s.live = true) (hlatch : s.power.thmLatch = false) (vio : Bool) :
    exec (.powerFail vio) s = .next (s.tripped vio).failFrom2 := by
  simp only [State.live, decide_eq_true_eq] at h
  have acts : s.powerFail vio = (s.tripped vio).failFrom2 := by
    rw [State.powerFail_eq, if_neg]
    obtain h | h := h <;> simp [h, hlatch]
  simp only [exec, execPowerFail, acts]

/-- How the sequence from step 2 ends in a running device: in the flush, or in Off without a marker. -/
structure State.FailEnds (s t : State) : Prop where
  vio : t.power.vioOk = s.power.vioOk
  cells : t.ledger.lines = s.ledger.lines
  nor : t.boot.nor = s.boot.nor
  applied : ∀ i, (t.outp i).applied = 0
  blank : t.gate.blank = true
  run : ∀ n, (t.lodger n).run = .stopped
  flush : s.power.holdOk = true → s.windowOpen = true →
    t.power = { s.power with chg := 0, failedAt := s.now, phase := .flushing, flushRuns := true, pllLock := 0 } ∧
    t.gate.blankCause = 4 ∧ t.wbl = s.wbl ∧ t.ledger = s.ledger ∧ sramKept s t
  low : s.power.vioOk = false → s.power.holdOk = false → t.power.phase = .off ∧ t.wbl.flushResult = 2 ∧ t.sram = {}
  closed : s.power.vioOk = false → s.power.holdOk = true → s.windowOpen = false →
    t.power.phase = .off ∧ t.wbl.flushResult = 3 ∧ t.sram = {}

theorem State.failFrom2_ends {s : State} (h : s.live = true) : s.FailEnds s.failFrom2 := by
  rw [State.failFrom2_live h]
  have begun := s.failed_begun
  generalize s.failed = t at begun ⊢
  have vio : t.power.vioOk = s.power.vioOk := by rw [begun.power]
  have cells : t.ledger.lines = s.ledger.lines := by rw [begun.ledger]
  have nor : t.boot.nor = s.boot.nor := by rw [begun.boot]
  have off (r : Nat) := (t.flushResult r 0).enterOff_entered
  split
  next hhold =>
    obtain ⟨applied, blank, run⟩ := (off 2).harmless
    exact ⟨(off 2).supplies.1.trans vio, (off 2).cells.trans cells, (off 2).nor.trans nor, applied, blank, run,
      fun h' => by simp [hhold] at h', fun hvio _ => ⟨(off 2).off (vio.trans hvio), (off 2).result, (off 2).sram⟩,
      fun _ h' => by simp [hhold] at h'⟩
  next hhold =>
    split
    next hwin =>
      obtain ⟨applied, blank, run⟩ := (off 3).harmless
      exact ⟨(off 3).supplies.1.trans vio, (off 3).cells.trans cells, (off 3).nor.trans nor, applied, blank, run,
        fun _ h' => by simp [hwin] at h', fun _ h' => absurd h' hhold,
        fun hvio _ _ => ⟨(off 3).off (vio.trans hvio), (off 3).result, (off 3).sram⟩⟩
    next hwin =>
      refine ⟨vio, cells, nor, begun.applied, begun.blank, begun.run,
        fun _ _ => ⟨?_, begun.cause, begun.wbl, begun.ledger, begun.sram.trans (.of_sram rfl)⟩,
        fun _ h' => absurd h' hhold, fun _ _ h' => absurd h' hwin⟩
      rw [State.mapPower_power, begun.power]

/-! ### The flush and its end (Table 11-9) -/

/-- A flush that is completed: its marker line counts the records that were pending, and RESULT is 1. -/
theorem State.flushDone_ends {s : State} (hphase : s.power.phase = .flushing) (hwin : s.windowOpen = true)
    (hhold : s.power.holdOk = true) : ∃ w : State, s.flushDone = w.enterOff ∧ w.power = s.power ∧ w.wbl.flushResult = 1 ∧
      (s.ledger.buf = [] → w.wbl.flushCount = s.wbl.pendingRecs.length ∧ ∃ first last, Lines.get w.ledger.lines 31 =
        some (padTo 32 (markerLine 1 s.wbl.pendingRecs.length first last s.power.rtc))) := by
  have written := (s.flushBuffer_serviced 16).trans
    ((s.flushBuffer 16).writeLines_serviced ((s.flushBuffer 16).flushRecLines ++ (s.flushBuffer 16).changedLines))
  simp only [State.flushDone, hphase, hwin, hhold, and_self, if_true]
  generalize (s.flushBuffer 16).writeLines _ = u at written ⊢
  have power : u.power = s.power := by rw [written.frame]
  refine ⟨_, rfl, ?_, rfl, fun hbuf => ?_⟩
  · rw [State.flushResult, State.mapWbl_power, State.flushLine_power, power]
  · rw [State.flushBuffer_empty hbuf, power, State.flushResult, State.mapWbl_ledger]
    exact ⟨rfl, _, _, u.flushLine_get markerAt _⟩

/-- Settles O11: a power failure ends in the flush or in Off (`failFrom2_ends`), a flush with its marker (`flushDone_ends`) or with RESULT 4
(`flushCut_ends`), and Off is what `enterOff_entered` says. -/
theorem holdAndPowerFail : Obligations.HoldAndPowerFail := by
  unfold Obligations.HoldAndPowerFail
  refine ⟨?measure, ?wire, ?pfail, ?vioFail, ?bootFail, ?noEffect, ?stopped, ?capped, ?lowMeasured, ?done, ?low, ?offWait,
    ?retention⟩
  case measure =>
    intro s mv ok halive hmv
    have fits : satTo 12 mv = mv := Nat.min_eq_left (by omega)
    refine ⟨_, exec_holdMeasure halive mv ok, ?_, fun h => State.charge_off h mv,
      fun hen hvio htest => State.charge_on hen hvio htest mv, rfl⟩
    simp only [State.mapPower_power, fits, Power.holdShown]
  case wire => exact fun s differ halive hchg => exec_holdWireDetect halive hchg differ
  case pfail =>
    intro s hlive hlatch
    have ends := State.failFrom2_ends hlive
    refine ⟨_, State.live_fails hlive hlatch false, ends.cells, ends.nor, ends.applied, ends.blank, ends.run, fun hhold hwin => ?_,
      ends.low, ends.closed⟩
    obtain ⟨power, cause, wbl, -, sram⟩ := ends.flush hhold hwin
    exact ⟨congrArg Power.phase power, cause, wbl, congrArg Power.failedAt power, sram⟩
  case vioFail =>
    intro s hlive hlatch
    have ends := State.failFrom2_ends (s := s.tripped true) (by rw [State.tripped_vio]; exact hlive)
    refine ⟨_, State.live_fails hlive hlatch true, ?_⟩
    generalize (s.tripped true).failFrom2 = t at ends ⊢
    rw [State.tripped_vio] at ends
    refine ⟨ends.vio, ends.cells, ends.nor, ends.applied, ends.blank, ends.run, fun hhold hwin => ?_, ends.low rfl,
      ends.closed rfl⟩
    obtain ⟨power, cause, wbl, -, sram⟩ := ends.flush hhold hwin
    exact ⟨congrArg Power.phase power, cause, wbl, congrArg Power.failedAt power, sram, congrArg Power.low power⟩
  case bootFail =>
    intro s halive hlive hlatch
    have begun := (s.tripped true).failed_begun
    have acts : ¬ (s.power.thmLatch = true ∨ s.power.phase = .off ∨ s.power.phase = .flushing ∨ s.power.phase = .test) := by
      rintro (h | h | h | h) <;> simp [State.inkAlive, h] at halive hlatch
    have boot : (s.tripped true).live = false := by rw [State.tripped_vio]; exact hlive
    have step : exec (.powerFail true) s = .next (s.tripped true).failed.enterOff := by
      simp only [exec, execPowerFail, State.powerFail_eq, if_neg acts, State.failFrom2_boot boot]
    refine ⟨_, step, ?_⟩
    generalize (s.tripped true).failed = t at begun ⊢
    rw [State.tripped_vio] at begun
    have off := t.enterOff_entered
    have vio : t.power.vioOk = false := by rw [begun.power]
    exact ⟨off.off vio, off.supplies.1.trans vio, off.sram, off.result.trans (by rw [begun.wbl])⟩
  case noEffect =>
    intro s vio h
    have held : s.power.thmLatch = true ∨ s.power.phase = .off ∨ s.power.phase = .flushing ∨ s.power.phase = .test := h
    simp only [exec, execPowerFail, State.powerFail_eq, if_pos held, State.tripped_eq]
  case stopped =>
    intro s hphase h
    have held : ¬ (s.power.phase = .flushing ∧ s.windowOpen = true ∧ s.power.holdOk = true) := by
      obtain h | h := h <;> simp [h]
    simp only [exec, execFlushComplete, State.flushDone, held, if_false]
  case capped =>
    intro s k c hcap
    have least : min (min k c) c = min k c := by omega
    simp only [exec_holdLowInFlush, State.flushCut, hcap, Option.getD_some, least]
  case lowMeasured =>
    intro s mv hphase hvio
    have step : exec (.holdMeasure mv false) s = .next s.holdLost := by
      simp only [exec, execHoldMeasure, State.holdMeasure, hphase, and_self, if_true]
    obtain ⟨w, hlost, hpower, hresult⟩ := State.holdLost_ends hphase
    have off := w.enterOff_entered
    obtain ⟨-, -, -, -, hold⟩ := off.supplies
    rw [hpower] at hold
    rw [step, hlost]
    exact ⟨_, rfl, off.off (by rw [hpower]; exact hvio), off.result.trans hresult, hold, off.sram⟩
  case done =>
    intro s hphase hwin hhold
    obtain ⟨w, hdone, hpower, hresult, marker⟩ := State.flushDone_ends hphase hwin hhold
    have off := w.enterOff_entered
    have step : exec .flushComplete s = .next w.enterOff := congrArg _ hdone
    refine ⟨_, step, off.result.trans hresult, off.offWake, off.sram, fun hvio => off.off (by rw [hpower]; exact hvio),
      fun hvio hcmd hlatch => ?_, fun hbuf => ?_⟩
    · obtain ⟨phase, latched, source⟩ := off.wakes (by rw [hpower, Power.wakesAtOnce, hvio, hcmd, hlatch]; rfl)
      refine ⟨by rw [phase, hpower], by rw [latched]; simp, source⟩
    · obtain ⟨count, first, last, line⟩ := marker hbuf
      exact ⟨off.count.trans count, first, last, by rw [off.cells, line]⟩
  case low =>
    intro s k hphase hvio
    obtain ⟨w, hcut, hpower, hresult, lines⟩ := State.flushCut_ends hphase k
    have off := w.enterOff_entered
    rw [exec_holdLowInFlush, hcut]
    exact ⟨_, rfl, off.off (by rw [hpower]; exact hvio), off.result.trans hresult, off.sram,
      fun hk => off.cells.trans (lines hk)⟩
  case offWait =>
    intro s hphase hhold hwin
    have step : exec .offWaitEnd s = .next (s.mapPower fun p => { p with offCmd := true }).failFrom2 := by
      simp only [exec, execOffWaitEnd, State.offWaitEnd, hphase, if_true]
    have ends := State.failFrom2_ends (s := s.mapPower fun p => { p with offCmd := true }) (by simp [State.live, hphase])
    obtain ⟨power, -, -, ledger, sram⟩ := ends.flush hhold hwin
    exact ⟨_, step, congrArg Power.phase power, congrArg Power.offCmd power, ends.blank, sram, ledger⟩
  case retention =>
    intro s hvio
    have step : exec .nightPorterRetentionLoss s =
        .next ((s.loseRetention.mapSram fun _ => {}).mapPower fun p => { p with phase := .off }) := by
      simp only [exec, execNightPorterRetentionLoss, hvio, Bool.false_eq_true, if_false]
    refine ⟨_, step, ?_⟩
    simp [State.loseRetention, State.dropRetention]

end Sys2Proof.Machine
end

section
/-! PROOFS. Boot and staging: the statement fails in one clause (R147, R375, R381). Where line 0 has an uncorrectable error, both slots are
to be tried, and to show code 1 where the NOR does not answer. The log entry of the wake source comes before the boot record is read, and
its lines are sent by its SEQ. Nothing in the clause keeps an older record, not yet done, from having that SEQ: where it is a record of
line 0, its line goes to the cells in place of the entry's, line 0 reads again, and the slots are not tried. -/

namespace Sys2Proof.Machine

/-- Boot waits at step 2 after a wake from Off. Line 0 has an uncorrectable error, both slots are EMPTY, and the ring's one record, for
line 0, is not yet done and has the SEQ that the next record gets. Every memory has its canonical form. -/
def seqClash : State :=
  { State.reset with
    power := { phase := .tooHot, offWake := true }
    boot := { slotA := { state := .empty }, slotB := { state := .empty } }
    ledger := { bad := [0] }
    wbl := { ring := vset (Vector.replicate 128 {}) 0 { state := .issued, origin := 4, seq := 1, body := .ledgerLine 0 [] } } }

/-- A boot in which the NOR does not answer. -/
def norSilent : BootEnv :=
  { tj := 0, bootsel := false, nor := false, sfdp := false, erase := 0x20, read := { lines := 1, mhz := 20 }, slotA := {}
    slotB := {}, torn := [], sweepUs := 0, ms := 0 }

theorem seqClash_waits : seqClash.MemWf ∧ seqClash.power.phase = .tooHot ∧ seqClash.bootTooHot = false ∧ seqClash.ledger.buf = [] ∧
    seqClash.ledger.waiting = [] ∧ seqClash.wbl.waiting = [] ∧ 0 ∈ seqClash.ledger.bad := by
  unfold State.MemWf
  decide +kernel

/-- The log entry of the wake source sends the older record's line, which makes line 0 readable; the slots keep their state, and an EMPTY
one shows code 3. -/
theorem seqClash_boots : (seqClash.bootCauses norSilent.sweepUs).bootLogs.ledger.bad = [] ∧
    (seqClash.bootHeat norSilent).boot.failA = 3 := by decide +kernel

/-- Refutes O57: in `seqClash` the boot shows code 3 for slot A where the clause on a bad line 0 asks for code 1. -/
theorem not_bootAndStaging : ¬ Obligations.BootAndStaging := by
  unfold Obligations.BootAndStaging
  intro h
  obtain ⟨-, waits, -⟩ := h
  obtain ⟨-, -, badLine⟩ := waits seqClash norSilent
  obtain ⟨-, hphase, hheat, hbuf, hwaiting, hrecs, hbad⟩ := seqClash_waits
  obtain ⟨t, ht, -, failA, -⟩ := badLine hphase hheat hbuf hwaiting hrecs hbad rfl
  obtain rfl : seqClash.bootHeat norSilent = t := Host.Outcome.next.inj ht
  exact absurd (seqClash_boots.2.symm.trans failA) (by decide)

end Sys2Proof.Machine
end

section
/-! PROOFS. Main SRAM: what a read, a narrow write, a scrub and a MEM_CLEAR do to a word, its tag and its check bits (R128 to R134,
R151 to R155). -/

namespace Sys2Proof.Machine

/-! ### A Lodger's access, granted -/

/-- A permitted access takes place once it is granted. -/
theorem State.arbitrated_lodger {s : State} {n : Fin 4} {user : Bool} {kind : AccessKind} {addr : Nat} (h : s.may n user kind addr)
    (refused : Nat) (go : State → State) :
    s.arbitrated { who := .lodger n user, refused := refused } kind addr go = go (s.granted refused) := State.access_lodger h _

theorem State.granted_eq (s : State) (refused : Nat) : s.granted refused = { s with mem := (s.granted refused).mem } := by
  unfold State.granted
  split <;> rfl

/-! ### The condition of a word (R126, R130, R152) -/

theorem Sram.state_unwritten_iff {m : Sram} {w : Nat} : m.state w = .unwritten ↔ w ∉ m.tags := by
  unfold Sram.state
  split <;> [skip; split] <;> simp_all

theorem Sram.state_good_iff {m : Sram} {w : Nat} : m.state w = .good ↔ w ∈ m.tags ∧ w ∉ m.doubles := by
  unfold Sram.state
  split <;> [skip; split] <;> simp_all

/-- A correction touches nothing but the word's mark and the records of R130. -/
theorem State.correctWord_frame (s : State) (w : Nat) :
    s.correctWord w = { s with sram := { s.sram with singles := (s.correctWord w).sram.singles }, mem := (s.correctWord w).mem } := by
  unfold State.correctWord
  split <;> rfl

theorem State.correctWord_clears {s : State} (h : Marks.wfFrom 0 s.sram.singles = true) (w : Nat) :
    w ∉ (s.correctWord w).sram.singles := by
  unfold State.correctWord
  split
  · simp [Marks.mem_del h]
  · assumption

theorem State.correctWord_single {s : State} {w : Nat} (h : w ∈ s.sram.singles) : (s.correctWord w).mem =
    { s.mem with ceCnt := satInc 0xFFFF s.mem.ceCnt, ce := true, eccAddr := wordAddr w } := by
  simp [State.correctWord, h]

theorem State.correctWord_clean {s : State} {w : Nat} (h : w ∉ s.sram.singles) : s.correctWord w = s := if_neg h

/-! ### MAIN_SRAM_READ -/

/-- The state that a read or write of main SRAM finds once it is granted, with the upset that its word meets. -/
def State.reaching (s : State) (refused addr : Nat) (u : Upset) : State :=
  (s.granted refused).mapSram fun m => m.upset (wordOf addr) u

section read
variable {s : State} {n : Fin 4} {user : Bool} {addr k : Nat} (h : s.may n user .load addr) (hin : inWord addr k = true) (refused : Nat)
  (u : Upset)
include h hin

/-- A written word's data. -/
theorem exec_mainSramRead_good (hst : (s.reaching refused addr u).sram.state (wordOf addr) = .good) :
    exec (.mainSramRead { who := .lodger n user, refused := refused } false addr k u) s =
      .next (((s.reaching refused addr u).correctWord (wordOf addr)).answer
        (BitVec.ofNat 32 (leNat ((s.reaching refused addr u).sram.bytes addr k)))) := by
  rw [State.reaching] at hst
  simp only [exec, execMainSramRead, hin, if_true, State.mainSramRead, Bool.false_eq_true, if_false, State.arbitrated_lodger h,
    State.sramRead, hst, State.noteWord]
  rfl

/-- No data: R151 and R152. -/
theorem exec_mainSramRead_bad {c : WordState} (hst : (s.reaching refused addr u).sram.state (wordOf addr) = c) (hc : c ≠ .good) :
    exec (.mainSramRead { who := .lodger n user, refused := refused } false addr k u) s =
      .next (((s.reaching refused addr u).noteWord (.lodger n user) (wordOf addr) c).answerError (.lodger n user) .load addr) := by
  rw [State.reaching] at hst
  simp only [exec, execMainSramRead, hin, if_true, State.mainSramRead, Bool.false_eq_true, if_false, State.arbitrated_lodger h,
    State.sramRead, hst, hc]
  rfl

end read

/-- No condition of a word touches the count of R134. -/
theorem State.noteWord_promote (s : State) (who : Requester) (w : Nat) (c : WordState) :
    (s.noteWord who w c).mem.promote = s.mem.promote := by
  cases c with
  | good =>
    simp only [State.noteWord, State.correctWord]
    split <;> rfl
  | _ => rfl

/-! ### MAIN_SRAM_WRITE -/

/-- The bytes of main SRAM after a narrow write: an unwritten word gets zeros beside the bytes written (R128). -/
def Sram.narrowCells (m : Sram) (addr : Nat) (bs : List Byte) : List Host.Cell :=
  Memory.setMany 0
    (if m.state (wordOf addr) = .unwritten then Memory.setMany 0 m.cells (8 * wordOf addr) (List.replicate 8 0) else m.cells)
    (addr - sramBase) bs

/-- R128: what main SRAM is after a narrow write of a word that can be read. -/
structure Sram.NarrowWritten (m : Sram) (addr : Nat) (bs : List Byte) (m' : Sram) : Prop where
  cells : m'.cells = m.narrowCells addr bs
  tags : m'.tags = Marks.add (wordOf addr) m.tags
  singles : wordOf addr ∉ m'.singles
  doubles : wordOf addr ∉ m'.doubles

theorem State.sramWrite_narrow {s : State} (hwf : s.sram.wf) (who : Requester) {addr : Nat} {bs : List Byte} (hlen : bs.length < 8)
    (hst : s.sram.state (wordOf addr) ≠ .uncorrectable) :
    ∃ m r, s.sramWrite who addr bs = (true, { s with sram := m, mem := r }) ∧ s.sram.NarrowWritten addr bs m := by
  obtain ⟨-, -, hsingles, hdoubles⟩ := hwf
  cases hc : s.sram.state (wordOf addr) with
  | good =>
    obtain ⟨htag, hdouble⟩ := Sram.state_good_iff.mp hc
    have frame := s.correctWord_frame (wordOf addr)
    have clear := State.correctWord_clears hsingles (wordOf addr)
    simp only [State.sramWrite, Nat.not_le.mpr hlen, if_false, hc]
    generalize s.correctWord (wordOf addr) = t at frame clear
    rw [frame] at clear ⊢
    exact ⟨_, _, rfl, by simp [Sram.narrowCells, hc], rfl, fun hw => clear (Marks.mem_of_mem_del hw), by simpa [htag] using hdouble⟩
  | unwritten =>
    have htag := Sram.state_unwritten_iff.mp hc
    simp only [State.sramWrite, Nat.not_le.mpr hlen, if_false, hc]
    exact ⟨_, _, rfl, by simp [Sram.narrowCells, hc], rfl, by simp [Marks.mem_del hsingles], by simp [htag, Marks.mem_del hdoubles]⟩
  | uncorrectable => exact absurd hc hst

theorem State.sramWrite_refused {s : State} (who : Requester) {addr : Nat} {bs : List Byte} (hlen : bs.length < 8)
    (hst : s.sram.state (wordOf addr) = .uncorrectable) :
    s.sramWrite who addr bs = (false, s.noteWord who (wordOf addr) .uncorrectable) := by
  simp only [State.sramWrite, Nat.not_le.mpr hlen, if_false, hst]

theorem exec_mainSramWrite {s : State} {n : Fin 4} {user : Bool} {addr : Nat} {bs : List Byte} (h : s.may n user .store addr)
    (hin : inWord addr bs.length = true) : exec (.mainSramWrite { who := .lodger n user } addr bs .none) s =
      .next (if (s.sramWrite (.lodger n user) addr bs).1 then (s.sramWrite (.lodger n user) addr bs).2.answer 0
        else (s.sramWrite (.lodger n user) addr bs).2.answerError (.lodger n user) .store addr) := by
  simp only [exec, execMainSramWrite, hin, if_true, State.mainSramWrite, State.arbitrated_lodger h]
  rfl

/-- A word's eight bytes, as offsets from the first address of main SRAM. -/
theorem word_bytes_iff {a w : Nat} : 8 * w ≤ a ∧ a < 8 * w + (List.replicate 8 (0 : Byte)).length ↔ a / 8 = w := by
  rw [List.length_replicate]
  omega

/-- A word of zeros written: its bytes read as zero, every other byte as before. -/
theorem Memory.get_zeroWord {m : List Host.Cell} (h : Memory.wf 0 m = true) (w a : Nat) :
    Memory.get 0 (Memory.setMany 0 m (8 * w) (List.replicate 8 0)) a = if a / 8 = w then 0 else Memory.get 0 m a := by
  rw [Memory.get_setMany h]
  simp only [word_bytes_iff]
  split
  · rw [List.getD_replicate]
    omega
  · rfl

theorem Sram.get_narrowCells {m : Sram} (h : Memory.wf 0 m.cells = true) (addr : Nat) (bs : List Byte) (a : Nat) :
    Memory.get 0 (m.narrowCells addr bs) a =
      if addr - sramBase ≤ a ∧ a < addr - sramBase + bs.length then bs.getD (a - (addr - sramBase)) 0
      else if a / 8 = wordOf addr ∧ m.state (wordOf addr) = .unwritten then 0 else Memory.get 0 m.cells a := by
  unfold Sram.narrowCells
  by_cases hst : m.state (wordOf addr) = .unwritten
  · rw [if_pos hst, Memory.get_setMany (Memory.setMany_wf _ _ h), Memory.get_zeroWord h]
    simp [hst]
  · rw [if_neg hst, Memory.get_setMany h]
    simp [hst]

/-- Settles O32: the write is `sramWrite_narrow`, and `get_narrowCells` reads its bytes back. -/
theorem sramWrites : Obligations.SramWrites := by
  unfold Obligations.SramWrites
  intro s n user addr bs hmem hmay hin hlen hst
  obtain ⟨hcells, htags, hsingles, hdoubles, -⟩ := hmem
  obtain ⟨m, r, write, written⟩ := State.sramWrite_narrow ⟨hcells, htags, hsingles, hdoubles⟩ (.lodger n user) hlen hst
  refine ⟨{ s with bus := { data := 0, outcome := .ok }, sram := m, mem := r }, ?_, fun a => ?_, ?_, written.singles, fun w hw => ?_,
    rfl, rfl⟩
  · rw [exec_mainSramWrite hmay hin, write]
    rfl
  · rw [written.cells, Sram.get_narrowCells hcells]
  · exact Sram.state_good_iff.mpr ⟨by simp [written.tags, Marks.mem_add], written.doubles⟩
  · simp [written.tags, Marks.mem_add, hw]

/-! ### Reads (R130, R151, R152) -/

/-- An upset that no read would find uncorrectable marks at most the word itself. -/
theorem Sram.upset_of_not_double (m : Sram) {w : Nat} {u : Upset} (hu : u ≠ .double) (hw : w ∉ m.doubles) :
    m.upset w u = { m with singles := if u = .single then Marks.add w m.singles else m.singles } := by
  cases u with
  | none => rfl
  | single => simp [Sram.upset, hw]
  | double => exact absurd rfl hu

/-- Settles O33: the upset leaves the word good (`upset_of_not_double`), so that the read is one of the corrected word. -/
theorem sramCorrects : Obligations.SramCorrects := by
  unfold Obligations.SramCorrects
  intro s n user addr k u hmem hmay hin _ hst hu
  obtain ⟨-, -, hsingles, -⟩ := hmem
  obtain ⟨htag, hdouble⟩ := Sram.state_good_iff.mp hst
  have upset : s.reaching 0 addr u = { s with sram := { s.sram with
      singles := if u = .single then Marks.add (wordOf addr) s.sram.singles else s.sram.singles } } :=
    congrArg (fun m => s.mapSram fun _ => m) (s.sram.upset_of_not_double hu hdouble)
  have marked : wordOf addr ∈ (s.reaching 0 addr u).sram.singles ↔ u = .single ∨ wordOf addr ∈ s.sram.singles := by
    rw [upset]
    dsimp only
    split <;> simp_all [Marks.mem_add]
  have sound : Marks.wfFrom 0 (s.reaching 0 addr u).sram.singles = true := by
    rw [upset]
    dsimp only
    split
    · exact Marks.add_wfFrom _ _ 0 (Nat.zero_le _) hsingles
    · exact hsingles
  have frame := (s.reaching 0 addr u).correctWord_frame (wordOf addr)
  refine ⟨_, exec_mainSramRead_good hmay hin 0 u ?good, ?data, ?cells, ?tags, ?doubles, ?clear, ?frame, ?counted, ?clean⟩
  case good => rw [upset]; exact Sram.state_good_iff.mpr ⟨htag, hdouble⟩
  case data => rw [upset]; rfl
  case clear => exact State.correctWord_clears sound _
  case counted =>
    intro hsingle
    refine (State.correctWord_single (marked.mpr hsingle)).trans ?_
    rw [upset]
    rfl
  case clean =>
    intro hnone hclean
    have kept := State.correctWord_clean (mt marked.mp (by simp [hnone, hclean]))
    rw [kept, upset, if_neg (by simp [hnone])]
    rfl
  all_goals
    rw [frame, upset]
    rfl

/-! ### The scrubber (R131) -/

theorem exec_scrubStep {s : State} (hawake : s.awake = true) (hen : s.mem.scrubEn = true) {w : Nat}
    (hnext : s.sram.nextWritten s.mem.scrubPos = some w) :
    exec (.scrubStep 0 .none) s = .next ((s.scrubWord w).mapMem fun r => { r with scrubPos := (w + 1) % 65536 }) := by
  simp only [exec, execScrubStep, State.scrubStep, hawake, hen, Bool.and_self, if_true, hnext]
  rfl

/-- Settles O34: a bad word is noted and answered with an error (`exec_mainSramRead_bad`), a bad word is not written
(`sramWrite_refused`), and the scrubber's read is a correction. -/
theorem sramReadErrors : Obligations.SramReadErrors := by
  unfold Obligations.SramReadErrors
  refine ⟨?read, ?write, ?scrub, ?promote⟩
  case read =>
    intro s n user addr k hmay hin
    refine ⟨fun hst => ⟨_, exec_mainSramRead_bad hmay hin 0 .none hst (by decide), rfl, ?_, rfl, rfl, fun m hm => ?_⟩,
      fun hst => ⟨_, exec_mainSramRead_bad hmay hin 0 .none hst (by decide), rfl, ?_, rfl, rfl⟩⟩
    · exact vget_vset_same s.lodgers n _
    · exact vget_vset_ne s.lodgers n m _ hm
    · exact vget_vset_same s.lodgers n _
  case write =>
    intro s n user addr bs hmay hin hlen hst
    have step := exec_mainSramWrite hmay hin
    rw [State.sramWrite_refused _ hlen hst] at step
    exact ⟨_, step, rfl, vget_vset_same s.lodgers n _, rfl, rfl, rfl⟩
  case scrub =>
    intro s hawake hen hmem
    obtain ⟨-, -, hsingles, -⟩ := hmem
    refine ⟨fun hempty => ?_, fun w hnext hbad => ?_, fun w hnext hgood => ?_⟩
    · simp [exec, execScrubStep, State.scrubStep, hawake, hen, Sram.nextWritten, hempty]
    · rw [exec_scrubStep hawake hen hnext, State.scrubWord, if_pos hbad]
      rfl
    · have step := exec_scrubStep hawake hen hnext
      rw [State.scrubWord, if_neg hgood] at step
      have frame := s.correctWord_frame w
      refine ⟨_, step, State.correctWord_clears hsingles w, rfl, ?_, ?_, ?_, ?_⟩
      · exact congrArg (·.sram.cells) frame
      · exact congrArg (·.sram.tags) frame
      · show (s.correctWord w).mem.ceCnt = _
        unfold State.correctWord
        split <;> rfl
      · rw [frame]
        rfl
  case promote =>
    intro s n user addr k refused hmay hin hrefused
    have granted : (s.reaching refused addr .none).mem.promote = satInc 0xFFFFFFFF s.mem.promote := by
      simp [State.reaching, State.granted, hrefused]
    by_cases hst : (s.reaching refused addr .none).sram.state (wordOf addr) = .good
    · exact ⟨_, exec_mainSramRead_good hmay hin refused .none hst,
        (State.noteWord_promote _ (.lodger n user) _ .good).trans granted⟩
    · exact ⟨_, exec_mainSramRead_bad hmay hin refused .none rfl hst, (State.noteWord_promote ..).trans granted⟩

/-! ### MEM_CLEAR (R154) -/

theorem exec_memClear {s : State} {n : Fin 4} {user : Bool} (h : s.may n user .store 0x40003014) (addr : Word) (refused : Nat) :
    exec (.memClear n user addr refused) s = .next (((s.granted refused).answer 0).memClear n user addr.toNat) := by
  simp only [exec, execMemClear, State.lodgerAccess, State.arbitrated_lodger h]

/-- Settles O35: what MEM_CLEAR does follows the permission of the address that it names. -/
theorem memClears : Obligations.MemClears := by
  unfold Obligations.MemClears
  intro s n user addr refused hmem hmay
  obtain ⟨hcells, htags, hsingles, hdoubles, -⟩ := hmem
  have kept : ((s.granted refused).answer 0).lodger n = s.lodger n := by rw [State.granted_eq]; rfl
  have sram : (s.granted refused).sram = s.sram := by rw [State.granted_eq]
  refine ⟨fun hpermits hin => ⟨_, exec_memClear hmay addr refused, ?_⟩, fun hrefuses => ?_⟩
  · simp only [State.memClear, kept, hpermits, Bool.not_true, Bool.false_eq_true, if_false, hin, if_true]
    refine ⟨fun a => ?_, fun w => ?_, ?_, ?_, rfl, rfl⟩
    · exact (congrArg (fun m => Memory.get 0 (Memory.setMany 0 m.cells _ _) a) sram).trans (Memory.get_zeroWord hcells _ a)
    · simp [State.answer, sram, Marks.mem_del htags, and_comm]
    · simp [State.answer, sram, Marks.mem_del hsingles]
    · simp [State.answer, sram, Marks.mem_del hdoubles]
  · rw [exec_memClear hmay]
    simp only [State.memClear, kept, hrefuses, Bool.not_false, if_true, State.answerError_lodger]
    rw [State.granted_eq]
    rfl

end Sys2Proof.Machine
end

section
/-! PROOFS. The Ledger: its read view and poison (R141, R144, R146), the oldest buffered line on its way into the cells with what ends
with it, a request that waits too long, and a kept entry journaled (R143, R148, R150, R384, R422). -/

namespace Sys2Proof.Machine

/-! ### The read view -/

/-- A word of the read view lies in the line of its address. -/
theorem ledgerLineOf_aligned (addr : Nat) : ledgerLineOf (addr / 4 * 4) = ledgerLineOf addr := by
  unfold ledgerLineOf
  omega

theorem Ledger.cell_unwritten {l : Ledger} {n : Nat} (h : Lines.get l.lines n = none) : l.cell n = none := by
  simp [Ledger.cell, h]

/-- An upset is nothing to a line that reads as poison. -/
theorem State.ledgerUpset_of_poison {s : State} {line : Nat} (h : s.ledger.cell line = none) (u : Upset) :
    s.ledgerUpset line u = s := by
  cases u <;> simp [State.ledgerUpset, h]

/-- R146: a word of a line that was never written. -/
theorem State.ledgerWord_poison {s : State} {addr : Nat} (h : s.ledger.cell (ledgerLineOf addr) = none)
    (hbad : ledgerLineOf addr ∉ s.ledger.bad) : s.ledgerWord addr =
      (0xFFFFFFFF#32, { s with mem := { s.mem with poison := true, poisonLine := ledgerLineOf addr } }) := by
  simp [State.ledgerWord, h, hbad, State.mapMem]

theorem State.ledgerWord_written {s : State} {addr : Nat} {d : Line} (h : s.ledger.cell (ledgerLineOf addr) = some d) :
    s.ledgerWord addr = (BitVec.ofNat 32 (fieldAt d (addr % 32) 4), s) := by
  simp only [State.ledgerWord, h]

theorem exec_ledgerRead {s : State} {n : Fin 4} {user : Bool} {addr : Nat} (h : s.may n user .load addr) (hin : inLedger addr = true)
    (u : Upset) : exec (.ledgerRead { who := .lodger n user } addr u) s =
      .next (((s.ledgerUpset (ledgerLineOf addr) u).ledgerWord (addr / 4 * 4)).2.answer
        ((s.ledgerUpset (ledgerLineOf addr) u).ledgerWord (addr / 4 * 4)).1) := by
  simp only [exec, execLedgerRead, hin, if_true, State.arbitrated_lodger h]
  rfl

/-- Settles O36: no upset matters to a line that was never written, and its words are poison. -/
theorem ledgerPoison : Obligations.LedgerPoison := by
  unfold Obligations.LedgerPoison
  intro s n user addr u hmay hin hget hbad
  have cell : s.ledger.cell (ledgerLineOf (addr / 4 * 4)) = none := by
    rw [ledgerLineOf_aligned]
    exact Ledger.cell_unwritten hget
  rw [exec_ledgerRead hmay hin, State.ledgerUpset_of_poison (Ledger.cell_unwritten hget),
    State.ledgerWord_poison cell (by rwa [ledgerLineOf_aligned]), ledgerLineOf_aligned]
  rfl

/-! ### Mailboxes of requests that end with a record or a line (R143) -/

/-- What each step of a fold makes of its own mailbox, the fold makes of every mailbox. -/
theorem foldl_mailboxes {f : State → Fin 4 → State} (other : ∀ s i j, j ≠ i → (f s i).mbx j = s.mbx j)
    {R : Mailbox → Mailbox → Prop} (own : ∀ s i, R (s.mbx i) ((f s i).mbx i)) (s : State) (i : Fin 4) :
    R (s.mbx i) (((List.finRange 4).foldl f s).mbx i) := by
  have unlisted : ∀ l : List (Fin 4), i ∉ l → ∀ s, (l.foldl f s).mbx i = s.mbx i := by
    intro l
    induction l with
    | nil => exact fun _ _ => rfl
    | cons j l ih =>
      intro h s
      obtain ⟨hj, hl⟩ := not_or.mp (mt List.mem_cons.mpr h)
      exact (ih hl _).trans (other s j i hj)
  have listed : ∀ l : List (Fin 4), l.Nodup → i ∈ l → ∀ s, R (s.mbx i) ((l.foldl f s).mbx i) := by
    intro l
    induction l with
    | nil => exact fun _ h => absurd h List.not_mem_nil
    | cons j l ih =>
      intro hl hm s
      obtain ⟨hj, hl⟩ := List.nodup_cons.mp hl
      by_cases e : i = j
      · subst e
        rw [List.foldl_cons, unlisted l hj]
        exact own s i
      · rw [← other s j i e]
        exact ih hl ((List.mem_cons.mp hm).resolve_left e) _
  exact listed _ (List.nodup_finRange 4) (List.mem_finRange i) s

/-- A mailbox whose request has completed, with a value in RES0 or without. -/
def Mailbox.Ended (m : Mailbox) (result : Nat) (m' : Mailbox) : Prop := ∃ res, m' = { m with res := res }.completed result

theorem Mailbox.Ended.done {m m' : Mailbox} {result : Nat} (h : m.Ended result m') :
    m'.busy = false ∧ m'.done = true ∧ m'.result = result := by
  obtain ⟨res, rfl⟩ := h
  exact ⟨rfl, rfl, rfl⟩

theorem State.mbxRes0_eq (s : State) (n : Fin 4) (w : Word) :
    s.mbxRes0 n w = s.mapMbx n fun m => { m with res := vset m.res 0 w } := rfl

theorem State.mapMbx_mbx_ne (s : State) {n m : Fin 4} (h : m ≠ n) (f : Mailbox → Mailbox) : (s.mapMbx n f).mbx m = s.mbx m :=
  congrArg Lodger.mbx (s.mapMbx_lodger_ne h f)

theorem State.mbxDone_mbx_ne (s : State) {n m : Fin 4} (h : m ≠ n) (result : Nat) : (s.mbxDone n result).mbx m = s.mbx m := by
  rw [State.mbxDone_eq, State.mapMbx_mbx_ne _ h]

theorem State.mbxRes0_mbx_ne (s : State) {n m : Fin 4} (h : m ≠ n) (w : Word) : (s.mbxRes0 n w).mbx m = s.mbx m := by
  rw [State.mbxRes0_eq, State.mapMbx_mbx_ne _ h]

/-- A completion of Lodger `n`'s request, after a value in RES0 or without. -/
theorem State.mbxDone_ended (s : State) (n : Fin 4) (result : Nat) : (s.mbx n).Ended result ((s.mbxDone n result).mbx n) :=
  ⟨(s.mbx n).res, s.mbxDone_mbx n result⟩

theorem State.mbxRes0_ended (s : State) (n : Fin 4) (w : Word) (result : Nat) :
    (s.mbx n).Ended result (((s.mbxRes0 n w).mbxDone n result).mbx n) :=
  ⟨_, by rw [State.mbxDone_mbx, State.mbxRes0_eq, State.mapMbx_mbx_same]⟩

/-- A request that waits for the record of a SEQ completes, every other one goes on. -/
theorem State.mbxOnRecord_mbx (s : State) (q : Nat) (body : RecBody) (result : Nat) (n : Fin 4) :
    (∀ since, (s.mbx n).job = .onRecord q since → (s.mbx n).Ended result ((s.mbxOnRecord q body result).mbx n)) ∧
      ((∀ since, (s.mbx n).job ≠ .onRecord q since) → (s.mbxOnRecord q body result).mbx n = s.mbx n) := by
  refine foldl_mailboxes (R := fun m m' => (∀ since, m.job = .onRecord q since → m.Ended result m') ∧
    ((∀ since, m.job ≠ .onRecord q since) → m' = m)) (fun u i j hj => ?other) (fun u i => ?own) s n
  case other =>
    split
    · split
      · split
        · split
          · rw [State.mbxDone_mbx_ne _ hj, State.mbxRes0_mbx_ne _ hj]
          · exact u.mbxDone_mbx_ne hj _
        · exact u.mbxDone_mbx_ne hj _
      · rfl
    · rfl
  case own =>
    split
    next q' since job =>
      replace job : (u.mbx i).job = .onRecord q' since := job
      by_cases hq : q' = q
      · subst hq
        refine ⟨fun _ _ => ?_, fun h => absurd job (h since)⟩
        simp only [if_true]
        split
        · split
          · exact u.mbxRes0_ended i _ result
          · exact u.mbxDone_ended i result
        · exact u.mbxDone_ended i result
      · rw [if_neg hq, job]
        exact ⟨fun _ h => absurd (Job.onRecord.inj h).1 hq, fun _ => rfl⟩
    next job => exact ⟨fun since h => absurd h (job q since), fun _ => rfl⟩

/-- A request that waits for a line completes with the result that it keeps, every other one goes on. -/
theorem State.mbxOnLine_mbx (s : State) (line : Nat) (data : Line) (n : Fin 4) :
    (∀ result res0, (s.mbx n).job = .onLine line data result res0 → (s.mbx n).Ended result ((s.mbxOnLine line data).mbx n)) ∧
      ((∀ result res0, (s.mbx n).job ≠ .onLine line data result res0) → (s.mbxOnLine line data).mbx n = s.mbx n) := by
  refine foldl_mailboxes (R := fun m m' => (∀ result res0, m.job = .onLine line data result res0 → m.Ended result m') ∧
    ((∀ result res0, m.job ≠ .onLine line data result res0) → m' = m)) (fun u i j hj => ?other) (fun u i => ?own) s n
  case other =>
    split
    · split
      · split
        · rw [State.mbxDone_mbx_ne _ hj, State.mbxRes0_mbx_ne _ hj]
        · exact u.mbxDone_mbx_ne hj _
      · rfl
    · rfl
  case own =>
    split
    next l d result res0 job =>
      replace job : (u.mbx i).job = .onLine l d result res0 := job
      by_cases hl : l = line ∧ d = data
      · obtain ⟨rfl, rfl⟩ := hl
        refine ⟨fun result' res0' h => ?_, fun h => absurd job (h result res0)⟩
        obtain ⟨-, -, rfl, -⟩ := Job.onLine.inj (job.symm.trans h)
        simp only [and_self, if_true]
        split
        · exact u.mbxRes0_ended i _ result
        · exact u.mbxDone_ended i result
      · rw [if_neg hl, job]
        exact ⟨fun _ _ h => absurd ⟨(Job.onLine.inj h).1, (Job.onLine.inj h).2.1⟩ hl, fun _ => rfl⟩
    next job => exact ⟨fun result res0 h => absurd h (job line data result res0), fun _ => rfl⟩

/-! ### The oldest buffered line reaches the cells (R143, R148) -/

/-- Of the Lodgers' mailboxes, the Waybill and the Ledger's way in alone something may have changed. -/
def State.LineFrame (s t : State) : Prop := t = { s with ledger := t.ledger, wbl := t.wbl, lodgers := t.lodgers }

theorem State.LineFrame.refl (s : State) : State.LineFrame s s := rfl

theorem State.LineFrame.trans {s t u : State} (h : State.LineFrame s t) (h' : State.LineFrame t u) : State.LineFrame s u := by
  rw [State.LineFrame] at *
  rw [h', h]

theorem State.LinesSent.lineFrame {s t : State} (h : State.LinesSent s t) : State.LineFrame s t := by
  have frame := h.frame
  rw [State.LineFrame, frame]

/-- A change of the mailboxes alone. -/
def State.LodgersOnly (s t : State) : Prop := t = { s with lodgers := t.lodgers }

theorem State.LodgersOnly.refl (s : State) : State.LodgersOnly s s := rfl

theorem State.LodgersOnly.trans {s t u : State} (h : State.LodgersOnly s t) (h' : State.LodgersOnly t u) : State.LodgersOnly s u := by
  rw [State.LodgersOnly] at *
  rw [h', h]

theorem State.LodgersOnly.lineFrame {s t : State} (h : State.LodgersOnly s t) : State.LineFrame s t := by
  rw [State.LodgersOnly] at h
  rw [State.LineFrame, h]

theorem State.mbxOnRecord_lodgersOnly (s : State) (q : Nat) (body : RecBody) (result : Nat) :
    State.LodgersOnly s (s.mbxOnRecord q body result) := by
  refine foldl_keeps .refl .trans (fun u n => ?_) _ s
  split
  · split
    · split
      · split <;> rfl
      · rfl
    · rfl
  · rfl

theorem State.mbxOnLine_lodgersOnly (s : State) (line : Nat) (data : Line) : State.LodgersOnly s (s.mbxOnLine line data) := by
  refine foldl_keeps .refl .trans (fun u n => ?_) _ s
  split
  · split
    · split <;> rfl
    · rfl
  · rfl

/-- A record ends, and the requests that wait for it; the Ledger stays. -/
theorem State.recDone_frame (s : State) (q reason : Nat) : State.LineFrame s (s.recDone q reason) ∧
    (s.recDone q reason).ledger = s.ledger := by
  unfold State.recDone
  split
  · exact ⟨.refl s, rfl⟩
  next r _ =>
    have ended : State.LineFrame s (s.mapRec q fun r => { r with state := .done, reason := reason }) := rfl
    have only := State.mbxOnRecord_lodgersOnly (s.mapRec q fun r => { r with state := .done, reason := reason }) q r.body 0
    exact ⟨ended.trans only.lineFrame, by rw [only]; rfl⟩

theorem State.refill_linesSent (s : State) : State.LinesSent s s.refill := by
  have taken (ws : List BufEntry) : State.LinesSent s (s.mapLedger fun l => { l with waiting := ws }) := ⟨.of_wbl rfl, rfl, rfl⟩
  unfold State.refill
  split
  · exact .refl s
  · split
    · exact (taken _).trans (State.bufferLine_linesSent ..)
    · exact .refl s

theorem State.refill_of_none {s : State} (h : s.ledger.waiting = []) : s.refill = s := by
  simp only [State.refill, h]

/-- The line in the cells, its record ended where it is the last of one. -/
def State.lineEnded (s : State) (e : BufEntry) (es : List BufEntry) : State :=
  match e.done with
  | some q => ((s.mapLedger fun l => { l with buf := es }).writeCells e.line e.data).recDone q 0
  | none => (s.mapLedger fun l => { l with buf := es }).writeCells e.line e.data

theorem State.writeOldest_cons {s : State} {e : BufEntry} {es : List BufEntry} (h : s.ledger.buf = e :: es) :
    s.writeOldest = ((s.lineEnded e es).mbxOnLine e.line e.data).refill := by
  cases hdone : e.done <;> simp only [State.writeOldest, h, State.lineEnded, hdone]

/-- What `lineEnded` does: the line stands in the cells, and a request that waits for its record has completed. -/
structure State.LineEnded (s : State) (e : BufEntry) (es : List BufEntry) (t : State) : Prop where
  frame : State.LineFrame s t
  lines : t.ledger.lines = Lines.set s.ledger.lines e.line (padTo 32 e.data)
  buf : t.ledger.buf = es
  waiting : t.ledger.waiting = s.ledger.waiting
  onRecord : ∀ n q since r, e.done = some q → s.wbl.find? q = some r → (s.mbx n).job = .onRecord q since → (s.mbx n).Ended 0 (t.mbx n)
  others : ∀ n, (∀ q since, (s.mbx n).job ≠ .onRecord q since) → t.mbx n = s.mbx n

theorem State.lineEnded_spec (s : State) (e : BufEntry) (es : List BufEntry) : s.LineEnded e es (s.lineEnded e es) := by
  unfold State.lineEnded
  have frame : State.LineFrame s ((s.mapLedger fun l => { l with buf := es }).writeCells e.line e.data) := rfl
  split
  next q hq =>
    obtain ⟨ended, ledger⟩ := ((s.mapLedger fun l => { l with buf := es }).writeCells e.line e.data).recDone_frame q 0
    refine ⟨frame.trans ended, by rw [ledger]; rfl, by rw [ledger]; rfl, by rw [ledger]; rfl, fun n q' since r hq' hr job => ?_,
      fun n job => ?_⟩
    · obtain rfl : q = q' := Option.some.inj (hq.symm.trans hq')
      have find : ((s.mapLedger fun l => { l with buf := es }).writeCells e.line e.data).wbl.find? q = some r := hr
      simp only [State.recDone, find]
      exact (State.mbxOnRecord_mbx _ q r.body 0 n).1 since job
    · unfold State.recDone
      split
      · rfl
      · exact (State.mbxOnRecord_mbx _ q _ 0 n).2 fun since => job q since
  next hq => exact ⟨frame, rfl, rfl, rfl, fun n q _ _ hq' _ _ => by simp [hq] at hq', fun _ _ => rfl⟩

/-- R143: what the oldest buffered line leaves when it has reached the cells. -/
structure State.OldestWritten (s : State) (e : BufEntry) (es : List BufEntry) (t : State) : Prop where
  frame : State.LineFrame s t
  lines : t.ledger.lines = Lines.set s.ledger.lines e.line (padTo 32 e.data)
  buf : s.ledger.waiting = [] → t.ledger.buf = es
  onRecord : ∀ n q since r, e.done = some q → s.wbl.find? q = some r → (s.mbx n).job = .onRecord q since → (s.mbx n).Ended 0 (t.mbx n)
  onLine : ∀ n result res0, (s.mbx n).job = .onLine e.line e.data result res0 → (s.mbx n).Ended result (t.mbx n)

theorem State.writeOldest_written {s : State} {e : BufEntry} {es : List BufEntry} (h : s.ledger.buf = e :: es) :
    s.OldestWritten e es s.writeOldest := by
  rw [State.writeOldest_cons h]
  obtain ⟨frame, lines, buf, waiting, onRecord, others⟩ := s.lineEnded_spec e es
  generalize s.lineEnded e es = u at *
  have only := u.mbxOnLine_lodgersOnly e.line e.data
  have ledger : (u.mbxOnLine e.line e.data).ledger = u.ledger := u.mbxOnLine_ledger ..
  have sent := (u.mbxOnLine e.line e.data).refill_linesSent
  have mbx (n : Fin 4) : (u.mbxOnLine e.line e.data).refill.mbx n = (u.mbxOnLine e.line e.data).mbx n :=
    State.mbx_congr sent.lodgers n
  refine ⟨(frame.trans only.lineFrame).trans sent.lineFrame, ?_, fun hw => ?_, fun n q since r hq hr job => ?_, fun n result res0 job => ?_⟩
  · rw [sent.cells, ledger, lines]
  · have none : (u.mbxOnLine e.line e.data).ledger.waiting = [] := by rw [ledger, waiting, hw]
    rw [State.refill_of_none none, ledger, buf]
  · obtain ⟨res, ended⟩ := onRecord n q since r hq hr job
    rw [mbx, (u.mbxOnLine_mbx e.line e.data n).2 (by rw [ended]; simp [Mailbox.completed]), ended]
    exact ⟨res, rfl⟩
  · rw [mbx]
    have kept := others n (by rw [job]; simp)
    rw [← kept] at job ⊢
    exact (u.mbxOnLine_mbx e.line e.data n).1 result res0 job

theorem Lines.get_set_ne (l : List (Nat × List Byte)) {a x : Nat} (h : x ≠ a) (d : List Byte) :
    Lines.get (Lines.set l a d) x = Lines.get l x := by
  induction l with
  | nil => simp [Lines.set, Lines.get, h.symm]
  | cons y l ih =>
    obtain ⟨k, v⟩ := y
    simp only [Lines.set]
    split
    · simp [Lines.get, h.symm]
    · split
      · subst_vars
        simp [Lines.get, h.symm]
      · simp only [Lines.get, ih]

/-! ### A sound seal header that has reached the cells (R422) -/

theorem sealHeaderLine_eq (k : Nat) : sealHeaderLine k = 64 + 4 * k := by
  unfold sealHeaderLine
  omega

theorem State.headerStood_other {s : State} {line : Nat} (h : ∀ k : Fin 16, line ≠ sealHeaderLine k.val) : s.headerStood line = s := by
  unfold State.headerStood
  split
  · exact if_neg fun hc => h _ hc.1
  · rfl

theorem State.headerStood_header (s : State) (k : Fin 16) : s.headerStood (sealHeaderLine k.val) =
    if (s.readSeal k.val).headerOk = true ∧ (s.readSeal k.val).broken = false ∧ { s.seal k with diff := false } ≠ s.readSeal k.val then
      (s.sealStands k (s.readSeal k.val)).applySeal k (s.readSeal k.val).value
    else s := by
  have slot : idx? 16 ((sealHeaderLine k.val - 64) / 4) = some k := by
    rw [sealHeaderLine_eq, show (64 + 4 * k.val - 64) / 4 = k.val by omega]
    exact idx_of_fin k
  unfold State.headerStood
  rw [slot]
  simp only [true_and]

theorem State.loadRests_frame (s : State) (v : List Byte) : State.GateFrame s (s.loadRests v) := by
  refine foldl_keeps .refl .trans (fun u i => ?_) _ s
  have moved (f : Output → Output) := (u.mapOutp_frame i f).gateFrame
  have checked (t : State) := (t.strokeCheck_frame i).gateFrame
  have settled (t : State) : State.GateFrame t (t.settle i) := by
    obtain ⟨a, c, set, -⟩ := t.settle_outputSet i
    exact set.frame
  have applied (t : State) (x : Nat) : State.GateFrame t ((t.applyTo i x).targetReached i) :=
    (t.applyTo_frame i x).gateFrame.trans (State.targetReached_frame _ i)
  dsimp only
  split
  · exact .refl u
  · split
    · split
      · exact (moved _).trans (checked _)
      · exact ((moved _).trans (applied _ _)).trans (checked _)
    · exact ((moved _).trans (settled _)).trans (checked _)

/-- A seal value that takes effect leaves the seals, the Ledger and the mailboxes. -/
theorem State.applySeal_kept (s : State) (k : Fin 16) (v : List Byte) :
    (s.applySeal k v).seals = s.seals ∧ (s.applySeal k v).ledger = s.ledger ∧ ∀ n, (s.applySeal k v).mbx n = s.mbx n := by
  unfold State.applySeal
  split
  · have frame := s.loadRests_frame v
    rw [State.GateFrame] at frame
    exact ⟨by rw [frame], by rw [frame], State.mbx_congr (by rw [frame])⟩
  all_goals refine ⟨rfl, rfl, fun n => ?_⟩
  case h_7 => simp [State.mbx, State.lodger]
  all_goals rfl

/-- A header that has reached the cells leaves the Ledger and the mailboxes; a sound one is in force from then on. -/
theorem State.headerStood_kept (s : State) (line : Nat) :
    (s.headerStood line).ledger = s.ledger ∧ ∀ n, (s.headerStood line).mbx n = s.mbx n := by
  unfold State.headerStood
  split
  next k _ =>
    dsimp only
    split
    · obtain ⟨-, ledger, mbx⟩ := (s.sealStands k (s.readSeal k.val)).applySeal_kept k (s.readSeal k.val).value
      exact ⟨ledger, mbx⟩
    · exact ⟨rfl, fun _ => rfl⟩
  · exact ⟨rfl, fun _ => rfl⟩

theorem State.bankValue_congr {s t : State} (h : t.ledger = s.ledger) (k bank : Nat) : t.bankValue k bank = s.bankValue k bank := by
  unfold State.bankValue
  rw [h]

theorem State.readSeal_congr {s t : State} (h : t.ledger = s.ledger) (k : Nat) : t.readSeal k = s.readSeal k := by
  unfold State.readSeal
  simp only [h, State.bankValue_congr h]

/-- What is read of the cells shows no DIFF. -/
theorem State.readSeal_diff (s : State) (k : Nat) : { s.readSeal k with diff := false } = s.readSeal k := by
  unfold State.readSeal
  dsimp only
  split <;> rfl

theorem State.headerStood_inForce {s : State} {k : Fin 16} (hok : (s.readSeal k.val).headerOk = true)
    (hsound : (s.readSeal k.val).broken = false) :
    { (s.headerStood (sealHeaderLine k.val)).seal k with diff := false } = s.readSeal k.val := by
  rw [State.headerStood_header]
  simp only [hok, hsound, true_and]
  split
  · obtain ⟨seals, -, -⟩ := (s.sealStands k (s.readSeal k.val)).applySeal_kept k (s.readSeal k.val).value
    rw [State.seal, seals]
    simp only [State.sealStands, State.mapSeal, State.mapSeals_seals, vget_vmod_same]
    exact s.readSeal_diff k.val
  next h => exact not_not.mp h

/-! ### LEDGER_LINE_WRITTEN -/

/-- With no seal change under way nothing waits for the header. -/
theorem State.sealHeaderDone_none {s : State} (h : s.seals.commit = none) : s.sealHeaderDone = s := by
  simp only [State.sealHeaderDone, h]

theorem exec_ledgerLineWritten_closed {s : State} (hcommit : s.seals.commit = none) (hwin : s.windowOpen = false) :
    exec .ledgerLineWritten s = .next s := by
  simp only [exec, execLedgerLineWritten, State.lineDrained, hwin, Bool.and_false, Bool.false_eq_true, if_false,
    State.sealHeaderDone_none hcommit]
  split <;> rfl

theorem exec_ledgerLineWritten_open {s : State} {e : BufEntry} {es : List BufEntry} (hbuf : s.ledger.buf = e :: es)
    (halive : s.inkAlive = true) (hcommit : s.seals.commit = none) (hwin : s.windowOpen = true) :
    exec .ledgerLineWritten s = .next (s.writeOldest.headerStood e.line) := by
  have commit : s.writeOldest.seals.commit = none := by
    have frame := (State.writeOldest_written hbuf).frame
    rw [State.LineFrame] at frame
    rw [frame]
    exact hcommit
  simp only [exec, execLedgerLineWritten, State.lineDrained, hbuf, halive, hwin, Bool.and_self, if_true, State.ledgerLineWritten,
    State.sealHeaderDone_none commit]

/-! ### LEDGER_BUFFER_TIMEOUT (R150) -/

/-- A record's lines are given up, wherever they wait. -/
def State.linesGivenUp (s : State) (r : Rec) : State :=
  s.mapLedger fun l =>
    { l with waiting := l.waiting.filter fun e => !r.ownsLine e, buf := l.buf.filter fun e => !r.ownsLine e }

theorem exec_ledgerBufferTimeout {s : State} {n : Fin 4} {q since : Nat} {r : Rec} (hjob : (s.mbx n).job = .onRecord q since)
    (hr : s.wbl.find? q = some r) (hwaits : s.ledger.waiting.any r.ownsLine = true) : exec (.ledgerBufferTimeout n) s =
      .next (((((s.linesGivenUp r).recAbandon q (2 + Config.openReason s.draws % 5)).mapDraws (· + 1)).refill).mbxDone n 5) := by
  rw [State.mbx] at hjob
  simp only [exec, execLedgerBufferTimeout, State.bufferTimeout, hjob, hr, hwaits, if_true]
  rfl

/-- An entry that takes the freed place was waiting before. -/
theorem State.refill_entries {s : State} {e : BufEntry} (h : e ∈ s.refill.ledger.waiting ++ s.refill.ledger.buf) :
    e ∈ s.ledger.waiting ++ s.ledger.buf := by
  revert h
  unfold State.refill
  split
  · exact id
  next w ws hw =>
    split
    next hroom =>
      have buffered : ((s.mapLedger fun l => { l with waiting := ws }).bufferLine w).ledger =
          { s.ledger with waiting := ws, buf := s.ledger.buf ++ [w] } := by
        simp only [State.bufferLine, State.mapLedger_ledger, hroom, if_true]
        split <;> rfl
      rw [buffered, hw]
      simp only [List.mem_append, List.mem_cons, List.not_mem_nil, or_false]
      tauto
    · exact id

/-- A record's lines that have been given up are on their way no longer, whatever entry takes the place. -/
theorem State.linesGivenUp_gone (s : State) (r : Rec) : ∀ e ∈ (s.linesGivenUp r).ledger.waiting ++ (s.linesGivenUp r).ledger.buf,
    r.ownsLine e = false := by
  intro e he
  simp only [State.linesGivenUp, State.mapLedger_ledger, List.mem_append, List.mem_filter, Bool.not_eq_true'] at he
  exact he.elim And.right And.right

/-! ### INNKEEPER_RECORD_RESUME (R384) -/

/-- A body placed at its log position keeps its kind. -/
theorem State.placeBody_kind (s : State) (body : RecBody) : (s.placeBody body).1.kind = body.kind := by
  cases body <;> rfl

theorem exec_innkeeperRecordResume {s : State} {w : WaitRec} {ws : List WaitRec} (hw : s.wbl.waiting = w :: ws) {k : Fin 128}
    (hk : s.wbl.nextFree = some k) : exec .innkeeperRecordResume s =
      .next ((s.mapWbl fun b => { b with waiting := ws }).inkRec w.origin w.body) := by
  simp only [exec, execInnkeeperRecordResume, State.recordResume, hw, hk]

/-- R375: the record of an entry of the Innkeeper's, where a ring slot is free. -/
def State.inkWritten (s : State) (k : Fin 128) (origin : Nat) (body : RecBody) : State :=
  ((s.placeBody body).2.writeRec k origin (s.placeBody body).1).2

theorem State.inkRec_free {s : State} {k : Fin 128} (h : s.wbl.nextFree = some k) (origin : Nat) (body : RecBody) :
    s.inkRec origin body = (s.inkWritten k origin body).issueLines s.wbl.nextSeq := by
  have seq : (s.placeBody body).2.wbl.nextSeq = s.wbl.nextSeq := by cases body <;> rfl
  simp only [State.inkRec, h, State.inkWritten, State.writeRec, seq]

theorem State.inkWritten_hasRec (s : State) (k : Fin 128) (origin : Nat) (body : RecBody) :
    (s.inkWritten k origin body).HasRec k s.wbl.nextSeq origin (s.placeBody body).1 := by
  have seq : (s.placeBody body).2.wbl.nextSeq = s.wbl.nextSeq := by cases body <;> rfl
  rw [← seq]
  exact State.writeRec_hasRec ..

theorem State.inkWritten_kept (s : State) (k : Fin 128) (origin : Nat) (body : RecBody) :
    (s.inkWritten k origin body).wbl.waiting = s.wbl.waiting ∧
      s.inkWritten k origin body = { s with wbl := (s.inkWritten k origin body).wbl } := by
  cases body <;> exact ⟨rfl, rfl⟩

/-- An entry of the Innkeeper's that finds a free ring slot. -/
theorem State.inkRec_written {s : State} {k : Fin 128} (h : s.wbl.nextFree = some k) (origin : Nat) (body : RecBody) :
    (s.inkRec origin body).HasRec k s.wbl.nextSeq origin (s.placeBody body).1 ∧ (s.inkRec origin body).wbl.waiting = s.wbl.waiting ∧
      s.inkRec origin body = { s with ledger := (s.inkRec origin body).ledger, wbl := (s.inkRec origin body).wbl } := by
  rw [State.inkRec_free h]
  obtain ⟨waiting, frame⟩ := s.inkWritten_kept k origin body
  have sent := (s.inkWritten k origin body).issueLines_linesSent s.wbl.nextSeq
  have written := (s.inkWritten_hasRec k origin body).kept sent.recs
  have registers := congrArg Waybill.waiting sent.recs.registers
  have whole := sent.frame
  generalize (s.inkWritten k origin body).issueLines s.wbl.nextSeq = t at written registers whole ⊢
  refine ⟨written, registers.trans waiting, whole.trans ?_⟩
  rw [frame]

/-- Settles O37: a line on its way into the cells is `writeOldest_written`, followed by `headerStood` where it is a seal header; a
request that waits too long gives up its record's lines, and a kept entry is journaled as any other. -/
theorem ledgerAccess : Obligations.LedgerAccess := by
  unfold Obligations.LedgerAccess
  refine ⟨?read, ?view, ?written, ?timeout, ?resume⟩
  case read =>
    intro s n user addr d hmay hin hcell
    have cell : s.ledger.cell (ledgerLineOf (addr / 4 * 4)) = some d := by rwa [ledgerLineOf_aligned]
    rw [exec_ledgerRead hmay hin, State.ledgerUpset, State.ledgerWord_written cell]
    rfl
  case view =>
    intro s n user addr hmay hin
    simp only [exec, execLedgerViewWrite, hin, if_true, State.arbitrated_lodger hmay]
    rfl
  case written =>
    intro s e es hbuf halive hcommit
    refine ⟨exec_ledgerLineWritten_closed hcommit, fun hwin => ⟨_, exec_ledgerLineWritten_open hbuf halive hcommit hwin, ?_⟩⟩
    obtain ⟨frame, lines, buf, onRecord, onLine⟩ := State.writeOldest_written hbuf
    obtain ⟨ledger, mbx⟩ := s.writeOldest.headerStood_kept e.line
    refine ⟨?_, fun l hl => ?_, fun hwaiting => ?_, fun n q since r hq hr job => ?_, fun n result res0 job => ?_, fun hother => ?_,
      fun k hk hok hsound => ?_⟩
    · rw [ledger, lines, Lines.get_set_same]
    · rw [ledger, lines, Lines.get_set_ne _ hl]
    · rw [ledger, buf hwaiting]
    · rw [mbx]
      exact (onRecord n q since r hq hr job).done
    · rw [mbx]
      exact (onLine n result res0 job).done
    · rw [State.headerStood_other hother]
      exact frame
    · rw [State.readSeal_congr ledger] at hok hsound ⊢
      rw [hk]
      exact State.headerStood_inForce hok hsound
  case timeout =>
    intro s n q since r hjob hr hwaits
    refine ⟨_, exec_ledgerBufferTimeout hjob hr hwaits, ?_⟩
    have gone := s.linesGivenUp_gone r
    have sent := (((s.linesGivenUp r).recAbandon q (2 + Config.openReason s.draws % 5)).mapDraws (· + 1)).refill_linesSent
    have entries := @State.refill_entries (((s.linesGivenUp r).recAbandon q (2 + Config.openReason s.draws % 5)).mapDraws (· + 1))
    generalize (((s.linesGivenUp r).recAbandon q (2 + Config.openReason s.draws % 5)).mapDraws (· + 1)).refill = u at sent entries
    obtain ⟨busy, done, result⟩ := (u.mbxDone_ended n 5).done
    exact ⟨busy, done, result, sent.cells, fun e he => gone e (entries he), by rw [State.mbxDone_eq, sent.frame]; rfl⟩
  case resume =>
    intro s w ws k hw hk
    have free : (s.mapWbl fun b => { b with waiting := ws }).wbl.nextFree = some k := hk
    refine ⟨_, exec_innkeeperRecordResume hw hk, ?_⟩
    obtain ⟨⟨seq, origin, body⟩, waiting, frame⟩ := State.inkRec_written free w.origin w.body
    exact ⟨waiting, origin, seq, (congrArg RecBody.kind body).trans (State.placeBody_kind ..), frame⟩

end Sys2Proof.Machine
end

section
/-! PROOFS. The thermal block: a conversion in range with its levels, windows and what it raises, and the grace timer's end (R148, R200 to
R220, R232). -/

namespace Sys2Proof.Machine

/-! ### The levels in force (R202, R203) -/

/-- R203: throttle lies above warning, and shutdown above throttle. -/
theorem Thm.levels_rise (t : Thm) : t.levels.1 < t.levels.2.1 ∧ t.levels.2.1 < t.levels.2.2.1 := by
  unfold Thm.levels
  dsimp only
  split
  · assumption
  · decide

/-- No level is entered below it, and none is left above its hysteresis. -/
theorem levelAfter_entered {tj : Int} {level : Nat} (h : 8 * (level : Int) ≤ tj) (hys : Nat) : levelAfter false tj level hys = true := by
  simp [levelAfter, h]

theorem levelAfter_below {tj : Int} {level : Nat} (h : tj < 8 * (level : Int)) (hys : Nat) : levelAfter false tj level hys = false := by
  simp [levelAfter, h]

theorem levelAfter_left {tj : Int} {level hys : Nat} (h : tj < 8 * ((level : Int) - hys)) : levelAfter true tj level hys = false := by
  simp [levelAfter, h]

/-! ### What is raised (R206 to R208, R212) -/

/-- Frames are queued for the bus, and nothing else happens. -/
def State.GrdOnly (s t : State) : Prop := t = { s with grd := t.grd }

theorem State.GrdOnly.refl (s : State) : State.GrdOnly s s := rfl

theorem State.GrdOnly.trans {s t u : State} (h : State.GrdOnly s t) (h' : State.GrdOnly t u) : State.GrdOnly s u := by
  rw [State.GrdOnly] at *
  rw [h', h]

theorem State.sendOn_grdOnly (s : State) (cs : List (Fin 2)) (cls : Fin 8) (field : Nat) (dest : Option Nat) (data : List Byte)
    (pinned : Bool) : State.GrdOnly s (s.sendOn cs cls field dest data pinned) := by
  have counted : State.GrdOnly s (s.nextSeqOf cls).2 := rfl
  exact counted.trans (foldl_keeps .refl .trans (fun u c => (rfl : State.GrdOnly u (u.enqueue c _))) cs _)

/-- R484: the throttle notice, and the leaving message. -/
theorem State.throttleNotice_grdOnly (s : State) (enf : Nat) : State.GrdOnly s (s.throttleNotice enf) := by
  unfold State.throttleNotice
  split
  · exact s.sendOn_grdOnly ..
  · exact .refl s

theorem State.leaving_grdOnly (s : State) (cause : Nat) : State.GrdOnly s (s.leaving cause) := by
  unfold State.leaving
  split
  · exact s.sendOn_grdOnly ..
  · exact .refl s

/-- What the levels raise beside the thermal block: log entries and the throttle notice. -/
def State.ThmFrame (s t : State) : Prop :=
  t = { s with thm := t.thm, wbl := t.wbl, ledger := t.ledger, grd := t.grd } ∧ t.ledger.lines = s.ledger.lines

theorem State.ThmFrame.refl (s : State) : State.ThmFrame s s := ⟨rfl, rfl⟩

theorem State.ThmFrame.trans {s t u : State} (h : State.ThmFrame s t) (h' : State.ThmFrame t u) : State.ThmFrame s u :=
  ⟨by rw [h'.1, h.1], h'.2.trans h.2⟩

theorem State.mapThm_thmFrame (s : State) (f : Thm → Thm) : State.ThmFrame s (s.mapThm f) := ⟨rfl, rfl⟩

theorem State.logEvent_thmFrame (s : State) (event : Nat) (body : List Byte) : State.ThmFrame s (s.logEvent event body) := by
  refine ⟨?_, (s.logEvent_quiet event body).cells⟩
  have frame := s.logEvent_frame event body
  rw [frame]

theorem State.logEvent_thm (s : State) (event : Nat) (body : List Byte) : (s.logEvent event body).thm = s.thm := by
  rw [s.logEvent_frame event body]

theorem State.throttleNotice_thmFrame (s : State) (enf : Nat) : State.ThmFrame s (s.throttleNotice enf) := by
  have only := s.throttleNotice_grdOnly enf
  rw [State.GrdOnly] at only
  refine ⟨?_, ?_⟩ <;> rw [only]

theorem State.throttleNotice_thm (s : State) (enf : Nat) : (s.throttleNotice enf).thm = s.thm := by
  rw [s.throttleNotice_grdOnly enf]

/-- R208, R212: the throttle flags of a thermal block once its request has been raised, and once throttle has been left. -/
def Thm.raised (t : Thm) : Thm := { t with thrReq := true, graceRuns := true, comply := 0, int := t.int ||| 2 }

def Thm.left (t : Thm) : Thm :=
  { t with throttled := false, thrReq := false, thrEnf := false, comply := 0, graceRuns := false, int := t.int ||| 4 }

theorem State.throttleResume_eq (s : State) : s.throttleResume =
    { s with thm := if s.thm.throttled && !s.thm.thrReq && s.awake then s.thm.raised else s.thm } := by
  unfold State.throttleResume State.lodgersRun
  split <;> rfl

/-- R208: throttle is entered; the request is raised where it does not stand and the Lodgers run. -/
theorem State.throttleEntered_spec (s : State) : State.ThmFrame s s.throttleEntered ∧ s.throttleEntered.thm =
    if s.thm.thrReq = false ∧ s.awake = true then { s.thm with throttled := true }.raised else { s.thm with throttled := true } := by
  have raised := ((s.mapThm_thmFrame fun t => { t with throttled := true }).trans (State.throttleNotice_thmFrame _ 0)).trans
    (State.logEvent_thmFrame _ 0x0202 s.tjBytes)
  have thm : (((s.mapThm fun t => { t with throttled := true }).throttleNotice 0).logEvent 0x0202 s.tjBytes).thm =
      { s.thm with throttled := true } := by
    rw [State.logEvent_thm, State.throttleNotice_thm]
    rfl
  have unfolded : s.throttleEntered =
      (((s.mapThm fun t => { t with throttled := true }).throttleNotice 0).logEvent 0x0202 s.tjBytes).throttleResume := rfl
  generalize ((s.mapThm fun t => { t with throttled := true }).throttleNotice 0).logEvent 0x0202 s.tjBytes = u at *
  have awake : u.awake = s.awake := by
    rw [raised.1]
    rfl
  rw [unfolded, State.throttleResume_eq]
  exact ⟨raised.trans ⟨rfl, rfl⟩, by rw [thm, awake]; simp⟩

/-! ### The levels at a conversion -/

/-- R202, R203, R206: the warning level and CFG_BAD after a conversion. -/
def Thm.judged (t : Thm) : Thm :=
  { t with cfgBad := t.levels.2.2.2, warn := levelAfter t.warn t.tj t.levels.1 (hysOf t.warnHys) }

/-- R206: a warning that is entered is flagged and logged. -/
def State.warned (s : State) : State :=
  if s.thm.judged.warn && !s.thm.warn then ((s.mapThm Thm.judged).thmInt 0).logEvent 0x0201 s.tjBytes else s.mapThm Thm.judged

theorem State.warned_frame (s : State) : State.ThmFrame s s.warned := by
  unfold State.warned
  split
  · exact (s.mapThm_thmFrame fun t => { t.judged with int := t.judged.int ||| 1 }).trans (State.logEvent_thmFrame _ _ _)
  · exact s.mapThm_thmFrame _

theorem State.warned_thm (s : State) : s.warned.thm = { s.thm.judged with
    int := if s.thm.judged.warn && !s.thm.warn then s.thm.int ||| 1 else s.thm.int } := by
  unfold State.warned
  split
  · rw [State.logEvent_thm]
    rfl
  · rfl

/-- R202: whether throttle stands after a conversion. -/
def Thm.throttles (t : Thm) : Bool := levelAfter t.throttled t.tj t.levels.2.1 (hysOf t.throttleHys)

theorem State.thmLevels_eq (s : State) : s.thmLevels =
    if s.thm.throttles && !s.thm.throttled then s.warned.throttleEntered
    else if !s.thm.throttles && s.thm.throttled then s.warned.throttleLeft
    else s.warned := by
  have thm := s.warned_thm
  have unfolded : s.thmLevels =
      if levelAfter s.warned.thm.throttled s.warned.thm.tj s.thm.levels.2.1 (hysOf s.warned.thm.throttleHys) && !s.warned.thm.throttled
      then s.warned.throttleEntered
      else if !levelAfter s.warned.thm.throttled s.warned.thm.tj s.thm.levels.2.1 (hysOf s.warned.thm.throttleHys) &&
        s.warned.thm.throttled
      then s.warned.throttleLeft else s.warned := rfl
  rw [unfolded, thm]
  rfl

/-- What the levels leave, change and raise at a conversion. -/
structure State.LevelsJudged (s t : State) : Prop where
  frame : State.ThmFrame s t
  registers : t.thm = { s.thm with
    warn := t.thm.warn, throttled := t.thm.throttled, cfgBad := t.thm.cfgBad, int := t.thm.int, thrReq := t.thm.thrReq
    thrEnf := t.thm.thrEnf, comply := t.thm.comply, graceRuns := t.thm.graceRuns }
  warn : t.thm.warn = s.thm.judged.warn
  throttled : t.thm.throttled = s.thm.throttles
  cfgBad : t.thm.cfgBad = s.thm.levels.2.2.2
  warning : s.thm.throttles = false → s.thm.throttled = false → s.thm.judged.warn = true → s.thm.warn = false →
    t.thm.int.getLsbD 0 = true ∧ t.grd = s.grd ∧ logs s 0x0201 s.tjBytes t
  entered : s.thm.throttles = true → s.thm.throttled = false → s.thm.thrReq = false → s.awake = true →
    t.thm.thrReq = true ∧ t.thm.graceRuns = true ∧ t.thm.comply = 0 ∧ t.thm.int.getLsbD 1 = true
  left : s.thm.throttles = false → s.thm.throttled = true →
    t.thm.thrReq = false ∧ t.thm.thrEnf = false ∧ t.thm.comply = 0 ∧ t.thm.graceRuns = false ∧ t.thm.int.getLsbD 2 = true

theorem State.warned_warning {s : State} (hw : s.thm.judged.warn = true) (hwas : s.thm.warn = false) :
    s.warned.thm.int.getLsbD 0 = true ∧ s.warned.grd = s.grd ∧ logs s 0x0201 s.tjBytes s.warned := by
  have warned : s.warned = ((s.mapThm Thm.judged).thmInt 0).logEvent 0x0201 s.tjBytes := if_pos (by simp [hw, hwas])
  refine ⟨?_, ?_, ?_⟩
  · rw [s.warned_thm]
    simp [hw, hwas]
  · rw [warned, State.logEvent_frame]
    rfl
  · rw [warned]
    exact ((s.mapThm Thm.judged).thmInt 0).logEvent_logs 0x0201 s.tjBytes

theorem State.thmLevels_judged (s : State) : s.LevelsJudged s.thmLevels := by
  have frame := s.warned_frame
  have thm := s.warned_thm
  have warning := @State.warned_warning s
  rw [State.thmLevels_eq]
  generalize s.warned = u at frame thm warning
  have awake : u.awake = s.awake := by
    rw [frame.1]
    rfl
  cases hnow : s.thm.throttles <;> cases hwas : s.thm.throttled
  case false.false =>
    change s.LevelsJudged u
    have throttled : u.thm.throttled = false := by rw [thm]; exact hwas
    exact ⟨frame, by rw [thm]; rfl, by rw [thm], by rw [hnow]; exact throttled, by rw [thm]; rfl, fun _ _ => warning, by simp [hnow],
      by simp [hwas]⟩
  case false.true =>
    have left : u.throttleLeft.thm = u.thm.left := rfl
    change s.LevelsJudged u.throttleLeft
    refine ⟨frame.trans ⟨rfl, rfl⟩, ?_, ?_, ?_, ?_, by simp [hwas], by simp [hwas], fun _ _ => ?_⟩ <;> rw [left]
    · rw [thm]; rfl
    · rw [thm]; rfl
    · rw [hnow]; rfl
    · rw [thm]; rfl
    · simp [Thm.left]
  case true.false =>
    obtain ⟨entered, throttle⟩ := u.throttleEntered_spec
    change s.LevelsJudged u.throttleEntered
    refine ⟨frame.trans entered, ?_, ?_, ?_, ?_, by simp [hnow], fun _ _ hreq hawake => ?_, by simp [hwas]⟩ <;> rw [throttle]
    · split <;> (rw [thm]; rfl)
    · split
      · rw [thm]; rfl
      · rw [thm]
    · rw [hnow]
      split <;> rfl
    · split <;> (rw [thm]; rfl)
    · have none : u.thm.thrReq = false := by rw [thm]; exact hreq
      rw [if_pos ⟨none, awake.trans hawake⟩]
      simp [Thm.raised]
  case true.true =>
    change s.LevelsJudged u
    have throttled : u.thm.throttled = true := by rw [thm]; exact hwas
    exact ⟨frame, by rw [thm]; rfl, by rw [thm], by rw [hnow]; exact throttled, by rw [thm]; rfl, by simp [hnow], by simp [hwas],
      by simp [hnow]⟩

/-! ### Windows (R148, R215, R217) -/

/-- The thermal block with the windows of a conversion in force. -/
def State.windowed (s : State) : Thm :=
  let t := s.thm.takeBoard
  { t with
    ledgerWin := windowAfter t.ledgerWin t.tj (-240) 920 24
    dieWin := windowAfter t.dieWin t.tj (-240) 800 24
    boardWin := boardAfter t.boardWin (s.boardTemp t.boardUi) t.boardLow t.boardHigh }

/-- A changed seal slot 14 touches none of the other registers. -/
theorem Thm.takeBoard_registers (t : Thm) : ∃ en ui low high, t.takeBoard =
    { t with boardEn := en, boardUi := ui, boardNext := none, boardLow := low, boardHigh := high } := by
  unfold Thm.takeBoard
  split
  · exact ⟨_, _, _, _, rfl⟩
  next h => exact ⟨t.boardEn, t.boardUi, t.boardLow, t.boardHigh, by rw [← h]⟩

theorem State.windowed_registers (s : State) : ∃ en ui low high win, s.windowed = { s.thm with
    boardEn := en, boardUi := ui, boardNext := none, boardLow := low, boardHigh := high, boardWin := win
    ledgerWin := windowAfter s.thm.ledgerWin s.thm.tj (-240) 920 24, dieWin := windowAfter s.thm.dieWin s.thm.tj (-240) 800 24 } := by
  obtain ⟨en, ui, low, high, taken⟩ := s.thm.takeBoard_registers
  simp only [State.windowed, taken]
  exact ⟨_, _, _, _, _, rfl⟩

/-- Flags that stand stay, and one may come. -/
theorem State.thmWindows_eq (s : State) : ∃ x, (∀ i, s.thm.int.getLsbD i = true → x.getLsbD i = true) ∧
    s.thmWindows = { s with thm := { s.windowed with int := x } } := by
  have int : s.windowed.int = s.thm.int := by
    obtain ⟨_, _, _, _, _, registers⟩ := s.windowed_registers
    rw [registers]
  have unfolded : s.thmWindows =
      if s.windowed.ledgerWin ≠ s.thm.ledgerWin ∨ s.windowed.chgWin ≠ s.thm.chgWin then (s.mapThm fun _ => s.windowed).thmInt 4
      else s.mapThm fun _ => s.windowed := by
    simp only [State.thmWindows, State.mapWindows, decide_eq_true_eq]
    rfl
  rw [unfolded]
  split
  · exact ⟨s.thm.int ||| 16, fun i h => by simp [h], by rw [← int]; rfl⟩
  · exact ⟨s.thm.int, fun i h => h, by rw [← int]; rfl⟩

/-! ### A conversion in range (R148, R200, R204, R232) -/

/-- The thermal block with a reading in range taken, and a changed seal slot 8 (R200, R204). -/
def Thm.reads (t : Thm) (r : Int) : Thm := { t.takeLevels with reading := r, tj := r, source := 0, held := r }

theorem Thm.takeLevels_kept (t : Thm) : t.takeLevels.faulty = t.faulty ∧ t.takeLevels.levelNext = none ∧
    t.takeLevels.warn = t.warn ∧ t.takeLevels.throttled = t.throttled ∧ t.takeLevels.thrReq = t.thrReq ∧
    t.takeLevels.ledgerWin = t.ledgerWin ∧ t.takeLevels.dieWin = t.dieWin := by
  unfold Thm.takeLevels
  split
  · exact ⟨rfl, rfl, rfl, rfl, rfl, rfl, rfl⟩
  next h => exact ⟨rfl, h, rfl, rfl, rfl, rfl, rfl⟩

/-- A conversion, up to its check for a shutdown. -/
def State.measured (s : State) (r : Int) : State :=
  ((s.mapThm fun t => t.reads r).thmLevels.thmWindows).flushWindow s.thm.ledgerWin

theorem State.conversion_inRange {s : State} (hruns : s.thmRuns = true) (hsound : s.thm.faulty = false) {r : Int} (hlow : -480 ≤ r)
    (hhigh : r ≤ 1600) : s.conversion r =
      if 8 * ((s.measured r).thm.levels.2.2.1 : Int) ≤ (s.measured r).thm.tj ∧ (s.measured r).power.phase ≠ .tooHot ∧
        (s.measured r).thmTrips = true
      then (s.measured r).thermalShutdown 1 else s.measured r := by
  obtain ⟨faulty, -, -, -, -, ledgerWin, -⟩ := s.thm.takeLevels_kept
  have used : (s.mapThm fun t => { t.takeLevels with reading := r }).mapThm Thm.use = s.mapThm fun t => t.reads r := by
    have sound : Thm.faulty { s.thm.takeLevels with reading := r } = false := faulty.trans hsound
    simp only [State.mapThm, Thm.use, sound, Bool.not_false, if_true]
    rfl
  have inRange : ¬ (r < -480 ∨ 1600 < r) := by omega
  simp only [State.conversion, hruns, if_true, inRange, if_false, used, State.mapThm_thm, ledgerWin]
  rfl

theorem State.flushWindow_frame (s : State) (was : Bool) : s.flushWindow was = { s with
    draws := (s.flushWindow was).draws, power := { s.power with flushCap := (s.flushWindow was).power.flushCap } } := by
  unfold State.flushWindow
  split
  · split <;> rfl
  · rfl

/-- R148, R197: the cap on a flush's lines comes with a window that closes in it, goes with one that opens, and stays otherwise. -/
theorem State.flushWindow_closes {s : State} (hphase : s.power.phase = .flushing) (hwin : s.thm.ledgerWin = false) :
    (s.flushWindow true).power.flushCap = some (Config.flushedLines s.draws) ∧ (s.flushWindow true).draws = s.draws + 1 := by
  simp [State.flushWindow, hphase, hwin]

theorem State.flushWindow_opens {s : State} (hphase : s.power.phase = .flushing) (hwin : s.thm.ledgerWin = true) :
    (s.flushWindow false).power.flushCap = none ∧ (s.flushWindow false).draws = s.draws := by
  simp [State.flushWindow, hphase, hwin]

theorem State.flushWindow_stays {s : State} {was : Bool} (h : s.power.phase = .flushing → s.thm.ledgerWin = was) :
    s.flushWindow was = s := if_neg fun hc => hc.2 (h hc.1)

/-- The device at the beginning of a thermal shutdown: Blank, with the latch and its cause (R221). -/
def State.shutdownBegun (s : State) (cause : Nat) : State :=
  ((s.gateBlank 3).mapWear fun w => { w with testing := false }).mapPower fun p =>
    { p with thmLatch := true, thmLast := cause, phase := .shutdown, flushRuns := false, offWake := false }

theorem State.thermalShutdown_eq (s : State) (cause : Nat) :
    s.thermalShutdown cause = (s.shutdownBegun cause).haltBlocks.leaving cause := rfl

theorem State.shutdownBegun_kept (s : State) (cause : Nat) : (s.shutdownBegun cause).thm = s.thm ∧
    (s.shutdownBegun cause).ledger = s.ledger ∧ (s.shutdownBegun cause).sram = s.sram := by
  have blank := s.gateBlank_frame 3
  rw [State.FanFrame] at blank
  simp only [State.shutdownBegun, State.mapPower_thm, State.mapWear_thm, State.mapPower_ledger, State.mapWear_ledger,
    State.mapPower_sram, State.mapWear_sram]
  rw [blank]
  exact ⟨rfl, rfl, rfl⟩

/-- R222: a shutdown leaves the thermal block and the memories. -/
theorem State.thermalShutdown_kept (s : State) (cause : Nat) : (s.thermalShutdown cause).thm = s.thm ∧
    (s.thermalShutdown cause).ledger = s.ledger ∧ sramKept s (s.thermalShutdown cause) := by
  obtain ⟨thm, ledger, sram⟩ := s.shutdownBegun_kept cause
  have halted := (s.shutdownBegun cause).haltBlocks_halted
  have left := (s.shutdownBegun cause).haltBlocks.leaving_grdOnly cause
  rw [State.GrdOnly] at left
  rw [State.thermalShutdown_eq]
  generalize (s.shutdownBegun cause).haltBlocks = u at halted left ⊢
  have kept : (u.leaving cause).thm = u.thm ∧ (u.leaving cause).ledger = u.ledger ∧ (u.leaving cause).sram = u.sram := by
    rw [left]
    exact ⟨rfl, rfl, rfl⟩
  exact ⟨(kept.1.trans halted.thm).trans thm, (kept.2.1.trans halted.ledger).trans ledger,
    ((sramKept.of_sram sram).trans halted.sram).trans (.of_sram kept.2.2)⟩

/-! ### What a conversion comes to -/

/-- A conversion before its check for a shutdown: the levels as `LevelsJudged` has them, the windows, and the flush's cap. -/
structure State.Measured (s : State) (r : Int) (t : State) : Prop where
  frame : t = { s with
    thm := t.thm, wbl := t.wbl, ledger := t.ledger, grd := t.grd, draws := t.draws
    power := { s.power with flushCap := t.power.flushCap } }
  cells : t.ledger.lines = s.ledger.lines
  levels : ∃ u : State, (s.mapThm fun t => t.reads r).LevelsJudged u ∧ t.wbl = u.wbl ∧ t.grd = u.grd ∧
    t.thm.warn = u.thm.warn ∧ t.thm.throttled = u.thm.throttled ∧ t.thm.cfgBad = u.thm.cfgBad ∧ t.thm.thrReq = u.thm.thrReq ∧
    t.thm.thrEnf = u.thm.thrEnf ∧ t.thm.comply = u.thm.comply ∧ t.thm.graceRuns = u.thm.graceRuns ∧
    ∀ i, u.thm.int.getLsbD i = true → t.thm.int.getLsbD i = true
  reading : t.thm.tj = r ∧ t.thm.source = 0 ∧ t.thm.faulty = false ∧ t.thm.levelNext = none ∧
    t.thm.levels = s.thm.takeLevels.levels
  windows : t.thm.ledgerWin = windowAfter s.thm.ledgerWin r (-240) 920 24 ∧ t.thm.dieWin = windowAfter s.thm.dieWin r (-240) 800 24
  closes : s.power.phase = .flushing → s.thm.ledgerWin = true → t.thm.ledgerWin = false →
    t.power.flushCap = some (Config.flushedLines s.draws) ∧ t.draws = s.draws + 1
  opens : s.power.phase = .flushing → s.thm.ledgerWin = false → t.thm.ledgerWin = true →
    t.power.flushCap = none ∧ t.draws = s.draws
  stays : (s.power.phase = .flushing → t.thm.ledgerWin = s.thm.ledgerWin) → t.power.flushCap = s.power.flushCap ∧ t.draws = s.draws

theorem State.measured_spec {s : State} (hsound : s.thm.faulty = false) (r : Int) : s.Measured r (s.measured r) := by
  obtain ⟨faulty, levelNext, -, -, -, ledgerWin, dieWin⟩ := s.thm.takeLevels_kept
  have judged := (s.mapThm fun t => t.reads r).thmLevels_judged
  unfold State.measured
  generalize (s.mapThm fun t => t.reads r).thmLevels = u at judged ⊢
  obtain ⟨x, int, windows⟩ := u.thmWindows_eq
  obtain ⟨en, ui, low, high, win, windowed⟩ := u.windowed_registers
  rw [windowed] at windows
  have registers := judged.registers
  have tj : u.thm.tj = r := by rw [registers]; rfl
  have wins : u.thm.ledgerWin = s.thm.ledgerWin ∧ u.thm.dieWin = s.thm.dieWin := by
    rw [registers]
    exact ⟨ledgerWin, dieWin⟩
  have whole := judged.frame.1
  have power : u.power = s.power ∧ u.draws = s.draws := by
    rw [whole]
    exact ⟨rfl, rfl⟩
  rw [tj, wins.1, wins.2] at windows
  have capped := u.thmWindows.flushWindow_frame s.thm.ledgerWin
  have closes := @State.flushWindow_closes u.thmWindows
  have opens := @State.flushWindow_opens u.thmWindows
  have stays := @State.flushWindow_stays u.thmWindows s.thm.ledgerWin
  obtain ⟨powerKept, drawsKept⟩ := power
  have thm : (u.thmWindows.flushWindow s.thm.ledgerWin).thm = u.thmWindows.thm := by rw [capped]
  have phase : u.thmWindows.power = s.power := by rw [windows]; exact powerKept
  have draws : u.thmWindows.draws = s.draws := by rw [windows]; exact drawsKept
  rw [phase, draws] at closes opens
  rw [phase] at stays
  refine ⟨?frame, ?cells, ⟨u, judged, ?levels⟩, ?reading, ?windows, fun hphase hwas hwin => ?closes, fun hphase hwas hwin => ?opens,
    fun h => ?stays⟩
  case frame => rw [capped, windows, whole]; rfl
  case cells => rw [capped, windows]; exact judged.frame.2
  case levels =>
    have others : (u.thmWindows.flushWindow s.thm.ledgerWin).wbl = u.wbl ∧ (u.thmWindows.flushWindow s.thm.ledgerWin).grd = u.grd := by
      rw [capped, windows]
      exact ⟨rfl, rfl⟩
    refine ⟨others.1, others.2, ?_⟩
    rw [thm, windows]
    exact ⟨rfl, rfl, rfl, rfl, rfl, rfl, rfl, int⟩
  case reading =>
    rw [thm, windows]
    refine ⟨tj, ?_, ?_, ?_, ?_⟩
    · show u.thm.source = 0
      rw [registers]
      rfl
    · show u.thm.faulty = false
      rw [registers]
      exact faulty.trans hsound
    · show u.thm.levelNext = none
      rw [registers]
      exact levelNext
    · show u.thm.levels = _
      rw [registers]
      rfl
  case windows => rw [thm, windows]; exact ⟨rfl, rfl⟩
  case closes => rw [hwas]; exact closes hphase (thm ▸ hwin)
  case opens => rw [hwas]; exact opens hphase (thm ▸ hwin)
  case stays => rw [stays (thm ▸ h), phase, draws]; exact ⟨rfl, rfl⟩

/-! ### The statement -/

/-- Where no shutdown is due (R221, R232) the conversion ends here; in any case the thermal block and the memories are what it made of
them. -/
theorem State.conversion_kept {s : State} (hruns : s.thmRuns = true) (hsound : s.thm.faulty = false) {r : Int} (hlow : -480 ≤ r)
    (hhigh : r ≤ 1600) : (s.conversion r).thm = (s.measured r).thm ∧ (s.conversion r).ledger.lines = s.ledger.lines ∧
      sramKept s (s.conversion r) ∧
      (r < 8 * (s.thm.takeLevels.levels.2.2.1 : Int) ∨ s.power.phase = .tooHot ∨ s.power.phase = .latched →
        s.conversion r = s.measured r) := by
  obtain ⟨frame, cells, -, ⟨tj, -, -, -, levels⟩, -, -, -, -⟩ := State.measured_spec hsound r
  have phase : (s.measured r).power.phase = s.power.phase := by rw [frame]
  have sram : sramKept s (s.measured r) := .of_sram (by rw [frame])
  obtain ⟨thmDown, ledgerDown, sramDown⟩ := (s.measured r).thermalShutdown_kept 1
  rw [State.conversion_inRange hruns hsound hlow hhigh, levels, tj, phase]
  split
  next due =>
    refine ⟨thmDown, (congrArg Ledger.lines ledgerDown).trans cells, sram.trans sramDown, fun h => absurd due ?_⟩
    rintro ⟨hot, notTooHot, trips⟩
    simp only [State.thmTrips, phase, Bool.and_eq_true, decide_eq_true_eq] at trips
    obtain h | h | h := h
    · omega
    · exact notTooHot h
    · exact trips.2 h
  next => exact ⟨rfl, cells, sram, fun _ => rfl⟩

/-- R210: the divider is at least 4 once the throttle is enforced. -/
theorem State.lodgerDivider_enforced {s t : State} (hpower : t.power = s.power) (h : t.thm.thrEnf = true) :
    t.lodgerDivider = max s.lodgerDivider 4 := by
  simp only [State.lodgerDivider, hpower, h, if_true]
  cases s.thm.thrEnf <;> simp

theorem State.allComplied_iff (s : State) : s.allComplied = true ↔
    ∀ n : Fin 4, (s.lodger n).run = .running ∨ (s.lodger n).run = .halted → s.thm.comply.getLsbD n.val = true := by
  simp only [State.allComplied, List.all_eq_true, List.mem_finRange, true_imp_iff, Bool.or_eq_true]
  refine forall_congr' fun n => ?_
  cases (s.lodger n).run <;> simp

/-- The grace timer has ended, and the throttle is enforced and told to the group (R210). -/
def State.graceEnded (s : State) : State := s.mapThm fun t => { t with graceRuns := false }

def State.enforced (s : State) : State :=
  (s.mapThm fun t => { t with thrEnf := true, enfCnt := satInc 0xFF t.enfCnt }).throttleNotice 1

/-- Settles O43: a conversion is `measured_spec` with `LevelsJudged`, which no shutdown undoes (`conversion_kept`); the grace timer's
end turns on `allComplied_iff`. -/
theorem thermalLevels : Obligations.ThermalLevels := by
  unfold Obligations.ThermalLevels
  refine ⟨?conversion, ?grace⟩
  case conversion =>
    intro s r hruns hsound hlow hhigh
    obtain ⟨-, -, wasWarned, wasThrottled, wasRequested, -, -⟩ := s.thm.takeLevels_kept
    obtain ⟨thm, lines, sram, cool⟩ := State.conversion_kept hruns hsound hlow hhigh
    obtain ⟨frame, -, ⟨u, judged, wbl, grd, warn, throttled, cfgBad, thrReq, thrEnf, comply, graceRuns, int⟩,
      ⟨tj, source, faulty, levelNext, -⟩, ⟨ledgerWin, dieWin⟩, closes, opens, stays⟩ := State.measured_spec hsound r
    have rise := s.thm.takeLevels.levels_rise
    have judges : u.thm.warn = levelAfter s.thm.warn r s.thm.takeLevels.levels.1 (hysOf s.thm.takeLevels.warnHys) :=
      judged.warn.trans (congrArg (levelAfter · r _ _) wasWarned)
    have throttles : (s.thm.reads r).throttles =
        levelAfter s.thm.throttled r s.thm.takeLevels.levels.2.1 (hysOf s.thm.takeLevels.throttleHys) :=
      congrArg (levelAfter · r _ _) wasThrottled
    refine ⟨s.conversion r, rfl, ?_⟩
    dsimp only
    rw [thm]
    refine ⟨tj, source, faulty, levelNext, warn.trans judges, throttled.trans (judged.throttled.trans throttles),
      cfgBad.trans judged.cfgBad, ledgerWin, dieWin, sram, lines, fun hcool => ?frame, fun hthr hwas hwarn hhot => ?warning,
      fun _ hhot hwas hreq hawake => ?entered, fun hwas hleft => ?left⟩
    case frame =>
      rw [cool hcool]
      refine ⟨frame, fun ⟨hphase, hwas, hnow⟩ => closes hphase hwas hnow, fun ⟨hphase, hwas, hnow⟩ => opens hphase hwas hnow,
        fun hclose hopen => stays fun hphase => ?_⟩
      cases hwas : s.thm.ledgerWin <;> cases hnow : (s.measured r).thm.ledgerWin
      · rfl
      · exact absurd ⟨hphase, hwas, hnow⟩ hopen
      · exact absurd ⟨hphase, hwas, hnow⟩ hclose
      · rfl
    case warning =>
      have notThrottled : (s.thm.reads r).throttles = false := by rw [throttles, hwas, levelAfter_below hthr]
      have entered : u.thm.warn = true := by rw [judges, hwarn, levelAfter_entered hhot]
      obtain ⟨flag, grdKept, logged⟩ := judged.warning notThrottled (wasThrottled.trans hwas) (judged.warn.symm.trans entered)
        (wasWarned.trans hwarn)
      rw [cool (.inl (by omega)), grd]
      refine ⟨int 0 flag, grdKept, ?_⟩
      unfold logs at logged ⊢
      rw [wbl]
      exact logged
    case entered =>
      have isThrottled : (s.thm.reads r).throttles = true := by rw [throttles, hwas, levelAfter_entered hhot]
      rw [thrReq, graceRuns, comply]
      obtain ⟨request, grace, cleared, flag⟩ := judged.entered isThrottled (wasThrottled.trans hwas) (wasRequested.trans hreq) hawake
      exact ⟨request, grace, cleared, int 1 flag⟩
    case left =>
      have notThrottled : (s.thm.reads r).throttles = false := by rw [throttles, hwas, levelAfter_left hleft]
      rw [thrReq, thrEnf, comply, graceRuns]
      obtain ⟨request, enforced, cleared, grace, flag⟩ := judged.left notThrottled (wasThrottled.trans hwas)
      exact ⟨request, enforced, cleared, grace, int 2 flag⟩
  case grace =>
    intro s hgrace hreq
    have step : exec .graceExpiry s = .next (if s.allComplied then s.graceEnded else s.graceEnded.enforced) := by
      simp only [exec, execGraceExpiry, State.graceExpiry, hgrace, hreq, Bool.and_self, if_true]
      rfl
    refine ⟨_, step, ?_⟩
    cases hall : s.allComplied with
    | true =>
      refine ⟨rfl, rfl, fun _ => rfl, fun ⟨n, hrun, hnot⟩ => ?_⟩
      exact absurd (hnot.symm.trans (s.allComplied_iff.mp hall n (.inl hrun))) Bool.false_ne_true
    | false =>
      have only := (s.graceEnded.mapThm fun t => { t with thrEnf := true, enfCnt := satInc 0xFF t.enfCnt }).throttleNotice_grdOnly 1
      obtain ⟨g, enforced⟩ : ∃ g, s.graceEnded.enforced = { s with grd := g, thm := { s.thm with
          graceRuns := false, thrEnf := true, enfCnt := satInc 0xFF s.thm.enfCnt } } := ⟨_, only⟩
      rw [if_neg Bool.false_ne_true, enforced]
      refine ⟨rfl, rfl, fun h => ?_, fun _ => ⟨rfl, rfl, State.lodgerDivider_enforced rfl rfl⟩⟩
      exact absurd (s.allComplied_iff.mpr h) (by simp [hall])

end Sys2Proof.Machine
end

section
/-! PROOFS. The requests of an open service session: how one is taken and answered, READ, FAN_CLEAR, LODGER_START, OFF and the
application exchange, and how sessions open and close (R146, R583 to R603). -/

namespace Sys2Proof.Machine

/-! ### A request is taken and answered (R583 to R587) -/

/-- A request with a new SEQ has been accepted. -/
def State.accepted (s : State) (seq : Nat) : State :=
  s.mapSvc fun x => { x with frameAt := s.now, lastSeq := some seq, lastReply := none }

/-- A shorter reception began later. -/
theorem State.deaf_shorter {s : State} {halves halves' : Nat} (h : s.deaf halves = false) (hle : halves' ≤ halves) :
    s.deaf halves' = false := by
  unfold State.deaf at *
  cases hfrom : s.svc.hearsFrom with
  | none => rfl
  | some t =>
    simp only [hfrom, decide_eq_false_iff_not] at h ⊢
    omega

theorem State.hears.shorter {s : State} {seq session len len' : Nat} (h : s.hears seq session len) (hle : len' ≤ len) :
    s.hears seq session len' := by
  obtain ⟨up, st, role, flood, own, fresh, boot, hears⟩ := h
  exact ⟨up, st, role, flood, own, fresh, boot, State.deaf_shorter hears (Nat.mul_le_mul_left 16 (Nat.add_le_add_left hle 10))⟩

theorem State.hears.boot {s : State} {seq session len : Nat} (h : s.hears seq session len) : s.bootHeld = false := by
  obtain ⟨-, -, -, -, -, -, boot, -⟩ := h
  exact boot

theorem State.svcRequest_taken {s : State} {seq session len : Nat} (h : s.hears seq session len) (type : Nat) (any held : Bool)
    (serve : State → State) :
    s.svcRequest type seq (if type = 2 then 0 else session) len any held serve = serve (s.accepted seq) := by
  obtain ⟨up, st, role, flood, rfl, fresh, boot, hears⟩ := h
  have awake : (s.accepted seq).bootHeld = false := boot
  simp only [State.svcRequest, up, st, flood, hears]
  rw [if_neg (by simp), if_neg fresh]
  change (if ((s.accepted seq).bootHeld && !held) || _ then _ else serve (s.accepted seq)) = _
  simp [awake, role]

theorem State.svcReply_replied {s t : State} (hout : t.svc.out = s.svc.out) (hsession : t.svc.session = s.svc.session) {type : Nat}
    (htype : type < 0x80) (seq : Nat) (payload : List Byte) : replied s (t.svcReply type seq payload) type seq payload := by
  have low : (type + 0x80) % 256 = type + 0x80 := Nat.mod_eq_of_lt (by omega)
  simp [replied, State.svcReply, Svc.reply, hout, hsession, low]

/-- The device has answered, and nothing else has happened. -/
def State.Answered (s : State) (type seq : Nat) (payload : List Byte) (t : State) : Prop :=
  replied s t type seq payload ∧ t = { s with svc := t.svc }

theorem State.accepted_answered (s : State) {type : Nat} (htype : type < 0x80) (seq : Nat) (payload : List Byte) :
    s.Answered type seq payload ((s.accepted seq).svcReply type seq payload) :=
  ⟨State.svcReply_replied rfl rfl htype seq payload, rfl⟩

/-! ### READ (R588) -/

theorem exec_svcRead {s : State} {seq session : Nat} {p : List Byte} (h : s.hears seq session p.length) :
    exec (.svcRead seq session p) s = .next ((s.accepted seq).svcRead seq p) :=
  congrArg Host.Outcome.next (State.svcRequest_taken h 3 false true _)

theorem State.inkBytes_word {s t : State} {addr : Nat} {w : Word} (ha : addr % 4 = 0)
    (hr : s.busRead .innkeeper addr = (.ok, w, t)) : s.inkBytes addr 4 = (some (leBytes 4 w.toNat), t) := by
  have one : (addr + 4 + 3) / 4 - addr / 4 = 1 := by omega
  have here : addr / 4 * 4 = addr := by omega
  simp only [State.inkBytes, one, here, State.inkWords, hr, Nat.sub_self]
  rfl

section read
variable {s t : State} {seq space addr : Nat} {p : List Byte} {w : Word} (hboot : s.bootHeld = false) (hp : p.length = 8)
  (hspace : fieldAt p 0 1 = space)
include hboot hspace

/-- A READ outside its space is refused. -/
theorem State.svcRead_bad (h : p.length ≠ 8 ∨ 1 < space ∨
    (space = 1 ∧ fieldAt p 1 1 = 4 ∧ 0x400F0000 ≤ fieldAt p 4 4 ∧ fieldAt p 4 4 < 0x400F0400)) :
    s.svcRead seq p = s.svcReply 3 seq (plain 2) := by
  simp only [State.svcRead, hboot, hspace, Bool.false_and, Bool.false_eq_true, if_false]
  refine if_pos ?_
  rcases h with h | h | ⟨rfl, hlen, hlow, hhigh⟩
  · exact .inl h
  · exact .inr (.inl h)
  · have lodger : readable (fieldAt p 4 4) = false := by simp [readable, hlow, hhigh]
    have outside : ((List.range 4).all fun i => readable (fieldAt p 4 4 + i)) = false := by
      simp only [List.all_eq_false, List.mem_range]
      exact ⟨0, by decide, by simp [lodger]⟩
    simp [hlen, outside]

include hp

theorem State.svcRead_word (haddr : fieldAt p 4 4 = addr) (hlen : fieldAt p 1 1 = 4) (hle : space ≤ 1)
    (hin : (if space = 0 then inLedger addr && inLedger (addr + 4 - 1) else (List.range 4).all fun i => readable (addr + i)) = true)
    (ha : addr % 4 = 0) (hr : s.busRead .innkeeper addr = (.ok, w, t)) :
    s.svcRead seq p = t.svcReply 3 seq (plain 0 ++ leBytes 4 addr ++ leBytes 4 w.toNat) := by
  simp only [State.svcRead, hboot, hspace, haddr, hlen, hin, Bool.false_and, Bool.false_eq_true, if_false, State.inkBytes_word ha hr]
  rw [if_neg (by simp [hp]; omega)]

end read

theorem State.busRead_ledger (s : State) (who : Requester) {addr : Nat} (hin : inLedger addr = true) (ha : addr % 4 = 0) :
    s.busRead who addr = (.ok, s.ledgerWord addr) := by
  have range : 0x30000000 ≤ addr ∧ addr < 0x30020000 := of_decide_eq_true hin
  have sram : inSram addr = false := decide_eq_false (by unfold sramBase sramSize; omega)
  simp [State.busRead, ha, sram, hin]

/-- A word that begins in the read view lies in it. -/
theorem inLedger_word {addr : Nat} (hin : inLedger addr = true) (ha : addr % 4 = 0) :
    (inLedger addr && inLedger (addr + 4 - 1)) = true := by
  simp only [inLedger, Bool.and_eq_true, decide_eq_true_eq] at hin ⊢
  omega

/-- The register that READ may answer with is the one that the bus reads. -/
theorem State.busRead_thmTj (s : State) : s.busRead .innkeeper 0x40002000 = (.ok, s.thmRead 0, s) := rfl

/-! ### FAN_CLEAR and LODGER_START (R589) -/

theorem fieldAt_byte {n : Nat} (h : n < 256) : fieldAt [BitVec.ofNat 8 n] 0 1 = n := by
  simp [fieldAt, slice, leNat, Nat.mod_eq_of_lt h]

/-- A byte that names one of a few things. -/
theorem idx_fieldAt_byte {m : Nat} (hm : m ≤ 256) (i : Fin m) : idx? m (fieldAt [BitVec.ofNat 8 i.val] 0 1) = some i := by
  rw [fieldAt_byte (by omega), idx_of_fin]

theorem exec_fanClear {s : State} {seq session : Nat} (h : s.hears seq session 1) (c : Fin 6) :
    exec (.fanClear seq session [BitVec.ofNat 8 c.val]) s =
      .next (((s.accepted seq).fanClear c).svcReply 7 seq (plain 0)) := by
  refine (congrArg Host.Outcome.next (State.svcRequest_taken h 7 false false _)).trans ?_
  simp only [State.svcFanClear, List.length_singleton, idx_fieldAt_byte (by decide) c]

/-- The service clear of R345, of a LATCHED channel. -/
def Fan.cleared (f : Fan) : Fan := { f.toOff with kinds := 0, cause := 0, attempt := 0, nextAttempt := false }

theorem State.mapFan_fan_same (s : State) (c : Fin 6) (f : Fan → Fan) : (s.mapFan c f).fan c = f (s.fan c) := by
  simp [State.mapFan, State.fan]

theorem State.mapFan_fan_ne (s : State) {c d : Fin 6} (h : d ≠ c) (f : Fan → Fan) : (s.mapFan c f).fan d = s.fan d := by
  simpa [State.mapFan, State.fan] using vget_vmod_ne s.fans c d f h

/-- The clear of a LATCHED channel: the channel alone, and a log entry. -/
theorem State.fanClear_latched {s : State} {c : Fin 6} (h : (s.fan c).st = .latched) :
    s.fanClear c = { s with fans := (s.fanClear c).fans, wbl := (s.fanClear c).wbl, ledger := (s.fanClear c).ledger } ∧
      (s.fanClear c).fan c = (s.fan c).cleared ∧ (∀ d, d ≠ c → (s.fanClear c).fan d = s.fan d) ∧
      logs s 0x0304 (leBytes 1 c.val ++ [0]) (s.fanClear c) := by
  have clear : s.fanClear c = (s.mapFan c Fan.cleared).logEvent 0x0304 (leBytes 1 c.val ++ leBytes 1 0) := if_pos h
  have logged := (s.mapFan c Fan.cleared).logEvent_logs 0x0304 (leBytes 1 c.val ++ leBytes 1 0)
  have frame := (s.mapFan c Fan.cleared).logEvent_frame 0x0304 (leBytes 1 c.val ++ leBytes 1 0)
  rw [← clear] at logged frame
  generalize s.fanClear c = t at logged frame ⊢
  have fans : t.fans = (s.mapFan c Fan.cleared).fans := by rw [frame]
  refine ⟨by rw [frame]; rfl, ?_, fun d hd => ?_, logged⟩
  · exact (congrArg (vget · c) fans).trans (s.mapFan_fan_same c Fan.cleared)
  · exact (congrArg (vget · d) fans).trans (s.mapFan_fan_ne hd Fan.cleared)

/-- A held Lodger has been started from the service port. -/
def State.lodgerStarted (s : State) (n : Fin 4) : State :=
  ((s.startLodger n).clearCauses .lodger (ownedBy n)).logEvent 0x0805 (leBytes 1 n.val)

theorem State.lodgerStarted_spec (s : State) (n : Fin 4) :
    s.lodgerStarted n = { s with
      gate := (s.lodgerStarted n).gate, lodgers := (s.startLodger n).lodgers, wbl := (s.lodgerStarted n).wbl
      ledger := (s.lodgerStarted n).ledger } ∧
    logs s 0x0805 (leBytes 1 n.val) (s.lodgerStarted n) ∧
    ∀ i, (s.outp i).owner = .lodger → (s.outp i).ownerId = n.val →
      ((s.lodgerStarted n).outp i).causes &&& RestCause.lodger.mask = 0 := by
  obtain ⟨started, cleared⟩ := (s.startLodger n).clearCauses_spec n
  unfold State.lodgerStarted
  generalize (s.startLodger n).clearCauses .lodger (ownedBy n) = u at started cleared ⊢
  have logged := u.logEvent_logs 0x0805 (leBytes 1 n.val)
  have frame := u.logEvent_frame 0x0805 (leBytes 1 n.val)
  generalize u.logEvent 0x0805 (leBytes 1 n.val) = t at logged frame ⊢
  refine ⟨by rw [frame, started]; rfl, by rw [started] at logged; exact logged, fun i howner hid => ?_⟩
  have outp : t.outp i = u.outp i := by rw [frame]; rfl
  rw [outp, cleared i (ownedBy_iff.mpr ⟨howner, hid⟩)]
  simp [Output.cleared, BitVec.and_assoc]

theorem exec_lodgerStart {s : State} {seq session : Nat} (h : s.hears seq session 1) (n : Fin 4) :
    exec (.lodgerStart seq session [BitVec.ofNat 8 n.val]) s = .next (if (s.lodger n).run = .held then
      ((s.accepted seq).lodgerStarted n).svcReply 8 seq (plain 0) else (s.accepted seq).svcReply 8 seq (plain 2)) := by
  refine (congrArg Host.Outcome.next (State.svcRequest_taken h 8 false false _)).trans ?_
  simp only [State.svcLodgerStart, List.length_singleton, idx_fieldAt_byte (by decide) n]
  rfl

/-! ### OFF (R601) -/

theorem exec_svcOff {s : State} {seq session : Nat} {p : List Byte} (h : s.hears seq session p.length) :
    exec (.svcOff seq session p) s = .next ((s.accepted seq).svcOff seq p) :=
  congrArg Host.Outcome.next (State.svcRequest_taken h 9 false false _)

theorem leBytes_leNat (p : List Byte) : leBytes p.length (leNat p) = p := by
  induction p with
  | nil => rfl
  | cons b p ih =>
    have low : (b.toNat + 256 * leNat p) % 256 = b.toNat := by omega
    have high : (b.toNat + 256 * leNat p) / 256 = leNat p := by omega
    rw [List.length_cons, leNat, leBytes, high, ih]
    exact congrArg (· :: p) (BitVec.eq_of_toNat_eq (by rw [BitVec.toNat_ofNat, low]))

theorem leBytes_fieldAt {p : List Byte} {n : Nat} (h : p.length = n) : leBytes n (fieldAt p 0 n) = p := by
  subst h
  simp [fieldAt, slice, leBytes_leNat]

/-- The value of Table 17-2 is the only payload that OFF takes. -/
theorem svcOff_value {p : List Byte} (h : p ≠ leBytes 4 0xFF5) : p.length ≠ 4 ∨ fieldAt p 0 4 ≠ 0x00000FF5 := by
  refine not_and_or.mp fun ⟨hlen, hvalue⟩ => h ?_
  rw [← hvalue, leBytes_fieldAt hlen]

/-- OFF is logged and announced, and the wait before it runs. -/
def State.offBegun (s : State) : State := ((s.logEvent 0x0804 []).leaving 4).mapPower fun p => { p with phase := .offWait }

theorem State.offBegun_spec (s : State) :
    s.offBegun = { s with
      power := { s.power with phase := .offWait }, grd := s.offBegun.grd, wbl := s.offBegun.wbl, ledger := s.offBegun.ledger } ∧
    logs s 0x0804 [] s.offBegun := by
  have logged := s.logEvent_logs 0x0804 []
  have frame := s.logEvent_frame 0x0804 []
  have left := (s.logEvent 0x0804 []).leaving_grdOnly 4
  unfold State.offBegun
  generalize (s.logEvent 0x0804 []).leaving 4 = t at left ⊢
  have wbl : t.wbl = (s.logEvent 0x0804 []).wbl := by rw [left]
  refine ⟨by rw [left, frame]; rfl, ?_⟩
  unfold logs at logged ⊢
  exact wbl ▸ logged

theorem State.svcOff_served {s : State} (hcommit : s.seals.commit = none) (seq : Nat) : s.svcOff seq (leBytes 4 0xFF5) =
    if !s.windowOpen then s.svcReply 9 seq (plain 7)
    else if !s.power.holdOk || !s.power.offWakeSet then s.svcReply 9 seq (plain 3)
    else (s.svcReply 9 seq (plain 0)).offBegun.mapSvc fun x => { x with offAt := s.now } := by
  have value : ¬ ((leBytes 4 0xFF5).length ≠ 4 ∨ fieldAt (leBytes 4 0xFF5) 0 4 ≠ 0x00000FF5) := by decide
  have now : (((s.svcReply 9 seq (plain 0)).logEvent 0x0804 []).leaving 4).now = s.now := by
    rw [State.leaving_grdOnly, State.logEvent_frame]; rfl
  simp only [State.svcOff, if_neg value, hcommit, Option.isSome_none, Bool.false_eq_true, if_false, now]
  rfl

/-! ### The application exchange (R600) -/

theorem exec_svcApp {s : State} {seq session : Nat} {p : List Byte} (h : s.hears seq session p.length) (hnone : s.svc.app = none) :
    exec (.svcApp seq session p) s = .next ((s.accepted seq).svcApp seq p) := by
  refine (congrArg Host.Outcome.next (if_neg (by simp [hnone]))).trans ?_
  exact congrArg Host.Outcome.next (State.svcRequest_taken h 10 false false _)

section app
variable {s : State} {n : Fin 4} {p : List Byte} (howner : s.svc.owner = n.val) (hlen : p.length ≤ 96)
include howner hlen

theorem State.svcApp_running (hrun : (s.lodger n).run = .running) (seq : Nat) : s.svcApp seq p =
    (s.mapSvc fun x => { x with
      app := some (seq, n.val, s.now), appRxLen := p.length, appRx := p ++ x.appRx.drop p.length }).svcInt 2 := by
  simp only [State.svcApp, howner, idx_of_fin, if_neg (Nat.not_lt.mpr hlen), hrun]

theorem State.svcApp_halted (hrun : (s.lodger n).run = .stopped ∨ (s.lodger n).run = .held) (seq : Nat) :
    s.svcApp seq p = s.svcReply 0x0A seq (plain 3) := by
  simp only [State.svcApp, howner, idx_of_fin, if_neg (Nat.not_lt.mpr hlen)]
  rcases hrun with hrun | hrun <;> rw [hrun]

end app

/-- The exchange that is pending ends with a reply. -/
theorem State.appEnds_pending {s : State} {q o at_ : Nat} (h : s.svc.app = some (q, o, at_)) (payload : List Byte) :
    s.appEnds payload = (s.mapSvc fun x => { x with app := none }).svcReply 0x0A q payload := by
  simp only [State.appEnds, h]

theorem exec_appSend {s : State} {n : Fin 4} {user : Bool} {w : Word} {q at_ : Nat} (h : s.may n user .store 0x40080024)
    (happ : s.svc.app = some (q, n.val, at_)) (hsend : bit w 8 = true) (hlen : bits w 6 0 ≤ 95) :
    exec (.appSend n user w) s = .next (((s.answer 0).mapSvc fun x => { x with app := none }).svcReply 0x0A q
      (leBytes 1 0 ++ s.svc.txBytes.take (bits w 6 0))) := by
  have sent : (s.answer 0).appSend n w = (s.answer 0).appEnds (leBytes 1 0 ++ s.svc.txBytes.take (bits w 6 0)) := by
    have pending : (s.answer 0).svc.app = some (q, n.val, at_) := happ
    simp only [State.appSend, pending]
    exact if_pos ⟨trivial, hsend, hlen⟩
  have ends := State.appEnds_pending (s := s.answer 0) happ (leBytes 1 0 ++ s.svc.txBytes.take (bits w 6 0))
  exact congrArg Host.Outcome.next ((State.access_lodger h _).trans (sent.trans ends))

/-! ### Sessions open (R591, R593) -/

theorem twoCopies_length : twoCopies.length = 192 := by
  simp [twoCopies, carrierOf, lsbFirst, Function.comp_def]

/-- Two copies take 192 half bits. -/
theorem afterPhrase_length {l r : List Bool} (h : afterPhrase l = some r) : 192 ≤ l.length := by
  induction l with
  | nil => cases h
  | cons b l ih =>
    rw [afterPhrase] at h
    split at h
    next pre => exact twoCopies_length ▸ (List.isPrefixOf_iff_prefix.mp pre).length_le
    next => exact Nat.le_succ_of_le (ih h)

/-- Behind the copies that a reception holds no further two follow: they count once. -/
theorem phrasesIn_once {l r : List Bool} (h : afterPhrase l = some r) (hrest : phraseAccepted r = false) :
    phrasesIn (l.length / 192) l = (1, r) := by
  have none : afterPhrase r = none := Option.not_isSome_iff_eq_none.mp (by rw [← phraseAccepted, hrest]; decide)
  have rest : ∀ n, phrasesIn n r = (0, r) := fun n => by cases n <;> simp [phrasesIn, none]
  obtain ⟨n, hn⟩ := Nat.exists_eq_succ_of_ne_zero (Nat.pos_iff_ne_zero.mp (Nat.div_pos (afterPhrase_length h) (by decide)))
  rw [hn, phrasesIn, h]
  simp only [rest]

/-- R593: an accepted phrase opens a session where none is open. -/
theorem State.acceptPhrase_opens {s : State} (halive : s.inkAlive = true) (hlock : s.svc.lockout = false) (hawake : s.asleep = false)
    (hst : s.svc.st = .closed) (hcommit : s.seals.commit = none) :
    s.acceptPhrase = (s.mapSvc fun x => { x with phrases := satInc 0xFF x.phrases }).openSession := by
  have taken : (s.svc.lockout || !s.inkAlive) = false := by simp [halive, hlock]
  refine (if_neg (by exact Bool.eq_false_iff.mp taken)).trans ?_
  generalize hu : (s.mapSvc fun x => { x with phrases := satInc 0xFF x.phrases }) = u
  have asleep : u.asleep = false := hu ▸ hawake
  have st : u.svc.st = .closed := hu ▸ hst
  have commit : u.seals.commit = none := hu ▸ hcommit
  simp [State.wakeBy, asleep, State.phrase, commit, State.closeSession, st]

theorem State.wakePhrase_opens {s : State} (halive : s.inkAlive = true) {l y : List Bool} {ns : Nat}
    (hl : afterPhrase (s.halvesAfter l ns) = some y) (hy : phraseAccepted y = false) (hruns : s.detectorRuns = true)
    (hflood : s.svc.flood = false) (hlock : s.svc.lockout = false) (hawake : s.asleep = false) (hst : s.svc.st = .closed)
    (hcommit : s.seals.commit = none) :
    (s.wakePhrase l ns).svc.st = .opening ∧ (s.wakePhrase l ns).svc.out.length = s.svc.out.length + 1 := by
  have once : s.wakePhrase l ns = (s.mapSvc fun x => { x with halves := lastHalves y, halvesAt := s.now }).acceptPhrase := by
    simp only [State.wakePhrase, hruns, hflood, phrasesIn_once hl hy]
    rfl
  rw [once]
  generalize lastHalves y = hs
  rw [State.acceptPhrase_opens (s := s.mapSvc fun x => { x with halves := hs, halvesAt := s.now }) halive hlock hawake hst hcommit]
  exact ⟨rfl, List.length_append ..⟩

/-! ### Sessions close, and floods (R597, R603) -/

theorem State.logEvent_svc (s : State) (event : Nat) (body : List Byte) : (s.logEvent event body).svc = s.svc := by
  rw [State.logEvent_frame]

theorem State.closeSession_st (s : State) (cause : Nat) : (s.closeSession cause).svc.st = .closed := by
  unfold State.closeSession
  split
  next closed => exact closed
  next =>
    rw [State.logEvent_svc]
    split <;> rfl

theorem exec_sessionIdleTimeout {s : State} (h : s.inkAlive = true) : exec .sessionIdleTimeout s = .next (s.closeSession 1) :=
  congrArg Host.Outcome.next (if_pos h)

theorem exec_authTimeout {s : State} (h : s.inkAlive = true) (hst : s.svc.st = .opening) :
    exec .authTimeout s = .next (s.closeSession 4) := congrArg Host.Outcome.next (if_pos (by simp [h, hst]))

theorem exec_floodSessionTimeout {s : State} (h : s.inkAlive = true) (hflood : s.svc.flood = true) :
    exec .floodSessionTimeout s = .next (s.closeSession 2) := congrArg Host.Outcome.next (if_pos (by simp [h, hflood]))

theorem Svc.flooded_iff {x : Svc} {ambient noise : Nat} : x.flooded ambient noise = true ↔ 1000 ≤ ambient ∨ x.noise < noise := by
  simp [Svc.flooded, servo]

theorem State.floodStart_flood {s : State} (hruns : s.detectorRuns = true) {a x : Nat} (h : 1000 ≤ a ∨ s.svc.noise < x) :
    (s.floodStart a x).svc.flood = true := by
  have strong : ∀ y : Svc, y.noise = s.svc.noise → y.flooded a x = true := fun y hy => Svc.flooded_iff.mpr (hy ▸ h)
  simp only [State.floodStart, hruns, if_true, State.mapSvc_svc, strong]
  cases hflood : s.svc.flood with
  | true => exact hflood
  | false => rfl

theorem State.floodEnd_flood {s : State} (hruns : s.detectorRuns = true) {a x : Nat} (ha : a < 1000) (hx : x ≤ s.svc.noise) :
    (s.floodEnd a x).svc.flood = false := by
  have weak : s.svc.flooded a x = false := Bool.eq_false_iff.mpr fun h => by
    rcases Svc.flooded_iff.mp h with h | h <;> omega
  simp [State.floodEnd, hruns, weak]

/-! ### CLOSE, AUTH, bad frames and the line (R583, R584, R587, R597) -/

theorem State.crackClear_svc (s : State) : s.crackClear.svc = s.svc := by
  unfold State.crackClear
  split
  · exact State.logEvent_svc ..
  · rfl

theorem State.panelOn_svc (s : State) : s.panelOn.svc = s.svc := by
  unfold State.panelOn
  split <;> rfl

theorem State.panelOff_svc (s : State) : s.panelOff.svc = s.svc := by
  unfold State.panelOff
  split <;> rfl

theorem State.panelCtrl_svc (s : State) (w : Word) : (s.panelCtrl w).svc = s.svc := by
  unfold State.panelCtrl
  simp only [apply_ite State.svc, State.panelOn_svc, State.panelOff_svc, State.mapPnl_svc, State.crackClear_svc, ite_self]

theorem State.panelWrite_svc (s : State) (off : Nat) (w : Word) : (s.panelWrite off w).svc = s.svc := by
  unfold State.panelWrite
  split
  · simp only [State.mapPnl_svc]
  · split <;> simp only [State.panelCtrl_svc, State.mapPnl_svc]

theorem State.panelClockStart_svc (s : State) : s.panelClockStart.svc = s.svc := by
  unfold State.panelClockStart
  split
  · refine foldl_keeps (R := fun s t : State => t.svc = s.svc) (fun _ => rfl) (fun h h' => h'.trans h) (fun s x => ?_) _
      (s.mapPnl fun p => { p with crossing := [] })
    unfold State.panelApply
    split <;> exact State.panelWrite_svc ..
  · rfl

theorem State.auth_accepted {s : State} {seq : Nat} {p : List Byte} (hlen : p.length = 68) (hrole : fieldAt p 0 1 = 2)
    (hok : s.authOk p = true) : (s.auth seq p).svc.st = .open_ ∧ (s.auth seq p).svc.role = 2 := by
  simp only [State.auth, hlen, hrole, hok]
  rw [if_neg (by simp), if_pos trivial]
  have kept : ∀ (u : State) (event : Nat) (body : List Byte), ((u.logEvent event body).panelClockStart).svc = u.svc := fun u event body =>
    (State.panelClockStart_svc _).trans (u.logEvent_svc event body)
  simp only [State.svcReply, State.mapSvc_svc, Svc.reply, kept]
  exact ⟨rfl, rfl⟩

theorem State.svcClose_accepted {s : State} (h : s.seals.commit = none) (seq : Nat) :
    s.svcClose seq [] = s.mapSvc fun x => x.replyClose (x.closeReply seq) := by
  simp [State.svcClose, h]

/-! ### The statement -/

/-- Settles O59: a request is served on the state that has accepted it (`svcRequest_taken`), and its answer is `accepted_answered`; what
else each one does is the lemma about its function. The commands of a session at the end are the lemmas of the last two parts. -/
theorem serviceRequests : Obligations.ServiceRequests := by
  refine ⟨fun s seq session p h => ?read, fun s seq session c h => ?fan, fun s seq session n h => ?lodger,
    fun s seq session p h h4 hcommit => ?off, fun s seq session p n h howner => ⟨?pending, fun hnone hlen => ?app⟩,
    fun s n user w q at_ h happ hsend hlen => ?send, fun s halive => ?sessions, fun s seq session h hcommit => ?ends,
    fun s hup => ?timeout⟩
  case read =>
    have boot : (s.accepted seq).bootHeld = false := h.boot
    rw [exec_svcRead h]
    refine ⟨fun hp hspace hlen ha hin hline hbad => ⟨_, rfl, ?_⟩, fun hp hspace hlen haddr => ⟨_, rfl, ?_⟩, fun hbad => ⟨_, rfl, ?_⟩⟩
    · have poison := State.ledgerWord_poison (s := s.accepted seq) (Ledger.cell_unwritten hline) hbad
      have read := ((s.accepted seq).busRead_ledger .innkeeper hin ha).trans (congrArg (Prod.mk BeatEnd.ok) poison)
      rw [State.svcRead_word boot hp hspace rfl hlen (Nat.zero_le 1) (inLedger_word hin ha) ha read]
      exact ⟨State.svcReply_replied rfl rfl (by decide) seq _, rfl, rfl, rfl, rfl⟩
    · rw [State.svcRead_word boot hp hspace haddr hlen (Nat.le_refl 1) (by decide) (by decide) (State.busRead_thmTj _)]
      exact s.accepted_answered (by decide) seq _
    · rw [State.svcRead_bad boot rfl hbad]
      exact s.accepted_answered (by decide) seq _
  case fan =>
    rw [exec_fanClear h]
    refine ⟨fun hst => ⟨_, rfl, ?_⟩, fun hst => ⟨_, rfl, ?_⟩⟩
    · obtain ⟨frame, clear, others, logged⟩ := State.fanClear_latched (s := s.accepted seq) hst
      generalize (s.accepted seq).fanClear c = t at frame clear others logged ⊢
      have off : (t.svcReply 7 seq (plain 0)).fan c = (s.fan c).cleared := clear
      refine ⟨?_, by rw [off]; rfl, by rw [off]; rfl, by rw [off]; rfl, by rw [off]; rfl, others, by rw [frame]; rfl, logged⟩
      exact State.svcReply_replied (by rw [frame]; rfl) (by rw [frame]; rfl) (by decide) seq _
    · rw [State.fanClear, if_neg (by exact hst)]
      exact s.accepted_answered (by decide) seq _
  case lodger =>
    rw [exec_lodgerStart h]
    refine ⟨fun hrun => ⟨_, rfl, ?_⟩, fun hrun => ⟨_, rfl, ?_⟩⟩
    · obtain ⟨frame, logged, outputs⟩ := (s.accepted seq).lodgerStarted_spec n
      rw [if_pos hrun]
      generalize (s.accepted seq).lodgerStarted n = t at frame logged outputs ⊢
      have lodgers : t.lodgers = ((s.accepted seq).startLodger n).lodgers := by rw [frame]
      have runs : (t.svcReply 8 seq (plain 0)).lodger n = _ :=
        (congrArg (vget · n) lodgers).trans (State.mapLodger_lodger_same _ n _)
      refine ⟨?_, by rw [runs], by rw [runs]; rfl, fun m hm => ?_, logged, outputs⟩
      · exact State.svcReply_replied (by rw [frame]; rfl) (by rw [frame]; rfl) (by decide) seq _
      · exact (congrArg (vget · m) lodgers).trans (State.mapLodger_lodger_ne _ n m _ hm)
    · rw [if_neg hrun]
      exact s.accepted_answered (by decide) seq _
  case off =>
    have served := State.svcOff_served (s := s.accepted seq) hcommit seq
    have isOpen : (s.accepted seq).windowOpen = s.windowOpen := rfl
    have power : (s.accepted seq).power = s.power := rfl
    rw [isOpen, power] at served
    rw [exec_svcOff h, exec_svcOff (p := leBytes 4 0xFF5) h4, served]
    refine ⟨fun hp => ⟨_, rfl, ?_⟩, fun hwin => ⟨_, rfl, ?_⟩, fun hwin hold => ⟨_, rfl, ?_⟩, fun hwin hok hwake => ⟨_, rfl, ?_⟩⟩
    · rw [State.svcOff, if_pos (svcOff_value hp)]
      exact s.accepted_answered (by decide) seq _
    · rw [if_pos (by simp [hwin])]
      exact s.accepted_answered (by decide) seq _
    · rw [if_neg (by simp [hwin]), if_pos (by simpa using hold)]
      exact s.accepted_answered (by decide) seq _
    · rw [if_neg (by simp [hwin]), if_neg (by simp [hok, hwake])]
      obtain ⟨reply, only⟩ := s.accepted_answered (type := 9) (by decide) seq (plain 0)
      obtain ⟨frame, logged⟩ := ((s.accepted seq).svcReply 9 seq (plain 0)).offBegun_spec
      generalize ((s.accepted seq).svcReply 9 seq (plain 0)).offBegun = t at frame logged ⊢
      exact ⟨by rw [frame]; exact reply, by rw [frame]; rfl, logged, rfl, by rw [frame]; rfl⟩
  case pending => exact fun hsome => congrArg Host.Outcome.next (if_pos hsome)
  case app =>
    have owner : (s.accepted seq).svc.owner = n.val := howner
    rw [exec_svcApp h hnone]
    refine ⟨fun hrun => ⟨_, rfl, ?_⟩, fun hrun => ⟨_, rfl, ?_⟩⟩
    · rw [State.svcApp_running owner hlen hrun]
      refine ⟨rfl, rfl, List.take_left .., ?_, rfl, rfl⟩
      change (s.svc.int ||| BitVec.ofNat 4 (2 ^ 2)).getLsbD 2 = true
      simp
    · obtain ⟨reply, only⟩ := s.accepted_answered (type := 0x0A) (by decide) seq (plain 3)
      rw [State.svcApp_halted owner hlen hrun]
      exact ⟨reply, hnone, only⟩
  case send => exact ⟨_, exec_appSend h happ hsend hlen, rfl, State.svcReply_replied rfl rfl (by decide) q _, rfl⟩
  case sessions =>
    exact ⟨fun _ _ _ hl hy hruns hflood hlock hawake hst hcommit =>
        ⟨_, rfl, State.wakePhrase_opens halive hl hy hruns hflood hlock hawake hst hcommit⟩,
      fun _ _ hruns h => ⟨_, rfl, State.floodStart_flood hruns h⟩,
      fun _ _ hruns ha hx => ⟨_, rfl, State.floodEnd_flood hruns ha hx⟩,
      fun _ => ⟨_, exec_sessionIdleTimeout halive, s.closeSession_st 1⟩,
      fun hst => ⟨_, exec_authTimeout halive hst, s.closeSession_st 4⟩,
      fun hflood _ => ⟨_, exec_floodSessionTimeout halive hflood, s.closeSession_st 2⟩,
      ⟨_, rfl, rfl⟩⟩
  case ends =>
    have empty := h.shorter (Nat.zero_le 68)
    refine ⟨⟨_, congrArg Host.Outcome.next (State.svcRequest_taken empty 11 true true _), ?_⟩,
      fun p hlen hrole hok => ⟨_, congrArg Host.Outcome.next (State.svcRequest_taken (hlen ▸ h) 2 true true _),
        State.auth_accepted hlen hrole hok⟩,
      ⟨_, congrArg Host.Outcome.next (State.svcRequest_taken empty 1 true false fun u => u.svcReply 1 seq (plain 1)),
        (s.accepted_answered (by decide) seq _).1⟩,
      fun len => ?_, fun f fs hout hfree hclosing hreset => ⟨_, rfl, ?_⟩⟩
    · rw [State.svcClose_accepted (s := s.accepted seq) hcommit]
      rfl
    · obtain ⟨up, -, -, flood, -, -, -, hears⟩ := h
      have least : s.deaf (frameHalves 0) = false := State.deaf_shorter hears (by decide)
      have head : s.deaf (16 * 5) = false := State.deaf_shorter hears (by decide)
      cases len <;> simp [exec, execPalnyxFrameError, up, flood, least, head, Result.Is]
    · obtain ⟨up, -⟩ := h
      simp [State.replySend, hout, up, hfree, hclosing, hreset]
  case timeout =>
    have runs : exec .appTimeout s = .next (s.appEnds (plain 5)) := congrArg Host.Outcome.next (if_pos hup)
    rw [runs]
    refine ⟨fun hnone => by simp only [State.appEnds, hnone], fun q o at_ happ => ?_⟩
    rw [State.appEnds_pending happ]
    exact ⟨_, rfl, rfl, State.svcReply_replied rfl rfl (by decide) q _, rfl⟩

end Sys2Proof.Machine
end

section
/-! PROOFS. The move of a lost controller's frames: what it changes of the two controllers, and when it empties the lost one (R484,
R492). -/

namespace Sys2Proof.Machine

/-! ### Which frame goes next (R489) -/

theorem lowestTx_mem {l : List TxFrame} {t : TxFrame} (h : lowestTx l = some t) : t ∈ l := by
  induction l generalizing t with
  | nil => exact absurd h (by simp [lowestTx])
  | cons x xs ih =>
    rw [lowestTx] at h
    split at h
    · exact Option.some_inj.mp h ▸ List.mem_cons_self
    next u hu =>
      split at h
      · exact Option.some_inj.mp h ▸ List.mem_cons_self
      · exact List.mem_cons_of_mem x (Option.some_inj.mp h ▸ ih hu)

theorem lowestTx_cons (x : TxFrame) (xs : List TxFrame) : ∃ t, lowestTx (x :: xs) = some t := by
  rw [lowestTx]
  split
  · exact ⟨_, rfl⟩
  · split <;> exact ⟨_, rfl⟩

/-! ### Two controllers -/

/-- The frames of a controller that are still to be sent. -/
def Can.queued (k : Can) : List TxFrame := k.tx ++ k.backlog

/-- Frames have gone from controller `k` to controller `j`, and none is lost or doubled: `k'` and `j'` are what they are now. -/
structure Can.Moves (k j k' j' : Can) : Prop where
  lost : k' = { k with tx := k'.tx, backlog := k'.backlog }
  other : j' = { j with tx := j'.tx }
  counts : ∀ u, k'.queued.count u + j'.queued.count u = k.queued.count u + j.queued.count u
  placed : ∀ u ∈ j.tx, u ∈ j'.tx
  room : j.tx.length ≤ 32 → j'.tx.length ≤ 32
  pinned : ∀ u ∈ k.tx, u.pinned = true → u ∈ k'.tx

theorem Can.Moves.refl (k j : Can) : Can.Moves k j k j := ⟨rfl, rfl, fun _ => rfl, fun _ => id, id, fun _ h _ => h⟩

theorem Can.Moves.trans {k j k' j' k'' j'' : Can} (h : Can.Moves k j k' j') (h' : Can.Moves k' j' k'' j'') : Can.Moves k j k'' j'' where
  lost := by rw [h'.lost, h.lost]
  other := by rw [h'.other, h.other]
  counts u := (h'.counts u).trans (h.counts u)
  placed u hu := h'.placed u (h.placed u hu)
  room hr := h'.room (h.room hr)
  pinned u hu hp := h'.pinned u (h.pinned u hu hp) hp

section kept
variable {k j k' j' : Can} (h : Can.Moves k j k' j')
include h

theorem Can.Moves.lost_st : k'.st = k.st := by rw [h.lost]

theorem Can.Moves.lost_busoffCnt : k'.busoffCnt = k.busoffCnt := by rw [h.lost]

theorem Can.Moves.other_st : j'.st = j.st := by rw [h.other]

theorem Can.Moves.other_backlog : j'.backlog = j.backlog := by rw [h.other]

end kept

/-- A freed buffer takes a frame from the backlog, so that the controller holds the same frames. -/
theorem Can.refill_keeps (k : Can) : k.refill = { k with tx := k.refill.tx, backlog := k.refill.backlog } ∧
    k.refill.queued = k.queued ∧ ∀ u ∈ k.tx, u ∈ k.refill.tx := by
  unfold Can.refill
  split
  next t ts hback =>
    split
    · exact ⟨rfl, by simp [Can.queued, hback], fun u hu => List.mem_append_left _ hu⟩
    · exact ⟨rfl, rfl, fun _ => id⟩
  · exact ⟨rfl, rfl, fun _ => id⟩

/-- What is taken out of a controller is one copy of one frame. -/
theorem Can.take_keeps (k : Can) (t : TxFrame) : k.take t = { k with tx := (k.take t).tx, backlog := (k.take t).backlog } ∧
    (k.take t).queued = k.queued.erase t ∧ ∀ u ∈ k.tx, u ≠ t → u ∈ (k.take t).tx := by
  unfold Can.take
  split
  next hmem =>
    obtain ⟨frame, queued, kept⟩ := Can.refill_keeps { k with tx := k.tx.erase t }
    refine ⟨frame, queued.trans ?_, fun u hu hne => kept u ((List.mem_erase_of_ne hne).mpr hu)⟩
    exact (List.erase_append_left _ (List.contains_iff_mem.mp hmem)).symm
  next hmem =>
    refine ⟨rfl, ?_, fun u hu _ => hu⟩
    exact (List.erase_append_right _ fun h => hmem (List.contains_iff_mem.mpr h)).symm

/-- One frame goes over. -/
theorem Can.Moves.one {k j : Can} {t : TxFrame} (ht : t ∈ k.queued) (hp : t.pinned = false) (hj : j.tx.length < 32) :
    Can.Moves k j (k.take t) { j with tx := j.tx ++ [t] } := by
  obtain ⟨frame, queued, kept⟩ := k.take_keeps t
  refine ⟨frame, rfl, fun u => ?_, fun u hu => List.mem_append_left _ hu, fun _ => ?_, fun u hu hpin => kept u hu ?_⟩
  · have counted : j.queued.count u + [t].count u = (j.tx ++ [t] ++ j.backlog).count u := by
      simp only [Can.queued, List.count_append]
      omega
    have taken : (k.queued.erase t).count u + [t].count u = k.queued.count u := by
      rw [List.count_erase, List.count_singleton]
      by_cases e : t == u
      · have : 0 < k.queued.count u := List.count_pos_iff.mpr (eq_of_beq e ▸ ht)
        simp only [e, if_true]
        omega
      · simp [e]
    rw [queued]
    change _ + (j.tx ++ [t] ++ j.backlog).count u = _
    omega
  · simpa using hj
  · rintro rfl
    rw [hp] at hpin
    exact Bool.false_ne_true hpin

/-! ### The state -/

theorem State.mapCan_can_same (s : State) (c : Fin 2) (f : Can → Can) : (s.mapCan c f).can c = f (s.can c) :=
  vget_vmod_same s.grd.cans c f

theorem State.mapCan_can_ne (s : State) {c d : Fin 2} (h : d ≠ c) (f : Can → Can) : (s.mapCan c f).can d = s.can d :=
  vget_vmod_ne s.grd.cans c d f h

theorem otherCan_eq {c o : Fin 2} (h : o ≠ c) : otherCan c = o := by
  revert c o
  decide

theorem Can.downForTrip_iff {k : Can} : k.downForTrip = true ↔ k.st = .busoff ∨ k.st = .off := decide_eq_true_iff

/-- Of the device, only controllers have changed. -/
def State.CansOnly (s t : State) : Prop := t = { s with grd := { s.grd with cans := t.grd.cans } }

theorem State.CansOnly.trans {s t u : State} (h : State.CansOnly s t) (h' : State.CansOnly t u) : State.CansOnly s u := by
  rw [State.CansOnly] at *
  rw [h', h]

/-- Frames have moved from controller `c` to `o`. -/
structure State.Moved (c o : Fin 2) (s t : State) : Prop where
  frame : State.CansOnly s t
  cans : Can.Moves (s.can c) (s.can o) (t.can c) (t.can o)

theorem State.Moved.refl (c o : Fin 2) (s : State) : State.Moved c o s s := ⟨rfl, .refl _ _⟩

theorem State.Moved.trans {c o : Fin 2} {s t u : State} (h : State.Moved c o s t) (h' : State.Moved c o t u) : State.Moved c o s u :=
  ⟨h.frame.trans h'.frame, h.cans.trans h'.cans⟩

/-- One frame goes from a controller to another. -/
def State.moveOne (s : State) (c o : Fin 2) (t : TxFrame) : State :=
  (s.mapCan c fun k => k.take t).mapCan o fun k => { k with tx := k.tx ++ [t] }

/-- R492: the frames that may move to the other controller. -/
def State.movable (s : State) (c o : Fin 2) : List TxFrame :=
  (s.can c).queued.filter fun t => !t.pinned && !(s.can o).queued.contains t

section other
variable {c o : Fin 2} (hne : o ≠ c)
include hne

theorem State.moveOne_lost (s : State) (t : TxFrame) : (s.moveOne c o t).can c = (s.can c).take t :=
  (State.mapCan_can_ne _ hne.symm _).trans (s.mapCan_can_same c _)

theorem State.moveOne_other (s : State) (t : TxFrame) :
    (s.moveOne c o t).can o = { s.can o with tx := (s.can o).tx ++ [t] } := by
  rw [State.moveOne, State.mapCan_can_same, State.mapCan_can_ne _ hne]

theorem State.moveOne_moved {s : State} {t : TxFrame} (ht : t ∈ (s.can c).queued) (hp : t.pinned = false)
    (ho : (s.can o).tx.length < 32) : State.Moved c o s (s.moveOne c o t) := by
  refine ⟨rfl, ?_⟩
  rw [State.moveOne_lost hne, State.moveOne_other hne]
  exact .one ht hp ho

omit hne in
theorem State.moveFrames_go_done {n : Nat} {s : State} (h : lowestTx (s.movable c o) = none) :
    State.moveFrames.go c o (n + 1) s = s := by
  rw [State.movable, Can.queued, Can.queued] at h
  rw [State.moveFrames.go, h]

omit hne in
theorem State.moveFrames_go_full {n : Nat} {s : State} (h : ¬ (s.can o).tx.length < 32) :
    State.moveFrames.go c o (n + 1) s = s := by
  rw [State.moveFrames.go]
  split
  · exact if_neg h
  · rfl

omit hne in
/-- As long as a frame may move and a buffer is free, one more goes over. -/
theorem State.moveFrames_go_step {n : Nat} {s : State} {t : TxFrame} (h : lowestTx (s.movable c o) = some t)
    (hroom : (s.can o).tx.length < 32) :
    State.moveFrames.go c o (n + 1) s = State.moveFrames.go c o n (s.moveOne c o t) := by
  rw [State.movable, Can.queued, Can.queued] at h
  rw [State.moveFrames.go, h]
  exact if_pos hroom

theorem State.moveFrames_go_moved (n : Nat) (s : State) : State.Moved c o s (State.moveFrames.go c o n s) := by
  induction n generalizing s with
  | zero => exact .refl c o s
  | succ n ih =>
    cases ht : lowestTx (s.movable c o) with
    | none =>
      rw [State.moveFrames_go_done ht]
      exact .refl c o s
    | some t =>
      by_cases hroom : (s.can o).tx.length < 32
      · obtain ⟨queued, free⟩ := List.mem_filter.mp (lowestTx_mem ht)
        simp only [Bool.and_eq_true, Bool.not_eq_true'] at free
        rw [State.moveFrames_go_step ht hroom]
        exact (State.moveOne_moved hne queued free.1 hroom).trans (ih _)
      · rw [State.moveFrames_go_full hroom]
        exact .refl c o s

/-- R492: what the move of a lost controller's frames comes to. -/
theorem State.moveFrames_moved (s : State) : State.Moved c o s (s.moveFrames c) := by
  simp only [State.moveFrames, otherCan_eq hne]
  split
  · exact .refl c o s
  · exact State.moveFrames_go_moved hne 32 s

/-- A bridge keeps its frames where they are, and nothing moves to a controller that is lost too. -/
theorem State.moveFrames_keeps {s : State} (h : s.grd.bridge = true ∨ (s.can o).st = .busoff ∨ (s.can o).st = .off) :
    s.moveFrames c = s := by
  rw [← Can.downForTrip_iff] at h
  simp only [State.moveFrames, otherCan_eq hne]
  exact if_pos ((Bool.or_eq_true _ _).mpr h)

/-! ### The whole of a controller's frames moves -/

/-- All that controller `c` holds stands in buffers, may move, and finds room. -/
structure State.AllMovable (c o : Fin 2) (s : State) : Prop where
  backlog : (s.can c).backlog = []
  unpinned : ∀ u ∈ (s.can c).tx, u.pinned = false
  nodup : (s.can c).tx.Nodup
  fresh : ∀ u ∈ (s.can c).tx, u ∉ (s.can o).queued
  room : (s.can c).tx.length + (s.can o).tx.length ≤ 32

omit hne in
theorem State.AllMovable.movable {s : State} (h : State.AllMovable c o s) : s.movable c o = (s.can c).tx := by
  have buffered : (s.can c).queued = (s.can c).tx := by rw [Can.queued, h.backlog, List.append_nil]
  rw [State.movable, buffered]
  refine List.filter_eq_self.mpr fun u hu => ?_
  simp [h.unpinned u hu, h.fresh u hu]

omit hne in
/-- A frame in a buffer leaves it, and none waits to take its place. -/
theorem State.AllMovable.take {s : State} (h : State.AllMovable c o s) {t : TxFrame} (ht : t ∈ (s.can c).tx) :
    (s.can c).take t = { s.can c with tx := (s.can c).tx.erase t } := by
  simp only [Can.take, List.contains_iff_mem.mpr ht, if_true, Can.refill, h.backlog]

theorem State.AllMovable.moveOne {s : State} (h : State.AllMovable c o s) {t : TxFrame} (ht : t ∈ (s.can c).tx) :
    State.AllMovable c o (s.moveOne c o t) := by
  have lost := (State.moveOne_lost hne s t).trans (h.take ht)
  have other := State.moveOne_other hne s t
  have stays {u : TxFrame} (hu : u ∈ (s.can c).tx.erase t) : u ∈ (s.can c).tx := List.mem_of_mem_erase hu
  refine ⟨?_, ?_, ?_, ?_, ?_⟩ <;> rw [lost]
  · exact h.backlog
  · exact fun u hu => h.unpinned u (stays hu)
  · exact h.nodup.erase t
  · intro u hu
    have fresh := h.fresh u (stays hu)
    have differs : u ≠ t := (h.nodup.mem_erase_iff.mp hu).1
    simp only [Can.queued, List.mem_append, not_or] at fresh
    simp [other, Can.queued, fresh, differs]
  · have room := h.room
    have shorter := List.length_erase_add_one ht
    simp only [other, List.length_append, List.length_singleton]
    omega

/-- With a turn for each frame, the controller is empty in the end. -/
theorem State.AllMovable.go_empties {n : Nat} {s : State} (h : State.AllMovable c o s) (hn : (s.can c).tx.length ≤ n) :
    ((State.moveFrames.go c o n s).can c).queued = [] := by
  induction n generalizing s with
  | zero => simp [State.moveFrames.go, Can.queued, h.backlog, List.eq_nil_of_length_eq_zero (Nat.le_zero.mp hn)]
  | succ n ih =>
    cases htx : (s.can c).tx with
    | nil =>
      rw [State.moveFrames_go_done (by rw [h.movable, htx, lowestTx])]
      simp [Can.queued, h.backlog, htx]
    | cons x xs =>
      obtain ⟨t, ht⟩ := lowestTx_cons x xs
      have inside : t ∈ (s.can c).tx := htx ▸ lowestTx_mem ht
      have sum := h.room
      have shorter := List.length_erase_add_one inside
      rw [State.moveFrames_go_step (by rw [h.movable, htx, ht]) (by omega)]
      refine ih (h.moveOne hne inside) ?_
      have fewer : ((s.can c).tx.erase t).length ≤ n := by omega
      rwa [State.moveOne_lost hne, h.take inside]

/-- R492: each of those frames then stands in a buffer of the other controller. -/
theorem State.AllMovable.moveFrames {s : State} (h : State.AllMovable c o s) (hb : s.grd.bridge = false)
    (ho : (s.can o).downForTrip = false) :
    ((s.moveFrames c).can c).tx = [] ∧ ∀ u ∈ (s.can c).tx, u ∈ ((s.moveFrames c).can o).tx := by
  have moved : State.Moved c o s (s.moveFrames c) := s.moveFrames_moved hne
  have emptied : ((s.moveFrames c).can c).queued = [] := by
    simp only [State.moveFrames, otherCan_eq hne, hb, ho, Bool.or_self, Bool.false_eq_true, if_false]
    exact h.go_empties hne ((Nat.le_add_right ..).trans h.room)
  refine ⟨(List.append_eq_nil_iff.mp emptied).1, fun u hu => ?_⟩
  have here : 0 < (s.can c).queued.count u := List.count_pos_iff.mpr (List.mem_append_left _ hu)
  have counts := moved.cans.counts u
  rw [emptied, List.count_nil] at counts
  have there : u ∈ ((s.moveFrames c).can o).queued := List.count_pos_iff.mp (by omega)
  refine (List.mem_append.mp there).resolve_right fun waits => h.fresh u hu (List.mem_append_right _ ?_)
  rw [moved.cans.other] at waits
  exact waits

end other

end Sys2Proof.Machine
end

section
/-! PROOFS. The CAN controllers: the statement (R192, R464, R484, R487, R492, R497 to R499). -/

namespace Sys2Proof.Machine

/-! ### What a move leaves -/

theorem State.CansOnly.grdOnly {s t : State} (h : State.CansOnly s t) : State.GrdOnly s t := by
  rw [State.GrdOnly, h]

/-- The statement's words on a move: nothing is lost or doubled, and what stood with the other controller stays. -/
theorem Can.Moves.spec {k j k' j' : Can} (h : Can.Moves k j k' j') :
    (∀ u, (k'.tx ++ k'.backlog).count u + (j'.tx ++ j'.backlog).count u =
      (k.tx ++ k.backlog).count u + (j.tx ++ j.backlog).count u) ∧
    (∀ u, u ∈ j.tx → u ∈ j'.tx) ∧ j'.backlog = j.backlog := ⟨h.counts, h.placed, h.other_backlog⟩

/-! ### Bus-off (R464, R487, R498) -/

/-- A controller as bus-off leaves it, its frames still with it. -/
def Can.wentOff (k : Can) : Can := { k with st := .busoff, txErr := 255, busoffCnt := satInc 0xFFFF k.busoffCnt }

/-- Bus-off is counted and shown, and a standing Trip is backed up. -/
def State.wentOff (s : State) (c : Fin 2) : State :=
  s.mapGrd fun g => { g with
    cans := vset g.cans c (s.can c).wentOff, int := g.int ||| 4, backup := g.backup || g.ownTrip }

theorem State.busOff_eq {s : State} {c : Fin 2} (hx : s.power.xtalRc = false) (hst : (s.can c).st = .active ∨ (s.can c).st = .passive) :
    s.busOff c = (s.wentOff c).moveFrames c := by
  rw [State.busOff, if_pos ⟨hx, hst⟩]
  rfl

theorem State.wentOff_can (s : State) (c : Fin 2) : (s.wentOff c).can c = (s.can c).wentOff := vget_vset_same s.grd.cans c _

theorem State.wentOff_can_ne (s : State) {c o : Fin 2} (h : o ≠ c) : (s.wentOff c).can o = s.can o :=
  vget_vset_ne s.grd.cans c o _ h

/-- The frames of a controller that has gone bus-off have moved. -/
structure State.BusOffDone (c o : Fin 2) (s t : State) : Prop where
  cans : Can.Moves (s.can c).wentOff (s.can o) (t.can c) (t.can o)
  int : t.grd.int = s.grd.int ||| 4
  backup : t.grd.backup = (s.grd.backup || s.grd.ownTrip)
  frame : State.GrdOnly s t

theorem State.busOff_done {s : State} {c o : Fin 2} (hne : o ≠ c) (hx : s.power.xtalRc = false)
    (hst : (s.can c).st = .active ∨ (s.can c).st = .passive) : State.BusOffDone c o s (s.busOff c) := by
  obtain ⟨frame, cans⟩ := (s.wentOff c).moveFrames_moved hne
  rw [s.wentOff_can, s.wentOff_can_ne hne] at cans
  rw [State.busOff_eq hx hst]
  have grd := congrArg State.grd frame
  exact ⟨cans, congrArg Grd.int grd, congrArg Grd.backup grd, State.GrdOnly.trans (rfl : State.GrdOnly s (s.wentOff c)) frame.grdOnly⟩

/-- Where the frames may not move, bus-off leaves them. -/
theorem State.busOff_keeps {s : State} {c o : Fin 2} (hne : o ≠ c) (hx : s.power.xtalRc = false)
    (hst : (s.can c).st = .active ∨ (s.can c).st = .passive)
    (h : s.grd.bridge = true ∨ (s.can o).st = .busoff ∨ (s.can o).st = .off) : s.busOff c = s.wentOff c := by
  rw [State.busOff_eq hx hst]
  exact State.moveFrames_keeps hne (by rwa [s.wentOff_can_ne hne])

/-! ### Recovery, hold-off and REEN (R498, R499) -/

/-- The completed recoveries that R499 counts, the present one among them. -/
def State.recoveriesNow (s : State) (c : Fin 2) : List Nat :=
  s.now :: (s.can c).recoveries.filter fun x => decide (s.now < x + 3600000000)

/-- A controller that a completed recovery leaves in a state, its error counters started again. -/
def Can.recoveredTo (k : Can) (st : CanState) (recoveries : List Nat) : Can :=
  { k with st := st, recoveries := recoveries, txErr := 0, rxErr := 0 }

theorem State.recovered_recover {s : State} {c : Fin 2} (hst : (s.can c).st = .busoff) (hlt : (s.recoveriesNow c).length < 8) :
    s.recovered c = s.mapCan c fun k => k.recoveredTo .recover (s.recoveriesNow c) := by
  rw [State.recovered, if_pos hst]
  exact if_neg (Nat.not_le.mpr hlt)

/-- The controller is OFF, and GRD_INT shows it. -/
def State.ctrlOff (s : State) (c : Fin 2) : State :=
  (s.mapCan c fun k => k.recoveredTo .off (s.recoveriesNow c)).grdInt 3

theorem State.ctrlOff_can (s : State) (c : Fin 2) : (s.ctrlOff c).can c = (s.can c).recoveredTo .off (s.recoveriesNow c) :=
  s.mapCan_can_same c _

theorem State.ctrlOff_can_ne (s : State) {c o : Fin 2} (h : o ≠ c) : (s.ctrlOff c).can o = s.can o := s.mapCan_can_ne h _

/-- OFF is logged with the controller and its count of bus-offs. -/
def State.ctrlOffLogged (s : State) (c : Fin 2) : State :=
  (s.ctrlOff c).logEvent 0x0703 (leBytes 1 c.val ++ leBytes 2 (s.can c).busoffCnt)

theorem State.recovered_off {s : State} {c : Fin 2} (hst : (s.can c).st = .busoff) (hle : 8 ≤ (s.recoveriesNow c).length) :
    s.recovered c = (s.ctrlOffLogged c).moveFrames c := by
  have count : ((s.ctrlOff c).can c).busoffCnt = (s.can c).busoffCnt := by rw [s.ctrlOff_can]; rfl
  rw [State.ctrlOffLogged, ← count, State.recovered, if_pos hst]
  exact if_pos hle

/-- A log entry leaves Gridis alone. -/
theorem State.logEvent_can (s : State) (event : Nat) (body : List Byte) (c : Fin 2) : (s.logEvent event body).can c = s.can c := by
  rw [State.logEvent_frame]
  rfl

/-- The hold-off ends: the controller is ACTIVE. -/
def State.active (s : State) (c : Fin 2) : State := s.mapCan c fun k => { k with st := .active }

theorem State.active_can (s : State) (c : Fin 2) : (s.active c).can c = { s.can c with st := .active } := s.mapCan_can_same c _

theorem State.active_can_ne (s : State) {c o : Fin 2} (h : o ≠ c) : (s.active c).can o = s.can o := s.mapCan_can_ne h _

theorem State.holdoffEnd_alone {s : State} {c o : Fin 2} (hne : o ≠ c) (hst : (s.can c).st = .recover) (hb : (s.can o).st ≠ .busoff)
    (ho : (s.can o).st ≠ .off) : s.holdoffEnd c = s.active c := by
  have up : ((s.active c).can o).downForTrip = false := by simp [s.active_can_ne hne, Can.downForTrip, hb, ho]
  rw [State.holdoffEnd, if_pos hst, State.activeAgain, otherCan_eq hne]
  exact if_neg (Bool.eq_false_iff.mp up)

theorem State.holdoffEnd_takesOver {s : State} {c o : Fin 2} (hne : o ≠ c) (hst : (s.can c).st = .recover)
    (hlost : (s.can o).st = .busoff ∨ (s.can o).st = .off) : s.holdoffEnd c = (s.active c).moveFrames o := by
  have down : ((s.active c).can o).downForTrip = true := by rwa [s.active_can_ne hne, Can.downForTrip_iff]
  rw [State.holdoffEnd, if_pos hst, State.activeAgain, otherCan_eq hne]
  exact if_pos down

theorem exec_reen {s : State} {n : Fin 4} {user : Bool} {c : Fin 2} (h : s.may n user .store (0x40060100 + c.val * 0x100)) :
    exec (.reen n user c) s = .next ((s.answer 0).reen c) := congrArg Host.Outcome.next (State.access_lodger h _)

/-! ### Bus errors (R464, R497) -/

/-- A controller in operation with new error counts: above 127 it is PASSIVE. -/
def Can.counted (k : Can) (t r : Nat) : Can :=
  { k with txErr := t, rxErr := r, st := if 127 < t ∨ 127 < r then .passive else .active }

theorem Can.counted_passive_iff (k : Can) (t r : Nat) : (k.counted t r).st = .passive ↔ 127 < t ∨ 127 < r := by
  unfold Can.counted
  split <;> simp [*]

/-- In RECOVER a controller receives only, and counts what it hears wrong (R498). -/
theorem State.busError_recover {s : State} {c : Fin 2} (hx : s.power.xtalRc = false) (hst : (s.can c).st = .recover)
    (transmitter : Bool) (rx : Nat) : s.busError c transmitter rx =
      if transmitter then s else s.mapCan c fun k => { k with rxErr := satAdd 255 k.rxErr rx } := by
  rw [State.busError, hx]
  exact if_pos hst

section up
variable {s : State} {c : Fin 2} (hx : s.power.xtalRc = false) (hst : (s.can c).st = .active ∨ (s.can c).st = .passive)
include hx hst

theorem State.busError_receiver (rx : Nat) :
    s.busError c false rx = s.mapCan c fun k => k.counted k.txErr (satAdd 255 k.rxErr rx) := by
  have up : (s.can c).up = true := decide_eq_true hst
  have operating : (s.can c).st ≠ .recover := by rcases hst with h | h <;> simp [h]
  simp only [State.busError, hx, operating, up, Bool.false_and, Bool.false_eq_true, if_false, if_true]
  rfl

theorem State.busError_transmitter (rx : Nat) : s.busError c true rx =
    if 255 < (s.can c).txErr + 8 then (s.mapCan c fun k => k.counted (satAdd 255 k.txErr 8) k.rxErr).busOff c
    else s.mapCan c fun k => k.counted (satAdd 255 k.txErr 8) k.rxErr := by
  have up : (s.can c).up = true := decide_eq_true hst
  have operating : (s.can c).st ≠ .recover := by rcases hst with h | h <;> simp [h]
  simp only [State.busError, hx, operating, up, Bool.true_and, decide_eq_true_eq, Bool.false_eq_true, if_false, if_true]
  rfl

end up

/-- Settles O46: the frames of a lost controller move as `Can.Moves` says (`moveFrames_moved`), all of them where `AllMovable` holds;
the counters of an operating controller are `Can.counted`. -/
theorem gridisControllers : Obligations.GridisControllers := by
  unfold Obligations.GridisControllers
  intro queued moved
  refine ⟨fun s c tr rx hx => ⟨?_, ?_⟩, ?busOff, ?recovery, fun s c o hne => ⟨?alone, ?takesOver, ?idle, ?reen⟩, ?recoverErrors,
    fun s c rx hx hst => ⟨?burst, ?transmitter, ?receiver⟩⟩
  · simp [exec, execBusOff, State.busOff, hx]
  · simp [exec, execCanBusError, State.busError, hx]
  case busOff =>
    intro s c o hne hx hst
    obtain ⟨cans, int, backup, frame⟩ := State.busOff_done hne hx hst
    refine ⟨_, rfl, cans.lost_st, cans.lost_busoffCnt, int, backup, cans.other_st, cans.spec,
      cans.room, cans.pinned, fun h => ?_, frame⟩
    rw [State.busOff_keeps hne hx hst h, s.wentOff_can, s.wentOff_can_ne hne]
    exact ⟨rfl, rfl, rfl⟩
  case recovery =>
    intro s c o hne hst recent
    refine ⟨fun hlt => congrArg Host.Outcome.next (State.recovered_recover hst hlt), fun hle =>
      ⟨_, congrArg Host.Outcome.next (State.recovered_off hst hle), ?_⟩⟩
    have logFrame := (s.ctrlOff c).logEvent_frame 0x0703 (leBytes 1 c.val ++ leBytes 2 (s.can c).busoffCnt)
    have logged := (s.ctrlOff c).logEvent_logs 0x0703 (leBytes 1 c.val ++ leBytes 2 (s.can c).busoffCnt)
    obtain ⟨frame, cans⟩ := (s.ctrlOffLogged c).moveFrames_moved hne
    have here : (s.ctrlOffLogged c).can c = _ := (State.logEvent_can ..).trans (s.ctrlOff_can c)
    have there : (s.ctrlOffLogged c).can o = _ := (State.logEvent_can ..).trans (s.ctrlOff_can_ne hne)
    have keeps (h : s.grd.bridge = true ∨ (s.can o).st = .busoff ∨ (s.can o).st = .off) :
        (s.ctrlOffLogged c).moveFrames c = s.ctrlOffLogged c := by
      refine State.moveFrames_keeps hne ?_
      rw [there, State.ctrlOffLogged, logFrame]
      exact h
    rw [here, there] at cans
    rw [State.CansOnly] at frame
    refine ⟨cans.lost_st, ?_, cans.other_st, cans.spec, cans.room, fun h => ?_, ?_, ?_⟩
    · rw [frame, State.ctrlOffLogged, logFrame]
      rfl
    · rw [keeps h, there]
    · rw [frame]
      exact logged
    · rw [frame, State.ctrlOffLogged, logFrame]
      rfl
  case alone =>
    exact fun hst hb ho => congrArg Host.Outcome.next (State.holdoffEnd_alone hne hst hb ho)
  case takesOver =>
    intro hst hlost
    refine ⟨_, congrArg Host.Outcome.next (State.holdoffEnd_takesOver hne hst hlost), ?_⟩
    obtain ⟨frame, cans⟩ := (s.active c).moveFrames_moved hne.symm
    have here := s.active_can c
    have there := s.active_can_ne hne
    rw [here, there] at cans
    refine ⟨cans.other_st, cans.lost_st, cans.spec, fun hb hback hpin hnodup hfresh hroom => ?_, fun hb => ?_,
      State.GrdOnly.trans (rfl : State.GrdOnly s (s.active c)) frame.grdOnly⟩
    · have all : State.AllMovable o c (s.active c) := by
        refine ⟨?_, ?_, ?_, ?_, ?_⟩ <;> rw [there]
        · exact hback
        · exact hpin
        · exact hnodup
        · rwa [here]
        · rwa [here]
      have emptied := all.moveFrames hne.symm hb (by rw [here]; rfl)
      rwa [there] at emptied
    · rw [State.moveFrames_keeps (s := s.active c) hne.symm (.inl hb), there]
  case idle => exact fun hst => congrArg Host.Outcome.next (if_neg hst)
  case reen =>
    intro n user hmay
    exact ⟨fun hst => (exec_reen hmay).trans (congrArg Host.Outcome.next (if_pos hst)),
      fun hst => (exec_reen hmay).trans (congrArg Host.Outcome.next (if_neg hst))⟩
  case recoverErrors =>
    exact fun s c rx hx hst => ⟨congrArg Host.Outcome.next (State.busError_recover hx hst true rx),
      congrArg Host.Outcome.next (State.busError_recover hx hst false rx)⟩
  case burst =>
    intro hlt
    obtain ⟨o, hne⟩ := exists_ne c
    have step := (State.busError_transmitter hx hst rx).trans (if_pos hlt)
    generalize hcount : (s.mapCan c fun k => k.counted (satAdd 255 k.txErr 8) k.rxErr) = u at step
    have passive : (u.can c).st = .passive := by
      rw [← hcount, State.mapCan_can_same, Can.counted_passive_iff]
      exact .inl (by rw [satAdd]; omega)
    have off := State.busOff_done (s := u) hne (by rw [← hcount]; exact hx) (.inr passive)
    refine ⟨_, congrArg Host.Outcome.next step, off.cans.lost_st, off.cans.lost_busoffCnt.trans ?_,
      off.int.trans ?_, State.GrdOnly.trans ?_ off.frame⟩
    · rw [← hcount, State.mapCan_can_same]
      rfl
    · rw [← hcount]
      rfl
    · rw [← hcount]
      rfl
  case transmitter =>
    intro hle
    refine ⟨_, congrArg Host.Outcome.next ((State.busError_transmitter hx hst rx).trans (if_neg (Nat.not_lt.mpr hle))), ?_, ?_, ?_,
      fun d hd => State.mapCan_can_ne s hd _, rfl⟩
    · rw [State.mapCan_can_same]; rfl
    · rw [State.mapCan_can_same]; rfl
    · rw [State.mapCan_can_same]
      exact Can.counted_passive_iff ..
  case receiver =>
    refine ⟨_, congrArg Host.Outcome.next (State.busError_receiver hx hst rx), ?_, ?_, ?_, rfl⟩
    · rw [State.mapCan_can_same]; rfl
    · rw [State.mapCan_can_same]; rfl
    · rw [State.mapCan_can_same]
      exact Can.counted_passive_iff ..

end Sys2Proof.Machine
end

section
/-! PROOFS. Standby and its end: what the panel driver, the keys and the gate make of the entry and of a wake (R45, R172, R173, R552,
R628, R636). -/

namespace Sys2Proof.Machine

/-! ### The panel driver (R628, R636) -/

/-- Only the panel driver may have changed, and what a log entry leaves behind; not the Ledger's cells. -/
structure State.PanelFrame (s t : State) : Prop where
  frame : t = { s with wbl := t.wbl, ledger := t.ledger, pnl := t.pnl }
  cells : t.ledger.lines = s.ledger.lines

theorem State.PanelFrame.refl (s : State) : State.PanelFrame s s := ⟨rfl, rfl⟩

theorem State.PanelFrame.trans {s t u : State} (h : State.PanelFrame s t) (h' : State.PanelFrame t u) : State.PanelFrame s u :=
  ⟨by rw [h'.frame, h.frame], h'.cells.trans h.cells⟩

theorem State.PanelFrame.ite {c : Prop} [Decidable c] {s t u : State} (ht : State.PanelFrame s t) (hu : State.PanelFrame s u) :
    State.PanelFrame s (if c then t else u) := by
  split
  · exact ht
  · exact hu

theorem State.mapPnl_panelFrame (s : State) (f : Pnl → Pnl) : State.PanelFrame s (s.mapPnl f) := ⟨rfl, rfl⟩

theorem State.logEvent_panelFrame (s : State) (event : Nat) (body : List Byte) : State.PanelFrame s (s.logEvent event body) :=
  ⟨by rw [State.logEvent_frame], (s.logEvent_quiet event body).cells⟩

theorem State.crackClear_panelFrame (s : State) : State.PanelFrame s s.crackClear :=
  .ite ((s.mapPnl_panelFrame _).trans (State.logEvent_panelFrame ..)) (.refl s)

theorem State.panelCtrl_panelFrame (s : State) (w : Word) : State.PanelFrame s (s.panelCtrl w) := by
  have on (u : State) : State.PanelFrame u u.panelOn := .ite (.refl u) (u.mapPnl_panelFrame _)
  have off (u : State) : State.PanelFrame u u.panelOff := .ite (u.mapPnl_panelFrame _) (.refl u)
  have cleared (u : State) : State.PanelFrame u (if bit w 8 then u.crackClear else u) := .ite u.crackClear_panelFrame (.refl u)
  have synced (u : State) : State.PanelFrame u (if bit w 7 then u.mapPnl Pnl.setResync else u) :=
    .ite (u.mapPnl_panelFrame _) (.refl u)
  exact (((s.mapPnl_panelFrame _).trans (cleared _)).trans (synced _)).trans (.ite (on _) (off _))

theorem State.panelWrite_panelFrame (s : State) (off : Nat) (w : Word) : State.PanelFrame s (s.panelWrite off w) := by
  unfold State.panelWrite
  refine .ite (s.mapPnl_panelFrame _) ?_
  split
  case h_1 => exact s.panelCtrl_panelFrame w
  case h_13 => exact .refl s
  all_goals exact s.mapPnl_panelFrame _

/-- The writes that the stopped clock has held take effect. -/
theorem State.panelClockStart_panelFrame (s : State) : State.PanelFrame s s.panelClockStart := by
  have applied (u : State) (x : Nat × Word) : State.PanelFrame u (u.panelApply x.1 x.2) :=
    .ite (u.panelWrite_panelFrame ..) (u.panelWrite_panelFrame ..)
  exact .ite ((s.mapPnl_panelFrame _).trans (foldl_keeps .refl .trans applied _ _)) (.refl s)

/-- Between Run and Night Hold, the mode and the panel change (Table 05-3). -/
theorem State.changeMode_panelFrame (s : State) (m : Mode) : State.PanelFrame (s.mapPower fun p => p.enter m) (s.changeMode m) :=
  .ite (State.mapPnl_panelFrame ..) (State.panelClockStart_panelFrame _)

/-! ### A Rest cause on the outputs (R45) -/

theorem State.setCauses_outp (s : State) (c : RestCause) (p : Output → Bool) (i : Fin 30) :
    ∃ a k t, (s.setCauses c p).outp i = if p (s.outp i) then { s.outp i with
      inRest := true, causes := (s.outp i).causes ||| c.mask, stale := (s.outp i).stale || decide (c = .key ∨ c = .apart)
      applied := a, carry := k, changedAt := t } else s.outp i := by
  refine foldl_outputs (f := fun s i => if p (s.outp i) then s.setCause i c else s) (I := fun _ => True)
    (R := fun _ o q => ∃ a k t, q = if p o then { o with
      inRest := true, causes := o.causes ||| c.mask, stale := o.stale || decide (c = .key ∨ c = .apart)
      applied := a, carry := k, changedAt := t } else o) (fun s i j hj => ?_) (fun _ _ => id) (fun s i _ => ?_) trivial i
  · split
    · exact s.setCause_outp_ne hj c
    · rfl
  · split
    · exact s.setCause_outp i c
    · exact ⟨0, 0, none, rfl⟩

theorem State.clearCauses_outp (s : State) (c : RestCause) (p : Output → Bool) (i : Fin 30) :
    (s.clearCauses c p).outp i = if p (s.outp i) then (s.outp i).cleared c else s.outp i := by
  refine foldl_outputs (f := fun s i => if p (s.outp i) then s.clearCause i c else s) (I := fun _ => True)
    (R := fun _ o q => q = if p o then o.cleared c else o) (fun s i j hj => ?_) (fun _ _ => id) (fun s i _ => ?_) trivial i
  · split
    · exact s.mapOutp_outp_ne hj _
    · rfl
  · split
    · exact s.mapOutp_outp_same i (Output.cleared c)
    · rfl

theorem State.clearCauses_frame (s : State) (c : RestCause) (p : Output → Bool) :
    s.clearCauses c p = { s with gate := (s.clearCauses c p).gate } := by
  refine foldl_keeps (R := fun s t : State => t = { s with gate := t.gate }) (fun _ => rfl) (fun h h' => by rw [h', h])
    (fun s i => ?_) _ s
  split <;> rfl

/-! ### Hosted keys (R552) -/

/-- A device that holds no key loses none when the keys that it hosts are freed: their holders are told. -/
structure State.HostedFreed (s t : State) : Prop where
  frame : t = { s with grd := t.grd, keys := t.keys }
  held : t.keys.held = s.keys.held

theorem State.HostedFreed.trans {s t u : State} (h : State.HostedFreed s t) (h' : State.HostedFreed t u) : State.HostedFreed s u :=
  ⟨by rw [h'.frame, h.frame], h'.held.trans h.held⟩

theorem State.sendExpired_freed {s : State} (hheld : s.keys.held = []) (holder k epoch cause : Nat) :
    State.HostedFreed s (s.sendExpired holder k epoch cause) := by
  unfold State.sendExpired
  split
  · rw [State.holderExpired, hheld]
    exact ⟨rfl, rfl⟩
  · have sent : State.GrdOnly s (s.sendKey holder 9 k epoch 0 cause 0) := s.sendOn_grdOnly ..
    rw [State.GrdOnly] at sent
    constructor <;> rw [sent]

theorem State.freeAllHosted_freed {s : State} (hheld : s.keys.held = []) (cause : Nat) :
    State.HostedFreed s (s.freeAllHosted cause) := by
  refine foldl_keeps (R := fun s t : State => s.keys.held = [] → State.HostedFreed s t) (fun _ _ => ⟨rfl, rfl⟩)
    (fun h h' he => (h he).trans (h' ((h he).held.trans he))) (fun s x he => ?_) _ s hheld
  have freed : State.HostedFreed s (s.freeKey x.key) := ⟨rfl, rfl⟩
  exact freed.trans (State.sendExpired_freed (freed.held.trans he) ..)

/-! ### The entry to Standby (R172) -/

/-- The device has entered Standby: every output is in Rest with cause MODE, and Lodgers and memories are as they were. -/
structure State.EntersStandby (s t : State) : Prop where
  outputs : ∀ i, (t.outp i).inRest = true ∧ (t.outp i).causes.getLsbD 4 = true
  power : t.power = { s.power.enter .standby with pllLock := 0 }
  lodgers : t.lodgers = s.lodgers
  sram : t.sram = s.sram
  ledger : t.ledger = s.ledger

/-- The device on its way to Standby when its outputs go to Rest: the panel is dark, hosted keys are freed, and what senses and
drives has stopped. -/
def State.standbyBegun (s : State) : State :=
  (((s.mapPnl fun p => { p with thrSeen := s.panelThr }.downToEnd).freeAllHosted 3).snsStandby).mapFans fun f => f.map Fan.blank

/-- The steps after the outputs' Rest. -/
def State.standbyEnded (s : State) : State :=
  (((s.carderMode true).outStandby.mapGrd Grd.halt).mapPower fun p => p.enter .standby).stopClocks

theorem State.enterStandby_eq (s : State) :
    s.enterStandby = (s.standbyBegun.setCauses .mode fun _ => true).standbyEnded := rfl

theorem State.standbyBegun_frame {s : State} (hheld : s.keys.held = []) : s.standbyBegun =
    { s with grd := s.standbyBegun.grd, keys := s.standbyBegun.keys, sns := s.standbyBegun.sns, fans := s.standbyBegun.fans,
             pnl := s.standbyBegun.pnl } := by
  have freed := (State.freeAllHosted_freed (s := s.mapPnl fun p => { p with thrSeen := s.panelThr }.downToEnd) hheld 3).frame
  rw [State.standbyBegun, freed]
  rfl

theorem State.standbyEnded_enters (s : State) (h : ∀ i, (s.outp i).inRest = true ∧ (s.outp i).causes.getLsbD 4 = true) :
    State.EntersStandby s s.standbyEnded := by
  have gate : s.standbyEnded.gate = s.gate := by simp [State.standbyEnded]
  have outputs (i : Fin 30) : s.standbyEnded.outp i = s.outp i := State.outp_congr gate i
  refine ⟨fun i => by rw [outputs]; exact h i, ?_, ?_, ?_, ?_⟩ <;>
    simp [State.standbyEnded, State.stopClocks, State.outStandby, State.carderMode, State.mapChans]

theorem State.enterStandby_enters {s : State} (hheld : s.keys.held = []) : State.EntersStandby s s.enterStandby := by
  have begun := State.standbyBegun_frame hheld
  have rested := s.standbyBegun.setCauses_frame .mode fun _ => true
  have outputs := s.standbyBegun.setCauses_outp .mode fun _ => true
  rw [State.enterStandby_eq]
  generalize s.standbyBegun.setCauses .mode (fun _ => true) = u at rested outputs ⊢
  generalize s.standbyBegun = v at begun rested outputs
  rw [State.CauseFrame] at rested
  obtain ⟨rest, power, lodgers, sram, ledger⟩ := u.standbyEnded_enters fun i => by
    obtain ⟨a, k, t, h⟩ := outputs i
    rw [h]
    simp [RestCause.mask]
  exact ⟨rest, power.trans (by rw [rested, begun]), lodgers.trans (by rw [rested, begun]), sram.trans (by rw [rested, begun]),
    ledger.trans (by rw [rested, begun])⟩

/-! ### A wake from Standby (R173) -/

/-- The woken device before its outputs, the Lodgers, the group and the panel are looked at: the clocks and the blocks run. -/
def State.wokenBlocks (s : State) (src : Nat) : State :=
  let t := s.mapPower fun p => { p.enter p.wakeMode with pllLock := 7, wakeSrc := BitVec.ofNat 16 (2 ^ src) }
  ((t.mapGrd Grd.resume).loopsWake.outWake.uartsWake.snsWake).carderMode false

/-- Cause MODE ends, and each running Lodger has its wake interrupt. -/
def State.modeEnded (s : State) : State :=
  (s.clearCauses .mode fun _ => true).mapLodgers fun l => l.map fun x => { x with wakeIrq := x.wakeIrq || decide (x.run = .running) }

/-- A started device joins its group anew. -/
def State.rejoin (s : State) : State := if s.grd.started then s.enterJoining else s

theorem State.wake_eq (s : State) (src : Nat) :
    s.wake src = (s.wokenBlocks src).modeEnded.rejoin.throttleResume.panelClockStart := rfl

theorem State.wokenBlocks_keeps (s : State) (src : Nat) :
    (s.wokenBlocks src).power = { s.power.enter s.power.wakeMode with pllLock := 7, wakeSrc := BitVec.ofNat 16 (2 ^ src) } ∧
      (s.wokenBlocks src).lodgers = s.lodgers ∧ (s.wokenBlocks src).sram = s.sram := by
  simp [State.wokenBlocks, State.loopsWake, State.outWake, State.uartsWake, State.snsWake, State.carderMode, State.mapChans]

theorem State.modeEnded_frame (s : State) : s.modeEnded = { s with gate := s.modeEnded.gate, lodgers := s.modeEnded.lodgers } := by
  rw [State.modeEnded, State.clearCauses_frame]
  rfl

theorem State.modeEnded_causes (s : State) (i : Fin 30) : (s.modeEnded.outp i).causes.getLsbD 4 = false := by
  have gate : s.modeEnded.gate = (s.clearCauses .mode fun _ => true).gate := State.mapLodgers_gate ..
  rw [State.outp_congr gate, State.clearCauses_outp]
  simp [Output.cleared, RestCause.mask]

theorem State.modeEnded_lodger (s : State) (n : Fin 4) :
    s.modeEnded.lodger n = { s.lodger n with wakeIrq := (s.lodger n).wakeIrq || decide ((s.lodger n).run = .running) } := by
  rw [State.lodger, State.modeEnded, State.clearCauses_frame, State.mapLodgers_lodgers, vget_map]
  rfl

/-- JOINING, before the outputs of keys are looked at. -/
def State.joiningBegun (s : State) : State :=
  (s.mapGrp fun g => { g with
    st := .joining, cause := 0, onTime := false, goodAt := none, sync := none, master := none, source := none }).grpInt 0

/-- What JOINING changes. -/
def State.JoinFrame (s t : State) : Prop := t = { s with gate := t.gate, fans := t.fans, out := t.out, wbl := t.wbl, grp := t.grp }

theorem State.enterJoining_frame (s : State) : State.JoinFrame s s.enterJoining := by
  have joining : s.enterJoining = s.joiningBegun.setCauses .apart ownedByKey := rfl
  have begun : s.joiningBegun = { s with grp := s.joiningBegun.grp } := rfl
  have frame := s.joiningBegun.setCauses_frame .apart ownedByKey
  rw [State.CauseFrame, ← joining] at frame
  rw [State.JoinFrame, frame, begun]

/-- JOINING puts outputs in Rest with cause APART, which is not MODE. -/
theorem State.enterJoining_mode (s : State) (i : Fin 30) :
    (s.enterJoining.outp i).causes.getLsbD 4 = (s.outp i).causes.getLsbD 4 := by
  obtain ⟨a, k, t, h⟩ := s.joiningBegun.setCauses_outp .apart ownedByKey i
  have begun : s.joiningBegun.outp i = s.outp i := rfl
  have joining : s.enterJoining.outp i = _ := h
  rw [joining, begun]
  split
  · simp [RestCause.mask]
  · rfl

theorem State.rejoin_frame (s : State) : State.JoinFrame s s.rejoin := by
  unfold State.rejoin
  split
  · exact s.enterJoining_frame
  · rfl

theorem State.rejoin_mode (s : State) (i : Fin 30) : (s.rejoin.outp i).causes.getLsbD 4 = (s.outp i).causes.getLsbD 4 := by
  unfold State.rejoin
  split
  · exact s.enterJoining_mode i
  · rfl

/-- What follows the Lodgers' wake leaves the power state, the Lodgers and main SRAM alone, and cause MODE on every output. -/
theorem State.resumed_keeps (s : State) :
    let t := s.rejoin.throttleResume.panelClockStart
    t.power = s.power ∧ t.lodgers = s.lodgers ∧ t.sram = s.sram ∧
      ∀ i, (t.outp i).causes.getLsbD 4 = (s.outp i).causes.getLsbD 4 := by
  have joined := s.rejoin_frame
  have bits := s.rejoin_mode
  generalize s.rejoin = u at joined bits ⊢
  have throttle : u.throttleResume = { u with thm := u.throttleResume.thm } := by rw [State.throttleResume_eq]
  have panel := u.throttleResume.panelClockStart_panelFrame.frame
  generalize u.throttleResume = v at throttle panel ⊢
  generalize v.panelClockStart = t at panel ⊢
  rw [State.JoinFrame] at joined
  refine ⟨?_, ?_, ?_, fun i => ?_⟩
  · rw [panel, throttle, joined]
  · rw [panel, throttle, joined]
  · rw [panel, throttle, joined]
  · have gate : t.gate = u.gate := by rw [panel, throttle]
    rw [State.outp_congr gate, bits]

/-- The device has woken: its power state in full, no output with cause MODE, and the running Lodgers interrupted. -/
structure State.Wakes (src : Nat) (s t : State) : Prop where
  power : t.power = { s.power.enter s.power.wakeMode with pllLock := 7, wakeSrc := BitVec.ofNat 16 (2 ^ src) }
  causes : ∀ i, (t.outp i).causes.getLsbD 4 = false
  lodgers : ∀ n, (s.lodger n).run = .running → (t.lodger n).wakeIrq = true
  sram : t.sram = s.sram

theorem State.wake_wakes (s : State) (src : Nat) : State.Wakes src s (s.wake src) := by
  obtain ⟨power, lodgers, sram⟩ := s.wokenBlocks_keeps src
  obtain ⟨power', lodgers', sram', causes⟩ := (s.wokenBlocks src).modeEnded.resumed_keeps
  rw [State.wake_eq]
  generalize (s.wokenBlocks src).modeEnded.rejoin.throttleResume.panelClockStart = t at power' lodgers' sram' causes ⊢
  refine ⟨?_, fun i => (causes i).trans (State.modeEnded_causes _ i), fun n hn => ?_, ?_⟩
  · rw [power', State.modeEnded_frame, power]
  · have running : ((s.wokenBlocks src).lodger n).run = .running := by rwa [State.lodger, lodgers]
    rw [State.lodger, lodgers', ← State.lodger, State.modeEnded_lodger]
    simp [running]
  · rw [sram', State.modeEnded_frame, sram]

end Sys2Proof.Machine
end

section
/-! PROOFS. Power modes, the wakes from Standby and the real-time clock: the statement (R169, R171 to R173, R176, R177, R184, R185). -/

namespace Sys2Proof.Machine

/-! ### What refuses Standby (R171) -/

theorem deny_zero_iff {p q r u : Prop} [Decidable p] [Decidable q] [Decidable r] [Decidable u] :
    (if p then 0 else 1) ||| (if q then 0 else 2) ||| (if r then 4 else 0) ||| (if u then 8 else 0) = (0 : BitVec 4) ↔
      p ∧ q ∧ ¬ r ∧ ¬ u := by
  simp [BitVec.or_eq_zero_iff, and_assoc]

/-- A Rest value above 0 on an output of a fan. -/
def State.fanRests (s : State) : Bool :=
  [24, 25, 26, 27, 28, 29].any fun i => match idx? 30 i with
    | some o => decide (0 < (s.outp o).rest)
    | none => false

theorem State.fanRests_iff (s : State) : s.fanRests = true ↔ ∃ c : Fin 6, (s.outp (fanOut c)).rest ≠ 0 := by
  simp [State.fanRests, idx?, fanOut, Fin.exists_fin_succ, Nat.pos_iff_ne_zero]

theorem State.standbyDeny_eq (s : State) : s.standbyDeny =
    (if s.keys.held = [] then 0 else 1) ||| (if s.wbl.openCount = 0 then 0 else 2) ||| (if s.svc.st = .open_ then 4 else 0) |||
      (if s.fanRests then 8 else 0) := by
  unfold State.standbyDeny
  simp only [Nat.cast_ite]
  rfl

theorem State.standbyDeny_zero_iff (s : State) : s.standbyDeny = 0 ↔ s.keys.held = [] ∧ s.wbl.openCount = 0 ∧ s.svc.st ≠ .open_ ∧
    ∀ c : Fin 6, (s.outp (fanOut c)).rest = 0 := by
  rw [State.standbyDeny_eq, deny_zero_iff, State.fanRests_iff]
  simp

/-! ### MODE_REQUEST (R169, R171) -/

section request
variable {s : State} {n : Fin 4} {m : Mode}

theorem State.serveMode_unknown (h : Mode.ofCode (s.mbxArg n 0) = none) : s.serveMode n none = s.mbxDone n 2 := by
  rw [State.serveMode, h]

theorem State.serveMode_inForce (h : Mode.ofCode (s.mbxArg n 0) = some s.power.mode) : s.serveMode n none = s.mbxDone n 0 := by
  rw [State.serveMode, h]
  exact if_pos rfl

theorem State.serveMode_change (h : Mode.ofCode (s.mbxArg n 0) = some m) (hne : m ≠ s.power.mode) (hm : m ≠ .standby) :
    s.serveMode n none = (s.changeMode m).mbxDone n 0 := by
  rw [State.serveMode, h]
  exact (if_neg hne).trans (if_neg hm)

/-- DENY shows what refuses Standby. -/
def State.standbyDenied (s : State) : State := s.mapPower fun p => { p with deny := s.standbyDeny }

theorem State.serveMode_denied (h : Mode.ofCode (s.mbxArg n 0) = some .standby) (hne : s.power.mode ≠ .standby)
    (hdeny : s.standbyDeny ≠ 0) : s.serveMode n none = s.standbyDenied.mbxDone n 3 := by
  rw [State.serveMode, h]
  exact (if_neg hne.symm).trans ((if_pos rfl).trans (if_neg hdeny))

theorem State.serveMode_standby (h : Mode.ofCode (s.mbxArg n 0) = some .standby) (hne : s.power.mode ≠ .standby)
    (hdeny : s.standbyDeny = 0) : s.serveMode n none = (s.mbxDone n 0).enterStandby := by
  rw [State.serveMode, h]
  exact (if_neg hne.symm).trans ((if_pos rfl).trans (if_pos hdeny))

end request

theorem Mode.ofCode_standby_iff {k : Nat} : Mode.ofCode k = some .standby ↔ k = 3 := by
  unfold Mode.ofCode
  split <;> simp_all

/-- A request completes with a result, and neither main SRAM nor a cell of the Ledger changes. -/
structure State.ModeServed (s : State) (n : Fin 4) (seq : Byte) (result : Nat) (t : State) : Prop where
  served : t.served n seq result
  sram : t.sram = s.sram
  cells : t.ledger.lines = s.ledger.lines

theorem State.OnlyServed.modeServed {s t : State} {n : Fin 4} {seq : Byte} {result : Nat} (h : s.OnlyServed n seq result t) :
    s.ModeServed n seq result t := by
  obtain ⟨served, -, frame⟩ := h
  exact ⟨served, by rw [frame], by rw [frame]⟩

/-- MODE_REQUEST as the Innkeeper has taken it, and the device that has answered it. -/
def State.modeTaken (s : State) (n : Fin 4) (seq : Byte) (mode : Nat) : State := s.taken n seq.toNat 0x07 [mode]

def State.modeAnswered (s : State) (n : Fin 4) (seq : Byte) (mode : Nat) : State := (s.modeTaken n seq mode).serveMode n none

section ready
variable {s : State} {n : Fin 4} {user : Bool} (h : s.ready n user) (seq : Byte) {mode : Nat}
include h

theorem exec_modeRequest : exec (.modeRequest n user seq mode none) s = .next (s.modeAnswered n seq mode) :=
  congrArg Host.Outcome.next (State.mbxCommand_ready h ..)

theorem State.modeTaken_frame : s.modeTaken n seq mode = { s with
    bus := (s.modeTaken n seq mode).bus, ink := (s.modeTaken n seq mode).ink, lodgers := (s.modeTaken n seq mode).lodgers } := by
  rw [State.modeTaken, State.taken_eq h]

theorem State.modeTaken_power : (s.modeTaken n seq mode).power = s.power := by rw [State.modeTaken_frame h]

theorem State.modeTaken_standbyDeny : (s.modeTaken n seq mode).standbyDeny = s.standbyDeny := by
  rw [State.modeTaken_frame h]
  rfl

theorem State.modeTaken_mbxArg (hlt : mode < 2 ^ 32) : (s.modeTaken n seq mode).mbxArg n 0 = mode :=
  State.taken_mbxArg h _ _ rfl hlt

/-- What is done before the request's completion leaves the Lodgers and the memories alone. -/
theorem State.modeTaken_served {t : State} (hlodgers : t.lodgers = (s.modeTaken n seq mode).lodgers) (hsram : t.sram = s.sram)
    (hcells : t.ledger.lines = s.ledger.lines) (result : Nat) : s.ModeServed n seq result (t.mbxDone n result) :=
  ⟨(State.taken_served h hlodgers result).1, hsram, hcells⟩

variable (hlt : mode < 2 ^ 32)
include hlt

theorem State.modeAnswered_unknown (hm : Mode.ofCode mode = none) : s.OnlyServed n seq 2 (s.modeAnswered n seq mode) := by
  rw [State.modeAnswered, State.serveMode_unknown (by rw [State.modeTaken_mbxArg h seq hlt, hm])]
  exact State.taken_done h seq _ _ 2

theorem State.modeAnswered_inForce (hm : Mode.ofCode mode = some s.power.mode) :
    s.OnlyServed n seq 0 (s.modeAnswered n seq mode) := by
  rw [State.modeAnswered,
    State.serveMode_inForce (by rw [State.modeTaken_mbxArg h seq hlt, State.modeTaken_power h, hm])]
  exact State.taken_done h seq _ _ 0

/-- R169: another mode than Standby is entered. -/
theorem State.modeAnswered_change {m : Mode} (hm : Mode.ofCode mode = some m) (hne : m ≠ s.power.mode) (hstandby : m ≠ .standby) :
    s.ModeServed n seq 0 (s.modeAnswered n seq mode) ∧ (s.modeAnswered n seq mode).power = s.power.enter m ∧
      (s.modeAnswered n seq mode).gate = s.gate ∧ (s.modeAnswered n seq mode).keys = s.keys := by
  have taken := State.modeTaken_frame h seq (mode := mode)
  obtain ⟨frame, cells⟩ := (s.modeTaken n seq mode).changeMode_panelFrame m
  rw [State.modeAnswered, State.serveMode_change (by rw [State.modeTaken_mbxArg h seq hlt, hm])
    (by rwa [State.modeTaken_power h]) hstandby]
  generalize (s.modeTaken n seq mode).changeMode m = u at frame cells ⊢
  have power : u.power = s.power.enter m := by rw [frame, taken]; rfl
  have gate : u.gate = s.gate := by rw [frame, taken]; rfl
  have keys : u.keys = s.keys := by rw [frame, taken]; rfl
  refine ⟨State.modeTaken_served h seq (mode := mode) ?_ ?_ ?_ 0, power, gate, keys⟩
  · rw [frame]; rfl
  · rw [frame, taken]; rfl
  · rw [cells, taken]; rfl

/-- R171: Standby is denied, and DENY says why. -/
theorem State.modeAnswered_denied (hm : mode = 3) (hne : s.power.mode ≠ .standby) (hdeny : s.standbyDeny ≠ 0) :
    s.ModeServed n seq 3 (s.modeAnswered n seq mode) ∧
      (s.modeAnswered n seq mode).power = { s.power with deny := s.standbyDeny } ∧ (s.modeAnswered n seq mode).gate = s.gate := by
  have taken := State.modeTaken_frame h seq (mode := mode)
  rw [State.modeAnswered, State.serveMode_denied (by rw [State.modeTaken_mbxArg h seq hlt, hm, Mode.ofCode])
    (by rwa [State.modeTaken_power h]) (by rwa [State.modeTaken_standbyDeny h])]
  have power : (s.modeTaken n seq mode).standbyDenied.power = { s.power with deny := s.standbyDeny } := by
    rw [State.standbyDenied, State.modeTaken_standbyDeny h, State.mapPower_power, State.modeTaken_power h]
  refine ⟨State.modeTaken_served h seq (t := (s.modeTaken n seq mode).standbyDenied) rfl ?_ ?_ 3, power, ?_⟩
  all_goals
    rw [taken]
    rfl

/-- R172: Standby is entered, and the request completes with it. -/
theorem State.modeAnswered_standby (hm : mode = 3) (hne : s.power.mode ≠ .standby) (hdeny : s.standbyDeny = 0) :
    s.ModeServed n seq 0 (s.modeAnswered n seq mode) ∧
      State.EntersStandby ((s.modeTaken n seq mode).mbxDone n 0) (s.modeAnswered n seq mode) := by
  have taken := State.modeTaken_frame h seq (mode := mode)
  have held : ((s.modeTaken n seq mode).mbxDone n 0).keys.held = [] := by
    have keys : ((s.modeTaken n seq mode).mbxDone n 0).keys = s.keys := by rw [taken]; rfl
    rw [keys]
    exact (s.standbyDeny_zero_iff.mp hdeny).1
  have enters := State.enterStandby_enters held
  obtain ⟨served, sram, cells⟩ := (State.taken_done h seq 0x07 [mode] 0).modeServed
  rw [State.modeAnswered, State.serveMode_standby (by rw [State.modeTaken_mbxArg h seq hlt, hm, Mode.ofCode])
    (by rwa [State.modeTaken_power h]) (by rwa [State.modeTaken_standbyDeny h])]
  refine ⟨⟨?_, enters.sram.trans sram, (congrArg Ledger.lines enters.ledger).trans cells⟩, enters⟩
  rw [State.served, State.mbx_congr enters.lodgers]
  exact served

/-- Whatever the mode asked for, the request completes, and main SRAM and the Ledger's cells stay. -/
theorem State.modeAnswered_served : ∃ result, s.ModeServed n seq result (s.modeAnswered n seq mode) := by
  cases hm : Mode.ofCode mode with
  | none => exact ⟨2, (State.modeAnswered_unknown h seq hlt hm).modeServed⟩
  | some m =>
    by_cases hsame : m = s.power.mode
    · exact ⟨0, (State.modeAnswered_inForce h seq hlt (hsame ▸ hm)).modeServed⟩
    by_cases hstandby : m = .standby
    · subst hstandby
      have code := Mode.ofCode_standby_iff.mp hm
      by_cases hdeny : s.standbyDeny = 0
      · exact ⟨0, (State.modeAnswered_standby h seq hlt code (Ne.symm hsame) hdeny).1⟩
      · exact ⟨3, (State.modeAnswered_denied h seq hlt code (Ne.symm hsame) hdeny).1⟩
    · exact ⟨0, (State.modeAnswered_change h seq hlt hm hsame hstandby).1⟩

end ready

/-! ### The real-time clock and its alarm (R184, R185) -/

/-- The alarm is armed, and the RTC has reached its time. -/
def Power.alarmDue (p : Power) : Prop := p.alarmArmed = true ∧ p.alarm ≠ 0 ∧ p.alarm ≤ p.rtc

theorem Power.alarmDue_iff {p : Power} : (p.alarmArmed && decide (p.alarm ≠ 0 ∧ p.alarm ≤ p.rtc)) = true ↔ p.alarmDue := by
  simp [Power.alarmDue]

theorem State.rtcAlarm_idle {s : State} (h : ¬ s.power.alarmDue) : s.rtcAlarm = s := if_neg (mt Power.alarmDue_iff.mp h)

theorem State.not_asleep_of_awake {s : State} (h : s.awake = true) : s.asleep = false := by
  simp only [State.awake, Bool.and_eq_true, decide_eq_true_eq] at h
  simp [State.asleep, h.2]

theorem State.live_of_awake {s : State} (h : s.awake = true) : s.live = true := ((Bool.and_eq_true _ _).mp h).1

theorem State.phase_of_live {s : State} (h : s.live = true) : s.power.phase ≠ .off ∧ s.inkAlive = true := by
  rcases of_decide_eq_true h with hphase | hphase <;> simp [State.inkAlive, hphase]

/-- The device with its alarm spent. -/
def State.alarmSpent (s : State) : State := s.mapPower fun p => { p with alarmArmed := false }

/-- In Run and Night Hold the alarm sets RTC_FLAG. -/
theorem State.rtcAlarm_awake {s : State} (hdue : s.power.alarmDue) (hawake : s.awake = true) :
    s.rtcAlarm = s.alarmSpent.mapInk fun k => { k with rtcFlag := true } := by
  have up : s.alarmSpent.asleep = false := State.not_asleep_of_awake hawake
  obtain ⟨phase, alive⟩ := State.phase_of_live (State.live_of_awake hawake)
  have runs : s.alarmSpent.inkAlive = true := alive
  refine (if_pos (Power.alarmDue_iff.mpr hdue)).trans ?_
  exact (if_neg (Bool.eq_false_iff.mp up)).trans ((if_neg phase).trans (if_pos runs))

/-- Fired or not, the alarm of a waking device changes nothing else. -/
theorem State.rtcAlarm_awake_frame {s : State} (h : s.awake = true) : s.rtcAlarm =
    { s with power := { s.power with alarmArmed := s.rtcAlarm.power.alarmArmed }, ink := s.rtcAlarm.ink } := by
  by_cases hdue : s.power.alarmDue
  · rw [State.rtcAlarm_awake hdue h]
    rfl
  · rw [State.rtcAlarm_idle hdue]

/-- In Standby it wakes the device, where it may. -/
theorem State.rtcAlarm_asleep {s : State} (hdue : s.power.alarmDue) (hasleep : s.asleep = true) (hon : s.power.wakeOn 0 = true) :
    s.rtcAlarm = s.alarmSpent.wake 0 := by
  have down : s.alarmSpent.asleep = true := hasleep
  have on : s.alarmSpent.power.wakeOn 0 = true := hon
  refine (if_pos (Power.alarmDue_iff.mpr hdue)).trans ((if_pos down).trans ?_)
  exact if_pos ((Bool.and_eq_true _ _).mpr ⟨down, on⟩)

/-- A second of a fan channel in RUN is counted (R351). -/
def Fan.second (f : Fan) : Fan := if f.st = .run then { f with runs := satInc 0xFFFFFFFF f.runs } else f

theorem Fan.second_eq (f : Fan) : f.second = { f with runs := if f.st = .run then satInc 0xFFFFFFFF f.runs else f.runs } := by
  unfold Fan.second
  split <;> rfl

/-- The RTC and what counts its seconds, before the alarm is looked at. -/
def State.secondCounted (s : State) : State :=
  let t := (s.mapPower fun p => { p with rtc := satInc 0xFFFFFFFF p.rtc, rtcAt := s.now }).mapFans fun fs => fs.map Fan.second
  if t.pnl.lit && decide (0 < t.blApplied) then t.mapWear fun w => { w with blSeconds := satInc 0xFFFFFFFF w.blSeconds } else t

theorem State.rtcSecond_awake {s : State} (h : s.awake = true) : s.rtcSecond = s.secondCounted.rtcAlarm := by
  have awake : (s.mapPower fun p => { p with rtc := satInc 0xFFFFFFFF p.rtc, rtcAt := s.now }).awake = true := h
  exact congrArg State.rtcAlarm (if_pos awake)

theorem State.secondCounted_frame (s : State) : s.secondCounted = { s with
    power := { s.power with rtc := satInc 0xFFFFFFFF s.power.rtc, rtcAt := s.now }
    fans := s.fans.map Fan.second, wear := s.secondCounted.wear } := by
  unfold State.secondCounted
  dsimp only
  split <;> rfl

/-! ### CAN frames that wake (R177) -/

theorem exec_canWakeFrame {s : State} {c : Fin 2} {id : Nat} (hasleep : s.asleep = true) (hfilter : s.power.filterMatch id = true)
    (hon : s.power.wakeOn (2 + c.val) = true) : exec (.canWakeFrame c (some id)) s = .next (s.wake (2 + c.val)) :=
  congrArg Host.Outcome.next ((if_pos hfilter).trans (if_pos ((Bool.and_eq_true _ _).mpr ⟨hasleep, hon⟩)))

/-! ### The statement -/

/-- Settles O12: each answer to MODE_REQUEST is one of the equations of `serveMode`, and what Standby and a wake leave is
`EntersStandby` and `Wakes`; the alarm is `rtcAlarm` by the state of the device. -/
theorem modesAndRtc : Obligations.ModesAndRtc := by
  unfold Obligations.ModesAndRtc
  refine ⟨?request, State.standbyDeny_zero_iff, ?wake, fun s c => rfl, ?second, ?alarm, ?write⟩
  case request =>
    intro s n user seq mode hready hlt
    obtain ⟨result, ⟨busy, done, -⟩, sram, cells⟩ := State.modeAnswered_served hready seq hlt
    refine ⟨_, exec_modeRequest hready seq, sram, cells, busy, done, State.modeAnswered_unknown hready seq hlt, fun hm => ?_,
      fun m hm hne hstandby => ?_, fun hm hne hdeny => ?_, fun hm hne hdeny => ?_⟩
    · obtain ⟨served, -, frame⟩ := State.modeAnswered_inForce hready seq hlt hm
      exact ⟨served, by rw [frame], by rw [frame]⟩
    · obtain ⟨⟨served, -⟩, power, gate, keys⟩ := State.modeAnswered_change hready seq hlt hm hne hstandby
      exact ⟨served, congrArg Power.mode power, congrArg Power.prev power, gate, keys⟩
    · obtain ⟨⟨served, -⟩, power, gate⟩ := State.modeAnswered_denied hready seq hlt hm hne hdeny
      exact ⟨served, power, gate⟩
    · obtain ⟨⟨served, -⟩, enters⟩ := State.modeAnswered_standby hready seq hlt hm hne hdeny
      exact ⟨served, congrArg Power.mode enters.power, congrArg Power.pllLock enters.power, enters.outputs⟩
  case wake =>
    intro s c id hasleep hfilter hon
    obtain ⟨power, causes, lodgers, sram⟩ := s.wake_wakes (2 + c.val)
    exact ⟨_, exec_canWakeFrame hasleep hfilter hon, congrArg Power.mode power, congrArg Power.wakeSrc power, causes, lodgers, sram⟩
  case second =>
    intro s hawake
    have counted := s.secondCounted_frame
    have awake : s.secondCounted.awake = true := by
      rw [counted]
      exact hawake
    have alarm := State.rtcAlarm_awake_frame awake
    have due : s.secondCounted.power.alarmDue ↔
        s.power.alarmArmed = true ∧ s.power.alarm ≠ 0 ∧ s.power.alarm ≤ s.secondCounted.rtcAlarm.power.rtc := by
      rw [alarm, counted]
      rfl
    refine ⟨_, congrArg Host.Outcome.next (State.rtcSecond_awake hawake), ?_, ?_, ?_, ?_, fun c => ?_, fun harmed hset hreached => ?_,
      fun h => ?_⟩
    · rw [alarm, counted]
    · rw [alarm, counted]
    · rw [alarm, counted]
    · rw [alarm, counted]
    · have fans : s.secondCounted.rtcAlarm.fans = s.fans.map Fan.second := by rw [alarm, counted]
      rw [State.fan, fans, vget_map]
      exact Fan.second_eq _
    · rw [State.rtcAlarm_awake (due.mpr ⟨harmed, hset, hreached⟩) awake]
      exact ⟨rfl, rfl⟩
    · have idle : ¬ s.secondCounted.power.alarmDue := by
        rw [due]
        rintro ⟨harmed, hset, hreached⟩
        exact absurd hreached (by simpa [harmed, hset] using h)
      rw [State.rtcAlarm_idle idle, counted]
  case alarm =>
    intro s harmed hset hreached
    refine ⟨fun hawake => congrArg Host.Outcome.next (State.rtcAlarm_awake ⟨harmed, hset, hreached⟩ hawake), fun hasleep hon =>
      ⟨_, congrArg Host.Outcome.next (State.rtcAlarm_asleep ⟨harmed, hset, hreached⟩ hasleep hon), ?_⟩⟩
    obtain ⟨power, -⟩ := s.alarmSpent.wake_wakes 0
    exact ⟨congrArg Power.mode power, congrArg Power.wakeSrc power, congrArg Power.alarmArmed power⟩
  case write =>
    intro s n user w hmay
    exact congrArg Host.Outcome.next (State.access_lodger hmay _)

end Sys2Proof.Machine
end

section
/-! PROOFS. Sensor faults and what stands in for the reading, thermal shutdown, its halt, and the latch's end (R201, R218, R219, R221 to
R227, R229, R501). -/

namespace Sys2Proof.Machine

/-! ### A sensor fault (R226, R227) -/

/-- THM_STAT's kind of a fault, and whether it stands already. -/
def SensorFault.code : SensorFault → Nat
  | .range => 1
  | .selftest => 2
  | .neighbour => 3

def SensorFault.stands (k : SensorFault) (t : Thm) : Bool :=
  match k with
  | .range => t.range
  | .selftest => t.selftest
  | .neighbour => t.neighbour

/-- The thermal block once a new fault has been noted: it stands, is the latest one, is counted, and THM_INT.SENS is set. -/
def Thm.faulted (t : Thm) (k : SensorFault) : Thm :=
  { t with
    range := t.range || decide (k = .range), selftest := t.selftest || decide (k = .selftest)
    neighbour := t.neighbour || decide (k = .neighbour)
    faultKind := k.code, faultCnt := satInc 0xFF t.faultCnt, int := t.int ||| 8 }

theorem State.sensorFault_eq (s : State) (k : SensorFault) : s.sensorFault k =
    if k.stands s.thm then s else (s.mapThm fun t => t.faulted k).logEvent 0x0203 (s.tjBytes ++ leBytes 1 k.code) := by
  cases k <;> rfl

theorem State.sensorFault_stands {s : State} {k : SensorFault} (h : k.stands s.thm = true) : s.sensorFault k = s := by
  rw [State.sensorFault_eq, if_pos h]

theorem State.sensorFault_new {s : State} {k : SensorFault} (h : k.stands s.thm = false) :
    s.sensorFault k = (s.mapThm fun t => t.faulted k).logEvent 0x0203 (s.tjBytes ++ leBytes 1 k.code) := by
  rw [State.sensorFault_eq, if_neg (by simp [h])]

/-- R227: only a fault that does not stand yet is noted. -/
def Thm.noted (t : Thm) (k : SensorFault) : Thm := if k.stands t then t else t.faulted k

theorem State.sensorFault_thm (s : State) (k : SensorFault) : (s.sensorFault k).thm = s.thm.noted k := by
  rw [State.sensorFault_eq, Thm.noted]
  split
  · rfl
  · rw [State.logEvent_thm, State.mapThm_thm]

theorem Thm.noted_new {t : Thm} {k : SensorFault} (h : k.stands t = false) : t.noted k = t.faulted k :=
  if_neg (Bool.eq_false_iff.mp h)

theorem Thm.noted_estimate (t : Thm) (k : SensorFault) : (t.noted k).estimate = t.estimate := by
  unfold Thm.noted
  split <;> rfl

/-- Beside the thermal block only the log entry's record may have changed. -/
theorem State.sensorFault_frame (s : State) (k : SensorFault) : s.sensorFault k =
    { s with thm := (s.sensorFault k).thm, wbl := (s.sensorFault k).wbl, ledger := (s.sensorFault k).ledger } := by
  cases h : k.stands s.thm with
  | true => rw [State.sensorFault_stands h]
  | false =>
    rw [State.sensorFault_new h, State.logEvent_frame]
    rfl

theorem State.sensorFault_thmFrame (s : State) (k : SensorFault) : State.ThmFrame s (s.sensorFault k) := by
  rw [State.sensorFault_eq]
  split
  · exact .refl s
  · exact (s.mapThm_thmFrame _).trans (State.logEvent_thmFrame _ _ _)

/-! ### Self-test, neighbours, and the end of the faults (R201, R226, R229) -/

theorem exec_selftestStep {s : State} (h : s.thmRuns = true) (low high low2 high2 : Int) :
    exec (.selftestStep low high low2 high2) s =
      .next (if s.selftestPass low high = false ∧ s.selftestPass low2 high2 = false then s.sensorFault .selftest else s) := by
  simp [exec, execSelftestStep, h]

/-- A step fails with its repeat only, and a standing fault is not noted again. -/
theorem State.selftest_passes {s : State} {low high low2 high2 : Int} (hruns : s.thmRuns = true)
    (h : s.selftestPass low high = true ∨ s.selftestPass low2 high2 = true ∨ s.thm.selftest = true) :
    exec (.selftestStep low high low2 high2) s = .next s := by
  rw [exec_selftestStep hruns]
  split
  next fails =>
    have stood : s.thm.selftest = true := by simpa [fails] using h
    rw [State.sensorFault_stands (k := .selftest) stood]
  next => rfl

theorem exec_sensorFaultClear {s : State} (h : s.thm.faulty = true) : exec .sensorFaultClear s = .next { s with
    thm := { s.thm with range := false, selftest := false, neighbour := false, int := s.thm.int ||| 8 } } := by
  simp only [exec, execSensorFaultClear, State.sensorClear, h, if_true]
  rfl

/-- The temperatures of the neighbours that are available (R228). -/
def State.neighbourTemps (s : State) : List Int := (s.image.getD {}).neighbours.filterMap s.neighbourTemp

/-- R229: the estimate of a list of neighbours' temperatures. -/
def estimateOf (l : List Int) : Option Int :=
  if l = [] then none else some (openQuotInt (l.foldl (· + ·) 0) (l.length * 2 ^ 146))

def State.estimated (s : State) : State := s.mapThm fun t => { t with estimate := estimateOf s.neighbourTemps }

/-- R226: the reading lies more than 15 °C from the mean of a list of neighbours' temperatures. -/
def Thm.strays (t : Thm) (l : List Int) : Prop :=
  0 < l.length ∧ 15 * 2 ^ 149 * l.length < (t.reading * (2 ^ 146 * l.length : Nat) - l.foldl (· + ·) 0).natAbs

theorem State.neighbourCheck_eq {s : State} (h : s.thmRuns = true) :
    (s.thm.strays s.neighbourTemps ∧ s.neighbourCheck = s.estimated.sensorFault .neighbour) ∨
      (¬ s.thm.strays s.neighbourTemps ∧ s.neighbourCheck = s.estimated) := by
  have estimate (l : List Int) : estimateOf l =
      if l.length = 0 then none else some (openQuotInt (l.foldl (· + ·) 0) (l.length * 2 ^ 146)) := by
    simp only [estimateOf, List.length_eq_zero_iff]
  simp only [State.estimated, estimate]
  by_cases hs : s.thm.strays s.neighbourTemps
  · refine .inl ⟨hs, ?_⟩
    simp only [State.neighbourCheck, h, if_true]
    exact if_pos hs
  · refine .inr ⟨hs, ?_⟩
    simp only [State.neighbourCheck, h, if_true]
    exact if_neg hs

theorem Thm.strays_one (t : Thm) (x : Int) : t.strays [x] ↔ 15 * 2 ^ 149 < (t.reading * 2 ^ 146 - x).natAbs := by
  simp only [Thm.strays, List.length_singleton, List.foldl_cons, List.foldl_nil, zero_add, mul_one, Nat.one_pos, true_and]
  norm_cast

theorem Thm.not_strays_nil (t : Thm) : ¬ t.strays [] := fun h => Nat.lt_irrefl 0 h.1

/-! ### The reading, and what stands in for it (R200, R204, R219, R220) -/

/-- A changed seal slot 8 touches the levels, their hysteresis and the cross-check mode. -/
theorem Thm.takeLevels_registers (t : Thm) : t.takeLevels = { t with
    warnLevel := t.takeLevels.warnLevel, throttleLevel := t.takeLevels.throttleLevel, shutdownLevel := t.takeLevels.shutdownLevel
    warnHys := t.takeLevels.warnHys, throttleHys := t.takeLevels.throttleHys, shutdownHys := t.takeLevels.shutdownHys
    crossCheck := t.takeLevels.crossCheck, levelNext := none } := by
  unfold Thm.takeLevels
  split
  · rfl
  next h => rw [← h]

/-- The thermal block with a reading, and a changed seal slot 8, taken. -/
def Thm.takes (t : Thm) (r : Int) : Thm := { t.takeLevels with reading := r }

/-- A reading out of range is a sensor fault (R226). -/
def Thm.sensed (t : Thm) (r : Int) : Thm := if r < -480 ∨ 1600 < r then (t.takes r).noted .range else t.takes r

theorem Thm.sensed_cases (t : Thm) (r : Int) : t.sensed r = t.takes r ∨ t.sensed r = (t.takes r).faulted .range := by
  unfold Thm.sensed Thm.noted
  split
  · split
    · exact .inl rfl
    · exact .inr rfl
  · exact .inl rfl

theorem Thm.faulted_faulty (t : Thm) (k : SensorFault) : (t.faulted k).faulty = true := by
  cases k <;> simp [Thm.faulted, Thm.faulty]

/-- What stands in for the reading, and the levels, are as they were or as seal slot 8 has them. -/
theorem Thm.sensed_kept (t : Thm) (r : Int) : (t.sensed r).reading = r ∧ (t.sensed r).held = t.held ∧
    (t.sensed r).estimate = t.estimate ∧ (t.sensed r).crossCheck = t.takeLevels.crossCheck ∧
    (t.sensed r).levels = t.takeLevels.levels := by
  have held : t.takeLevels.held = t.held := by rw [t.takeLevels_registers]
  have estimate : t.takeLevels.estimate = t.estimate := by rw [t.takeLevels_registers]
  obtain h | h := t.sensed_cases r <;> rw [h] <;> exact ⟨rfl, held, estimate, rfl, rfl⟩

theorem Thm.sensed_faulty {t : Thm} (h : t.faulty = true) (r : Int) : (t.sensed r).faulty = true := by
  obtain kept | new := t.sensed_cases r
  · rw [kept]
    exact t.takeLevels_kept.1.trans h
  · rw [new, Thm.faulted_faulty]

/-- R226, R227: a first reading out of range is a fault of its kind. -/
theorem Thm.sensed_outOfRange {t : Thm} {r : Int} (hr : r < -480 ∨ 1600 < r) (h : t.range = false) :
    (t.sensed r).range = true ∧ (t.sensed r).faultKind = 1 ∧ (t.sensed r).faultCnt = satInc 0xFF t.faultCnt ∧
      (t.sensed r).faulty = true := by
  have range : t.takeLevels.range = t.range := by rw [t.takeLevels_registers]
  have count : t.takeLevels.faultCnt = t.faultCnt := by rw [t.takeLevels_registers]
  have taken : t.sensed r = (t.takes r).faulted .range :=
    (if_pos hr).trans (if_neg (Bool.eq_false_iff.mp (range.trans h)))
  rw [taken]
  exact ⟨by simp [Thm.faulted], rfl, congrArg (satInc 0xFF) count, Thm.faulted_faulty _ _⟩

/-- R219: while a fault stands, Tj is the held reading, or in cross-check mode the neighbours' estimate. -/
theorem Thm.use_held {t : Thm} (h : t.faulty = true) (hc : t.crossCheck = false) : t.use = { t with tj := t.held, source := 2 } := by
  simp [Thm.use, h, hc]

theorem Thm.use_estimate {t : Thm} {e : Int} (h : t.faulty = true) (hc : t.crossCheck = true) (he : t.estimate = some e) :
    t.use = { t with tj := e, source := 1 } := by
  simp [Thm.use, h, hc, he]

theorem Thm.use_registers (t : Thm) : t.use = { t with tj := t.use.tj, source := t.use.source, held := t.use.held } := by
  unfold Thm.use
  split
  · rfl
  · split <;> rfl

/-! ### A conversion up to its check for a shutdown (R148, R200 to R217) -/

/-- Of the thermal block, what neither a level nor a window touches. -/
structure Thm.Read (t u : Thm) : Prop where
  tj : u.tj = t.tj
  source : u.source = t.source
  reading : u.reading = t.reading
  range : u.range = t.range
  faultKind : u.faultKind = t.faultKind
  faultCnt : u.faultCnt = t.faultCnt
  levels : u.levels = t.levels

/-- What a conversion may touch outside the thermal block before its check for a shutdown. -/
structure State.ConvFrame (s t : State) : Prop where
  frame : t = { s with
    thm := t.thm, wbl := t.wbl, ledger := t.ledger, grd := t.grd, draws := t.draws
    power := { s.power with flushCap := t.power.flushCap } }
  cells : t.ledger.lines = s.ledger.lines

theorem State.ConvFrame.trans {s t u : State} (h : State.ConvFrame s t) (h' : State.ConvFrame t u) : State.ConvFrame s u :=
  ⟨by rw [h'.frame, h.frame], h'.cells.trans h.cells⟩

theorem State.ThmFrame.convFrame {s t : State} (h : State.ThmFrame s t) : State.ConvFrame s t :=
  ⟨by rw [h.1], h.2⟩

/-- The levels and the windows of a state whose Tj is known, and the flush that the Ledger's window holds. -/
def State.judged (s : State) (was : Bool) : State := (s.thmLevels.thmWindows).flushWindow was

theorem State.judged_spec (s : State) (was : Bool) : State.ConvFrame s (s.judged was) ∧ Thm.Read s.thm (s.judged was).thm := by
  have levels := s.thmLevels_judged
  have registers := levels.registers
  unfold State.judged
  generalize s.thmLevels = u at levels registers ⊢
  obtain ⟨x, -, windows⟩ := u.thmWindows_eq
  obtain ⟨en, ui, low, high, win, windowed⟩ := u.windowed_registers
  have capped := u.thmWindows.flushWindow_frame was
  rw [windowed] at windows
  have window : State.ConvFrame u (u.thmWindows.flushWindow was) := by
    refine ⟨?_, ?_⟩ <;> rw [capped, windows]
  have thm : (u.thmWindows.flushWindow was).thm = u.thmWindows.thm := by rw [capped]
  refine ⟨levels.frame.convFrame.trans window, ?_⟩
  rw [thm, windows, registers]
  exact ⟨rfl, rfl, rfl, rfl, rfl, rfl, rfl⟩

/-- The device with a reading taken. -/
def State.sensed (s : State) (r : Int) : State :=
  if r < -480 ∨ 1600 < r then (s.mapThm fun t => t.takes r).sensorFault .range else s.mapThm fun t => t.takes r

theorem State.sensed_thm (s : State) (r : Int) : (s.sensed r).thm = s.thm.sensed r := by
  unfold State.sensed Thm.sensed
  split
  · rw [State.sensorFault_thm, State.mapThm_thm]
  · rfl

theorem State.sensed_frame (s : State) (r : Int) : State.ThmFrame s (s.sensed r) := by
  unfold State.sensed
  split
  · exact (s.mapThm_thmFrame _).trans (State.sensorFault_thmFrame _ _)
  · exact s.mapThm_thmFrame _

/-- A conversion, up to its check for a shutdown. -/
def State.converted (s : State) (r : Int) : State := ((s.sensed r).mapThm Thm.use).judged (s.sensed r).thm.ledgerWin

theorem State.conversion_eq {s : State} (hruns : s.thmRuns = true) (r : Int) : s.conversion r =
    if 8 * ((s.converted r).thm.levels.2.2.1 : Int) ≤ (s.converted r).thm.tj ∧ (s.converted r).power.phase ≠ .tooHot ∧
      (s.converted r).thmTrips = true
    then (s.converted r).thermalShutdown 1 else s.converted r := if_pos hruns

theorem State.converted_spec (s : State) (r : Int) : State.ConvFrame s (s.converted r) ∧
    Thm.Read (s.thm.sensed r).use (s.converted r).thm := by
  obtain ⟨frame, read⟩ := ((s.sensed r).mapThm Thm.use).judged_spec (s.sensed r).thm.ledgerWin
  have used : ((s.sensed r).mapThm Thm.use).thm = (s.thm.sensed r).use := congrArg Thm.use (s.sensed_thm r)
  rw [used] at read
  exact ⟨((s.sensed_frame r).trans (State.mapThm_thmFrame _ Thm.use)).convFrame.trans frame, read⟩

/-- A conversion that stays below the shutdown level ends with its judgement. -/
theorem State.conversion_cool {s : State} (hruns : s.thmRuns = true) {r : Int}
    (hcool : (s.thm.sensed r).use.tj < 8 * (s.thm.takeLevels.levels.2.2.1 : Int)) :
    State.ConvFrame s (s.conversion r) ∧ Thm.Read (s.thm.sensed r).use (s.conversion r).thm := by
  obtain ⟨frame, read⟩ := s.converted_spec r
  obtain ⟨-, -, -, -, levels⟩ := s.thm.sensed_kept r
  have level : (s.converted r).thm.levels = s.thm.takeLevels.levels := by
    rw [read.levels, (s.thm.sensed r).use_registers, ← levels]
    rfl
  rw [State.conversion_eq hruns, if_neg]
  · exact ⟨frame, read⟩
  · rintro ⟨hot, -⟩
    rw [level, read.tj] at hot
    omega

/-- No shutdown touches what a conversion has read. -/
theorem State.conversion_read {s : State} (hruns : s.thmRuns = true) (r : Int) :
    Thm.Read (s.thm.sensed r).use (s.conversion r).thm := by
  obtain ⟨-, read⟩ := s.converted_spec r
  rw [State.conversion_eq hruns]
  split
  · rw [((s.converted r).thermalShutdown_kept 1).1]
    exact read
  · exact read

/-! ### Thermal shutdown (R221 to R223, R225) -/

/-- What a shutdown with a cause leaves. -/
structure State.ShutDown (s : State) (cause : Nat) (t : State) : Prop where
  latched : t.power.phase = .shutdown ∧ t.power.thmLatch = true ∧ t.power.thmLast = cause
  mode : t.power.mode = s.power.mode
  chg : t.power.chg = 0
  blank : t.gate.blank = true ∧ t.gate.blankCause = 3
  applied : ∀ i, (t.outp i).applied = 0
  run : ∀ n, (t.lodger n).run = .stopped
  sram : sramKept s t
  cells : t.ledger.lines = s.ledger.lines
  boot : t.boot = s.boot
  rtc : t.power.rtc = s.power.rtc
  flags : t.power.offWake = false ∧ t.power.flushRuns = false

theorem State.shutdownBegun_eq (s : State) (cause : Nat) : (s.shutdownBegun cause).gate = (s.gateBlank 3).gate ∧
    (s.shutdownBegun cause).boot = s.boot ∧ (s.shutdownBegun cause).power =
      { s.power with thmLatch := true, thmLast := cause, phase := .shutdown, flushRuns := false, offWake := false } := by
  have blank := s.gateBlank_frame 3
  rw [State.FanFrame] at blank
  simp only [State.shutdownBegun, State.mapPower_gate, State.mapWear_gate, State.mapPower_boot, State.mapWear_boot,
    State.mapPower_power, State.mapWear_power, true_and]
  rw [blank]
  exact ⟨rfl, rfl⟩

theorem State.thermalShutdown_shutDown (s : State) (cause : Nat) : s.ShutDown cause (s.thermalShutdown cause) := by
  obtain ⟨-, ledger, sram⟩ := s.thermalShutdown_kept cause
  obtain ⟨blank, blankCause, -, applied⟩ := s.gateBlank_gate 3
  obtain ⟨begunGate, begunBoot, begunPower⟩ := s.shutdownBegun_eq cause
  have halted := (s.shutdownBegun cause).haltBlocks_halted
  have gate : (s.thermalShutdown cause).gate = (s.gateBlank 3).gate := by
    rw [State.thermalShutdown_eq, State.leaving_gate, State.haltBlocks_gate, begunGate]
  have left := (s.shutdownBegun cause).haltBlocks.leaving_grdOnly cause
  rw [State.GrdOnly] at left
  generalize hu : (s.shutdownBegun cause).haltBlocks = u at halted left
  have others : (s.thermalShutdown cause).lodgers = u.lodgers ∧ (s.thermalShutdown cause).boot = u.boot ∧
      (s.thermalShutdown cause).power = u.power := by
    rw [State.thermalShutdown_eq, hu, left]
    exact ⟨rfl, rfl, rfl⟩
  obtain ⟨lodgers, boot, power⟩ := others
  have power : (s.thermalShutdown cause).power =
      { s.power with thmLatch := true, thmLast := cause, phase := .shutdown, flushRuns := false, offWake := false, chg := 0 } := by
    rw [power, halted.power, begunPower]
  exact {
    latched := by rw [power]; exact ⟨rfl, rfl, rfl⟩
    mode := by rw [power]
    chg := by rw [power]
    blank := by rw [gate]; exact ⟨blank, blankCause⟩
    applied := fun i => (congrArg Output.applied (State.outp_congr gate i)).trans (applied i)
    run := fun n => (congrArg (fun l => (vget l n).run) lodgers).trans (halted.run n)
    sram := sram
    cells := congrArg Ledger.lines ledger
    boot := (boot.trans halted.boot).trans begunBoot
    rtc := by rw [power]
    flags := by rw [power]; exact ⟨rfl, rfl⟩ }

/-- A conversion that ends in a shutdown is the shutdown of the device that it found. -/
theorem State.ShutDown.after {s t u : State} {cause : Nat} (h : State.ConvFrame s t) (h' : t.ShutDown cause u) : s.ShutDown cause u where
  latched := h'.latched
  mode := h'.mode.trans (by rw [h.frame])
  chg := h'.chg
  blank := h'.blank
  applied := h'.applied
  run := h'.run
  sram := (sramKept.of_sram (by rw [h.frame])).trans h'.sram
  cells := h'.cells.trans h.cells
  boot := h'.boot.trans (by rw [h.frame])
  rtc := h'.rtc.trans (by rw [h.frame])
  flags := h'.flags

theorem State.thmTrips_iff {s : State} : s.thmTrips = true ↔ s.thmRuns = true ∧ s.power.phase ≠ .latched := by
  simp [State.thmTrips]

/-- R221: a reading at the shutdown level or above. -/
theorem State.conversion_shutDown {s : State} (htrips : s.thmTrips = true) (hphase : s.power.phase ≠ .tooHot)
    (hsound : s.thm.faulty = false) {r : Int} (hlow : -480 ≤ r) (hhigh : r ≤ 1600)
    (hhot : 8 * (s.thm.takeLevels.levels.2.2.1 : Int) ≤ r) : s.ShutDown 1 (s.conversion r) := by
  obtain ⟨frame, cells, -, ⟨tj, -, -, -, levels⟩, -, -, -, -⟩ := State.measured_spec hsound r
  have kept : State.ConvFrame s (s.measured r) := ⟨frame, cells⟩
  have phase : (s.measured r).power.phase = s.power.phase := by rw [frame]
  have trips : (s.measured r).thmTrips = s.thmTrips := by
    rw [frame]
    rfl
  rw [State.conversion_inRange (State.thmTrips_iff.mp htrips).1 hsound hlow hhigh, levels, tj, phase, trips,
    if_pos ⟨hhot, hphase, htrips⟩]
  exact .after kept ((s.measured r).thermalShutdown_shutDown 1)

/-! ### Fixed comparator and too-hot fault (R218, R230; log entry 168) -/

theorem exec_fixedShutdownTrip (s : State) :
    exec .fixedShutdownTrip s = .next (if s.thmTrips then s.thermalShutdown 2 else s) := rfl

/-- R230: the condition of a too-hot fault that nothing stands in for. -/
theorem exec_tooHotTimeout (s : State) : exec .tooHotTimeout s = .next
    (if s.thmTrips = true ∧ s.thm.faulty = true ∧ (s.thm.crossCheck = false ∨ s.thm.estimate = none)
      then s.thermalShutdown 3 else s) := by
  simp [exec, execTooHotTimeout, State.tooHot, and_assoc]

theorem Grd.halt_cans (s : State) (c : Fin 2) : vget s.grd.halt.cans c = { s.can c with st := .stopped } := vget_map ..

/-! ### The statement -/

/-- Settles O44: a fault is `sensorFault_eq`, what stands in for the reading is `use_held` and `use_estimate`, and each cause's
shutdown is `thermalShutdown_shutDown`. -/
theorem thermalFaultsAndShutdown : Obligations.ThermalFaultsAndShutdown := by
  unfold Obligations.ThermalFaultsAndShutdown
  intro shut
  have shuts {s t : State} {cause : Nat} (h : s.ShutDown cause t) : shut s cause t := by
    obtain ⟨⟨phase, latch, last⟩, mode, chg, ⟨blank, blankCause⟩, applied, run, sram, cells, boot, rtc, offWake, flushRuns⟩ := h
    exact ⟨phase, latch, last, mode, chg, blank, blankCause, applied, run, sram, cells, boot, rtc, offWake, flushRuns⟩
  refine ⟨fun s hruns => ⟨fun _ _ _ _ => State.selftest_passes hruns, ?selftest, exec_sensorFaultClear,
    fun hfaulty r hlevels hheld => ⟨fun hcross => ?held, fun e hcross hest hcool => ?estimate⟩, ?range, ?neighbour⟩,
    fun s hlatched => ?latched, fun s hruns hphase => ?shuts, fun s => ⟨fun hphase => ?halt, ?clear⟩⟩
  case selftest =>
    intro low high low2 high2 hfails hfails2 hnew
    have fault := State.sensorFault_new (s := s) (k := .selftest) hnew
    refine ⟨s.sensorFault .selftest, ?_, ?_, ?_, s.sensorFault_frame _⟩
    · rw [exec_selftestStep hruns, if_pos ⟨hfails, hfails2⟩]
    · rw [fault, State.logEvent_thm]
      simp [Thm.faulted, SensorFault.code]
    · rw [fault]
      exact (s.mapThm fun t => t.faulted .selftest).logEvent_logs 0x0203 (s.tjBytes ++ [2])
  case held =>
    obtain ⟨-, held, -, cross, -⟩ := s.thm.sensed_kept r
    have used := Thm.use_held (s.thm.sensed_faulty hfaulty r) (cross.trans hcross)
    obtain ⟨frame, read⟩ := State.conversion_cool (r := r) hruns (by rw [used, held, hlevels]; exact hheld)
    have kept := s.thm.sensed_kept r
    rw [used] at read
    exact ⟨_, rfl, read.tj.trans held, read.source, read.reading.trans kept.1, by rw [frame.frame]⟩
  case estimate =>
    obtain ⟨-, -, est, cross, -⟩ := s.thm.sensed_kept r
    have used := Thm.use_estimate (s.thm.sensed_faulty hfaulty r) (cross.trans hcross) (est.trans hest)
    obtain ⟨frame, read⟩ := State.conversion_cool (r := r) hruns (by rw [used, hlevels]; exact hcool)
    rw [used] at read
    exact ⟨_, rfl, read.tj, read.source, by rw [frame.frame]⟩
  case range =>
    intro r hr hnew
    obtain ⟨-, held, -, cross, -⟩ := s.thm.sensed_kept r
    obtain ⟨range, kind, count, faulty⟩ := Thm.sensed_outOfRange hr hnew
    have read := State.conversion_read hruns r
    have registers := (s.thm.sensed r).use_registers
    refine ⟨_, rfl, read.range.trans ?_, read.faultKind.trans ?_, read.faultCnt.trans ?_, fun hcross => ?_⟩
    · rw [registers]; exact range
    · rw [registers]; exact kind
    · rw [registers]; exact count
    · rw [Thm.use_held faulty (cross.trans hcross)] at read
      exact ⟨read.tj.trans held, read.source⟩
  case neighbour =>
    rintro l rfl
    obtain ⟨hstrays, check⟩ | ⟨hstays, check⟩ := State.neighbourCheck_eq hruns
    · refine ⟨_, congrArg Host.Outcome.next check, ?_, ?_, fun hl => ?_, fun x hl hnew => ?_⟩
      · rw [State.sensorFault_thm, Thm.noted_estimate]
        rfl
      · rw [State.sensorFault_frame]
        rfl
      · exact absurd (hl ▸ hstrays) s.thm.not_strays_nil
      · have near := (s.thm.strays_one x).mp (hl ▸ hstrays)
        rw [State.sensorFault_thm, Thm.noted_new (t := s.estimated.thm) (k := .neighbour) hnew]
        exact iff_of_true (by simp [Thm.faulted]) near
    · refine ⟨_, congrArg Host.Outcome.next check, rfl, rfl, fun hl => ?_, fun x hl hnew => ?_⟩
      · have none : s.neighbourTemps = [] := hl
        rw [State.estimated, none]
        rfl
      · have near := mt (s.thm.strays_one x).mpr (hl ▸ hstays)
        exact iff_of_false (by simp [State.estimated, hnew]) near
  case latched =>
    have still : ¬ s.thmTrips = true := fun h => (State.thmTrips_iff.mp h).2 hlatched
    rw [exec_fixedShutdownTrip, exec_tooHotTimeout, if_neg still, if_neg fun h => still h.1]
    exact ⟨rfl, rfl⟩
  case shuts =>
    have trips := State.thmTrips_iff.mpr ⟨hruns, hphase⟩
    rw [exec_fixedShutdownTrip, exec_tooHotTimeout, if_pos trips]
    refine ⟨⟨_, rfl, shuts (s.thermalShutdown_shutDown 2)⟩, fun r hwaits hsound hlow hhigh hhot =>
      ⟨_, rfl, shuts (State.conversion_shutDown trips hwaits hsound hlow hhigh hhot)⟩, fun hfaulty halone => ?_, fun hcovered => ?_⟩
    · rw [if_pos ⟨trips, hfaulty, halone⟩]
      exact ⟨_, rfl, shuts (s.thermalShutdown_shutDown 3)⟩
    · refine congrArg Host.Outcome.next (if_neg ?_)
      rintro ⟨-, hfaulty, halone⟩
      obtain h | ⟨hcross, hest⟩ := hcovered
      · exact Bool.false_ne_true (h.symm.trans hfaulty)
      · exact halone.elim (fun h => Bool.false_ne_true (h.symm.trans hcross)) hest
  case halt =>
    exact ⟨_, congrArg Host.Outcome.next (if_pos hphase), rfl, Grd.halt_cans s, rfl⟩
  case clear =>
    refine ⟨_, rfl, rfl, rfl, ?_, rfl⟩
    rintro (h | h | h | ⟨h, hlatch⟩)
    case inr.inr.inr => simp [h, hlatch]
    all_goals simp [h]

end Sys2Proof.Machine
end

section
/-! PROOFS. Received Gridis frames: the error counters, the checks that drop a frame, the forwarding of a bridge, the duplicate filter and
the receive FIFO (R464, R474, R478, R479, R483, R493 to R495). -/

namespace Sys2Proof.Machine

/-! ### A frame is heard (ISO 11898-1, R192) -/

/-- Hearing a frame touches REC and the state only. -/
theorem Can.heard_eq (k : Can) : k.heard = { k with rxErr := k.heard.rxErr, st := k.heard.st } := rfl

/-- REC falls by one, or comes back from above 127 to a value from 119 to 127. -/
theorem Can.heard_rxErr_low {k : Can} (h : k.rxErr ≤ 127) : k.heard.rxErr = k.rxErr - 1 := if_neg (Nat.not_lt.mpr h)

theorem Can.heard_rxErr_high {k : Can} (h : 127 < k.rxErr) : 119 ≤ k.heard.rxErr ∧ k.heard.rxErr ≤ 127 := by
  have back : k.heard.rxErr = 119 + Config.openRec k.rxErr % 9 := if_pos h
  omega

/-- Hearing a frame changes one controller. -/
theorem State.canHears_eq (s : State) (c : Fin 2) : s.canHears c =
    if s.power.xtalRc then s else { s with grd := { s.grd with cans := vset s.grd.cans c (s.can c).heard } } := rfl

theorem State.canHears_cansOnly (s : State) (c : Fin 2) : State.CansOnly s (s.canHears c) := by
  rw [State.canHears_eq]
  split <;> rfl

theorem State.canHears_can_ne (s : State) {c o : Fin 2} (h : o ≠ c) : (s.canHears c).can o = s.can o := by
  unfold State.canHears
  split
  · rfl
  · exact s.mapCan_can_ne h _

/-- Of a controller, all that the buffers and the filters are made of. -/
structure Can.SameQueues (k j : Can) : Prop where
  filters : j.filters = k.filters
  rx : j.rx = k.rx
  rxOvr : j.rxOvr = k.rxOvr

theorem State.canHears_can (s : State) (c : Fin 2) : Can.SameQueues (s.can c) ((s.canHears c).can c) := by
  unfold State.canHears
  split
  · exact ⟨rfl, rfl, rfl⟩
  · rw [State.mapCan_can_same]
    exact ⟨rfl, rfl, rfl⟩

/-- Of Gridis only the controllers have changed. -/
theorem State.CansOnly.grd {s t : State} (h : State.CansOnly s t) : t.grd = { s.grd with cans := t.grd.cans } := by
  rw [h]

/-! ### The checks (R479, R483) -/

theorem State.clashCheck_other {s : State} {f : Frame} (h : f.src ≠ s.grd.node) (c : Fin 2) : s.clashCheck c f = s := if_neg h

/-- R483: NODE_CLASH is set, and logged with the controller. -/
def State.clashed (s : State) (c : Fin 2) : State := (s.mapGrd fun g => { g with clash := true }).logEvent 0x0702 (leBytes 1 c.val)

theorem State.clashCheck_own {s : State} {f : Frame} (h : f.src = s.grd.node) (c : Fin 2) : s.clashCheck c f = s.clashed c := if_pos h

theorem State.clashed_frame (s : State) (c : Fin 2) : s.clashed c =
    { s with grd := { s.grd with clash := true }, wbl := (s.clashed c).wbl, ledger := (s.clashed c).ledger } := by
  unfold State.clashed
  rw [State.logEvent_frame]
  rfl

theorem State.clashed_logs (s : State) (c : Fin 2) : logs s 0x0702 (leBytes 1 c.val) (s.clashed c) :=
  (s.mapGrd fun g => { g with clash := true }).logEvent_logs 0x0702 (leBytes 1 c.val)

section receives
variable {s : State} {c : Fin 2} (hg : s.grouped = true) (hr : (s.can c).receives = true)
include hg hr

/-- A frame with an 11-bit identifier is counted (Table 14-1). -/
theorem State.receive_std (f : Frame) (ticks : Nat) :
    s.receive c true f ticks = (s.canHears c).mapGrd fun g => { g with std := satInc 0xFF g.std } := by
  simp [State.receive, hg, hr]

/-- What the checks make of any other frame. -/
theorem State.receive_ext (f : Frame) (ticks : Nat) : s.receive c false f ticks =
    let u := (s.canHears c).clashCheck c f
    if f.lenOk = false then u.mapGrd fun g => { g with lenErr := satInc 0xFF g.lenErr }
    else if f.kindOk = false then u.mapGrd fun g => { g with kindErr := satInc 0xFF g.kindErr }
    else if f.src = u.grd.node then u else u.takeIn c f ticks := by
  simp [State.receive, hg, hr]

/-- A frame of another node. -/
theorem State.receive_foreign {f : Frame} (h : f.src ≠ s.grd.node) (ticks : Nat) : s.receive c false f ticks =
    if f.lenOk = false then (s.canHears c).mapGrd fun g => { g with lenErr := satInc 0xFF g.lenErr }
    else if f.kindOk = false then (s.canHears c).mapGrd fun g => { g with kindErr := satInc 0xFF g.kindErr }
    else (s.canHears c).takeIn c f ticks := by
  have foreign : f.src ≠ (s.canHears c).grd.node := by
    rw [(s.canHears_cansOnly c).grd]
    exact h
  simp only [State.receive_ext hg hr, State.clashCheck_other foreign, foreign, if_false]

/-- A frame with the own node number is never taken in. -/
theorem State.receive_own {f : Frame} (h : f.src = s.grd.node) (ticks : Nat) : s.receive c false f ticks =
    ((s.canHears c).clashed c).mapGrd fun g => { g with
      lenErr := if f.lenOk then g.lenErr else satInc 0xFF g.lenErr
      kindErr := if f.lenOk && !f.kindOk then satInc 0xFF g.kindErr else g.kindErr } := by
  have own : f.src = (s.canHears c).grd.node := by
    rw [(s.canHears_cansOnly c).grd]
    exact h
  have still : f.src = ((s.canHears c).clashed c).grd.node := by
    rw [State.clashed_frame]
    exact own
  rw [State.receive_ext hg hr, State.clashCheck_own own]
  dsimp only
  rw [if_pos still]
  cases f.lenOk <;> cases f.kindOk <;> rfl

end receives

/-! ### The duplicate filter (R478) -/

/-- What is remembered lies in DUPS and the time. -/
theorem State.remembered_congr {s t : State} (hdups : t.grd.dups = s.grd.dups) (hnow : t.now = s.now) (src cls seq : Nat) :
    t.remembered src cls seq = s.remembered src cls seq := by
  rw [State.remembered, hdups, hnow]
  rfl

theorem State.remember_remembered (s : State) (src cls seq : Nat) : (s.remember src cls seq).remembered src cls seq = true := by
  simp [State.remembered, State.remember]

/-! ### Forwarding (R474) -/

/-- The segment on the other side of a controller. -/
def State.otherSegment (s : State) (c : Fin 2) : Nat := if c = 0 then s.grd.bseg else s.grd.seg

/-- A forwarding queue as a frame leaves it: one frame too many drops the highest identifier. -/
def State.fwdQueue (s : State) (o : Fin 2) (q : List Frame) : State :=
  if q.length ≤ 64 then s.mapCan o fun k => { k with fwd := q }
  else match highestFrame q with
    | some h => (s.mapCan o fun k => { k with fwd := q.erase h }).mapGrd fun g => { g with fwdDrop := satInc 0xFF g.fwdDrop }
    | none => s

theorem State.forward_eq (s : State) (c : Fin 2) (f : Frame) : s.forward c f =
    if !s.grd.bridge || decide (f.origin = s.otherSegment c ∨ f.hops = 7) then s
    else s.fwdQueue (otherCan c) ((s.can (otherCan c)).fwd ++ [f.hop]) := rfl

/-- A bridge's forwarding reaches the other controller's queue, and FWD_DROP. -/
structure State.Forwarded (c : Fin 2) (s t : State) : Prop where
  frame : t = { s with grd := { s.grd with cans := t.grd.cans, fwdDrop := t.grd.fwdDrop } }
  here : t.can c = s.can c

theorem State.Forwarded.refl (c : Fin 2) (s : State) : State.Forwarded c s s := ⟨rfl, rfl⟩

theorem State.fwdQueue_forwarded (s : State) {c o : Fin 2} (h : c ≠ o) (q : List Frame) : State.Forwarded c s (s.fwdQueue o q) := by
  unfold State.fwdQueue
  split
  · exact ⟨rfl, s.mapCan_can_ne h _⟩
  · split
    · exact ⟨rfl, s.mapCan_can_ne h _⟩
    · exact .refl c s

theorem otherCan_ne (c : Fin 2) : c ≠ otherCan c := by
  revert c
  decide

theorem State.forward_forwarded (s : State) (c : Fin 2) (f : Frame) : State.Forwarded c s (s.forward c f) := by
  rw [State.forward_eq]
  split
  · exact .refl c s
  · exact s.fwdQueue_forwarded (otherCan_ne c) _

/-- With room in the queue the frame enters it with HOPS one more. -/
theorem State.forward_queues {s : State} {c o : Fin 2} {f : Frame} (hne : o ≠ c) (hb : s.grd.bridge = true) (hhops : f.hops < 7)
    (horigin : f.origin ≠ if c = 0 then s.grd.bseg else s.grd.seg) (hroom : (s.can o).fwd.length < 64) :
    ((s.forward c f).can o).fwd = (s.can o).fwd ++ [f.hop] := by
  obtain rfl : otherCan c = o := otherCan_eq hne
  have goes : ¬ (f.origin = s.otherSegment c ∨ f.hops = 7) := by
    rintro (h | h)
    · exact horigin h
    · omega
  have room : ((s.can (otherCan c)).fwd ++ [f.hop]).length ≤ 64 := by simpa using hroom
  rw [State.forward_eq, if_neg (by simp [hb, goes]), State.fwdQueue, if_pos room, State.mapCan_can_same]

/-! ### The receive FIFO (R493, R495) -/

theorem State.wants_iff {s : State} {c : Fin 2} {f : Frame} : s.wants c f = true ↔
    (f.addressed = false ∨ f.dest = s.grd.node) ∧ ∃ x : Fin 16, bit (vget (s.can c).filters x).1 31 = true ∧
      f.id &&& bits (vget (s.can c).filters x).2 28 0 =
        bits (vget (s.can c).filters x).1 28 0 &&& bits (vget (s.can c).filters x).2 28 0 := by
  simp only [State.wants, Bool.and_eq_true, Bool.or_eq_true, Bool.not_eq_true', decide_eq_true_eq, List.any_eq_true,
    Vector.mem_toList_iff, Vector.mem_iff_getElem]
  rw [and_comm]
  refine and_congr_right fun _ => ⟨?_, ?_⟩
  · rintro ⟨_, ⟨i, hi, rfl⟩, h⟩
    exact ⟨⟨i, hi⟩, h⟩
  · rintro ⟨x, h⟩
    exact ⟨_, ⟨x.val, x.isLt, rfl⟩, h⟩

theorem State.wants_congr {s t : State} {c : Fin 2} (hfilters : (t.can c).filters = (s.can c).filters)
    (hnode : t.grd.node = s.grd.node) (f : Frame) : t.wants c f = s.wants c f := by
  rw [State.wants, hfilters, hnode]
  rfl

section fifo
variable {s : State} {c : Fin 2} {f : Frame}

theorem State.toFifo_enters (h : s.wants c f = true) (hroom : (s.can c).rx.length < 32) (ticks : Nat) :
    s.toFifo c f ticks = s.mapCan c fun k => { k with rx := k.rx ++ [⟨f, s.startTs ticks⟩] } := by
  simp only [State.toFifo, h, hroom, if_true]

theorem State.toFifo_overruns (h : s.wants c f = true) (hfull : 32 ≤ (s.can c).rx.length) (ticks : Nat) :
    s.toFifo c f ticks = (s.mapCan c fun k => { k with rxOvr := satInc 0xFF k.rxOvr }).grdInt 4 := by
  simp only [State.toFifo, h, Nat.not_lt.mpr hfull, if_true, if_false]

theorem State.toFifo_unwanted (h : s.wants c f = false) (ticks : Nat) : s.toFifo c f ticks = s := by
  simp only [State.toFifo, h, Bool.false_eq_true, if_false]

variable (s c f)

/-- Whatever becomes of the frame, only its controller and GRD_INT may change. -/
theorem State.toFifo_frame (ticks : Nat) : s.toFifo c f ticks =
    { s with grd := { s.grd with cans := (s.toFifo c f ticks).grd.cans, int := (s.toFifo c f ticks).grd.int } } := by
  unfold State.toFifo
  dsimp only
  split
  · split <;> rfl
  · rfl

theorem State.toFifo_can_ne (ticks : Nat) {o : Fin 2} (h : o ≠ c) : (s.toFifo c f ticks).can o = s.can o := by
  unfold State.toFifo
  dsimp only
  split
  · split
    · exact s.mapCan_can_ne h _
    · exact s.mapCan_can_ne h _
  · rfl

end fifo

/-! ### A frame of class 5 to 7 taken in -/

/-- The device with a frame remembered and forwarded, where it accepts it (R478). -/
def State.passedOn (s : State) (c : Fin 2) (f : Frame) : State :=
  if s.accepts c f then (s.remember f.src f.cls f.seq).forward c f else s

theorem State.takeIn_known {s : State} {f : Frame} (h : s.remembered f.src f.cls f.seq = true) (c : Fin 2) (ticks : Nat) :
    s.takeIn c f ticks = s.mapGrd fun g => { g with dup := satInc 0xFFFFFFFF g.dup } := if_pos h

theorem State.takeIn_queued {s : State} {f : Frame} (h : s.remembered f.src f.cls f.seq = false) (hcls : 5 ≤ f.cls) (c : Fin 2)
    (ticks : Nat) : s.takeIn c f ticks = (s.passedOn c f).toFifo c f ticks :=
  (if_neg (Bool.eq_false_iff.mp h)).trans (if_neg (Nat.not_lt.mpr hcls))

/-- Passing a frame on touches the filter, the other controller and FWD_DROP. -/
structure State.PassedOn (c : Fin 2) (s t : State) : Prop where
  frame : t = { s with grd := { s.grd with cans := t.grd.cans, dups := t.grd.dups, fwdDrop := t.grd.fwdDrop } }
  here : t.can c = s.can c

theorem State.passedOn_passedOn (s : State) (c : Fin 2) (f : Frame) : State.PassedOn c s (s.passedOn c f) := by
  unfold State.passedOn
  split
  · obtain ⟨frame, here⟩ := (s.remember f.src f.cls f.seq).forward_forwarded c f
    refine ⟨?_, here⟩
    rw [frame]
    rfl
  · exact ⟨rfl, rfl⟩

/-- R478: the SEQ of an accepted frame is remembered. -/
theorem State.passedOn_remembered {s : State} {c : Fin 2} {f : Frame} (h : s.accepts c f = true) :
    (s.passedOn c f).remembered f.src f.cls f.seq = true := by
  have forwarded := ((s.remember f.src f.cls f.seq).forward_forwarded c f).frame
  rw [State.passedOn, if_pos h, forwarded]
  exact s.remember_remembered ..

theorem State.passedOn_dropped {s : State} {c : Fin 2} {f : Frame} (h : s.accepts c f = false) : s.passedOn c f = s :=
  if_neg (Bool.eq_false_iff.mp h)

theorem State.toFifo_remembered (s : State) (c : Fin 2) (f : Frame) (ticks : Nat) (src cls seq : Nat) :
    (s.toFifo c f ticks).remembered src cls seq = s.remembered src cls seq := by
  have frame := s.toFifo_frame c f ticks
  exact State.remembered_congr (by rw [frame]) (by rw [frame]) ..

/-- A frame of class 5 to 7 is accepted by a bridge, or where it enters a FIFO. -/
theorem State.accepts_iff {s : State} {c : Fin 2} {f : Frame} (hcls : 5 ≤ f.cls) :
    s.accepts c f = true ↔ s.grd.bridge = true ∨ (s.wants c f = true ∧ (s.can c).rx.length < 32) := by
  simp [State.accepts, Nat.not_lt.mpr hcls]

/-- What becomes of a frame of class 5 to 7 that has not been remembered. -/
structure State.Queued (s : State) (c : Fin 2) (f : Frame) (ticks : Nat) (t : State) : Prop where
  frame : State.GrdOnly s t
  enters : s.wants c f = true → (s.can c).rx.length < 32 →
    (t.can c).rx = (s.can c).rx ++ [⟨f, s.startTs ticks⟩] ∧ t.remembered f.src f.cls f.seq = true
  overruns : s.wants c f = true → 32 ≤ (s.can c).rx.length →
    (t.can c).rx = (s.can c).rx ∧ (t.can c).rxOvr = satInc 0xFF (s.can c).rxOvr ∧ t.grd.int.getLsbD 4 = true
  unwanted : s.wants c f = false → (t.can c).rx = (s.can c).rx ∧ (t.can c).rxOvr = (s.can c).rxOvr
  dropped : s.grd.bridge = false → s.wants c f = false ∨ 32 ≤ (s.can c).rx.length → t.remembered f.src f.cls f.seq = false
  bridged : s.grd.bridge = true → t.remembered f.src f.cls f.seq = true
  forwarded : s.grd.bridge = true → ∀ o : Fin 2, o ≠ c → f.hops < 7 → f.origin ≠ (if c = 0 then s.grd.bseg else s.grd.seg) →
    (s.can o).fwd.length < 64 → (t.can o).fwd = (s.can o).fwd ++ [f.hop]

theorem State.takeIn_queues {s : State} {f : Frame} (hnew : s.remembered f.src f.cls f.seq = false) (hcls : 5 ≤ f.cls) (c : Fin 2)
    (ticks : Nat) : s.Queued c f ticks (s.takeIn c f ticks) := by
  obtain ⟨passed, here⟩ := s.passedOn_passedOn c f
  have accepts := @State.accepts_iff s c f hcls
  have remembered := @State.passedOn_remembered s c f
  have dropped := @State.passedOn_dropped s c f
  have wants : (s.passedOn c f).wants c f = s.wants c f :=
    State.wants_congr (congrArg Can.filters here) (by rw [passed]) f
  have start : (s.passedOn c f).startTs ticks = s.startTs ticks := by rw [passed]; rfl
  rw [State.takeIn_queued hnew hcls]
  refine ⟨?frame, fun hw hroom => ⟨?_, ?_⟩, fun hw hfull => ?overruns, fun hw => ?unwanted, fun hb hnot => ?dropped, fun hb => ?bridged,
    fun hb o hne hhops horigin hroom => ?forwarded⟩
  case frame =>
    rw [State.GrdOnly, State.toFifo_frame, passed]
  · rw [State.toFifo_enters (wants.trans hw) (by rwa [here]), State.mapCan_can_same, here, start]
  · rw [State.toFifo_remembered]
    exact remembered (accepts.mpr (.inr ⟨hw, hroom⟩))
  case overruns =>
    have can : ((s.passedOn c f).toFifo c f ticks).can c = { s.can c with rxOvr := satInc 0xFF (s.can c).rxOvr } := by
      rw [State.toFifo_overruns (wants.trans hw) (by rwa [here]), ← here]
      exact State.mapCan_can_same ..
    refine ⟨by rw [can], by rw [can], ?_⟩
    rw [State.toFifo_overruns (wants.trans hw) (by rwa [here])]
    simp [State.grdInt]
  case unwanted =>
    rw [State.toFifo_unwanted (wants.trans hw), here]
    exact ⟨rfl, rfl⟩
  case dropped =>
    have refuses : s.accepts c f = false := by
      refine Bool.eq_false_iff.mpr fun h => ?_
      obtain h | ⟨hw, hroom⟩ := accepts.mp h
      · exact Bool.false_ne_true (hb.symm.trans h)
      · exact hnot.elim (fun h => Bool.false_ne_true (h.symm.trans hw)) (Nat.not_le.mpr hroom)
    rw [State.toFifo_remembered, dropped refuses, hnew]
  case bridged =>
    rw [State.toFifo_remembered]
    exact remembered (accepts.mpr (.inl hb))
  case forwarded =>
    rw [State.toFifo_can_ne _ _ _ _ hne, State.passedOn, if_pos (accepts.mpr (.inl hb))]
    exact State.forward_queues (s := s.remember f.src f.cls f.seq) hne hb hhops horigin hroom

end Sys2Proof.Machine
end

section
/-! PROOFS. Members, their heartbeats and the Trip state, and a Lodger's commands on Gridis: the statement on received frames (R228,
R464 to R494). -/

namespace Sys2Proof.Machine

/-! ### The Trip state (R486) -/

/-- Gridis with a change of what the Trip state is made of, and GRD_INT.TRIP where the state has changed. -/
theorem State.tripChange_eq (s : State) (f : Grd → Grd) : s.tripChange f = { s with grd := { f s.grd with
    int := if (s.mapGrd f).tripActive = s.tripActive then (f s.grd).int else (f s.grd).int ||| 1 } } := by
  unfold State.tripChange
  dsimp only
  split <;> rfl

theorem State.tripChange_active (s : State) (f : Grd → Grd) : (s.tripChange f).tripActive = (s.mapGrd f).tripActive := by
  rw [State.tripChange_eq]
  rfl

/-- The Trips that stand after a node has raised or cleared its own. -/
def tripsAfter (n : Nat) (on : Bool) (l : List Nat) : List Nat := if on then Marks.add n l else Marks.del n l

theorem mem_tripsAfter {l : List Nat} (h : Marks.wfFrom 0 l = true) (n x : Nat) (on : Bool) :
    x ∈ tripsAfter n on l ↔ if x = n then on = true else x ∈ l := by
  cases on with
  | true =>
    rw [tripsAfter, if_pos rfl, Marks.mem_add]
    by_cases e : x = n <;> simp [e]
  | false =>
    rw [tripsAfter, if_neg Bool.false_ne_true, Marks.mem_del h]
    by_cases e : x = n <;> simp [e]

theorem State.nodeTrip_frame (s : State) (n : Nat) (on : Bool) : s.nodeTrip n on =
    { s with grd := { s.grd with trips := tripsAfter n on s.grd.trips, int := (s.nodeTrip n on).grd.int } } := by
  have change : s.nodeTrip n on = s.tripChange fun g => { g with trips := tripsAfter n on g.trips } := rfl
  rw [change, State.tripChange_eq]

theorem State.nodeTrip_trips (s : State) (n : Nat) (on : Bool) : (s.nodeTrip n on).grd.trips = tripsAfter n on s.grd.trips := by
  rw [State.nodeTrip_frame]

/-- R486: a member's Trip is a Trip of this device. -/
theorem State.nodeTrip_raised (s : State) (n : Nat) : (s.nodeTrip n true).tripActive = true := by
  have member : n ∈ (s.nodeTrip n true).grd.trips := by
    rw [State.nodeTrip_trips, tripsAfter, if_pos rfl, Marks.mem_add]
    exact .inl rfl
  have some : (s.nodeTrip n true).grd.trips.isEmpty = false :=
    List.isEmpty_eq_false_iff.mpr (List.ne_nil_of_mem member)
  simp [State.tripActive, some]

/-- A change of the Trip state, and only that, sets GRD_INT.TRIP. -/
theorem State.nodeTrip_int (s : State) (n : Nat) (on : Bool) : (s.nodeTrip n on).grd.int =
    if (s.nodeTrip n on).tripActive = s.tripActive then s.grd.int else s.grd.int ||| 1 := by
  have change : s.nodeTrip n on = s.tripChange fun g => { g with trips := tripsAfter n on g.trips } := rfl
  rw [change, State.tripChange_active, State.tripChange_eq]

/-- Flags of GRD_INT that stand stay. -/
theorem State.nodeTrip_keepsFlag {s : State} {i : Nat} (h : s.grd.int.getLsbD i = true) (n : Nat) (on : Bool) :
    (s.nodeTrip n on).grd.int.getLsbD i = true := by
  rw [State.nodeTrip_int]
  split
  · exact h
  · simp [h]

theorem exec_tripFrame {s : State} (h : s.grouped = true) (src : Nat) (raise : Bool) :
    exec (.tripFrame src raise) s = .next (s.nodeTrip src raise) := congrArg Host.Outcome.next (State.onFrame_grouped h _)

/-! ### Presence (R228, R482) -/

/-- A member inserted is the one found, by any test that only entries of its node pass. -/
theorem find_insertMember {p : Member → Bool} {m : Member} (hm : p m = true) (hp : ∀ x, p x = true → x.node = m.node)
    (l : List Member) : (insertMember m l).find? p = some m := by
  induction l with
  | nil => simp [insertMember, hm]
  | cons x l ih =>
    unfold insertMember
    split
    · exact List.find?_cons_of_pos hm
    · split
      · exact List.find?_cons_of_pos hm
      next hne => rw [List.find?_cons_of_neg fun hx => hne (hp x hx).symm, ih]

theorem State.member?_congr {s t : State} (h : t.grd.members = s.grd.members) (n : Nat) : t.member? n = s.member? n := by
  rw [State.member?, h]
  rfl

/-- R228: a heartbeat has arrived within the last 300 ms. -/
def Member.fresh (m : Member) (now : Nat) : Bool :=
  match m.heardAt with
  | some t => decide (now ≤ t + 300000)
  | none => false

theorem State.freshBeat_eq (s : State) (n : Nat) :
    s.freshBeat n = s.grd.latest.find? fun m => decide (m.node = n) && m.fresh s.now := rfl

theorem State.freshBeat_congr {s t : State} (h : t.grd.latest = s.grd.latest) (hnow : t.now = s.now) (n : Nat) :
    t.freshBeat n = s.freshBeat n := by
  rw [State.freshBeat_eq, State.freshBeat_eq, h, hnow]

/-- A heartbeat's entry, as a member and as the latest beat of its node. -/
def State.beatTaken (s : State) (m : Member) : State :=
  let u := s.mapGrd fun g =>
    { g with members := insertMember m g.members, latest := insertMember { m with heardAt := some s.now } g.latest }
  if (s.member? m.node).isSome then u else u.grdInt 1

theorem State.beatTaken_frame (s : State) (m : Member) : s.beatTaken m = { s with grd := { s.grd with
    members := insertMember m s.grd.members, latest := insertMember { m with heardAt := some s.now } s.grd.latest
    int := if (s.member? m.node).isSome then s.grd.int else s.grd.int ||| 2 } } := by
  unfold State.beatTaken
  dsimp only
  split <;> rfl

/-- The heartbeat of another node, in a device that is not IN the group. -/
theorem State.onHeartbeat_eq {s : State} {m : Member} (hother : m.node ≠ s.grd.node) (hout : s.isIn = false) :
    s.onHeartbeat m = (s.beatTaken m).nodeTrip m.node (m.flags % 2 = 1) := by
  have out : ((s.beatTaken m).nodeTrip m.node (m.flags % 2 = 1)).isIn = false := by
    have group : ((s.beatTaken m).nodeTrip m.node (m.flags % 2 = 1)).grp = s.grp := by
      rw [State.nodeTrip_frame, State.beatTaken_frame]
    rw [State.isIn, group]
    exact hout
  have unfolded : s.onHeartbeat m = if m.node = s.grd.node then s else
      if ((s.beatTaken m).nodeTrip m.node (m.flags % 2 = 1)).isIn &&
        ((s.beatTaken m).nodeTrip m.node (m.flags % 2 = 1)).nodeApart m.node
      then ((s.beatTaken m).nodeTrip m.node (m.flags % 2 = 1)).applyApart m.node
      else (s.beatTaken m).nodeTrip m.node (m.flags % 2 = 1) := rfl
  rw [unfolded, if_neg hother, out]
  rfl

theorem State.beatTaken_newMember {s : State} {m : Member} (h : s.member? m.node = none) :
    (s.beatTaken m).grd.int.getLsbD 1 = true := by
  rw [State.beatTaken_frame]
  simp [h]

/-- R482: what the heartbeat of another node leaves. -/
structure State.Beats (s : State) (m : Member) (t : State) : Prop where
  member : t.member? m.node = some m
  beat : t.freshBeat m.node = some { m with heardAt := some s.now }
  announced : s.member? m.node = none → t.grd.int.getLsbD 1 = true
  trip : m.flags % 2 = 1 → t.tripActive = true
  cans : t.grd.cans = s.grd.cans
  frame : State.GrdOnly s t

theorem State.onHeartbeat_beats {s : State} {m : Member} (hother : m.node ≠ s.grd.node) (hout : s.isIn = false) :
    s.Beats m (s.onHeartbeat m) := by
  have taken := s.beatTaken_frame m
  have trip := (s.beatTaken m).nodeTrip_frame m.node (m.flags % 2 = 1)
  rw [State.onHeartbeat_eq hother hout]
  refine ⟨?_, ?_, fun h => State.nodeTrip_keepsFlag (State.beatTaken_newMember h) .., fun h => ?_, ?_, ?_⟩
  · rw [State.member?, trip, taken]
    exact find_insertMember (by simp) (fun x hx => of_decide_eq_true hx) _
  · rw [State.freshBeat_eq, trip, taken]
    refine find_insertMember (m := { m with heardAt := some s.now }) (by simp [Member.fresh]) (fun x hx => ?_) _
    exact of_decide_eq_true ((Bool.and_eq_true _ _).mp hx).1
  · rw [decide_eq_true h]
    exact State.nodeTrip_raised ..
  · rw [trip, taken]
  · rw [State.GrdOnly, trip, taken]

/-- R482: a node that is gone. -/
def State.memberDropped (s : State) (n : Nat) : State :=
  (s.mapGrd fun g => { g with members := g.members.filter fun m => decide (m.node ≠ n) }).grdInt 1

theorem State.nodeGone_present {s : State} {n : Nat} (h : (s.member? n).isSome = true) : s.nodeGone n = s.memberDropped n := if_pos h

theorem State.nodeGone_absent {s : State} {n : Nat} (h : s.member? n = none) : s.nodeGone n = s := if_neg (by simp [h])

theorem State.memberDropped_member? (s : State) (n m : Nat) :
    (s.memberDropped n).member? m = if m = n then none else s.member? m := by
  have dropped : (s.memberDropped n).member? m =
      (s.grd.members.filter fun x => decide (x.node ≠ n)).find? fun x => decide (x.node = m) := rfl
  rw [dropped, List.find?_filter]
  split
  next h => simp [h]
  next h =>
    refine congrArg (List.find? · _) (funext fun x => ?_)
    by_cases hx : x.node = m <;> simp [hx, h]

/-- R482, R486: who goes is a member no more; the others are, and Trips stand. -/
theorem State.nodeGone_leaves {s : State} {n : Nat} (h : (s.member? n).isSome = true) : (s.nodeGone n).member? n = none ∧
    (∀ m, m ≠ n → (s.nodeGone n).member? m = s.member? m) ∧ (s.nodeGone n).grd.int = s.grd.int ||| 2 ∧
    (s.nodeGone n).grd.trips = s.grd.trips ∧ State.GrdOnly s (s.nodeGone n) := by
  rw [State.nodeGone_present h]
  exact ⟨(s.memberDropped_member? n n).trans (if_pos rfl), fun m hm => (s.memberDropped_member? n m).trans (if_neg hm), rfl, rfl, rfl⟩

theorem State.nodeGone_keepsBeats (s : State) (n : Nat) : (s.nodeGone n).grd.latest = s.grd.latest ∧ (s.nodeGone n).now = s.now := by
  unfold State.nodeGone
  split <;> exact ⟨rfl, rfl⟩

/-- R228: 300 ms have passed without a heartbeat of a node. -/
def Member.lapsed (n : Nat) (m : Member) : Member := if m.node = n then { m with heardAt := none } else m

def State.beatLapsed (s : State) (n : Nat) : State := s.mapGrd fun g => { g with latest := g.latest.map (Member.lapsed n) }

theorem Member.lapsed_node (n : Nat) (m : Member) : (m.lapsed n).node = m.node := by
  unfold Member.lapsed
  split <;> rfl

theorem Member.lapsed_same {n : Nat} {m : Member} (h : m.node = n) : m.lapsed n = { m with heardAt := none } := if_pos h

theorem Member.lapsed_other {n : Nat} {m : Member} (h : m.node ≠ n) : m.lapsed n = m := if_neg h

theorem State.beatLapsed_freshBeat (s : State) (n : Nat) : (s.beatLapsed n).freshBeat n = none := by
  have stale (x : Member) : (decide ((x.lapsed n).node = n) && (x.lapsed n).fresh s.now) = false := by
    by_cases h : x.node = n
    · simp [Member.lapsed_same h, Member.fresh]
    · simp [Member.lapsed_node, h]
  rw [State.freshBeat_eq, List.find?_eq_none]
  intro y hy
  obtain ⟨x, -, rfl⟩ := List.mem_map.mp hy
  exact Bool.eq_false_iff.mp (stale x)

/-- The heartbeats of the other nodes are as they were. -/
theorem State.beatLapsed_freshBeat_ne (s : State) {n m : Nat} (hne : m ≠ n) : (s.beatLapsed n).freshBeat m = s.freshBeat m := by
  have tested (x : Member) : (decide ((x.lapsed n).node = m) && (x.lapsed n).fresh s.now) =
      (decide (x.node = m) && x.fresh s.now) := by
    by_cases h : x.node = n
    · simp [Member.lapsed_node, h, hne.symm]
    · rw [Member.lapsed_other h]
  have lapsed : (s.beatLapsed n).freshBeat m = (s.freshBeat m).map (Member.lapsed n) := by
    rw [State.freshBeat_eq, State.freshBeat_eq]
    refine (List.find?_map ..).trans (congrArg (Option.map (Member.lapsed n)) ?_)
    exact congrArg (List.find? · s.grd.latest) (funext tested)
  rw [lapsed]
  cases hfound : s.freshBeat m with
  | none => rfl
  | some x =>
    rw [State.freshBeat_eq] at hfound
    have node := List.find?_some hfound
    simp only [Bool.and_eq_true, decide_eq_true_eq] at node
    exact congrArg some (Member.lapsed_other (node.1 ▸ hne))

theorem exec_nodeAbsent {s : State} (h : s.grouped = true) (n : Nat) :
    exec (.nodeAbsent n) s = .next ((s.beatLapsed n).nodeGone n) := by
  obtain ⟨hawake, hstarted⟩ := (Bool.and_eq_true _ _).mp h
  exact congrArg Host.Outcome.next (if_pos ((Bool.and_eq_true _ _).mpr ⟨State.live_of_awake hawake, hstarted⟩))

theorem exec_leaving {s : State} (h : s.grouped = true) (n : Nat) : exec (.leaving n) s = .next (s.nodeGone n) :=
  congrArg Host.Outcome.next (State.onFrame_grouped h _)

theorem exec_heartbeat {s : State} (h : s.grouped = true) (src origin digest version tj flags : Nat) :
    exec (.heartbeat src origin digest version tj flags) s = .next (s.onHeartbeat
      { node := src, origin := origin, digest := digest, version := version, tj := signed 16 tj, flags := flags }) :=
  congrArg Host.Outcome.next (State.onFrame_grouped h _)

/-! ### A throttle notice (R478, R484) -/

theorem exec_throttleNotice {s : State} (h : s.grouped = true) (src seq : Nat) :
    exec (.throttleNotice src seq) s = .next (s.dedup src 3 seq id) := congrArg Host.Outcome.next (State.onFrame_grouped h _)

theorem State.dedup_known {s : State} {src cls seq : Nat} (h : s.remembered src cls seq = true) (go : State → State) :
    s.dedup src cls seq go = s.mapGrd fun g => { g with dup := satInc 0xFFFFFFFF g.dup } := if_pos h

theorem State.dedup_new {s : State} {src cls seq : Nat} (h : s.remembered src cls seq = false) (go : State → State) :
    s.dedup src cls seq go = go (s.remember src cls seq) := if_neg (Bool.eq_false_iff.mp h)

/-! ### The own Trip (R485, R487) -/

section commands
variable {s : State} {n : Fin 4} {user : Bool} (h : s.may n user .store 0x40060014)
include h

theorem exec_tripRaise (reason : BitVec 16) :
    exec (.tripRaise n user reason) s = .next ((s.answer 0).tripRaise reason.toNat) :=
  congrArg Host.Outcome.next (State.access_lodger h _)

theorem exec_tripClear : exec (.tripClear n user) s = .next (s.answer 0).tripClear :=
  congrArg Host.Outcome.next (State.access_lodger h _)

theorem exec_tripForget (node : Byte) : exec (.tripForget n user node) s = .next ((s.answer 0).tripForget node.toNat) :=
  congrArg Host.Outcome.next (State.access_lodger h _)

end commands

theorem State.enqueue_room {s : State} {c : Fin 2} (h : (s.can c).tx.length < 32) (t : TxFrame) :
    s.enqueue c t = s.mapCan c fun k => { k with tx := k.tx ++ [t] } := by
  have room : (vget s.grd.cans c).tx.length < 32 := h
  simp only [State.enqueue, State.mapCan, State.mapGrd, vmod, room, if_true]

/-- A message on both controllers stands in a buffer of each, under the next SEQ of its class. -/
theorem State.sendOn_both {s : State} (h : ∀ c, (s.can c).tx.length < 32) (cls : Fin 8) (field : Nat) (dest : Option Nat)
    (data : List Byte) : (∀ c, ((s.sendOn [0, 1] cls field dest data false).can c).tx =
        (s.can c).tx ++ [{ frame := s.mkFrame cls.val field (vget s.grd.seqs cls) false dest data }]) ∧
      s.sendOn [0, 1] cls field dest data false = { s with grd := { s.grd with
        seqs := (s.sendOn [0, 1] cls field dest data false).grd.seqs, cans := (s.sendOn [0, 1] cls field dest data false).grd.cans } } := by
  have sent : s.sendOn [0, 1] cls field dest data false = ((s.nextSeqOf cls).2.enqueue 0
      { frame := s.mkFrame cls.val field (vget s.grd.seqs cls) false dest data }).enqueue 1
      { frame := s.mkFrame cls.val field (vget s.grd.seqs cls) false dest data } := rfl
  generalize ({ frame := s.mkFrame cls.val field (vget s.grd.seqs cls) false dest data } : TxFrame) = x at sent ⊢
  have first := State.enqueue_room (s := (s.nextSeqOf cls).2) (c := 0) (h 0) x
  have second := State.enqueue_room (s := (s.nextSeqOf cls).2.enqueue 0 x) (c := 1)
    (by rw [first, State.mapCan_can_ne _ (by decide)]; exact h 1) x
  rw [sent, second, first]
  refine ⟨Fin.forall_fin_two.mpr ⟨?_, ?_⟩, rfl⟩
  · rw [State.mapCan_can_ne _ (by decide), State.mapCan_can_same]
    rfl
  · rw [State.mapCan_can_same, State.mapCan_can_ne _ (by decide)]
    rfl

/-- The own Trip with its REASON; TRIP_IO backs it up while a controller is lost (R487). -/
def State.ownRaised (s : State) (reason : Nat) : State := s.tripChange fun g => { g with
  reason := reason, ownTrip := true, backup := (g.ownTrip && g.backup) || ((s.can 0).downForTrip || (s.can 1).downForTrip) }

theorem State.ownRaised_frame (s : State) (reason : Nat) : s.ownRaised reason = { s with grd := { s.grd with
    reason := reason, ownTrip := true, int := (s.ownRaised reason).grd.int
    backup := (s.grd.ownTrip && s.grd.backup) || ((s.can 0).downForTrip || (s.can 1).downForTrip) } } := by
  unfold State.ownRaised
  rw [State.tripChange_eq]

theorem State.tripRaise_eq {s : State} {reason : Nat} (h : reason ≠ 0) :
    s.tripRaise reason = (s.ownRaised reason).sendOn [0, 1] 0 0 none (leBytes 2 reason) false := if_neg h

def State.ownCleared (s : State) : State := s.tripChange fun g => { g with ownTrip := false, backup := false }

theorem State.ownCleared_frame (s : State) : s.ownCleared =
    { s with grd := { s.grd with ownTrip := false, backup := false, int := s.ownCleared.grd.int } } := by
  unfold State.ownCleared
  rw [State.tripChange_eq]

theorem State.tripClear_eq {s : State} (h : s.grd.ownTrip = true) :
    s.tripClear = s.ownCleared.sendOn [0, 1] 0 (2 ^ 16) none (leBytes 2 s.grd.reason) false := if_pos h

/-- A Trip frame goes out on both controllers after the own Trip has changed. -/
theorem State.sendOn_ownTrip {s u : State} (hroom : ∀ c, (s.can c).tx.length < 32) (hu : u = { s with grd := { s.grd with
      reason := u.grd.reason, ownTrip := u.grd.ownTrip, backup := u.grd.backup, int := u.grd.int } }) (field : Nat) (data : List Byte) :
    (∀ c, ((u.sendOn [0, 1] 0 field none data false).can c).tx =
        (s.can c).tx ++ [{ frame := s.mkFrame 0 field (vget s.grd.seqs 0) false none data }]) ∧
      u.sendOn [0, 1] 0 field none data false = { u with grd := { u.grd with
        seqs := (u.sendOn [0, 1] 0 field none data false).grd.seqs, cans := (u.sendOn [0, 1] 0 field none data false).grd.cans } } := by
  have cans (c : Fin 2) : u.can c = s.can c := by
    rw [hu]
    rfl
  have frame : u.mkFrame 0 field (vget u.grd.seqs 0) false none data = s.mkFrame 0 field (vget s.grd.seqs 0) false none data := by
    rw [hu]
    rfl
  obtain ⟨tx, sent⟩ := State.sendOn_both (s := u) (fun c => by rw [cans]; exact hroom c) 0 field none data
  refine ⟨fun c => (tx c).trans ?_, sent⟩
  rw [cans]
  exact congrArg (fun x => (s.can c).tx ++ [{ frame := x }]) frame

/-- R485, R487: what a raise leaves. -/
theorem State.tripRaise_raises {s : State} {reason : Nat} (hreason : reason ≠ 0) (hroom : ∀ c, (s.can c).tx.length < 32) :
    (s.tripRaise reason).grd.ownTrip = true ∧ (s.tripRaise reason).grd.reason = reason ∧
      (∀ c, ((s.tripRaise reason).can c).tx =
        (s.can c).tx ++ [{ frame := s.mkFrame 0 0 (vget s.grd.seqs 0) false none (leBytes 2 reason) }]) ∧
      ((∃ c, (s.can c).st = .busoff ∨ (s.can c).st = .off) → (s.tripRaise reason).tripPull = true) ∧
      State.GrdOnly s (s.tripRaise reason) := by
  have raised := s.ownRaised_frame reason
  obtain ⟨tx, sent⟩ := State.sendOn_ownTrip (u := s.ownRaised reason) hroom (by rw [raised]) 0 (leBytes 2 reason)
  rw [State.tripRaise_eq hreason]
  refine ⟨?_, ?_, tx, fun hlost => ?_, ?_⟩
  · rw [sent, raised]
  · rw [sent, raised]
  · have down : ((s.can 0).downForTrip || (s.can 1).downForTrip) = true := by
      rw [Bool.or_eq_true, Can.downForTrip_iff, Can.downForTrip_iff]
      exact Fin.exists_fin_two.mp hlost
    rw [State.tripPull, sent, raised]
    simp [down]
  · rw [State.GrdOnly, sent, raised]

/-- R485: what a clear leaves. -/
theorem State.tripClear_clears {s : State} (hown : s.grd.ownTrip = true) (hroom : ∀ c, (s.can c).tx.length < 32) :
    s.tripClear.grd.ownTrip = false ∧
      (∀ c, (s.tripClear.can c).tx =
        (s.can c).tx ++ [{ frame := s.mkFrame 0 (2 ^ 16) (vget s.grd.seqs 0) false none (leBytes 2 s.grd.reason) }]) ∧
      State.GrdOnly s s.tripClear := by
  have cleared := s.ownCleared_frame
  obtain ⟨tx, sent⟩ := State.sendOn_ownTrip (u := s.ownCleared) hroom (by rw [cleared]) (2 ^ 16) (leBytes 2 s.grd.reason)
  rw [State.tripClear_eq hown]
  refine ⟨?_, tx, ?_⟩
  · rw [sent, cleared]
  · rw [State.GrdOnly, sent, cleared]

/-- The own Trip makes Trip active, and without it TRIP_IO is not pulled. -/
theorem State.tripActive_own {s : State} (h : s.grd.ownTrip = true) : s.tripActive = true := by simp [State.tripActive, h]

theorem State.tripPull_none {s : State} (h : s.grd.ownTrip = false) : s.tripPull = false := by simp [State.tripPull, h]

/-! ### RX_FIFO_POP (R494) -/

theorem exec_rxFifoPop {s : State} {n : Fin 4} {user : Bool} {c : Fin 2} (h : s.may n user .load (0x40060444 + c.val * 0x100))
    (refused : Nat) : exec (.rxFifoPop n user c refused) s =
      .next (((s.granted refused).rxPop c).answer ((s.granted refused).rxRead c 0x44)) :=
  congrArg Host.Outcome.next (State.arbitrated_lodger h refused _)

theorem State.granted_can (s : State) (refused : Nat) (c : Fin 2) : (s.granted refused).can c = s.can c := by
  rw [State.granted_eq]
  rfl

theorem State.rxPop_can (s : State) (c : Fin 2) : (s.rxPop c).can c = { s.can c with rx := (s.can c).rx.drop 1 } :=
  s.mapCan_can_same c _

/-- W17 of an empty FIFO reads zero. -/
theorem State.rxRead_empty {s : State} {c : Fin 2} (h : (s.can c).rx = []) : s.rxRead c 0x44 = 0 := by
  simp [State.rxRead, h]

/-! ### The statement -/

/-- Settles O47: `receive_foreign` and `receive_own` say what the checks make of a frame, `takeIn_queues` what becomes of one of class
5 to 7, `nodeTrip_int` when the Trip state changes, and `sendOn_both` what the own Trip sends. -/
theorem gridisReceiving : Obligations.GridisReceiving := by
  unfold Obligations.GridisReceiving
  refine ⟨?frames, fun k => ⟨Can.heard_rxErr_low, Can.heard_rxErr_high, rfl, k.heard_eq⟩, ?pop, ?heartbeat, ?gone, ?trips, ?own, ?line⟩
  case frames =>
    intro s c f ticks hg hr rx h
    have only : State.CansOnly s h := s.canHears_cansOnly c
    have queues : Can.SameQueues (s.can c) (h.can c) := s.canHears_can c
    have others : ∀ o, o ≠ c → h.can o = s.can o := fun o => s.canHears_can_ne
    have std : exec (rx true) s = .next (h.mapGrd fun g => { g with std := satInc 0xFF g.std }) :=
      congrArg Host.Outcome.next (State.receive_std hg hr f ticks)
    have foreign (hsrc : f.src ≠ s.grd.node) : exec (rx false) s = .next (
        if f.lenOk = false then h.mapGrd fun g => { g with lenErr := satInc 0xFF g.lenErr }
        else if f.kindOk = false then h.mapGrd fun g => { g with kindErr := satInc 0xFF g.kindErr } else h.takeIn c f ticks) :=
      congrArg Host.Outcome.next (State.receive_foreign hg hr hsrc ticks)
    have own (hsrc : f.src = s.grd.node) : exec (rx false) s = .next ((h.clashed c).mapGrd fun g => { g with
        lenErr := if f.lenOk then g.lenErr else satInc 0xFF g.lenErr
        kindErr := if f.lenOk && !f.kindOk then satInc 0xFF g.kindErr else g.kindErr }) :=
      congrArg Host.Outcome.next (State.receive_own hg hr hsrc ticks)
    clear_value h rx
    have grd := only.grd
    have counters : h.grd.std = s.grd.std ∧ h.grd.lenErr = s.grd.lenErr ∧ h.grd.kindErr = s.grd.kindErr ∧ h.grd.dup = s.grd.dup := by
      rw [grd]
      exact ⟨rfl, rfl, rfl, rfl⟩
    obtain ⟨stdKept, lenKept, kindKept, dupKept⟩ := counters
    refine ⟨?_, fun hsrc hlen => ?_, fun hsrc hlen hkind => ?_, fun hsrc => ?_, fun hlen hkind hsrc => ?_⟩
    · rw [std, ← stdKept]
      rfl
    · rw [foreign hsrc, if_pos hlen, ← lenKept]
      rfl
    · rw [foreign hsrc, if_neg (by simp [hlen]), if_pos hkind, ← kindKept]
      rfl
    · have clashed := h.clashed_frame c
      have logged := h.clashed_logs c
      rw [own hsrc, ← lenKept, ← kindKept]
      refine ⟨_, rfl, ?_, logged, ?_⟩
      · rw [State.mapGrd_grd, clashed]
      · rw [clashed]
        rfl
    · intro passes
      have taken : exec (rx false) s = .next (h.takeIn c f ticks) := by
        rw [foreign hsrc, if_neg (by simp [hlen]), if_neg (by simp [hkind])]
      have known : h.remembered f.src f.cls f.seq = s.remembered f.src f.cls f.seq :=
        State.remembered_congr (by rw [grd]) (by rw [only]) ..
      have wants : h.wants c f = true ↔ passes := by
        rw [State.wants_congr queues.filters (by rw [grd]), State.wants_iff]
      have unwanted : h.wants c f = false ↔ ¬ passes := by rw [← wants, Bool.not_eq_true]
      have start : h.startTs ticks = (s.grd.clock + 2 ^ 32 - ticks % 2 ^ 32) % 2 ^ 32 := by
        rw [State.startTs, grd]
      have bridge : h.grd.bridge = s.grd.bridge := by rw [grd]
      have segments : (if c = 0 then h.grd.bseg else h.grd.seg) = if c = 0 then s.grd.bseg else s.grd.seg := by rw [grd]
      refine ⟨fun hknown => ?_, fun hnew hcls => ?_⟩
      · rw [taken, State.takeIn_known (known.trans hknown), ← dupKept]
        rfl
      · obtain ⟨frame, enters, overruns, keeps, dropped, bridged, forwarded⟩ := State.takeIn_queues (known.trans hnew) hcls c ticks
        rw [queues.rx, start] at enters
        rw [queues.rx, queues.rxOvr] at overruns keeps
        rw [queues.rx] at dropped
        rw [bridge] at dropped bridged forwarded
        rw [segments] at forwarded
        refine ⟨_, taken, frame, fun hp => enters (wants.mpr hp), fun hp => overruns (wants.mpr hp), fun hp => keeps (unwanted.mpr hp),
          fun hb hnot => dropped hb (hnot.imp_left unwanted.mpr), fun hb => ⟨bridged hb, fun o hne hhops horigin hroom => ?_⟩⟩
        have there := forwarded hb o hne hhops horigin
        rw [others o hne] at there
        exact there hroom
  case pop =>
    intro s n user c refused hmay
    refine ⟨_, exec_rxFifoPop hmay refused, rfl, ?_, fun d hd => ?_, fun hempty => ?_, rfl⟩
    · rw [← s.granted_can refused c]
      exact congrArg Can.rx ((s.granted refused).rxPop_can c)
    · exact (State.mapCan_can_ne _ hd _).trans (s.granted_can refused d)
    · exact State.rxRead_empty ((congrArg Can.rx (s.granted_can refused c)).trans hempty)
  case heartbeat =>
    intro s src origin digest version tj flags hg hother hout
    obtain ⟨member, beat, announced, trip, cans, frame⟩ := State.onHeartbeat_beats
      (m := { node := src, origin := origin, digest := digest, version := version, tj := signed 16 tj, flags := flags }) hother hout
    exact ⟨_, exec_heartbeat hg .., member, beat, announced, trip, cans, frame⟩
  case gone =>
    intro s node seq hg
    refine ⟨?members, ?leaving, ?absent, ?notice⟩
    case members =>
      intro i hi
      obtain ⟨u, hu, step⟩ : ∃ u : State, u = { s with grd := { s.grd with latest := u.grd.latest } } ∧
          exec i s = .next (u.nodeGone node) := by
        obtain rfl | rfl := hi
        · exact ⟨s.beatLapsed node, rfl, exec_nodeAbsent hg node⟩
        · exact ⟨s, rfl, exec_leaving hg node⟩
      have members : u.member? = s.member? := funext (State.member?_congr (by rw [hu]))
      refine ⟨fun hpresent => ?_, fun habsent => ?_⟩
      · obtain ⟨gone, others, int, trips, frame⟩ := State.nodeGone_leaves (s := u) (n := node) (by rwa [members])
        rw [members] at others
        exact ⟨_, step, gone, others, int.trans (by rw [hu]), trips.trans (by rw [hu]),
          State.GrdOnly.trans (by rw [State.GrdOnly, hu]) frame⟩
      · rw [step, State.nodeGone_absent (by rwa [members])]
        exact ⟨u, rfl, hu⟩
    case leaving =>
      obtain ⟨latest, now⟩ := s.nodeGone_keepsBeats node
      exact ⟨_, exec_leaving hg node, latest, State.freshBeat_congr latest now⟩
    case absent =>
      obtain ⟨latest, now⟩ := (s.beatLapsed node).nodeGone_keepsBeats node
      have kept := State.freshBeat_congr latest now
      exact ⟨_, exec_nodeAbsent hg node, (kept node).trans (s.beatLapsed_freshBeat node),
        fun m hm => (kept m).trans (s.beatLapsed_freshBeat_ne hm)⟩
    case notice =>
      cases hknown : s.remembered node 3 seq with
      | true =>
        refine ⟨_, (exec_throttleNotice hg ..).trans (congrArg Host.Outcome.next (State.dedup_known hknown _)),
          hknown, fun _ => rfl, rfl, rfl⟩
      | false =>
        refine ⟨_, (exec_throttleNotice hg ..).trans (congrArg Host.Outcome.next (State.dedup_new hknown _)),
          s.remember_remembered .., fun h => absurd h Bool.false_ne_true, rfl, rfl⟩
  case trips =>
    intro s src hg hwf
    refine ⟨fun raise => ?_, fun n user node hmay => ⟨fun hpresent => ?_, fun habsent => ?_⟩⟩
    · have int := s.nodeTrip_int src raise
      have frame := s.nodeTrip_frame src raise
      refine ⟨_, exec_tripFrame hg .., fun x => ?_, ?_, fun hne => int.trans (if_neg hne), fun heq => int.trans (if_pos heq), ?_, ?_⟩
      · rw [State.nodeTrip_trips, mem_tripsAfter hwf]
      · rintro rfl
        exact s.nodeTrip_raised src
      · rw [frame]
      · rw [State.nodeTrip_frame]
    · exact (exec_tripForget hmay node).trans (congrArg Host.Outcome.next (if_pos hpresent))
    · have forgets : (s.answer 0).tripForget node.toNat = (s.answer 0).nodeTrip node.toNat false :=
        if_neg (Bool.eq_false_iff.mp habsent)
      refine ⟨_, (exec_tripForget hmay node).trans (congrArg Host.Outcome.next forgets), fun x => ?_, ?_⟩
      · have member := mem_tripsAfter hwf node.toNat x false
        rw [State.nodeTrip_trips]
        refine member.trans ?_
        by_cases e : x = node.toNat <;> simp [e]
      · rw [State.nodeTrip_frame]
        rfl
  case own =>
    intro s n user hmay
    refine ⟨fun reason hreason hroom => ?_, fun hown => ?_, fun hown hroom => ?_⟩
    · have nonzero : reason.toNat ≠ 0 := fun e => hreason (BitVec.eq_of_toNat_eq e)
      obtain ⟨own, kept, tx, pulls, frame⟩ := State.tripRaise_raises (s := s.answer 0) nonzero hroom
      exact ⟨_, exec_tripRaise hmay reason, own, State.tripActive_own own, kept, by rw [frame]; rfl, tx, pulls, frame⟩
    · exact (exec_tripClear hmay).trans (congrArg Host.Outcome.next (if_neg (Bool.eq_false_iff.mp hown)))
    · obtain ⟨own, tx, frame⟩ := State.tripClear_clears (s := s.answer 0) hown hroom
      exact ⟨_, exec_tripClear hmay, own, State.tripPull_none own, tx, frame⟩
  case line =>
    intro s low hawake
    have change : exec (.tripLineChange low) s = .next (s.tripChange fun g => { g with line := low }) :=
      congrArg Host.Outcome.next (if_pos hawake)
    refine ⟨_, change, ?_, ?_, ?_⟩
    · rw [State.tripChange_eq]
    · rintro rfl
      rw [State.tripChange_active]
      exact Bool.or_true _
    · rw [State.tripChange_eq]

end Sys2Proof.Machine
end

section
/-! PROOFS. Universal inputs: a conversion and its visit, the swap of the result block and its hold, and a change of type (R236 to R251). -/

namespace Sys2Proof.Machine

/-! ### Flags that are newly set (R247) -/

/-- Only the sense block may have changed. -/
def State.SnsOnly (s t : State) : Prop := t = { s with sns := t.sns }

theorem State.SnsOnly.trans {s t u : State} (h : State.SnsOnly s t) (h' : State.SnsOnly t u) : State.SnsOnly s u := by
  rw [State.SnsOnly] at *
  rw [h', h]

/-- Of the universal inputs only the counters of flags may have changed, and beside them SNS_INT. -/
def State.FlagsOnly (s t : State) : Prop :=
  t = { s with sns := { s.sns with uis := t.sns.uis, int := t.sns.int } } ∧ ∀ m, ∃ c, t.ui m = { s.ui m with fltCnt := c }

theorem State.FlagsOnly.snsOnly {s t : State} (h : State.FlagsOnly s t) : State.SnsOnly s t := by
  obtain ⟨frame, -⟩ := h
  rw [State.SnsOnly, frame]

theorem State.FlagsOnly.refl (s : State) : State.FlagsOnly s s := ⟨rfl, fun _ => ⟨_, rfl⟩⟩

theorem State.FlagsOnly.trans {s t u : State} (h : State.FlagsOnly s t) (h' : State.FlagsOnly t u) : State.FlagsOnly s u := by
  obtain ⟨frame, counted⟩ := h
  obtain ⟨frame', counted'⟩ := h'
  refine ⟨by rw [frame', frame], fun m => ?_⟩
  obtain ⟨c, hc⟩ := counted m
  obtain ⟨c', hc'⟩ := counted' m
  exact ⟨c', by rw [hc', hc]⟩

@[simp] theorem State.mapUi_ui_same (s : State) (n : Fin 16) (f : UiIn → UiIn) : (s.mapUi n f).ui n = f (s.ui n) :=
  vget_vmod_same ..

theorem State.mapUi_ui_ne (s : State) {n m : Fin 16} (h : m ≠ n) (f : UiIn → UiIn) : (s.mapUi n f).ui m = s.ui m :=
  vget_vmod_ne _ _ _ _ h

theorem State.flagged_ui_ne (s : State) {n m : Fin 16} (h : m ≠ n) (k : Nat) : (s.flagged n k).ui m = s.ui m := by
  unfold State.flagged
  split
  · rfl
  · exact s.mapUi_ui_ne h _

theorem State.flagged_flagsOnly (s : State) (n : Fin 16) (k : Nat) : State.FlagsOnly s (s.flagged n k) := by
  constructor
  · unfold State.flagged
    split <;> rfl
  · intro m
    by_cases h : m = n
    · subst h
      unfold State.flagged
      split
      · exact ⟨_, rfl⟩
      · exact ⟨_, s.mapUi_ui_same m _⟩
    · exact ⟨_, s.flagged_ui_ne h k⟩

/-! ### Conversions (R236, R237, R245, R246) -/

/-- R237: what comes next on a converter. -/
theorem State.converts_visit {s : State} {n : Fin 16} (h : s.converts n = true) :
    (s.ui n).type ≠ 0 ∧ ∀ k, converterOf k = converterOf n → k < n → s.sns.visited k = true := by
  simp only [State.converts, Sns.nextVisit, Bool.and_eq_true, decide_eq_true_eq, List.all_eq_true, Bool.or_eq_true] at h
  obtain ⟨⟨⟨-, on⟩, before⟩, -⟩ := h
  refine ⟨on, fun k same lower => (before k (List.mem_finRange k)).resolve_right ?_⟩
  rintro (other | higher)
  · exact other same
  · exact absurd lower (not_lt.mpr higher)

/-- The visit of an input ends: SEQ counts, and the converter moves on. -/
def State.visitMade (s : State) (n : Fin 16) : State :=
  (s.mapUi n fun u => { u with seq := (u.seq + 1) % 65536 }).mapSns fun b => { b with
    visit := vset b.visit (converterOf n) (n.val % 8 + 1), finishing := vset b.finishing (converterOf n) false }

theorem State.visitMade_ui_same (s : State) (n : Fin 16) :
    (s.visitMade n).ui n = { s.ui n with seq := ((s.ui n).seq + 1) % 65536 } := s.mapUi_ui_same n _

theorem State.visitMade_ui_ne (s : State) {n m : Fin 16} (h : m ≠ n) : (s.visitMade n).ui m = s.ui m := s.mapUi_ui_ne h _

theorem State.visitMade_discards (s : State) (n : Fin 16) : (s.visitMade n).discards n = s.discards n := by
  rw [State.discards, State.visitMade_ui_same]
  rfl

theorem State.visitMade_snsOnly (s : State) (n : Fin 16) : State.SnsOnly s (s.visitMade n) := rfl

/-- The converter has passed an input whose visit it made last. -/
theorem Sns.visited_of_visit {b : Sns} {n : Fin 16} (h : vget b.visit (converterOf n) = n.val % 8 + 1) : b.visited n = true := by
  have passed : b.passed n = true := decide_eq_true (by omega)
  rw [Sns.visited, passed]
  rfl

theorem State.visitMade_visit (s : State) (n : Fin 16) : vget (s.visitMade n).sns.visit (converterOf n) = n.val % 8 + 1 :=
  vget_vset_same ..

/-- The input after a conversion that is kept. -/
def UiIn.taken (u : UiIn) (res : Nat) (level : Int) (com : Bool) (raw : Nat) : UiIn :=
  { u.judge (wiring u.type res level (u.convert res level) (u.beyond res)) with
    val := u.convert res level, has := true, com := com, raw := raw % 2 ^ 20 }

/-- SNS_STAT's bit of the common of input `n`. -/
def comAfter (com : BitVec 4) (n : Fin 16) (out : Bool) : BitVec 4 :=
  if out then com ||| BitVec.ofNat 4 (2 ^ (n.val / 4)) else com &&& ~~~(BitVec.ofNat 4 (2 ^ (n.val / 4)))

/-- The input takes its conversion; the flags that it newly sets are still to be counted. -/
def State.conversionTaken (s : State) (n : Fin 16) (res : Nat) (level : Int) (com : Bool) (raw : Nat) : State :=
  (s.mapUi n fun u => u.taken res level com raw).mapSns fun b => { b with com := comAfter b.com n com }

theorem State.conversionTaken_snsOnly (s : State) (n : Fin 16) (res : Nat) (level : Int) (com : Bool) (raw : Nat) :
    State.SnsOnly s (s.conversionTaken n res level com raw) := rfl

/-- Out of the order of R237 nothing happens. -/
theorem State.uiConversion_idle {s : State} {n : Fin 16} (h : s.converts n = false) (res : Nat) (level : Int) (com : Bool)
    (raw : Nat) : s.uiConversion n res level com raw = s := if_neg (Bool.eq_false_iff.mp h)

theorem State.uiConversion_discarded {s : State} {n : Fin 16} (h : s.converts n = true) (hd : s.discards n = true) (res : Nat)
    (level : Int) (com : Bool) (raw : Nat) :
    s.uiConversion n res level com raw = (s.visitMade n).mapUi n fun u => { u with has := false } :=
  (if_pos h).trans (if_pos ((s.visitMade_discards n).trans hd))

theorem State.uiConversion_kept {s : State} {n : Fin 16} (h : s.converts n = true) (hd : s.discards n = false) (res : Nat)
    (level : Int) (com : Bool) (raw : Nat) :
    ∃ k, s.uiConversion n res level com raw = ((s.visitMade n).conversionTaken n res level com raw).flagged n k :=
  ⟨_, (if_pos h).trans (if_neg (Bool.eq_false_iff.mp ((s.visitMade_discards n).trans hd)))⟩

/-- R246: the flags that stand after a conversion. -/
theorem UiIn.judge_faults (u : UiIn) (c : Vector Bool 4) (i : Fin 4) :
    vget (u.judge c).faults i = true ↔ vget c i = true ∨ (vget u.faults i = true ∧ vget u.clean i = 0) := by
  simp [UiIn.judge]

theorem State.conversionTaken_ui_same (s : State) (n : Fin 16) (res : Nat) (level : Int) (com : Bool) (raw : Nat) :
    (s.conversionTaken n res level com raw).ui n = (s.ui n).taken res level com raw := s.mapUi_ui_same n _

theorem exec_uiConversion (s : State) (n : Fin 16) (res : Nat) (level : Int) (com : Bool) (raw : Nat) :
    exec (.uiConversion n res level com raw) s = .next (s.uiConversion n res level com raw) := rfl

/-! ### The swap (R240) -/

/-- Only what a swap judges on its new results may have changed: strokes and their wear, the panel's band, the windows of the die, and
the Carder's requests (R216, R364, R613). -/
def State.JudgedOnly (s t : State) : Prop :=
  t = { s with out := t.out, wear := t.wear, pnl := t.pnl, thm := t.thm, carder := t.carder }

theorem State.JudgedOnly.refl (s : State) : State.JudgedOnly s s := rfl

theorem State.JudgedOnly.trans {s t u : State} (h : State.JudgedOnly s t) (h' : State.JudgedOnly t u) : State.JudgedOnly s u := by
  rw [State.JudgedOnly] at *
  rw [h', h]

theorem State.JudgedOnly.ite {c : Prop} [Decidable c] {s t u : State} (ht : State.JudgedOnly s t) (hu : State.JudgedOnly s u) :
    State.JudgedOnly s (if c then t else u) := by
  split
  · exact ht
  · exact hu

theorem State.strokeSwap_judgedOnly (s : State) (n : Fin 8) : State.JudgedOnly s (s.strokeSwap n) := by
  unfold State.strokeSwap
  split
  · exact .refl s
  · split
    · exact .refl s
    · exact .ite rfl (.ite rfl (.refl s))

theorem State.strokesAtSwap_judgedOnly (s : State) : State.JudgedOnly s s.strokesAtSwap := by
  unfold State.strokesAtSwap
  split
  · exact foldl_keeps State.JudgedOnly.refl State.JudgedOnly.trans State.strokeSwap_judgedOnly _ s
  · exact .refl s

theorem State.bandAtSwap_judgedOnly (s : State) : State.JudgedOnly s s.bandAtSwap := by
  unfold State.bandAtSwap
  split
  · dsimp only
    split <;> rfl
  · exact .refl s

theorem State.boardCheck_judgedOnly (s : State) : State.JudgedOnly s s.boardCheck := by
  unfold State.boardCheck State.mapWindows
  dsimp only
  split <;> rfl

theorem State.judgedAtSwap_judgedOnly (s : State) : State.JudgedOnly s s.strokesAtSwap.bandAtSwap.boardCheck :=
  (s.strokesAtSwap_judgedOnly.trans (State.bandAtSwap_judgedOnly _)).trans (State.boardCheck_judgedOnly _)

/-- VA_LOW as the swap shows it (R251). -/
def State.swapLow (s : State) : Bool := !s.power.vaOk || decide (1 < s.sns.vaWin)

/-- R247: a VA_LOW that newly stands is a flag of every input. -/
def State.lowFlagged (s : State) : State :=
  if s.swapLow && !s.sns.vaLow then (List.finRange 16).foldl (fun s n => s.flagged n 1) s else s

theorem State.lowFlagged_flagsOnly (s : State) : State.FlagsOnly s s.lowFlagged := by
  unfold State.lowFlagged
  split
  · exact foldl_keeps State.FlagsOnly.refl State.FlagsOnly.trans (fun s n => s.flagged_flagsOnly n 1) _ s
  · exact .refl s

/-- An input at a swap. -/
def UiIn.swapped (u : UiIn) (low : Bool) : UiIn :=
  { u with settle := u.settle - 1, shown := { u with settle := u.settle - 1 : UiIn }.show_ low }

/-- The sense block at a swap. -/
def Sns.swapped (b : Sns) (low : Bool) : Sns :=
  { b with
    uis := b.uis.map fun u => u.swapped low
    vaLow := low, vaWin := b.vaWin - 1, cycle := (b.cycle + 1) % 65536, swapDue := false }

theorem State.doSwap_eq (s : State) : s.doSwap =
    (((s.lowFlagged.mapSns fun b => b.swapped s.swapLow).strokesAtSwap.bandAtSwap.boardCheck).snsInt 0).raiseEdge 1 := rfl

/-- What a swap leaves. -/
structure State.Swapped (s t : State) : Prop where
  cycle : t.sns.cycle = (s.sns.cycle + 1) % 65536
  raised : t.sns.int.getLsbD 0 = true
  hold : t.sns.hold = s.sns.hold
  due : t.sns.swapDue = false
  visit : t.sns.visit = s.sns.visit
  shown : ∀ n, (t.ui n).shown = { s.ui n with settle := (s.ui n).settle - 1 : UiIn }.show_ s.swapLow
  val : ∀ n, (t.ui n).val = (s.ui n).val
  frame : t = { s with sns := t.sns, out := t.out, wear := t.wear, pnl := t.pnl, thm := t.thm, carder := t.carder }

theorem State.doSwap_swapped (s : State) : State.Swapped s s.doSwap := by
  obtain ⟨flags, counted⟩ := s.lowFlagged_flagsOnly
  have judged := State.judgedAtSwap_judgedOnly (s.lowFlagged.mapSns fun b => b.swapped s.swapLow)
  have sns : s.doSwap.sns =
      { s.lowFlagged.sns.swapped s.swapLow with int := s.lowFlagged.sns.int ||| BitVec.ofNat 4 (2 ^ 0) } := by
    rw [State.doSwap_eq, judged]
    rfl
  have block : s.doSwap.sns = { s.sns.swapped s.swapLow with uis := s.doSwap.sns.uis, int := s.doSwap.sns.int } := by
    rw [sns, flags]
    rfl
  have ui (n : Fin 16) : s.doSwap.ui n = (s.lowFlagged.ui n).swapped s.swapLow := by
    rw [State.ui, sns]
    exact vget_map ..
  refine ⟨by rw [block]; rfl, by rw [sns]; simp, by rw [block]; rfl, by rw [block]; rfl, by rw [block]; rfl, fun n => ?_, fun n => ?_, ?_⟩
  · obtain ⟨c, hc⟩ := counted n
    rw [ui, hc]
    rfl
  · obtain ⟨c, hc⟩ := counted n
    rw [ui, hc]
    rfl
  · rw [State.doSwap_eq, judged, flags]
    rfl

/-! ### The end of a cycle and the hold (R240, R241) -/

/-- The next cycle begins, and its visits are all still to be made. -/
def Sns.cycleEnded (b : Sns) : Sns :=
  { b with visit := Vector.replicate 2 0, uis := b.uis.map fun u => { u with woken := false } }

theorem State.scanSwap_held {s : State} (hscans : s.scanning = true) (hdone : s.sns.cycleDone = true) (hheld : s.resultHeld = true) :
    s.scanSwap = s.mapSns fun b => { b.cycleEnded with swapDue := true } :=
  (if_pos (Bool.and_eq_true_iff.mpr ⟨hscans, hdone⟩)).trans (if_pos hheld)

theorem State.scanSwap_swaps {s : State} (hscans : s.scanning = true) (hdone : s.sns.cycleDone = true) (hfree : s.resultHeld = false) :
    s.scanSwap = (s.mapSns fun b => { b.cycleEnded with hold := none }).doSwap :=
  (if_pos (Bool.and_eq_true_iff.mpr ⟨hscans, hdone⟩)).trans (if_neg (Bool.eq_false_iff.mp hfree))

theorem State.cycleEnded_ui (s : State) (hold : Option Nat) (n : Fin 16) :
    (s.mapSns fun b => { b.cycleEnded with hold := hold }).ui n = { s.ui n with woken := false } := vget_map ..

theorem exec_scanSwap (s : State) : exec .scanSwap s = .next s.scanSwap := rfl

theorem State.endHold_waits {s : State} (h : s.sns.swapDue = true) :
    s.endHold = (s.mapSns fun b => { b with hold := none, swapDue := false }).doSwap := if_pos h

theorem State.endHold_idle {s : State} (h : s.sns.swapDue = false) :
    s.endHold = s.mapSns fun b => { b with hold := none, swapDue := false } := if_neg (Bool.eq_false_iff.mp h)

theorem exec_resultHoldTimeout {s : State} (h : s.sns.hold.isSome = true) : exec .resultHoldTimeout s = .next s.endHold :=
  congrArg Host.Outcome.next (if_pos h)

theorem exec_resultBlockRead {s : State} {n : Fin 4} {user : Bool} (h : s.may n user .load 0x40010100) (refused : Nat) :
    exec (.resultBlockRead n user refused) s =
      .next (((s.granted refused).snsEffect 0x100).answer ((s.granted refused).snsRead 0x100)) :=
  congrArg Host.Outcome.next (State.arbitrated_lodger h refused _)

/-- A read of SNS_UI0_VAL shows the input and holds the block. -/
theorem State.readUi0_eq (s : State) : (s.snsEffect 0x100).answer (s.snsRead 0x100) = { s with
    bus := { data := (s.ui 0).shown.val, outcome := .ok }, sns := { s.sns with hold := some s.now } } := rfl

/-! ### A change of type (R249) -/

/-- The input after a change of its type. -/
def UiIn.retyped (u : UiIn) (t : Nat) (scans : Bool) : UiIn :=
  { u with
    type := t, faults := Vector.replicate 4 false, clean := Vector.replicate 4 0, com := false, has := false, val := 0
    woken := u.woken || decide (u.type = 0), settle := if scans then 3 else 2 }

/-- The type in force, or one that the table does not have, changes nothing. -/
theorem State.uiType_same {s : State} {n : Fin 16} {t : Nat} (h : 5 < t ∨ (s.ui n).type = t) : s.uiType n t = s := if_pos h

theorem State.uiType_changes {s : State} {n : Fin 16} {t : Nat} (hknown : t ≤ 5) (hnew : (s.ui n).type ≠ t) :
    ∃ k, s.uiType n t = (s.mapUi n fun u => u.retyped t s.scanning).flagged n k :=
  ⟨_, if_neg (not_or.mpr ⟨not_lt.mpr hknown, hnew⟩)⟩

theorem exec_uiTypeWrite {s : State} {n : Fin 4} {user : Bool} {i : Fin 16} (h : s.may n user .store (0x40010040 + i.val * 4))
    (type : BitVec 3) : exec (.uiTypeWrite n user i type) s = .next ((s.answer 0).uiType i type.toNat) :=
  congrArg Host.Outcome.next (State.access_lodger h _)

/-! ### The statement -/

/-- Settles O24: `converts_visit` gives the order, `uiConversion_discarded` and `uiConversion_kept` the conversion, `judge_faults` the
flags, `doSwap_swapped` the swap, and `uiType_changes` the change of type. -/
theorem universalInputs : Obligations.UniversalInputs := by
  unfold Obligations.UniversalInputs
  refine ⟨fun s n => State.converts_visit, ?idle, ?conversion, ?swap, ?read, ?holdEnd, ?type⟩
  case idle =>
    intro s n res level com raw h
    rw [exec_uiConversion, State.uiConversion_idle h]
  case conversion =>
    intro s n res level com raw h
    rw [exec_uiConversion]
    cases hd : s.discards n with
    | true =>
      rw [State.uiConversion_discarded h hd]
      have ui := ((s.visitMade n).mapUi_ui_same n fun u => { u with has := false }).trans
        (congrArg (fun u : UiIn => { u with has := false }) (s.visitMade_ui_same n))
      refine ⟨_, rfl, rfl, fun m hm => ((s.visitMade n).mapUi_ui_ne hm _).trans (s.visitMade_ui_ne hm), congrArg UiIn.seq ui,
        Sns.visited_of_visit (s.visitMade_visit n), fun _ => ⟨?_, rfl⟩, nofun⟩
      rw [ui]
    | false =>
      obtain ⟨k, hk⟩ := State.uiConversion_kept h hd res level com raw
      have flagged := ((s.visitMade n).conversionTaken n res level com raw).flagged_flagsOnly n k
      have changed : State.SnsOnly s _ := ((s.visitMade_snsOnly n).trans
        ((s.visitMade n).conversionTaken_snsOnly n res level com raw)).trans flagged.snsOnly
      obtain ⟨frame, counted⟩ := flagged
      obtain ⟨c, hc⟩ := counted n
      rw [State.conversionTaken_ui_same, State.visitMade_ui_same] at hc
      rw [hk]
      refine ⟨_, rfl, changed, fun m hm => ?_, by rw [hc]; rfl, Sns.visited_of_visit ?_, nofun, fun _ => ?_⟩
      · rw [State.flagged_ui_ne _ hm]
        exact ((s.visitMade n).mapUi_ui_ne hm _).trans (s.visitMade_ui_ne hm)
      · rw [frame]
        exact s.visitMade_visit n
      · rw [hc]
        exact ⟨rfl, rfl, rfl, rfl, rfl, rfl, UiIn.judge_faults _ _⟩
  case swap =>
    intro s hscans hdone
    rw [exec_scanSwap]
    constructor
    · intro hheld
      rw [State.scanSwap_held hscans hdone hheld]
      rfl
    · intro hfree
      rw [State.scanSwap_swaps hscans hdone hfree]
      obtain ⟨cycle, raised, hold, -, visit, shown, val, frame⟩ :=
        State.doSwap_swapped (s.mapSns fun b => { b.cycleEnded with hold := none })
      refine ⟨_, rfl, cycle, raised, hold, by rw [frame]; rfl, by rw [frame]; rfl, by rw [frame]; rfl, visit, fun n => ⟨?_, ?_⟩⟩
      · rw [shown, State.cycleEnded_ui]
        rfl
      · rw [val, State.cycleEnded_ui]
  case read =>
    intro s n user refused h
    obtain ⟨mem, granted⟩ : ∃ mem, s.granted refused = { s with mem := mem } := ⟨_, s.granted_eq refused⟩
    rw [exec_resultBlockRead h, State.readUi0_eq, granted]
    exact ⟨_, rfl, rfl, rfl, rfl, rfl⟩
  case holdEnd =>
    intro s h
    rw [exec_resultHoldTimeout h]
    constructor
    · intro hidle
      rw [State.endHold_idle hidle]
      rfl
    · intro hdue
      rw [State.endHold_waits hdue]
      obtain ⟨cycle, -, hold, due, -, -, -, frame⟩ := State.doSwap_swapped (s.mapSns fun b => { b with hold := none, swapDue := false })
      exact ⟨_, rfl, hold, due, cycle, by rw [frame]; rfl, by rw [frame]; rfl⟩
  case type =>
    intro s n user i type h
    rw [exec_uiTypeWrite h]
    constructor
    · intro hsame
      rw [State.uiType_same (s := s.answer 0) (hsame.imp_right Eq.symm)]
      rfl
    · intro hknown hnew
      obtain ⟨k, hk⟩ := State.uiType_changes (s := s.answer 0) hknown (Ne.symm hnew)
      obtain ⟨frame, counted⟩ :=
        ((s.answer 0).mapUi i fun u => u.retyped type.toNat (s.answer 0).scanning).flagged_flagsOnly i k
      obtain ⟨c, hc⟩ := counted i
      rw [State.mapUi_ui_same] at hc
      rw [hk]
      refine ⟨_, rfl, by rw [hc]; rfl, by rw [hc]; rfl, by rw [hc]; rfl, by rw [hc]; rfl, fun m hm => ?_, ?_⟩
      · rw [State.flagged_ui_ne _ hm]
        exact (s.answer 0).mapUi_ui_ne hm _
      · rw [frame]
        rfl

end Sys2Proof.Machine
end

section
/-! PROOFS. I²C sensors, digital inputs and counters: a bus and its transactions, a slot's outcome, and the edges of inputs (R254 to
R264). -/

namespace Sys2Proof.Machine

/-! ### Slots and buses -/

/-- Only the slots, the buses and SNS_INT may have changed. -/
def State.I2cOnly (s t : State) : Prop :=
  t = { s with sns := { s.sns with i2c := t.sns.i2c, buses := t.sns.buses, int := t.sns.int } }

theorem State.I2cOnly.trans {s t u : State} (h : State.I2cOnly s t) (h' : State.I2cOnly t u) : State.I2cOnly s u := by
  rw [State.I2cOnly] at *
  rw [h', h]

/-- Only the buses may have changed. -/
def State.BusesOnly (s t : State) : Prop := t = { s with sns := { s.sns with buses := t.sns.buses } }

theorem State.BusesOnly.refl (s : State) : State.BusesOnly s s := rfl

theorem State.BusesOnly.trans {s t u : State} (h : State.BusesOnly s t) (h' : State.BusesOnly t u) : State.BusesOnly s u := by
  rw [State.BusesOnly] at *
  rw [h', h]

theorem State.I2cOnly.ite {c : Prop} [Decidable c] {s t u : State} (ht : State.I2cOnly s t) (hu : State.I2cOnly s u) :
    State.I2cOnly s (if c then t else u) := by
  split
  · exact ht
  · exact hu

theorem State.BusesOnly.i2cOnly {s t : State} (h : State.BusesOnly s t) : State.I2cOnly s t := by
  rw [State.BusesOnly] at h
  rw [State.I2cOnly, h]

theorem State.BusesOnly.i2c {s t : State} (h : State.BusesOnly s t) (m : Fin 16) : t.i2c m = s.i2c m := by
  rw [State.BusesOnly] at h
  rw [State.i2c, h]
  rfl

theorem State.mapBus2_busesOnly (s : State) (b : Fin 2) (f : I2cBus → I2cBus) : State.BusesOnly s (s.mapBus2 b f) := rfl

theorem State.mapBus2_bus (s : State) (b : Fin 2) (f : I2cBus → I2cBus) :
    vget (s.mapBus2 b f).sns.buses b = f (vget s.sns.buses b) := vget_vmod_same ..

/-- A slot's outcome is written, and SNS_INT.I2C may be set. -/
theorem State.i2cResult_frame (s : State) (m : Fin 16) (y : I2cSlot) :
    s.i2cResult m y = { s with sns := { s.sns with i2c := vset s.sns.i2c m y, int := (s.i2cResult m y).sns.int } } := by
  unfold State.i2cResult
  dsimp only
  split <;> rfl

theorem State.i2cResult_i2cOnly (s : State) (m : Fin 16) (y : I2cSlot) : State.I2cOnly s (s.i2cResult m y) := by
  rw [State.I2cOnly, State.i2cResult_frame]

theorem State.i2cResult_i2c_same (s : State) (m : Fin 16) (y : I2cSlot) : (s.i2cResult m y).i2c m = y := by
  rw [State.i2c, State.i2cResult_frame]
  exact vget_vset_same ..

theorem State.i2cResult_i2c_ne (s : State) {m k : Fin 16} (h : k ≠ m) (y : I2cSlot) : (s.i2cResult m y).i2c k = s.i2c k := by
  rw [State.i2c, State.i2cResult_frame]
  exact vget_vset_ne _ _ _ _ h

theorem State.i2cResult_buses (s : State) (m : Fin 16) (y : I2cSlot) : (s.i2cResult m y).sns.buses = s.sns.buses := by
  rw [State.i2cResult_frame]

/-! ### A transaction starts (R254, R257) -/

theorem State.i2cStart_busesOnly (s : State) (m : Fin 16) {sda : Sda} (h : sda ≠ .stuck) : State.BusesOnly s (s.i2cStart m sda) := by
  cases sda with
  | high => exact s.mapBus2_busesOnly ..
  | recovers => exact s.mapBus2_busesOnly ..
  | stuck => exact absurd rfl h

theorem State.i2cStart_high (s : State) (m : Fin 16) : vget (s.i2cStart m .high).sns.buses (s.i2c m).bus =
    { vget s.sns.buses (s.i2c m).bus with busy := some m.val, wire := (s.i2c m).transaction } := s.mapBus2_bus ..

theorem State.i2cStart_recovers (s : State) (m : Fin 16) : vget (s.i2cStart m .recovers).sns.buses (s.i2c m).bus =
    { vget s.sns.buses (s.i2c m).bus with busy := some m.val, wire := .pulses 9 :: .stop :: (s.i2c m).transaction } :=
  s.mapBus2_bus ..

/-- With SDA still low the transaction fails without one (R257). -/
theorem State.i2cStart_stuck (s : State) (m : Fin 16) :
    vget (s.i2cStart m .stuck).sns.buses (s.i2c m).bus =
        { vget s.sns.buses (s.i2c m).bus with busy := none, wire := [.pulses 9, .stop], stuck := true } ∧
      (s.i2cStart m .stuck).i2c m = (s.i2c m).fail false false false ∧ State.I2cOnly s (s.i2cStart m .stuck) := by
  refine ⟨?_, s.i2cResult_i2c_same m _, (s.i2cResult_i2cOnly m _).trans rfl⟩
  rw [State.i2cStart, State.mapBus2_bus, State.i2cResult_buses]

theorem State.i2cStart_i2cOnly (s : State) (m : Fin 16) (sda : Sda) : State.I2cOnly s (s.i2cStart m sda) := by
  by_cases h : sda = .stuck
  · subst h
    obtain ⟨-, -, only⟩ := s.i2cStart_stuck m
    exact only
  · exact (s.i2cStart_busesOnly m h).i2cOnly

/-- The wires of a transaction (R254): the command phase where the entry has one, then the read phase. -/
theorem I2cSlot.transaction_eq (x : I2cSlot) :
    let address : Byte := BitVec.ofNat 8 (2 * (x.addr % 128))
    let read : List I2cSym := [.start, .byte (address ||| 1), .read x.len, .stop]
    x.transaction = if x.form % 4 = 0 then read else
      .start :: .byte address :: ((leBytes 2 x.cmd).take (x.form % 4)).map .byte ++ [.stop, .waitMs x.wait] ++ read := by
  unfold I2cSlot.transaction
  dsimp only
  split <;> rfl

/-! ### I2C_SLOT_DUE (R255) -/

theorem State.i2cDue_free {s : State} {m : Fin 16} (hawake : s.awake = true) (hrun : s.sns.running = true)
    (hen : s.sns.i2cEn = true) (hused : (s.i2c m).used = true) (hfree : (vget s.sns.buses (s.i2c m).bus).busy = none) (sda : Sda) :
    s.i2cDue m sda = s.i2cStart m sda := by
  simp only [State.i2cDue, hawake, hrun, hen, hused, Bool.and_self, if_true, hfree]

theorem State.i2cDue_busy {s : State} {m : Fin 16} (hawake : s.awake = true) (hrun : s.sns.running = true)
    (hen : s.sns.i2cEn = true) (hused : (s.i2c m).used = true) {k : Nat} (hbusy : (vget s.sns.buses (s.i2c m).bus).busy = some k)
    (sda : Sda) : s.i2cDue m sda =
      if k = m.val then s else s.mapBus2 (s.i2c m).bus fun b => { b with due := Marks.add m.val b.due } := by
  simp only [State.i2cDue, hawake, hrun, hen, hused, Bool.and_self, if_true, hbusy]

theorem exec_i2cSlotDue (s : State) (m : Fin 16) (sda : Sda) : exec (.i2cSlotDue m sda) s = .next (s.i2cDue m sda) := rfl

/-! ### I2C_TRANSACTION_END (R255, R256, R258, R259) -/

/-- The bus turns to its due slots; where SDA is not stuck no slot changes by it. -/
theorem State.i2cNext_busesOnly (s : State) (b : Fin 2) {sda : Sda} (h : sda ≠ .stuck) (l : List Nat) :
    State.BusesOnly s (s.i2cNext b sda l) := by
  cases l with
  | nil => exact .refl s
  | cons k l =>
    unfold State.i2cNext
    dsimp only
    split
    · rw [if_neg h]
      exact (s.mapBus2_busesOnly b _).trans (State.i2cStart_busesOnly _ _ h)
    · exact s.mapBus2_busesOnly b _

theorem State.i2cNext_nil {l : List Nat} (h : l = []) (s : State) (b : Fin 2) (sda : Sda) : s.i2cNext b sda l = s := by
  subst h
  rfl

/-- The first due slot of the bus has it. -/
theorem State.i2cNext_high (s : State) {b : Fin 2} {k : Fin 16} (h : (s.i2c k).bus = b) (l : List Nat) :
    vget (s.i2cNext b .high (k.val :: l)).sns.buses b =
      { vget s.sns.buses b with busy := some k.val, wire := (s.i2c k).transaction, due := l } := by
  have starts : s.i2cNext b .high (k.val :: l) = (s.mapBus2 b fun x => { x with due := l }).i2cStart k .high := by
    simp only [State.i2cNext, idx_of_fin, if_neg (show Sda.high ≠ .stuck from nofun)]
  have there := (s.mapBus2 b fun x => { x with due := l }).i2cStart_high k
  rw [(s.mapBus2_busesOnly b _).i2c k, h, State.mapBus2_bus] at there
  rw [starts, there]

/-- Data of an entry without a CRC is a success. -/
theorem I2cSlot.outcome_data {x : I2cSlot} (bs : List Byte) (h : x.crc = false) :
    x.outcome (.data bs) = { x with
      seq := (x.seq + 1) % 65536, valid := true, fails := 0, stale := false, data := padTo 6 (bs.take x.len) } := by
  simp only [I2cSlot.outcome, h, Bool.false_and, Bool.false_eq_true, if_false]
  rfl

/-- R256, R258: with a CRC the data is written whether it is right or not. -/
theorem I2cSlot.outcome_crc {x : I2cSlot} (bs : List Byte) (h : x.crc = true) (hlen : x.len = 3 ∨ x.len = 6) :
    x.outcome (.data bs) = if crcGroupsOk (padTo x.len bs) then { x with
        seq := (x.seq + 1) % 65536, valid := true, fails := 0, stale := false, data := padTo 6 (bs.take x.len) }
      else { x with
        data := padTo 6 (bs.take x.len), failCnt := satInc 0xFF x.failCnt, valid := false, fails := x.fails + 1
        stale := x.stale || decide (2 ≤ x.fails), crcErr := true, timeout := false, nack := false } := by
  simp only [I2cSlot.outcome, h, decide_eq_true hlen, Bool.true_and, Bool.not_eq_true']
  cases crcGroupsOk (padTo x.len bs) <;> rfl

theorem I2cSlot.outcome_failed {x : I2cSlot} {e : I2cEnd} (h : ∀ bs, e ≠ .data bs) :
    x.outcome e = x.fail false (decide (e = .timeout)) (decide (e = .nack)) := by
  cases e with
  | data bs => exact absurd rfl (h bs)
  | nack => rfl
  | timeout => rfl

/-- The slot has its outcome, and the bus is free for the next. -/
def State.i2cEnded (s : State) (m : Fin 16) (e : I2cEnd) : State :=
  (s.i2cResult m ((s.i2c m).outcome e)).mapBus2 (s.i2c m).bus fun k => { k with busy := none, wire := [] }

theorem State.i2cEnd_eq {s : State} {m : Fin 16} (h : (vget s.sns.buses (s.i2c m).bus).busy = some m.val) (e : I2cEnd) (next : Sda) :
    s.i2cEnd m e next = (s.i2cEnded m e).i2cNext (s.i2c m).bus next (vget s.sns.buses (s.i2c m).bus).due := if_pos h

theorem State.i2cEnded_i2cOnly (s : State) (m : Fin 16) (e : I2cEnd) : State.I2cOnly s (s.i2cEnded m e) :=
  (s.i2cResult_i2cOnly m _).trans rfl

theorem State.i2cEnded_i2c_same (s : State) (m : Fin 16) (e : I2cEnd) : (s.i2cEnded m e).i2c m = (s.i2c m).outcome e :=
  s.i2cResult_i2c_same m _

theorem State.i2cEnded_i2c_ne (s : State) {m k : Fin 16} (h : k ≠ m) (e : I2cEnd) : (s.i2cEnded m e).i2c k = s.i2c k :=
  s.i2cResult_i2c_ne h _

theorem State.i2cEnded_bus (s : State) (m : Fin 16) (e : I2cEnd) : vget (s.i2cEnded m e).sns.buses (s.i2c m).bus =
    { vget s.sns.buses (s.i2c m).bus with busy := none, wire := [] } := by
  rw [State.i2cEnded, State.mapBus2_bus, State.i2cResult_buses]

theorem exec_i2cTransactionEnd (s : State) (m : Fin 16) (e : I2cEnd) (next : Sda) :
    exec (.i2cTransactionEnd m e next) s = .next (s.i2cEnd m e next) := rfl

/-! ### A read of STAT (R258) -/

theorem exec_i2cStatRead {s : State} {n : Fin 4} {user : Bool} {m : Fin 16} (h : s.may n user .load (0x40010300 + m.val * 0x10))
    (refused : Nat) : exec (.i2cStatRead n user m refused) s =
      .next (((s.granted refused).i2cHold m).answer ((s.granted refused).i2c m).stat) :=
  congrArg Host.Outcome.next (State.arbitrated_lodger h refused _)

/-! ### Digital and counting inputs (R262 to R264) -/

/-- One bit of a byte flips. -/
theorem getLsbD_flip (w : BitVec 8) (n k : Fin 8) :
    (w ^^^ BitVec.ofNat 8 (2 ^ n.val)).getLsbD k.val = (w.getLsbD k.val ^^ decide (k = n)) := by
  rw [BitVec.getLsbD_xor, BitVec.getLsbD_ofNat, Nat.testBit_two_pow]
  simp [Fin.ext_iff, eq_comm]

theorem State.diChange_flips {s : State} {n : Fin 8} {high : Bool} (h : s.sns.diState.getLsbD n.val ≠ high) :
    s.diChange n high = { s with sns := { s.sns with
      diState := s.sns.diState ^^^ BitVec.ofNat 8 (2 ^ n.val)
      diEdges := vset s.sns.diEdges n (satInc 0xFFFF (vget s.sns.diEdges n)), int := s.sns.int ||| 4 } } := by
  rw [State.diChange, if_neg h]
  rfl

theorem State.wakeBy_awake {s : State} (h : s.asleep = false) (src : Nat) : s.wakeBy src = s := by
  rw [State.wakeBy, h]
  rfl

/-- R262: in a running device a change does nothing else. -/
theorem State.diDebounced_change {s : State} {n : Fin 8} {high : Bool} (hon : s.power.phase ≠ .off) (hawake : s.asleep = false)
    (h : s.sns.diState.getLsbD n.val ≠ high) : s.diDebounced n high = s.diChange n high := by
  have awake : (s.diChange n high).asleep = false := by
    rw [State.diChange_flips h]
    exact hawake
  rw [State.diDebounced, if_neg h, if_neg hon, State.wakeBy_awake awake]

theorem exec_diDebounceChange (s : State) (n : Fin 8) (high : Bool) :
    exec (.diDebounceChange n high) s = .next (s.diDebounced n high) := rfl

theorem exec_counterEdge {s : State} (h : s.power.phase ≠ .off) (k : Fin 2) (rising : Bool) :
    exec (.counterEdge k rising) s = .next (s.counterEdge k rising) := congrArg Host.Outcome.next (if_neg h)

theorem exec_cntClear {s : State} {n : Fin 4} {user : Bool} (h : s.may n user .store 0x4001024C) (w : Word) :
    exec (.cntClear n user w) s = .next ((s.answer 0).cntClear w) := congrArg Host.Outcome.next (State.access_lodger h _)

/-! ### The statement -/

/-- Settles O25: `i2cStart_stuck` and its companions say how a transaction starts, `outcome_data`, `outcome_crc` and `outcome_failed` what
it leaves at its slot, `i2cNext_high` whom the bus turns to, and `diChange_flips` what an edge does. -/
theorem sensorsAndDigitalInputs : Obligations.SensorsAndDigitalInputs := by
  unfold Obligations.SensorsAndDigitalInputs
  refine ⟨?due, ?ends, ?read, ?edge, ?counter, ?clear⟩
  case due =>
    intro s m sda hawake hrun hen hused
    rw [exec_i2cSlotDue]
    refine ⟨_, rfl, ?_⟩
    beta_reduce
    intro x b n address read wire
    have transaction : x.transaction = wire := x.transaction_eq
    clear_value wire
    obtain free | ⟨k, busy⟩ := b.busy.eq_none_or_eq_some
    · rw [State.i2cDue_free hawake hrun hen hused free, ← transaction]
      refine ⟨s.i2cStart_i2cOnly m sda, ?_, ?_, ?_, fun k busy => absurd (free.symm.trans busy) nofun⟩
      · rintro - rfl
        exact ⟨s.i2cStart_high m, (s.mapBus2_busesOnly x.bus _).i2c m⟩
      · rintro - rfl
        exact ⟨s.i2cStart_recovers m, (s.mapBus2_busesOnly x.bus _).i2c m⟩
      · rintro - rfl
        obtain ⟨bus, slot, -⟩ := s.i2cStart_stuck m
        exact ⟨bus, slot⟩
    · rw [State.i2cDue_busy hawake hrun hen hused busy]
      have taken (free : b.busy = none) : False := absurd (free.symm.trans busy) nofun
      refine ⟨State.I2cOnly.ite rfl rfl, fun free => (taken free).elim, fun free => (taken free).elim, fun free => (taken free).elim, ?_⟩
      intro k' busy' hother
      obtain rfl : k = k' := Option.some.inj (busy.symm.trans busy')
      have bus := s.mapBus2_bus x.bus fun b => { b with due := Marks.add m.val b.due }
      rw [if_neg hother, bus]
      exact ⟨(s.mapBus2_busesOnly x.bus _).i2c m, (Marks.mem_add _).mpr (.inl rfl), rfl⟩
  case ends =>
    intro s m e next hbusy hsda
    rw [exec_i2cTransactionEnd, State.i2cEnd_eq hbusy]
    have turned := (s.i2cEnded m e).i2cNext_busesOnly (s.i2c m).bus hsda (vget s.sns.buses (s.i2c m).bus).due
    have slot := (turned.i2c m).trans (s.i2cEnded_i2c_same m e)
    refine ⟨_, rfl, fun k hk => (turned.i2c k).trans (s.i2cEnded_i2c_ne hk e), (s.i2cEnded_i2cOnly m e).trans turned.i2cOnly,
      fun hnone => ?_, ?_, ?_, ?_, ?_⟩
    · rw [State.i2cNext_nil hnone]
      exact s.i2cEnded_bus m e
    · rintro k rest hdue hk hbus rfl
      have kept := s.i2cEnded_i2c_ne hk e
      have started := (s.i2cEnded m e).i2cNext_high (show ((s.i2cEnded m e).i2c k).bus = (s.i2c m).bus by rw [kept, hbus]) rest
      rw [kept, State.i2cEnded_bus] at started
      rw [hdue, started]
    · rintro bs rfl hcrc
      exact slot.trans (I2cSlot.outcome_data bs hcrc)
    · rintro bs rfl hcrc hlen
      exact slot.trans (I2cSlot.outcome_crc bs hcrc hlen)
    · intro hfailed
      exact slot.trans (I2cSlot.outcome_failed hfailed)
  case read =>
    intro s n user m refused h
    obtain ⟨mem, granted⟩ : ∃ mem, s.granted refused = { s with mem := mem } := ⟨_, s.granted_eq refused⟩
    rw [exec_i2cStatRead h, granted]
    rfl
  case edge =>
    intro s n high hon hawake
    rw [exec_diDebounceChange]
    refine ⟨fun h => congrArg Host.Outcome.next (if_pos h), fun h => ?_⟩
    rw [State.diDebounced_change hon hawake h, State.diChange_flips h]
    refine ⟨_, rfl, ?_, fun k hk => ?_, rfl⟩
    · rw [getLsbD_flip, decide_eq_true rfl, Bool.xor_true]
      exact Bool.not_eq.mpr h
    · rw [getLsbD_flip, decide_eq_false hk, Bool.xor_false]
  case counter =>
    intro s k rising hon
    exact exec_counterEdge hon k rising
  case clear =>
    intro s n user w h
    exact ⟨_, exec_cntClear h w, fun i => vget_ofFn i _, fun i => vget_ofFn i _, rfl, rfl⟩

end Sys2Proof.Machine
end

section
/-! PROOFS. The slots of the loop engine: what a change of one slot leaves, and what the words that a slot reads depend on (R130, R273). -/

namespace Sys2Proof.Machine

/-! ### One slot changes -/

@[simp] theorem State.mapSlot_slot_same (s : State) (n : Fin 48) (f : LoopSlot → LoopSlot) :
    (s.mapSlot n f).slot n = f (s.slot n) := vget_vmod_same ..

theorem State.mapSlot_slot_ne (s : State) {n k : Fin 48} (h : k ≠ n) (f : LoopSlot → LoopSlot) :
    (s.mapSlot n f).slot k = s.slot k := vget_vmod_ne _ _ _ _ h

@[simp] theorem State.mapSlot_mapSlot (s : State) (n : Fin 48) (f g : LoopSlot → LoopSlot) :
    (s.mapSlot n f).mapSlot n g = s.mapSlot n fun x => g (f x) :=
  congrArg (fun v => s.mapLoops fun l => { l with slots := v }) (vmod_vmod s.loops.slots n f g)

/-- What a change makes of a slot is all that counts of it. -/
theorem State.mapSlot_congr {s : State} {n : Fin 48} {f g : LoopSlot → LoopSlot} (h : f (s.slot n) = g (s.slot n)) :
    s.mapSlot n f = s.mapSlot n g :=
  congrArg (fun x => s.mapLoops fun l => { l with slots := vset l.slots n x }) h

theorem State.mapSlot_fixed {s : State} {n : Fin 48} {f : LoopSlot → LoopSlot} (h : f (s.slot n) = s.slot n) :
    s.mapSlot n f = s :=
  (State.mapSlot_congr (g := id) h).trans (congrArg (fun v => s.mapLoops fun l => { l with slots := v }) (vset_vget s.loops.slots n))

@[simp] theorem State.loopEvt_slot (s : State) (n k : Fin 48) : (s.loopEvt n).slot k = s.slot k := rfl

theorem State.setSlotState_slot_same (s : State) (n : Fin 48) (st : LoopSt) :
    (s.setSlotState n st).slot n = { s.slot n with st := st } := by
  unfold State.setSlotState
  dsimp only
  split <;> simp

theorem State.setSlotState_slot_ne (s : State) {n k : Fin 48} (h : k ≠ n) (st : LoopSt) :
    (s.setSlotState n st).slot k = s.slot k := by
  unfold State.setSlotState
  dsimp only
  split <;> simp [s.mapSlot_slot_ne h]

/-! ### What follows a change of a slot: its answer on the bus, and LOOP_EVT -/

/-- Only the loop engine may have changed. -/
def State.LoopsOnly (s t : State) : Prop := t = { s with loops := t.loops }

theorem State.LoopsOnly.refl (s : State) : State.LoopsOnly s s := rfl

theorem State.LoopsOnly.trans {s t u : State} (h : State.LoopsOnly s t) (h' : State.LoopsOnly t u) : State.LoopsOnly s u := by
  rw [State.LoopsOnly] at *
  rw [h', h]

theorem State.mapSlot_loopsOnly (s : State) (n : Fin 48) (f : LoopSlot → LoopSlot) : State.LoopsOnly s (s.mapSlot n f) := rfl

theorem State.loopEvt_loopsOnly (s : State) (n : Fin 48) : State.LoopsOnly s (s.loopEvt n) := rfl

theorem State.setSlotState_loopsOnly (s : State) (n : Fin 48) (st : LoopSt) : State.LoopsOnly s (s.setSlotState n st) := by
  unfold State.setSlotState
  dsimp only
  split
  · exact (s.mapSlot_loopsOnly n _).trans (State.loopEvt_loopsOnly _ n)
  · exact s.mapSlot_loopsOnly n _

/-- A register write to a slot: the bus answers, and the slot changes. -/
theorem State.answer_mapSlot (s : State) (n : Fin 48) (f : LoopSlot → LoopSlot) : (s.answer 0).mapSlot n f = { s with
    bus := {}, loops := { s.loops with slots := vset s.loops.slots n (f (s.slot n)) } } := rfl

/-! ### The words that a slot reads (R130, R273) -/

theorem State.slotRead_fetchFrame (s : State) (n : Fin 48) (addr : Nat) : State.FetchFrame s (s.slotRead n addr).2 := by
  unfold State.slotRead
  split
  · exact s.noteWord_fetchFrame ..
  · exact .refl s

theorem State.slotRead_cells (s : State) (n : Fin 48) (addr : Nat) : (s.slotRead n addr).2.sram.cells = s.sram.cells := by
  unfold State.slotRead
  split
  · exact (s.noteWord_sramKept ..).1
  · rfl

theorem State.FetchFrame.slot {s t : State} (h : State.FetchFrame s t) (k : Fin 48) : t.slot k = s.slot k := by
  rw [State.FetchFrame] at h
  rw [h]
  rfl

/-- R130: a correction clears the word's mark and is counted and recorded. -/
theorem State.correctWord_marked {s : State} {w : Nat} (h : w ∈ s.sram.singles) : s.correctWord w = { s with
    sram := { s.sram with singles := Marks.del w s.sram.singles }
    mem := { s.mem with ceCnt := satInc 0xFFFF s.mem.ceCnt, ce := true, eccAddr := wordAddr w } } := if_pos h

/-- What neither reaches main SRAM nor minds how a read is noted, a read does not mind. -/
theorem State.slotRead_comm {f : State → State} {s : State} {n : Fin 48} (sram : (f s).sram = s.sram)
    (noted : ∀ w c, (f s).noteWord (.loop n) w c = f (s.noteWord (.loop n) w c)) (addr : Nat) :
    (f s).slotRead n addr = ((s.slotRead n addr).1, f (s.slotRead n addr).2) := by
  simp only [State.slotRead, State.sramWord, State.sramRead, sram, noted]
  split <;> rfl

/-- A read is not concerned with the slots. -/
theorem State.slotRead_mapSlot (s : State) (m n : Fin 48) (f : LoopSlot → LoopSlot) (addr : Nat) :
    (s.mapSlot m f).slotRead n addr = ((s.slotRead n addr).1, (s.slotRead n addr).2.mapSlot m f) := by
  refine State.slotRead_comm (f := fun s => s.mapSlot m f) rfl (fun w c => ?_) addr
  cases c with
  | good =>
    by_cases marked : w ∈ s.sram.singles
    · exact (State.correctWord_marked (s := s.mapSlot m f) marked).trans
        (congrArg (fun t : State => t.mapSlot m f) (State.correctWord_marked marked)).symm
    · exact (if_neg marked).trans (congrArg (fun t : State => t.mapSlot m f) (if_neg marked)).symm
  | unwritten => rfl
  | uncorrectable => rfl

theorem State.granted_sram (s : State) (refused : Nat) : (s.granted refused).sram = s.sram := by rw [State.granted_eq]

/-- Nor with the count of grants that ARBITRATION keeps. -/
theorem State.slotRead_granted (s : State) (refused : Nat) (n : Fin 48) (addr : Nat) :
    (s.granted refused).slotRead n addr = ((s.slotRead n addr).1, (s.slotRead n addr).2.granted refused) := by
  refine State.slotRead_comm (f := fun s => s.granted refused) (s.granted_sram refused) (fun w c => ?_) addr
  unfold State.granted
  split
  · cases c with
    | good =>
      by_cases marked : w ∈ s.sram.singles
      · exact (if_pos marked).trans (congrArg (fun t : State => t.mapMem fun m => { m with
          promote := satInc 0xFFFFFFFF m.promote }) (State.correctWord_marked marked)).symm
      · exact (if_neg marked).trans (congrArg (fun t : State => t.mapMem fun m => { m with
          promote := satInc 0xFFFFFFFF m.promote }) (if_neg marked)).symm
    | unwritten => rfl
    | uncorrectable => rfl
  · rfl

end Sys2Proof.Machine
end

section
/-! PROOFS. Register writes of a loop slot: the statement (R281, R287 to R292, R297, R298, R306). -/

namespace Sys2Proof.Machine

/-! ### Commits and coefficients (R287, R288, R290 to R292) -/

/-- A commit takes the staging words where they pass R293, and else sets COMMIT_ERR. -/
theorem LoopSlot.commit_eq {x : LoopSlot} {b : Fin 4} (h : x.bank = b.val) : x.commit = { x with
    pend := false, banks := if coefOk x.stg then vset x.banks b x.stg else x.banks
    commitErr := x.commitErr || !coefOk x.stg } := by
  rw [LoopSlot.commit, h, idx_of_fin]
  split <;> simp_all

theorem LoopSlot.commitWrite_go (x : LoopSlot) (bank : Fin 4) : x.commitWrite x.view bank.val true =
    if x.pend then { x with cfgErr := true }
    else if x.direct then { x with bank := bank.val, cfgErr := true }
    else if x.en then { x with bank := bank.val, pend := true }
    else if coefOk x.stg then { x with bank := bank.val, pend := false, banks := vset x.banks bank x.stg }
    else { x with bank := bank.val, pend := false, commitErr := true } := by
  simp only [LoopSlot.commitWrite, LoopSlot.commit, idx_of_fin, Bool.not_true, Bool.false_eq_true, if_false]

theorem LoopSlot.group_over {x : LoopSlot} {count : Nat} (h : 9 < count) : x.group count = x := if_pos h

theorem LoopSlot.group_zero (x : LoopSlot) : x.group 0 = { x with left := 0 } := rfl

theorem LoopSlot.group_opens {x : LoopSlot} {count : Nat} (h : 1 ≤ count) (h' : count ≤ 9) : x.group count = { x with
    left := count, grpOvr := x.grpOvr || decide (0 < x.left) } := by
  rw [LoopSlot.group, if_neg h'.not_gt, if_neg (Nat.one_le_iff_ne_zero.mp h)]

/-! ### Enable and disable (R283, R293, R294, R297, R306) -/

section
variable {s : State} {n : Fin 48}

/-- An enable of a sound set-up starts the slot in TRACK. -/
theorem State.slotCtrl_enable (hen : (s.slot n).en = false) (hsetup : { s.slot n with en := true }.setupOk s.loops.points = true)
    (haddr : { s.slot n with en := true }.addrUsedOk = true) (hstale : (s.slot n).staleN ≠ 0) (hgood : (s.slot n).goodK ≠ 0)
    (hbanks : { s.slot n with en := true }.banksOk = true)
    (hcasc : cascadesOk (vset s.loops.slots n { s.slot n with en := true }).toList = true) :
    s.slotCtrl n (fun x => { x with en := true }) = s.mapSlot n fun x => { x with en := true }.enable := by
  have passes : s.slotCtrl n (fun x => { x with en := true }) = s.mapSlot n fun _ => { s.slot n with en := true }.enable := by
    simp [State.slotCtrl, hen, hsetup, haddr, hstale, hgood, hbanks, hcasc]
  exact passes.trans (State.mapSlot_congr rfl)

/-- An enable that breaks R274, R293 or R294 is an error of the set-up, and no more. -/
theorem State.slotCtrl_enable_refused (hen : (s.slot n).en = false)
    (hbad : { s.slot n with en := true }.addrUsedOk = false ∨ (s.slot n).staleN = 0 ∨ (s.slot n).goodK = 0 ∨
      { s.slot n with en := true }.banksOk = false) : s.slotCtrl n (fun x => { x with en := true }) = s.slotErr n := by
  have refused : (!{ s.slot n with en := true }.addrUsedOk || decide ((s.slot n).staleN = 0 ∨ (s.slot n).goodK = 0) ||
      !{ s.slot n with en := true }.banksOk) = true := by
    rcases hbad with h | h | h | h <;> simp [h]
  unfold State.slotCtrl
  simp only [hen, Bool.false_eq_true, false_and, Bool.true_and, Bool.not_false, Bool.true_or, refused, if_true, ite_self]

/-- A disable changes nothing of the set-up. -/
theorem State.slotCtrl_disable (hen : (s.slot n).en = true) (hsetup : (s.slot n).setupOk s.loops.points = true) :
    s.slotCtrl n (fun x => { x with en := false }) = (s.slotOff n).mapSlot n fun x =>
      { x with fallback := (s.slot n).fallback, regions := (s.slot n).regions } := by
  have sound : { s.slot n with en := false }.setupOk s.loops.points = true := hsetup
  simp [State.slotCtrl, hen, sound]

end

/-- The gate and the loop engine alone may have changed, and of the gate no applied value. -/
structure State.CausesCleared (s t : State) : Prop where
  frame : t = { s with loops := t.loops, gate := t.gate }
  applied : ∀ i, (t.outp i).applied = (s.outp i).applied

theorem State.CausesCleared.refl (s : State) : State.CausesCleared s s := ⟨rfl, fun _ => rfl⟩

theorem State.CausesCleared.trans {s t u : State} (h : State.CausesCleared s t) (h' : State.CausesCleared t u) :
    State.CausesCleared s u :=
  ⟨by rw [h'.frame, h.frame], fun i => (h'.applied i).trans (h.applied i)⟩

theorem State.LoopsOnly.causesCleared {s t : State} (h : State.LoopsOnly s t) : State.CausesCleared s t := by
  rw [State.LoopsOnly] at h
  rw [h]
  exact ⟨rfl, fun _ => rfl⟩

/-- What ends a Rest cause changes no applied value and no slot. -/
theorem State.clearCauses_cleared (s : State) (c : RestCause) (p : Output → Bool) :
    State.CausesCleared s (s.clearCauses c p) ∧ (s.clearCauses c p).loops = s.loops := by
  refine ⟨⟨?_, fun i => ?_⟩, ?_⟩
  · rw [State.clearCauses_frame]
  · rw [State.clearCauses_outp]
    split <;> rfl
  · rw [State.clearCauses_frame]

theorem State.clearCause_cleared (s : State) (i : Fin 30) (c : RestCause) :
    State.CausesCleared s (s.clearCause i c) ∧ (s.clearCause i c).loops = s.loops := by
  refine ⟨⟨rfl, fun j => ?_⟩, rfl⟩
  by_cases h : j = i
  · subst h
    rw [(s.clearCause_outputSet j c).same]
    rfl
  · rw [(s.clearCause_outputSet i c).other h]

/-- The FEEDBACK cause of a slot ends at the outputs that the slot owns; of the slot only the note that it has set it changes. -/
theorem State.clearFeedback_cleared (s : State) (n : Fin 48) :
    State.CausesCleared s (s.clearFeedback n) ∧ (s.clearFeedback n).loops = (s.mapSlot n fun x => { x with fbSet := false }).loops := by
  cases hset : (s.slot n).fbSet with
  | false =>
    have same : { s.slot n with fbSet := false } = s.slot n := by rw [← hset]
    rw [State.mapSlot_fixed same, State.clearFeedback, if_neg (ne_true_of_eq_false hset)]
    exact ⟨.refl s, rfl⟩
  | true =>
    obtain ⟨owned, kept⟩ := (s.mapSlot n fun x => { x with fbSet := false }).clearCauses_cleared .feedback (ownedBySlot n)
    have unset := (s.mapSlot_loopsOnly n fun x => { x with fbSet := false }).causesCleared.trans owned
    rw [State.clearFeedback, if_pos hset]
    dsimp only
    split
    next i _ =>
      obtain ⟨own, kept'⟩ := State.clearCause_cleared (((s.mapSlot n fun x => { x with fbSet := false }).clearCauses .feedback
        (ownedBySlot n))) i .feedback
      exact ⟨unset.trans own, kept'.trans kept⟩
    next => exact ⟨unset, kept⟩

theorem State.clearFeedback_unset {s : State} {n : Fin 48} (h : (s.slot n).fbSet = false) : s.clearFeedback n = s := by
  simp [State.clearFeedback, h]

theorem State.slot_congr {s t : State} (h : t.loops = s.loops) (k : Fin 48) : t.slot k = s.slot k := by
  rw [State.slot, h]
  rfl

/-- R297: a disabled slot is OFF and keeps its output; no other slot and no applied value changes. -/
theorem State.slotOff_cleared (s : State) (n : Fin 48) :
    State.CausesCleared s (s.slotOff n) ∧
      (s.slotOff n).slot n = { s.slot n with fbSet := false, st := .off, en := false, due := 0 } ∧
      ∀ k, k ≠ n → (s.slotOff n).slot k = s.slot k := by
  obtain ⟨cleared, loops⟩ := s.clearFeedback_cleared n
  refine ⟨(cleared.trans (State.setSlotState_loopsOnly _ n _).causesCleared).trans (State.mapSlot_loopsOnly _ n _).causesCleared,
    ?_, fun k hk => ?_⟩
  · rw [State.slotOff, State.mapSlot_slot_same, State.setSlotState_slot_same, State.slot_congr loops, State.mapSlot_slot_same]
  · rw [State.slotOff, State.mapSlot_slot_ne _ hk, State.setSlotState_slot_ne _ hk, State.slot_congr loops,
      State.mapSlot_slot_ne _ hk]

theorem State.slotOff_gate {s : State} {n : Fin 48} (h : (s.slot n).fbSet = false) : (s.slotOff n).gate = s.gate := by
  simp [State.slotOff, State.clearFeedback_unset h]

/-! ### The statement -/

/-- A permitted register write of a Lodger to a slot. -/
theorem exec_commitGo {s : State} {n : Fin 4} {user : Bool} {m : Fin 48} (h : s.may n user .store (slotBase m + 0x54))
    (bank : Fin 4) : exec (.commitGo n user m bank) s =
      .next ((s.answer 0).mapSlot m fun x => x.commitWrite x.view bank.val true) :=
  congrArg Host.Outcome.next (State.access_lodger h _)

theorem exec_directCoefWrite {s : State} {n : Fin 4} {user : Bool} {m : Fin 48} {k : Fin 9}
    (h : s.may n user .store (slotBase m + 0x60 + 4 * k.val)) (w : Word) : exec (.directCoefWrite n user m k w) s =
      .next ((s.answer 0).mapSlot m fun x => x.stage k w) := congrArg Host.Outcome.next (State.access_lodger h _)

theorem exec_directGroupWrite {s : State} {n : Fin 4} {user : Bool} {m : Fin 48} (h : s.may n user .store (slotBase m + 0x50))
    (count : Fin 16) : exec (.directGroupWrite n user m count) s =
      .next ((s.answer 0).mapSlot m fun x => x.group count.val) := congrArg Host.Outcome.next (State.access_lodger h _)

theorem exec_slotEnable {s : State} {n : Fin 4} {user : Bool} {m : Fin 48} (h : s.may n user .store (slotBase m)) :
    exec (.slotEnable n user m) s = .next ((s.answer 0).slotCtrl m fun x => { x with en := true }) :=
  congrArg Host.Outcome.next (State.access_lodger h _)

theorem exec_slotDisable {s : State} {n : Fin 4} {user : Bool} {m : Fin 48} (h : s.may n user .store (slotBase m)) :
    exec (.slotDisable n user m) s = .next ((s.answer 0).slotCtrl m fun x => { x with en := false }) :=
  congrArg Host.Outcome.next (State.access_lodger h _)

theorem exec_setpointWrite {s : State} {n : Fin 4} {user : Bool} {m : Fin 48} (h : s.may n user .store (slotBase m + 0x0C))
    (w : Word) : exec (.setpointWrite n user m w) s = .next ((s.answer 0).setpoint m w) :=
  congrArg Host.Outcome.next (State.access_lodger h _)

theorem exec_loopOutWrite {s : State} {n : Fin 4} {user : Bool} {m : Fin 48} (h : s.may n user .store (slotBase m + 0x44))
    (w : Word) : exec (.loopOutWrite n user m w) s = .next ((s.answer 0).loopOut m w) :=
  congrArg Host.Outcome.next (State.access_lodger h _)

/-- Settles O26: `commitWrite_go`, the equations of `group` and the definition of `stage` say what a write makes of the slot,
`slotCtrl_enable` and its companions when EN is taken, and `slotOff_cleared` what a disable leaves. -/
theorem loopRegisters : Obligations.LoopRegisters := by
  unfold Obligations.LoopRegisters
  refine ⟨?commit, ?coef, ?group, ?enable, ?setpoint, ?out⟩
  case commit =>
    intro s n user m bank h
    rw [exec_commitGo h, State.answer_mapSlot, LoopSlot.commitWrite_go]
  case coef =>
    intro s n user m k w h
    rw [exec_directCoefWrite h, State.answer_mapSlot]
    rfl
  case group =>
    intro s n user m count h
    rw [exec_directGroupWrite h]
    have group : ((s.answer 0).mapSlot m fun x => x.group count.val).slot m = (s.slot m).group count.val :=
      State.mapSlot_slot_same ..
    refine ⟨_, rfl, ?_, rfl, fun hover => ?_, fun hzero => ?_, fun hlo hhi => ?_⟩
    · rw [group, State.answer_mapSlot]
    · rw [group, LoopSlot.group_over hover]
    · rw [group, hzero, LoopSlot.group_zero]
    · rw [group, LoopSlot.group_opens hlo hhi]
  case enable =>
    intro s n user m h x z
    refine ⟨fun hen hsetup haddr hstale hgood hbanks hcasc => ?_, fun hen hbad => ?_, fun hen hsetup => ?_⟩
    · rw [exec_slotEnable h, State.slotCtrl_enable (s := s.answer 0) hen hsetup haddr hstale hgood hbanks hcasc]
      have slot : ((s.answer 0).mapSlot m fun x => { x with en := true }.enable).slot m = z.enable := State.mapSlot_slot_same ..
      refine ⟨_, rfl, ?_⟩
      beta_reduce
      rw [slot]
      exact ⟨rfl, rfl, rfl, rfl, rfl, rfl, rfl, fun k hk => State.mapSlot_slot_ne _ hk _, rfl⟩
    · rw [exec_slotEnable h, State.slotCtrl_enable_refused (s := s.answer 0) hen hbad]
      rfl
    · obtain ⟨⟨frame, applied⟩, slot, others⟩ := (s.answer 0).slotOff_cleared m
      rw [exec_slotDisable h, State.slotCtrl_disable (s := s.answer 0) hen hsetup]
      refine ⟨_, rfl, ?_⟩
      beta_reduce
      rw [State.mapSlot_slot_same, slot]
      exact ⟨rfl, rfl, rfl, fun k hk => (State.mapSlot_slot_ne _ hk _).trans (others k hk), applied, by rw [frame]; rfl,
        State.slotOff_gate (s := s.answer 0)⟩
  case setpoint =>
    intro s n user m w h
    rw [exec_setpointWrite h, State.setpoint]
    cases hin : s.isInner m with
    | true => exact congrArg Host.Outcome.next (if_pos hin)
    | false => exact congrArg Host.Outcome.next (if_neg (ne_true_of_eq_false hin))
  case out =>
    intro s n user m w h
    rw [exec_loopOutWrite h]
    exact ⟨fun hen => congrArg Host.Outcome.next (if_pos hen),
      fun hen => congrArg Host.Outcome.next (if_neg (ne_true_of_eq_false hen))⟩

end Sys2Proof.Machine
end

section
/-! PROOFS. One sample of a loop slot with no output and no read region variable: the slot as its faults are judged, and what the
judgement leads to (R273, R285, R287, R289, R299, R302, R305). -/

namespace Sys2Proof.Machine

/-! ### The slot as its faults are judged -/

/-- R287, R289: the slot at the start of its sample, a pending commit taken first. -/
def LoopSlot.begun (x : LoopSlot) (div : Nat) : LoopSlot :=
  let y := if x.pend && !x.direct then x.commit else x
  { y with
    due := div, cause := y.cause &&& ~~~causeNumBad, restart := false, realign := false, destBad := false
    usedSeq := y.wseq, mixed := y.mixed || decide (0 < y.left)
    mixCnt := if 0 < y.left then satInc 0xFF y.mixCnt else y.mixCnt }

/-- R285: its region, where REG stands for the region variable. -/
def LoopSlot.zoned (x : LoopSlot) : LoopSlot := if x.direct then x else x.selectRegion (some x.reg)

/-- A commit takes or refuses the staging words, and no more. -/
theorem LoopSlot.commit_form (x : LoopSlot) :
    ∃ banks err, x.commit = { x with pend := false, banks := banks, commitErr := err } := by
  unfold LoopSlot.commit
  split <;> exact ⟨_, _, rfl⟩

/-- What of a slot its set-up and its law's memory are, no beginning of a sample changes. -/
theorem LoopSlot.begun_form (x : LoopSlot) (div : Nat) : ∃ pend banks err mixed mixCnt, x.begun div = { x with
    due := div, cause := x.cause &&& ~~~causeNumBad, restart := false, realign := false, destBad := false
    usedSeq := x.wseq, pend := pend, banks := banks, commitErr := err, mixed := mixed, mixCnt := mixCnt } := by
  obtain ⟨banks, err, hcommit⟩ := x.commit_form
  rw [LoopSlot.begun, hcommit]
  cases x.pend && !x.direct <;> exact ⟨_, _, _, _, _, rfl⟩

theorem LoopSlot.zoned_form (x : LoopSlot) : ∃ region err, x.zoned = { x with region := region, cfgErr := err } := by
  unfold LoopSlot.zoned LoopSlot.selectRegion
  dsimp only
  (repeat' split) <;> exact ⟨_, _, rfl⟩

/-- Only what R299 to R301 keep of the slot's health may have changed. -/
def LoopSlot.HealthOnly (x y : LoopSlot) : Prop := y = { x with
  frz := y.frz, yRef := y.yRef, uRef := y.uRef, frzWait := y.frzWait, lastSeq := y.lastSeq, stale := y.stale, goodrun := y.goodrun }

theorem LoopSlot.HealthOnly.trans {x y z : LoopSlot} (h : x.HealthOnly y) (h' : y.HealthOnly z) : x.HealthOnly z := by
  rw [LoopSlot.HealthOnly] at *
  rw [h', h]

theorem LoopSlot.freezeStep_health (x : LoopSlot) (y : Word) (ticks : Nat) : x.HealthOnly (x.freezeStep y ticks) := by
  unfold LoopSlot.freezeStep
  split <;> rfl

theorem LoopSlot.classify_health (x : LoopSlot) (y hw : Option Word) (bad : Bool) (ticks : Nat) :
    x.HealthOnly (x.classify y hw bad ticks).2 := by
  unfold LoopSlot.classify
  split
  next y hw =>
    extract_lets moved timed new seen
    have toTimed : x.HealthOnly timed := by
      have toMoved : x.HealthOnly moved := rfl
      refine toMoved.trans ?_
      unfold timed
      split
      · exact moved.freezeStep_health y ticks
      · rfl
    have toSeen : timed.HealthOnly seen := by
      unfold seen
      split <;> rfl
    split
    · exact toTimed
    · exact (toTimed.trans toSeen).trans rfl
  next => rfl

/-- New feedback that is finite and said to be good is no fault, where no freeze check is on (Table 08-4). -/
theorem LoopSlot.classify_good {x : LoopSlot} {y hw : Word} (ticks : Nat) (hgood : bit hw 0 = true) (hfin : finite y = true)
    (hnew : x.lastSeq ≠ some (bits hw 31 16)) (hfrz : x.frzTime = 0) :
    (x.classify (some y) (some hw) false ticks).1 = 0 := by
  unfold LoopSlot.classify
  dsimp -zeta only
  extract_lets moved timed new seen range stale freeze fault
  have kept : timed.lastSeq = x.lastSeq ∧ timed.frzTime = x.frzTime := by
    unfold timed LoopSlot.freezeStep
    (repeat' split) <;> exact ⟨rfl, rfl⟩
  have hnew : new = true := by simp only [new, kept.1, decide_eq_true hnew]
  have hrange : range = 0 := by simp [range, hgood, hfin]
  have hstale : stale = 0 := by simp [stale, hnew]
  have hfreeze : freeze = 0 := by
    have off : seen.frzTime = 0 := by
      unfold seen
      split <;> exact kept.2.trans hfrz
    simp [freeze, off]
  split
  · rfl
  · simp only [fault, hrange, hstale, hfreeze]
    rfl

/-- R299: the faults of a sample, and the slot once they are noted. -/
def LoopSlot.judged (x : LoopSlot) (y hw : Option Word) (div : Nat) : BitVec 6 × LoopSlot :=
  let cl := (x.begun div).zoned.classify y hw x.destBad div
  (cl.1, { cl.2 with cause := cl.2.cause ||| cl.1 })

theorem LoopSlot.judged_form (x : LoopSlot) (y hw : Option Word) (div : Nat) :
    let z := (x.begun div).zoned
    let w := (x.judged y hw div).2
    w = { x.begun div with
      region := z.region, cfgErr := z.cfgErr, cause := w.cause, frz := w.frz, yRef := w.yRef, uRef := w.uRef, frzWait := w.frzWait
      lastSeq := w.lastSeq, stale := w.stale, goodrun := w.goodrun } := by
  intro z w
  obtain ⟨region, err, zoned⟩ := (x.begun div).zoned_form
  have health := z.classify_health y hw x.destBad div
  simp only [w, LoopSlot.judged, z] at *
  rw [health]
  simp only [zoned]

/-- A feedback word that cannot be read is a MEMORY fault (Table 08-4). -/
theorem LoopSlot.judged_unread (x : LoopSlot) (hw : Option Word) (div : Nat) :
    (x.judged none hw div).1 = causeMemory ∧ (x.judged none hw div).2.goodrun = 0 ∧
      (x.judged none hw div).2.cause.getLsbD 3 = true := by
  refine ⟨rfl, rfl, ?_⟩
  change ((x.begun div).zoned.cause ||| causeMemory).getLsbD 3 = true
  rw [BitVec.getLsbD_or]
  exact Bool.or_true _

theorem LoopSlot.judged_good {x : LoopSlot} {y hw : Word} (div : Nat) (hbad : x.destBad = false) (hgood : bit hw 0 = true)
    (hfin : finite y = true) (hnew : x.lastSeq ≠ some (bits hw 31 16)) (hfrz : x.frzTime = 0) :
    (x.judged (some y) (some hw) div).1 = 0 := by
  obtain ⟨pend, banks, err, mixed, mixCnt, begun⟩ := x.begun_form div
  obtain ⟨region, cfg, zoned⟩ := (x.begun div).zoned_form
  have seq : (x.begun div).zoned.lastSeq = x.lastSeq := by rw [zoned, begun]
  have frz : (x.begun div).zoned.frzTime = x.frzTime := by rw [zoned, begun]
  simp only [LoopSlot.judged, hbad]
  exact LoopSlot.classify_good div hgood hfin (seq ▸ hnew) (frz ▸ hfrz)

/-- A slot that drives no gate output has none that could leave Live. -/
theorem State.destLive_of_kind {s : State} {n : Fin 48} (h : (s.slot n).destKind ≠ 1) : s.destLive n = true := by
  simp [State.destLive, LoopSlot.output, h]

/-! ### What the judgement leads to -/

theorem State.sample_judged {s : State} {n : Fin 48} (div : Nat) (hz : (s.slot n).direct = true ∨ (s.slot n).regAddr = 0)
    (hdest : (s.slot n).destKind ≠ 1) :
    let x := s.slot n
    let ry := s.slotRead n x.fbAddr
    let rh := ry.2.slotRead n (x.fbAddr + 4)
    let z := (x.begun div).zoned
    let cl := x.judged ry.1 rh.1 div
    let t := rh.2.mapSlot n fun _ => cl.2
    let was := decide (x.cause &&& causeNumBad ≠ 0)
    let realign := x.realign || (!x.direct && decide (z.region ≠ x.region)) ||
      (x.pend && !x.direct && coefOk x.stg && decide (x.bank = x.region))
    (x.st = .closed → cl.1 = 0 →
      s.sample n div = t.slotLaw n z.coef (samplePeriod div) (ry.1.getD 0) x.restart realign (s.innerHeld x) was) ∧
    (x.st = .closed → cl.1 ≠ 0 → s.sample n div = ((t.mapSlot n fun x => { x with
      faults := satInc 0xFFFF x.faults, frzWait := x.frzWait || decide (cl.1 &&& causeFreeze ≠ 0) }).setSlotState n
        .fallback).slotFallback n z.coef (samplePeriod div) was) ∧
    (x.st = .track → cl.2.goodrun < x.goodK →
      s.sample n div = (t.mapSlot n fun x => { x with limited := false }).numCheck n z.coef was) := by
  intro x ry rh z cl t was realign
  obtain ⟨pend, banks, err, mixed, mixCnt, begun⟩ := x.begun_form div
  obtain ⟨region, cfg, zoned⟩ := (x.begun div).zoned_form
  have hkind : z.destKind = x.destKind := by
    simp only [z, zoned]
    rw [begun]
  have kept : cl.2.st = x.st ∧ cl.2.goodK = x.goodK := by
    rw [x.judged_form, begun]
    exact ⟨rfl, rfl⟩
  obtain ⟨hst, hgoodK⟩ := kept
  have start : (s.mapSlot n fun _ => x.begun div).slotRead n x.fbAddr = (ry.1, ry.2.mapSlot n fun _ => x.begun div) :=
    s.slotRead_mapSlot n n _ _
  have health : (ry.2.mapSlot n fun _ => x.begun div).slotRead n (x.fbAddr + 4) = (rh.1, rh.2.mapSlot n fun _ => x.begun div) :=
    ry.2.slotRead_mapSlot n n _ _
  have placed : (if x.direct then rh.2.mapSlot n fun _ => x.begun div
      else (rh.2.mapSlot n fun _ => x.begun div).mapSlot n fun y => y.selectRegion (some x.reg)) = rh.2.mapSlot n fun _ => z := by
    simp only [z, LoopSlot.zoned, begun, State.mapSlot_mapSlot]
    split <;> rfl
  have live : (rh.2.mapSlot n fun _ => z).destLive n = true :=
    State.destLive_of_kind (by rw [State.mapSlot_slot_same, hkind]; exact hdest)
  generalize hr : s.sample n div = r
  unfold State.sample at hr
  extract_lets -merge x0 was0 restart hold x1 committed s1 ry0 rh0 s2 rz s3 s4 realign0 c h s5 cl0 fault x2 s6 y good faulted recovered
    released at hr
  have hry : ry0 = (ry.1, ry.2.mapSlot n fun _ => x.begun div) := start
  have hrh : rh0 = (rh.1, rh.2.mapSlot n fun _ => x.begun div) := by
    simp only [rh0, hry]
    exact health
  have hrz : rz = (some x.reg, rh.2.mapSlot n fun _ => x.begun div) := by
    simp only [rz, s2, hrh]
    exact if_pos hz
  have h4 : s4 = rh.2.mapSlot n fun _ => z := by
    simp only [s4, s3, hrz]
    exact placed
  have hslot : s4.slot n = z := by rw [h4, State.mapSlot_slot_same]
  have h5 : s5 = rh.2.mapSlot n fun _ => z := by
    simp only [s5, h4, live, Bool.true_eq_false, and_false, if_false]
  have hcl : cl0 = z.classify ry.1 rh.1 x.destBad div := by
    simp only [cl0, h5, hry, hrh, hrz, State.mapSlot_slot_same, Option.isNone_some, Bool.or_false]
    rfl
  have h6 : s6 = t := by
    simp only [s6, x2, fault, h5, hcl, State.mapSlot_mapSlot]
    rfl
  have hst6 : (s6.slot n).st = x.st := by rw [h6, State.mapSlot_slot_same]; exact hst
  have hgood : good = decide (x.goodK ≤ cl.2.goodrun) := by
    simp only [good, h6, t, State.mapSlot_slot_same]
    rw [hgoodK]
  have hc : c = z.coef := congrArg LoopSlot.coef hslot
  have hrealign : realign0 = realign := by
    simp only [realign0, hslot]
    rfl
  have hy : y = ry.1.getD 0 := by simp only [y, hry]
  have hfault : fault = cl.1 := by
    simp only [fault, hcl]
    rfl
  rw [hst6] at hr
  refine ⟨fun hclosed hnone => ?_, fun hclosed hsome => ?_, fun htrack hfew => ?_⟩
  · rw [hclosed] at hr
    rw [← hr, ← h6, ← hc, ← hy, ← hrealign]
    exact if_neg (by simp [hfault, hnone])
  · rw [hclosed] at hr
    rw [← hr, ← h6, ← hc, ← hfault]
    exact if_pos (by rw [hfault]; exact hsome)
  · rw [htrack] at hr
    rw [← hr, ← h6, ← hc]
    exact if_neg (by simpa [hgood] using hfew)

end Sys2Proof.Machine
end

section
/-! PROOFS. A tick of the loop engine: which slots it reaches, what a sample writes, and the statement (R268, R269, R271, R277, R278,
R282, R285, R287, R289, R293, R302, R305). -/

namespace Sys2Proof.Machine

/-! ### What a sample of a slot without a destination reaches -/

/-- Of the loop engine only one slot and the LOOP_EVT bits may have changed, and elsewhere nothing. -/
def State.SlotOnly (n : Fin 48) (s t : State) : Prop := State.LoopsOnly s t ∧ ∀ k, k ≠ n → t.slot k = s.slot k

theorem State.SlotOnly.refl (n : Fin 48) (s : State) : State.SlotOnly n s s := ⟨.refl s, fun _ _ => rfl⟩

theorem State.SlotOnly.trans {n : Fin 48} {s t u : State} (h : State.SlotOnly n s t) (h' : State.SlotOnly n t u) :
    State.SlotOnly n s u := by
  obtain ⟨frame, others⟩ := h
  obtain ⟨frame', others'⟩ := h'
  exact ⟨frame.trans frame', fun k hk => (others' k hk).trans (others k hk)⟩

theorem State.SlotOnly.ite {c : Prop} [Decidable c] {n : Fin 48} {s t u : State} (ht : State.SlotOnly n s t)
    (hu : State.SlotOnly n s u) : State.SlotOnly n s (if c then t else u) := by
  split
  · exact ht
  · exact hu

theorem State.mapSlot_slotOnly (s : State) (n : Fin 48) (f : LoopSlot → LoopSlot) : State.SlotOnly n s (s.mapSlot n f) :=
  ⟨s.mapSlot_loopsOnly n f, fun _ hk => s.mapSlot_slot_ne hk f⟩

theorem State.loopEvt_slotOnly (s : State) (n : Fin 48) : State.SlotOnly n s (s.loopEvt n) :=
  ⟨s.loopEvt_loopsOnly n, fun k _ => s.loopEvt_slot n k⟩

theorem State.setSlotState_slotOnly (s : State) (n : Fin 48) (st : LoopSt) : State.SlotOnly n s (s.setSlotState n st) :=
  ⟨s.setSlotState_loopsOnly n st, fun _ hk => s.setSlotState_slot_ne hk st⟩

/-- R279 without a destination: u goes to LOOPn_OUT and is kept. -/
theorem State.slotWrite_internal {s : State} {n : Fin 48} (h : (s.slot n).destKind = 0) (u : Word) :
    s.slotWrite n u = s.mapSlot n fun x => { x with uPrev := u, out := u } := by
  simp [State.slotWrite, h]

/-! ### The law's result, and the sample that holds (R277, R293) -/

theorem State.slotLaw_some {s : State} {n : Fin 48} {x z : LoopSlot} {c : Bank} {h u : F32} {y : Word}
    {restart realign hold : Bool} (hx : s.slot n = x) (hlaw : x.law c h y restart realign hold = some (u, z))
    (hdest : z.destKind = 0) (was : Bool) :
    s.slotLaw n c h y restart realign hold was = s.mapSlot n fun _ => { z with uPrev := u.toBits, out := u.toBits } := by
  rw [State.slotLaw, hx, hlaw]
  dsimp only
  rw [State.slotWrite_internal (by rw [State.mapSlot_slot_same]; exact hdest), State.mapSlot_mapSlot]

/-- R293: u_prev is written again, and NUM_BAD is set and counted. -/
theorem State.numBad_internal {s : State} {n : Fin 48} (hdest : (s.slot n).destKind = 0) (was : Bool) :
    State.SlotOnly n s (s.numBad n was) ∧ (s.numBad n was).slot n = { s.slot n with
      cause := (s.slot n).cause ||| causeNumBad, badCnt := satInc 0xFF (s.slot n).badCnt, limited := false
      out := (s.slot n).uPrev } := by
  unfold State.numBad
  extract_lets t
  have noted : t.slot n = { s.slot n with
      cause := (s.slot n).cause ||| causeNumBad, badCnt := satInc 0xFF (s.slot n).badCnt, limited := false } :=
    s.mapSlot_slot_same n _
  have same : (if was = true then t else t.loopEvt n).slot n = t.slot n := by
    split <;> rfl
  have only : State.SlotOnly n s (if was = true then t else t.loopEvt n) :=
    (s.mapSlot_slotOnly n _).trans (.ite (.refl n t) (t.loopEvt_slotOnly n))
  rw [State.slotWrite_internal (by rw [same, noted]; exact hdest)]
  refine ⟨only.trans (State.mapSlot_slotOnly _ n _), ?_⟩
  rw [State.mapSlot_slot_same, same, noted]

theorem State.slotLaw_none {s : State} {n : Fin 48} {x : LoopSlot} {c : Bank} {h : F32} {y : Word}
    {restart realign hold : Bool} (hx : s.slot n = x) (hlaw : x.law c h y restart realign hold = none) (was : Bool) :
    s.slotLaw n c h y restart realign hold was = s.numBad n was := by
  rw [State.slotLaw, hx, hlaw]

/-- The law writes what it remembers of a slot and whether it limited its output, and no more. -/
theorem LoopSlot.law_form {x z : LoopSlot} {c : Bank} {h u : F32} {y : Word} {restart realign hold : Bool}
    (hlaw : x.law c h y restart realign hold = some (u, z)) :
    ∃ i d v l, z = { x with integ := i, dPrev := d, vPrev := v, limited := l } := by
  unfold LoopSlot.law at hlaw
  extract_lets at hlaw
  split at hlaw
  · exact nomatch hlaw
  · obtain ⟨-, rfl⟩ := Prod.mk.inj (Option.some.inj hlaw)
    exact ⟨_, _, _, _, rfl⟩

/-- Law or NUM_BAD, the sample's end is a matter of its own slot, whose state, banks and counters of commits stand. -/
theorem State.slotLaw_kept {s : State} {n : Fin 48} (hdest : (s.slot n).destKind = 0) (c : Bank) (h : F32) (y : Word)
    (restart realign hold was : Bool) :
    State.SlotOnly n s (s.slotLaw n c h y restart realign hold was) ∧
      ∃ i d v l u o cause bad, (s.slotLaw n c h y restart realign hold was).slot n = { s.slot n with
        integ := i, dPrev := d, vPrev := v, limited := l, uPrev := u, out := o, cause := cause, badCnt := bad } := by
  cases hlaw : (s.slot n).law c h y restart realign hold with
  | none =>
    obtain ⟨only, slot⟩ := State.numBad_internal hdest was
    rw [State.slotLaw_none rfl hlaw]
    exact ⟨only, _, _, _, _, _, _, _, _, slot⟩
  | some r =>
    obtain ⟨u, z⟩ := r
    obtain ⟨i, d, v, l, hz⟩ := LoopSlot.law_form hlaw
    rw [State.slotLaw_some rfl hlaw (by rw [hz]; exact hdest), State.mapSlot_slot_same, hz]
    exact ⟨State.mapSlot_slotOnly _ n _, _, _, _, _, _, _, _, _, rfl⟩

/-- R293 at a sample that writes no result of the law: it may set NUM_BAD, count it and set LOOP_EVT, and no more. -/
structure State.NumChecked (n : Fin 48) (s t : State) : Prop where
  only : State.SlotOnly n s t
  slot : t.slot n = { s.slot n with cause := (t.slot n).cause, badCnt := (t.slot n).badCnt }
  cause : ∀ i, (s.slot n).cause.getLsbD i = true → (t.slot n).cause.getLsbD i = true
  evt : ∀ i, s.loops.evt.getLsbD i = true → t.loops.evt.getLsbD i = true

theorem State.numCheck_checked (s : State) (n : Fin 48) (c : Bank) (was : Bool) : State.NumChecked n s (s.numCheck n c was) := by
  unfold State.numCheck
  split
  · exact ⟨.refl n s, rfl, fun _ => id, fun _ => id⟩
  extract_lets t
  have noted : t.slot n = { s.slot n with
      cause := (s.slot n).cause ||| causeNumBad, badCnt := satInc 0xFF (s.slot n).badCnt } := s.mapSlot_slot_same n _
  have only : State.SlotOnly n s t := s.mapSlot_slotOnly n _
  have cause : ∀ i, (s.slot n).cause.getLsbD i = true → (t.slot n).cause.getLsbD i = true := by
    intro i hi
    rw [noted, BitVec.getLsbD_or, hi, Bool.true_or]
  split
  · exact ⟨only, by rw [noted], cause, fun _ => id⟩
  · refine ⟨only.trans (t.loopEvt_slotOnly n), by rw [State.loopEvt_slot, noted], cause, fun i hi => ?_⟩
    change (s.loops.evt ||| BitVec.ofNat 48 (2 ^ n.val)).getLsbD i = true
    rw [BitVec.getLsbD_or, hi, Bool.true_or]

/-! ### A sample whose feedback word cannot be read (R302, R305) -/

/-- The gate, SRAM's data and the other slots are as they were. -/
structure State.SampleFrame (n : Fin 48) (s t : State) : Prop where
  gate : t.gate = s.gate
  cells : t.sram.cells = s.sram.cells
  others : ∀ k, k ≠ n → t.slot k = s.slot k

theorem State.SampleFrame.trans {n : Fin 48} {s t u : State} (h : State.SampleFrame n s t) (h' : State.SampleFrame n t u) :
    State.SampleFrame n s u :=
  ⟨h'.gate.trans h.gate, h'.cells.trans h.cells, fun k hk => (h'.others k hk).trans (h.others k hk)⟩

theorem State.SlotOnly.sampleFrame {n : Fin 48} {s t : State} (h : State.SlotOnly n s t) : State.SampleFrame n s t := by
  obtain ⟨frame, others⟩ := h
  rw [State.LoopsOnly] at frame
  exact ⟨by rw [frame], by rw [frame], others⟩

theorem State.slotRead_sampleFrame (s : State) (n : Fin 48) (addr : Nat) : State.SampleFrame n s (s.slotRead n addr).2 :=
  ⟨s.slotRead_gate n addr, s.slotRead_cells n addr, fun k _ => (s.slotRead_fetchFrame n addr).slot k⟩

theorem State.setSlotState_fallback_evt {s : State} {n : Fin 48} (h : (s.slot n).st = .closed) :
    (s.setSlotState n .fallback).loops.evt.getLsbD n.val = true := by
  have enters : s.setSlotState n .fallback = (s.mapSlot n fun x => { x with st := .fallback }).loopEvt n :=
    if_pos ⟨by rw [h]; nofun, .inr rfl⟩
  rw [enters]
  change (s.loops.evt ||| BitVec.ofNat 48 (2 ^ n.val)).getLsbD n.val = true
  rw [BitVec.getLsbD_or, BitVec.getLsbD_ofNat, Nat.testBit_two_pow_self, decide_eq_true n.isLt]
  exact Bool.or_true _

/-- HOLD (Table 08-5): u_prev is written again. -/
theorem State.slotFallback_hold {s : State} {n : Fin 48} (hfall : (s.slot n).fallback = 0) (hdest : (s.slot n).destKind = 0)
    (c : Bank) (h : F32) (was : Bool) : s.slotFallback n c h was =
      (s.mapSlot n fun x => { x with limited := false, out := x.uPrev }).numCheck n c was := by
  simp only [State.slotFallback, State.mapSlot_slot_same, hfall]
  rw [State.slotWrite_internal (by rw [State.mapSlot_slot_same]; exact hdest), State.mapSlot_mapSlot]
  exact congrArg (fun t => State.numCheck t n c was) (State.mapSlot_congr rfl)

/-- The sample has read its inputs, and the feedback word could not be read: the slot as it is judged, before its action. -/
structure State.Unread (n : Fin 48) (div : Nat) (s t : State) : Prop where
  frame : State.SampleFrame n s t
  st : (t.slot n).st = (s.slot n).st
  destKind : (t.slot n).destKind = (s.slot n).destKind
  fallback : (t.slot n).fallback = (s.slot n).fallback
  out : (t.slot n).out = (s.slot n).out
  uPrev : (t.slot n).uPrev = (s.slot n).uPrev
  faults : (t.slot n).faults = (s.slot n).faults
  due : (t.slot n).due = div
  goodrun : (t.slot n).goodrun = 0
  cause : (t.slot n).cause.getLsbD 3 = true

section
variable {s : State} {n : Fin 48} (hreg : (s.slot n).regAddr = 0) (hdest : (s.slot n).destKind = 0)
  (hread : (s.slotRead n (s.slot n).fbAddr).1 = none)
include hreg hdest hread

theorem State.sample_unread (div : Nat) : ∃ t c was, State.Unread n div s t ∧
    ((s.slot n).st = .track → 0 < (s.slot n).goodK →
      s.sample n div = (t.mapSlot n fun x => { x with limited := false }).numCheck n c was) ∧
    ((s.slot n).st = .closed → s.sample n div = ((t.mapSlot n fun x => { x with
      faults := satInc 0xFFFF x.faults }).setSlotState n .fallback).slotFallback n c (samplePeriod div) was) := by
  obtain ⟨-, closed, track⟩ := State.sample_judged div (.inr hreg) (hdest ▸ Nat.zero_ne_one)
  rw [hread] at closed track
  have reads := (s.slotRead_sampleFrame n (s.slot n).fbAddr).trans (State.slotRead_sampleFrame _ n ((s.slot n).fbAddr + 4))
  generalize (s.slotRead n (s.slot n).fbAddr).2.slotRead n ((s.slot n).fbAddr + 4) = rh at *
  obtain ⟨fault, goodrun, cause⟩ := (s.slot n).judged_unread rh.1 div
  have form := (s.slot n).judged_form none rh.1 div
  obtain ⟨_, _, _, _, _, begun⟩ := (s.slot n).begun_form div
  rw [begun] at form
  generalize (s.slot n).judged none rh.1 div = cl at *
  have slot : (rh.2.mapSlot n fun _ => cl.2).slot n = cl.2 := State.mapSlot_slot_same ..
  refine ⟨rh.2.mapSlot n fun _ => cl.2, _, _, ?_, fun hst hgood => track hst (goodrun ▸ hgood), fun hst => ?_⟩
  · constructor
    case frame => exact reads.trans (State.mapSlot_slotOnly _ n _).sampleFrame
    case goodrun => rw [slot, goodrun]
    case cause => rw [slot, cause]
    all_goals rw [slot, form]
  · have noFreeze : decide (causeMemory &&& causeFreeze ≠ 0) = false := rfl
    simpa only [fault, noFreeze, Bool.or_false] using closed hst (by rw [fault]; decide)

/-- R305: in TRACK the slot stays there, its run of good samples broken. -/
theorem State.sample_unread_track (hst : (s.slot n).st = .track) (hgood : 0 < (s.slot n).goodK) (div : Nat) :
    let t := s.sample n div
    (t.slot n).st = .track ∧ (t.slot n).goodrun = 0 ∧ (t.slot n).cause.getLsbD 3 = true ∧ (t.slot n).due = div ∧
      (t.slot n).out = (s.slot n).out ∧ State.SampleFrame n s t := by
  intro t
  obtain ⟨u, c, was, unread, track, -⟩ := State.sample_unread hreg hdest hread div
  have checked := (u.mapSlot n fun x => { x with limited := false }).numCheck_checked n c was
  rw [← track hst hgood] at checked
  obtain ⟨only, slot, causes, -⟩ := checked
  rw [State.mapSlot_slot_same] at slot causes
  refine ⟨by rw [slot]; exact unread.st.trans hst, by rw [slot]; exact unread.goodrun, causes 3 unread.cause,
    by rw [slot]; exact unread.due, by rw [slot]; exact unread.out,
    unread.frame.trans ((State.mapSlot_slotOnly _ n _).trans only).sampleFrame⟩

/-- R302: in CLOSED with HOLD the slot falls back, and u_prev is written again. -/
theorem State.sample_unread_closed (hst : (s.slot n).st = .closed) (hfall : (s.slot n).fallback = 0) (div : Nat) :
    let t := s.sample n div
    (t.slot n).st = .fallback ∧ (t.slot n).cause.getLsbD 3 = true ∧ (t.slot n).faults = satInc 0xFFFF (s.slot n).faults ∧
      (t.slot n).out = (s.slot n).uPrev ∧ t.loops.evt.getLsbD n.val = true ∧ (t.slot n).due = div ∧ State.SampleFrame n s t := by
  intro t
  obtain ⟨u, c, was, unread, -, closed⟩ := State.sample_unread hreg hdest hread div
  have sample := closed hst
  have counts := u.mapSlot_slotOnly n fun x => { x with faults := satInc 0xFFFF x.faults }
  have counted := u.mapSlot_slot_same n fun x => { x with faults := satInc 0xFFFF x.faults }
  generalize (u.mapSlot n fun x => { x with faults := satInc 0xFFFF x.faults }) = v at sample counts counted
  have falls := v.setSlotState_slotOnly n .fallback
  have fallen := v.setSlotState_slot_same n .fallback
  have evt : (v.setSlotState n .fallback).loops.evt.getLsbD n.val = true :=
    State.setSlotState_fallback_evt (by rw [counted]; exact unread.st.trans hst)
  rw [counted] at fallen
  rw [State.slotFallback_hold (by rw [fallen]; exact unread.fallback.trans hfall)
    (by rw [fallen]; exact unread.destKind.trans hdest)] at sample
  have checked := ((v.setSlotState n .fallback).mapSlot n fun x => { x with limited := false, out := x.uPrev }).numCheck_checked n
    c was
  rw [← sample] at checked
  obtain ⟨only, slot, causes, evts⟩ := checked
  rw [State.mapSlot_slot_same, fallen] at slot causes
  exact ⟨by rw [slot], causes 3 unread.cause, by rw [slot]; exact congrArg (satInc 0xFFFF) unread.faults,
    by rw [slot]; exact unread.uPrev, evts _ evt, by rw [slot]; exact unread.due,
    unread.frame.trans (((counts.trans falls).trans (State.mapSlot_slotOnly _ n _)).trans only).sampleFrame⟩

end

/-! ### A sample of a CLOSED slot with good feedback (R277, R285, R287) -/

/-- A commit at the sample's start takes the staging words into the target bank, or sets COMMIT_ERR (R287). -/
theorem LoopSlot.begun_commits {x : LoopSlot} {b : Fin 4} (h : x.bank = b.val) (div : Nat) :
    let take := x.pend && !x.direct
    x.begun div = { x with
      due := div, cause := x.cause &&& ~~~causeNumBad, restart := false, realign := false, destBad := false, usedSeq := x.wseq
      mixed := x.mixed || decide (0 < x.left), mixCnt := if 0 < x.left then satInc 0xFF x.mixCnt else x.mixCnt
      pend := x.pend && x.direct, banks := if take && coefOk x.stg then vset x.banks b x.stg else x.banks
      commitErr := x.commitErr || (take && !coefOk x.stg) } := by
  unfold LoopSlot.begun
  rw [LoopSlot.commit_eq h]
  cases hp : x.pend <;> cases hd : x.direct <;> simp [hp, hd]

/-- Four checks in turn come to their conjunction. -/
theorem ite_checked {α : Type} (a b c d : Bool) (p q : α) :
    (if !a || !(b && !c) then p else if d then q else p) = if a && b && !c && d then q else p := by
  cases a <;> cases b <;> cases c <;> cases d <;> rfl

/-- R285: the region after a sample that is not in direct mode. -/
theorem LoopSlot.zoned_region {x : LoopSlot} (h : x.direct = false) : x.zoned.region =
    if strictly x.bounds && finite x.hys && !F32.lt (f32 x.hys) F32.zero && finite x.reg
    then moveRegion x.bounds (f32 x.hys) (f32 x.reg) (min x.region x.regions) else min x.region x.regions := by
  simp only [LoopSlot.zoned, LoopSlot.selectRegion, h, Bool.false_eq_true, if_false, apply_ite LoopSlot.region]
  exact ite_checked ..

theorem LoopSlot.zoned_coef {x : LoopSlot} {m : Fin 4} (h : x.direct = false → x.zoned.region = m.val) :
    x.zoned.coef = if x.direct then vget x.banks 0 else vget x.banks m := by
  obtain ⟨region, err, zoned⟩ := x.zoned_form
  rw [zoned] at h ⊢
  by_cases hd : x.direct = true
  · rw [if_pos hd]
    exact if_pos hd
  · obtain rfl : region = m.val := h (Bool.eq_false_iff.mpr hd)
    rw [if_neg hd]
    refine (if_neg hd).trans ?_
    rw [idx_of_fin]

/-- A slot with target bank `b` as the law finds it: a commit has been taken or refused, and what the law remembers stands. -/
structure LoopSlot.Committed (x : LoopSlot) (b : Fin 4) (div : Nat) (z : LoopSlot) : Prop where
  st : z.st = x.st
  destKind : z.destKind = x.destKind
  sp : z.sp = x.sp
  uPrev : z.uPrev = x.uPrev
  dPrev : z.dPrev = x.dPrev
  vPrev : z.vPrev = x.vPrev
  integ : z.integ = x.integ
  badCnt : z.badCnt = x.badCnt
  due : z.due = div
  usedSeq : z.usedSeq = x.wseq
  pend : z.pend = (x.pend && x.direct)
  banks : z.banks = if x.pend && !x.direct && coefOk x.stg then vset x.banks b x.stg else x.banks
  commitErr : z.commitErr = (x.commitErr || (x.pend && !x.direct && !coefOk x.stg))

theorem LoopSlot.judged_committed {x : LoopSlot} {b : Fin 4} (h : x.bank = b.val) (y hw : Option Word) (div : Nat) :
    x.Committed b div (x.judged y hw div).2 := by
  have form := x.judged_form y hw div
  rw [LoopSlot.begun_commits h div] at form
  constructor <;> rw [form]

theorem LoopSlot.begun_zoned_region {x : LoopSlot} {b : Fin 4} (hbank : x.bank = b.val) (h : x.direct = false) (div : Nat) :
    (x.begun div).zoned.region =
      if strictly x.bounds && finite x.hys && !F32.lt (f32 x.hys) F32.zero && finite x.reg
      then moveRegion x.bounds (f32 x.hys) (f32 x.reg) (min x.region x.regions) else min x.region x.regions := by
  have direct : (x.begun div).direct = false := by rw [LoopSlot.begun_commits hbank]; exact h
  rw [LoopSlot.zoned_region direct, LoopSlot.begun_commits hbank]
  rfl

theorem LoopSlot.begun_zoned_coef {x : LoopSlot} {b m : Fin 4} (hbank : x.bank = b.val) (div : Nat)
    (h : x.direct = false → (x.begun div).zoned.region = m.val) :
    let banks := if x.pend && !x.direct && coefOk x.stg then vset x.banks b x.stg else x.banks
    (x.begun div).zoned.coef = if x.direct then vget banks 0 else vget banks m := by
  have direct : (x.begun div).direct = x.direct := by rw [LoopSlot.begun_commits hbank]
  rw [LoopSlot.zoned_coef (direct ▸ h), direct, LoopSlot.begun_commits hbank]

/-- With good feedback a CLOSED slot runs the law on the slot as it is judged (R277), with the bank in force, realigned where the
region has changed or the commit has hit the bank in force (R278, R289). -/
theorem State.sample_good {s : State} {n : Fin 48} {y hw : Word} {b m : Fin 4} (div : Nat) (hst : (s.slot n).st = .closed)
    (hdest : (s.slot n).destKind = 0) (hbad : (s.slot n).destBad = false) (hbank : (s.slot n).bank = b.val)
    (hz : (s.slot n).direct = true ∨ (s.slot n).regAddr = 0)
    (hy : s.slotRead n (s.slot n).fbAddr = (some y, s)) (hhw : s.slotRead n ((s.slot n).fbAddr + 4) = (some hw, s))
    (hgood : bit hw 0 = true) (hfin : finite y = true) (hnew : (s.slot n).lastSeq ≠ some (bits hw 31 16))
    (hfrz : (s.slot n).frzTime = 0)
    (hregion : (s.slot n).direct = false → ((s.slot n).begun div).zoned.region = m.val) :
    let x := s.slot n
    let take := x.pend && !x.direct
    let banks := if take && coefOk x.stg then vset x.banks b x.stg else x.banks
    let c := if x.direct then vget banks 0 else vget banks m
    let realign := x.realign || (!x.direct && decide (m.val ≠ x.region)) || (take && coefOk x.stg && decide (x.bank = x.region))
    ∃ z was, x.Committed b div z ∧ (x.direct = false → z.region = m.val) ∧
      s.sample n div = (s.mapSlot n fun _ => z).slotLaw n c (samplePeriod div) y x.restart realign false was := by
  obtain ⟨law, -, -⟩ := State.sample_judged div hz (hdest ▸ Nat.zero_ne_one)
  have nohold : s.innerHeld (s.slot n) = false := by simp [State.innerHeld, hdest]
  have moved : (!(s.slot n).direct && decide (((s.slot n).begun div).zoned.region ≠ (s.slot n).region)) =
      (!(s.slot n).direct && decide (m.val ≠ (s.slot n).region)) := by
    cases hd : (s.slot n).direct with
    | true => rfl
    | false => rw [hregion hd]
  simp only [hy, hhw, nohold, LoopSlot.begun_zoned_coef hbank div hregion, moved] at law
  refine ⟨_, _, LoopSlot.judged_committed hbank _ _ div, fun hd => ?_, law hst (LoopSlot.judged_good div hbad hgood hfin hnew hfrz)⟩
  rw [LoopSlot.judged_form]
  exact hregion hd

/-! ### Which slots a tick reaches (R268, R269, R271) -/

/-- A slot that is not due is one tick nearer to its sample. -/
def LoopSlot.counted (x : LoopSlot) : LoopSlot := if x.st = .off then x else { x with due := x.due - 1 }

theorem State.slotTick_waits {s : State} {n : Fin 48} (h : (s.slot n).st = .off ∨ 1 < (s.slot n).due) :
    s.slotTick n = s.mapSlot n LoopSlot.counted := by
  unfold State.slotTick
  dsimp only
  by_cases hoff : (s.slot n).st = .off
  · rw [if_pos hoff]
    exact (State.mapSlot_fixed (f := LoopSlot.counted) (if_pos hoff)).symm
  · rw [if_neg hoff, if_neg (h.resolve_left hoff).not_ge]
    exact State.mapSlot_congr (if_neg hoff).symm

/-- Slots of which none is due are counted each on its own. -/
theorem foldl_slotTick_waits {l : List (Fin 48)} (hl : l.Nodup) {s : State}
    (h : ∀ k ∈ l, (s.slot k).st = .off ∨ 1 < (s.slot k).due) :
    l.foldl State.slotTick s = { s with loops := { s.loops with slots := (l.foldl State.slotTick s).loops.slots } } ∧
      ∀ k, (l.foldl State.slotTick s).slot k = if k ∈ l then (s.slot k).counted else s.slot k := by
  induction l generalizing s with
  | nil => exact ⟨rfl, fun _ => rfl⟩
  | cons j l ih =>
    obtain ⟨hj, hl⟩ := List.nodup_cons.mp hl
    have apart : ∀ k ∈ l, k ≠ j := fun k hk e => hj (e ▸ hk)
    rw [List.foldl_cons, State.slotTick_waits (h j List.mem_cons_self)]
    obtain ⟨frame, slots⟩ := ih hl (s := s.mapSlot j LoopSlot.counted) fun k hk => by
      rw [State.mapSlot_slot_ne _ (apart k hk)]
      exact h k (List.mem_cons_of_mem j hk)
    refine ⟨by rw [frame]; rfl, fun k => ?_⟩
    rw [slots]
    by_cases e : k = j
    · subst e
      rw [if_neg hj, if_pos List.mem_cons_self, State.mapSlot_slot_same]
    · simp only [State.mapSlot_slot_ne _ e, List.mem_cons, e, false_or]

theorem foldl_slotTick_off {l : List (Fin 48)} {s : State} (h : ∀ k ∈ l, (s.slot k).st = .off) :
    l.foldl State.slotTick s = s := by
  induction l with
  | nil => rfl
  | cons j l ih =>
    rw [List.foldl_cons, State.slotTick, if_pos (h j List.mem_cons_self)]
    exact ih fun k hk => h k (List.mem_cons_of_mem j hk)

theorem State.anyDue_iff (s : State) : s.anyDue = true ↔ ∃ n, (s.slot n).st ≠ .off ∧ (s.slot n).due ≤ 1 := by
  simp only [State.anyDue, List.any_eq_true, Vector.mem_toList_iff, Vector.mem_iff_getElem, decide_eq_true_eq]
  constructor
  · rintro ⟨x, ⟨i, hi, rfl⟩, h⟩
    exact ⟨⟨i, hi⟩, h⟩
  · rintro ⟨n, h⟩
    exact ⟨_, ⟨n.val, n.isLt, rfl⟩, h⟩

theorem State.granted_slot (s : State) (refused : Nat) (n : Fin 48) : (s.granted refused).slot n = s.slot n := by
  rw [State.granted_eq]
  rfl

theorem State.granted_divider (s : State) (refused : Nat) (n : Fin 48) : (s.granted refused).divider n = s.divider n := by
  rw [State.granted_eq]
  rfl

/-- Where one slot is due and the others are OFF, the tick is its sample. -/
theorem State.loopTick_only {s : State} {n : Fin 48} (hawake : s.awake = true) (hrun : s.loops.running = true)
    (hoff : ∀ k, k ≠ n → (s.slot k).st = .off) (hon : (s.slot n).st ≠ .off) (hdue : (s.slot n).due ≤ 1) (refused : Nat)
    (hkept : ∀ k, k ≠ n → (((s.granted refused).sample n (s.divider n)).slot k) = s.slot k) :
    s.loopTick refused false = ((s.granted refused).sample n (s.divider n)).mapSlot n LoopSlot.sampled := by
  have due : s.anyDue = true := s.anyDue_iff.mpr ⟨n, hon, hdue⟩
  have ticks : (s.granted refused).slotTick n = ((s.granted refused).sample n (s.divider n)).mapSlot n LoopSlot.sampled := by
    rw [State.slotTick, State.granted_slot, if_neg hon, if_pos hdue, State.granted_divider]
  obtain ⟨before, after, split⟩ := List.append_of_mem (List.mem_finRange n)
  have nodup := List.nodup_middle.mp (split ▸ List.nodup_finRange 48)
  obtain ⟨absent, -⟩ := List.nodup_cons.mp nodup
  have apart : ∀ k, k ∈ before ∨ k ∈ after → k ≠ n := fun k hk e => absent (List.mem_append.mpr (e ▸ hk))
  simp only [State.loopTick, hawake, hrun, due, Bool.and_self, if_true, Bool.false_eq_true, if_false]
  rw [split, List.foldl_append, List.foldl_cons]
  rw [foldl_slotTick_off (l := before) fun k hk => by rw [State.granted_slot]; exact hoff k (apart k (.inl hk)), ticks]
  refine foldl_slotTick_off fun k hk => ?_
  have hne := apart k (.inr hk)
  rw [State.mapSlot_slot_ne _ hne, hkept k hne]
  exact hoff k hne

theorem exec_loopTick (s : State) (refused : Nat) (late : Bool) :
    exec (.loopTick refused late) s = .next (s.loopTick refused late) := rfl

/-- A tick at which no slot is due counts, and notes that the tick before had not ended (R271). -/
theorem State.loopTick_waits {s : State} (hawake : s.awake = true) (hrun : s.loops.running = true)
    (h : ∀ n, (s.slot n).st = .off ∨ 1 < (s.slot n).due) (refused : Nat) (late : Bool) :
    let t := s.loopTick refused late
    t = { s with loops := { s.loops with slots := t.loops.slots, late := t.loops.late } } ∧
      t.loops.late = (if late then satInc 0xFFFF s.loops.late else s.loops.late) ∧ ∀ n, t.slot n = (s.slot n).counted := by
  intro t
  have undue : s.anyDue = false := Bool.eq_false_iff.mpr fun due => by
    obtain ⟨n, hon, hdue⟩ := s.anyDue_iff.mp due
    exact (h n).elim hon (Nat.not_lt.mpr hdue)
  generalize hnoted : (if late = true then s.mapLoops fun l => { l with late := satInc 0xFFFF l.late } else s) = noted
  have ticked : t = (List.finRange 48).foldl State.slotTick noted := by
    simp only [t, State.loopTick, hawake, hrun, undue, Bool.and_self, if_true, Bool.false_eq_true, if_false, hnoted]
  have frame : noted = { s with loops := { s.loops with late := if late then satInc 0xFFFF s.loops.late else s.loops.late } } := by
    rw [← hnoted]
    cases late <;> rfl
  have slots : ∀ n, noted.slot n = s.slot n := fun n => by rw [frame]; rfl
  obtain ⟨counted, each⟩ := foldl_slotTick_waits (List.nodup_finRange 48) (s := noted) fun n _ => by rw [slots]; exact h n
  rw [← ticked] at counted each
  refine ⟨by rw [counted, frame], by rw [counted, frame], fun n => ?_⟩
  rw [each, if_pos (List.mem_finRange n), slots]

/-- The region never leaves a single boundary's two (R285). -/
theorem moveRegion_single (b hys z : F32) : moveRegion [b] hys z 1 = (if F32.lt z (F32.sub b hys) then 0 else 1) ∧
    moveRegion [b] hys z 0 = if F32.le b z then if F32.lt z (F32.sub b hys) then 0 else 1 else 0 := by
  refine ⟨rfl, ?_⟩
  cases h : F32.le b z with
  | true => simp [moveRegion, h]
  | false => simp [moveRegion, h]

/-- Settles O27: `loopTick_waits` and `loopTick_only` say which slots a tick reaches, `sample_good` how a good sample comes to the law,
`slotLaw_some` and `numBad_internal` what the law or R293 writes, and `sample_unread_track` and `sample_unread_closed` what unreadable
feedback does. -/
theorem loopTicks : Obligations.LoopTicks := by
  unfold Obligations.LoopTicks
  refine ⟨?waits, ?law, ?region, ?unread⟩
  case waits =>
    intro s refused late hawake hrun h
    exact ⟨_, exec_loopTick s refused late, State.loopTick_waits hawake hrun h refused late⟩
  case law =>
    intro s n refused y hw b m hawake hrun hoff hdue hst hdest hbad hbank hz hy hhw _ hgood hfin hnew hfrz x take banks from_ hm
    have slot : (s.granted refused).slot n = x := s.granted_slot refused n
    have region : x.direct = false → (x.begun (s.divider n)).zoned.region = m.val := fun hd =>
      (LoopSlot.begun_zoned_region hbank hd _).trans (hm hd).symm
    obtain ⟨z, was, committed, hregion, sample⟩ := State.sample_good (s := s.granted refused) (n := n) (y := y) (hw := hw) (b := b)
      (m := m) (s.divider n) (by rw [slot]; exact hst) (by rw [slot]; exact hdest) (by rw [slot]; exact hbad)
      (by rw [slot]; exact hbank) (by rw [slot]; exact hz) (by rw [slot, s.slotRead_granted, hy])
      (by rw [slot, s.slotRead_granted, hhw]) hgood hfin (by rw [slot]; exact hnew) (by rw [slot]; exact hfrz)
      (by rw [slot]; exact region)
    rw [slot] at committed hregion sample
    have there : ((s.granted refused).mapSlot n fun _ => z).slot n = z := State.mapSlot_slot_same ..
    have internal : z.destKind = 0 := committed.destKind.trans hdest
    have keeps := State.slotLaw_kept (s := (s.granted refused).mapSlot n fun _ => z) (n := n) (by rw [there]; exact internal)
    have others : ∀ k, k ≠ n → ((s.granted refused).sample n (s.divider n)).slot k = s.slot k := fun k hk => by
      obtain ⟨⟨-, only⟩, -⟩ := keeps _ _ _ _ _ _ _
      rw [sample, only k hk, State.mapSlot_slot_ne _ hk, s.granted_slot]
    have on : (s.slot n).st ≠ .off := by rw [hst]; nofun
    have tick := State.loopTick_only hawake hrun hoff on hdue refused others
    generalize (s.granted refused).sample n (s.divider n) = l at sample others tick
    rw [exec_loopTick, tick]
    refine ⟨_, rfl, ?_⟩
    beta_reduce
    rw [State.mapSlot_slot_same]
    intro c realign k r h e v p dPrev vPrev d i step uRaw u1 sh u wound ok
    have sample : l = ((s.granted refused).mapSlot n fun _ => z).slotLaw n c h y x.restart realign false was := sample
    have law : z.law c h y x.restart realign false = if !ok then none else some (u, { z with
        integ := (F32.add i (if wound then F32.zero else step)).toBits, dPrev := d.toBits, vPrev := v.toBits
        limited := !F32.eq u uRaw }) := by
      unfold LoopSlot.law
      rw [committed.sp, committed.uPrev, committed.dPrev, committed.vPrev, committed.integ, Bool.or_false]
    obtain ⟨⟨frame, -⟩, _, _, _, _, _, _, _, _, kept⟩ := keeps c h y x.restart realign false was
    rw [← sample, there] at kept
    rw [← sample] at frame
    have gate : l.gate = s.gate := by
      rw [frame]
      exact s.granted_gate refused
    have sram : l.sram = s.sram := by
      rw [frame]
      exact s.granted_sram refused
    have closed : (l.slot n).st = .closed := by
      rw [kept]
      exact committed.st.trans hst
    refine ⟨closed, by rw [kept]; exact committed.banks, fun hd => by rw [kept]; exact hregion hd, by rw [kept]; exact committed.pend,
      by rw [kept]; exact committed.commitErr, by rw [kept]; exact committed.due, by rw [kept]; exact committed.usedSeq, by simp [LoopSlot.sampled, closed],
      fun hok => ?_, fun hno => ?_, gate, sram, fun k hk => (State.mapSlot_slot_ne _ hk _).trans (others k hk)⟩
    · rw [if_neg (by rw [hok]; nofun)] at law
      rw [State.slotLaw_some there law internal] at sample
      rw [sample, State.mapSlot_slot_same]
      exact ⟨rfl, rfl, rfl, rfl, rfl, rfl, committed.badCnt⟩
    · rw [if_pos (by rw [hno]; rfl)] at law
      rw [State.slotLaw_none there law] at sample
      obtain ⟨-, held⟩ := State.numBad_internal (there ▸ internal) was
      rw [← sample, there] at held
      rw [held]
      refine ⟨committed.uPrev, committed.uPrev, committed.integ, ?_, congrArg (satInc 0xFF) committed.badCnt⟩
      change (z.cause ||| causeNumBad).getLsbD 4 = true
      rw [BitVec.getLsbD_or]
      exact Bool.or_true _
  case region =>
    intro b hys z
    obtain ⟨down, up⟩ := moveRegion_single b hys z
    refine ⟨down, fun hbelow => ?_, fun habove hstays => ?_⟩
    · rw [up, hbelow]
      rfl
    · rw [up, habove, hstays]
      rfl
  case unread =>
    intro s n refused hawake hrun hoff hdue hreg hpend hgood hread hdest
    have slot := s.granted_slot refused n
    have unread : ((s.granted refused).slotRead n ((s.granted refused).slot n).fbAddr).1 = none := by
      rw [slot, s.slotRead_granted]
      exact hread
    have cells : (s.granted refused).sram.cells = s.sram.cells := by rw [s.granted_sram]
    constructor
    · intro hst
      obtain ⟨st, goodrun, cause, due, out, gate, kept, others⟩ :=
        State.sample_unread_track (slot ▸ hreg) (slot ▸ hdest) unread (slot ▸ hst) (slot ▸ hgood) (s.divider n)
      have others := fun k hk => (others k hk).trans (s.granted_slot refused k)
      rw [slot] at out
      have on : (s.slot n).st ≠ .off := by rw [hst]; nofun
      have tick := State.loopTick_only hawake hrun hoff on hdue refused others
      generalize (s.granted refused).sample n (s.divider n) = t at *
      rw [exec_loopTick, tick]
      refine ⟨_, rfl, ?_⟩
      beta_reduce
      rw [State.mapSlot_slot_same]
      exact ⟨st, by simp [LoopSlot.sampled, st], goodrun, cause, due, out, gate.trans (s.granted_gate refused), kept.trans cells,
        fun k hk => (State.mapSlot_slot_ne _ hk _).trans (others k hk)⟩
    · intro hst hfall
      obtain ⟨st, cause, faults, out, evt, due, gate, kept, others⟩ :=
        State.sample_unread_closed (slot ▸ hreg) (slot ▸ hdest) unread (slot ▸ hst) (slot ▸ hfall) (s.divider n)
      have others := fun k hk => (others k hk).trans (s.granted_slot refused k)
      rw [slot] at out faults
      have on : (s.slot n).st ≠ .off := by rw [hst]; nofun
      have tick := State.loopTick_only hawake hrun hoff on hdue refused others
      generalize (s.granted refused).sample n (s.divider n) = t at *
      rw [exec_loopTick, tick]
      refine ⟨_, rfl, ?_⟩
      beta_reduce
      rw [State.mapSlot_slot_same]
      exact ⟨st, cause, faults, out, evt, due, gate.trans (s.granted_gate refused), kept.trans cells,
        fun k hk => (State.mapSlot_slot_ne _ hk _).trans (others k hk)⟩

end Sys2Proof.Machine
end
